-- ==== Sys2Proof/Word.lean ====
section
/-! DEFINITION. The word and byte types of the MU6410 / MU1610 and their plainest arithmetic. -/

namespace Sys2Proof

/-- A 32-bit register or bus word. -/
abbrev Word := BitVec 32

/-- One byte of a memory, a frame or an image. -/
abbrev Byte := BitVec 8

/-- A run of bytes: a frame, a payload, an image. -/
abbrev Bytes := List Byte

/-- A sparse table: (key, value) pairs with strictly rising keys. -/
abbrev SMap (α : Type) := List (Nat × α)

end Sys2Proof
end

