-- ==== Sys2Proof/Message.lean ====
section
/-! DEFINITION. What reaches the device from outside it, as operands of the commands: descriptors,
network frames, lane packets and sets, fault messages, and the masters that write registers. -/

namespace Sys2Proof

/-- The masters that reach a register (R16). `host` reaches only the host window (R29). -/
inductive Master where
  | s0
  | s1
  | fender
  | host
  deriving DecidableEq, Repr

/-- The three readings of FBn_MID (R402). -/
inductive Mid where
  | low
  | band
  | high
  deriving DecidableEq, Repr

/-- The counter that a discarded Ethernet frame is counted in (R272, R273). -/
inductive RxDrop where
  | macsec
  | frame
  | ip
  | udp
  deriving DecidableEq, Repr

/-- What the surroundings present at the instant of a command: the instant, in 4 ns ticks of elapsed
time, and VHOLD as MRC would measure it then, in mV (R489). -/
structure Env where
  t     : Nat
  vhold : Nat
  deriving DecidableEq, Repr

/-- A command descriptor of R307 without its OPC, which the command's row fixes, with the channel and
the ring slot it came from. `params` are the 44 bytes at 0x08. -/
structure Desc where
  ch       : Nat
  slot     : Nat
  tag      : Nat
  flags    : Nat
  len      : Nat
  params   : Bytes
  deadline : Nat
  atag     : Nat
  deriving DecidableEq, Repr

/-- A fault message of R415: source, kind, detail and the optional extended word. -/
structure FMsg where
  source : Nat
  kind   : Nat
  detail : Nat
  ext    : Option Nat
  deriving DecidableEq, Repr

/-- One AVTP raw-video packet as ETH reads it (R88 to R90, R274). `widthCode` is the sample width in the
coding of GTE.SCFGn.FMT; `badFormat` says that a format field is one that R272 does not support. -/
structure AvtpPkt where
  sid       : Nat
  seqNo     : Nat
  tv        : Bool
  pt        : Nat
  widthCode : Nat
  badFormat : Bool
  first     : Bool
  last      : Bool
  row       : Nat
  samples   : List Nat
  deriving DecidableEq, Repr

/-- The header of a hatch frame (R276) with the port it came in on, its source address and port, and the
UDP payload length. -/
structure HatchHdr where
  port    : Nat
  srcIp   : Nat
  srcPort : Nat
  udpLen  : Nat
  magic   : Nat
  ver     : Nat
  seq     : Nat
  len     : Nat
  status  : Nat
  resv    : Nat
  addr    : Nat
  deriving DecidableEq, Repr

/-- A line packet as a tile receives it (R218); `err` is 1 when an error symbol occurred inside it. -/
structure LinePkt where
  seq   : Nat
  line  : Nat
  flags : Nat
  codes : Bytes
  crc   : Nat
  err   : Bool
  deriving DecidableEq, Repr

/-- A broadcast set as a tile receives it (R221): A0 to A5 and CHK. -/
structure BSet where
  args : Bytes
  chk  : Nat
  err  : Bool
  deriving DecidableEq, Repr

/-- A command set as a tile receives it (R224): TAG, payload and CRC. -/
structure CSet where
  tag     : Nat
  payload : Bytes
  crc     : Nat
  err     : Bool
  deriving DecidableEq, Repr

/-- An upstream packet as TPR receives it (R226). -/
structure UpPkt where
  payload : Bytes
  crc     : Nat
  err     : Bool
  deriving DecidableEq, Repr

/-- A partner frame as PTN receives it (R513): CNT, payload, TAG, and whether CRC-32 and symbols were good. -/
structure PtnFrame where
  cnt     : Nat
  payload : Bytes
  tag     : Nat
  crcOk   : Bool
  deriving DecidableEq, Repr

/-- What an MKA exchange installs (R273): a transmit or receive SA with its SAK. -/
structure MkaSak where
  rx     : Bool
  sci    : Nat
  an     : Nat
  sak    : Bytes
  deriving DecidableEq, Repr

end Sys2Proof
end

