-- ==== Sys2Proof/Syntax.lean ====
section
/-! DEFINITION. The commands of the block: one constructor per row of spec/opcode_table.json, in the
table's order, with the row's operands. -/

namespace Sys2Proof

/-- The operations and events of the device and of its tiles. Mailbox commands carry their descriptor `d`
and the surroundings `e`; every instant `t` counts 4 ns ticks of elapsed time. -/
inductive Instr where
  /-- VPILOT_ENTER_RANGE (R456): VPILOT enters its operating range; the device goes from OFF to PILOT and the pilot registers take their cold values. -/
  | vpilotEnterRange (pairId : Bool)
  /-- VPILOT_LEAVE_RANGE (R33): VPILOT leaves its operating range and the device goes to OFF from any state. -/
  | vpilotLeaveRange
  /-- PORST_N_LOW (R557): The pilot takes a low on PORST_N after filtering, drops PMIC_EN within 10 us and enters PILOT. -/
  | porstNLow
  /-- PORST_N_RISE (R457): The pilot takes a rise on PORST_N and, with a wake source active, starts the way up by asserting PMIC_EN. -/
  | porstNRise (lowForMs : Nat)
  /-- PG_CORE_RISE (R457): PG_CORE rises during the way up, and the pilot starts the REF crystal. -/
  | pgCoreRise
  /-- PG_CORE_FALL (R456): PG_CORE falls while PMIC_EN is high; the pilot drops PMIC_EN, enters PILOT and retries after 50 ms. -/
  | pgCoreFall
  /-- PG_CORE_TIMEOUT (R459): PG_CORE has not risen 10 ms after PMIC_EN; the pilot retries once or latches WAKE_FAIL. -/
  | pgCoreTimeout
  /-- WAKE_RETRY_DELAY (R459): The 50 ms wait after a failed attempt or a PG_CORE fall ends, and the pilot runs the way up again. -/
  | wakeRetryDelay
  /-- REF_STABLE (R457): The REF crystal becomes stable, and the device enters BOOT within 100 us. -/
  | refStable
  /-- REF_TIMEOUT (R460): REF is not stable 5 ms after PG_CORE; the device enters BOOT on the RC oscillator, raises REF_FAIL and sets REF_RC. -/
  | refTimeout
  /-- REF_RETRY (R460): Every 100 ms in degraded STANDBY, PWC retries the crystal; when it runs, PWC relocks the PLLs, starts NTC and clears REF_RC. -/
  | refRetry (runs : Bool)
  /-- REF_STOP (R461): REF stops while the main domain runs; STK, FAB and HIF move to the RC oscillator, and REF_FAIL and LANE_PLL follow. -/
  | refStop
  /-- BOOT_ENTRY (R456): The device enters BOOT, the hardware wipes the pixel store and local RAMs, and the boot ROM starts. -/
  | bootEntry (t : Nat) (pairId : Bool)
  /-- BOOT_ROM_CHECKS (R380): The boot ROM resumes any life-cycle transition, checks the firmware slots and the calibration image, and hands over or enters HALT. -/
  | bootRomChecks
  /-- BINDING_LOAD (R373): S0 checks and loads the binding, writes REGINIT and EQ, loads the tables, commits BASEMODE, locks the blocks and enters STANDBY, bound or unbound. -/
  | bindingLoad (e : Env)
  /-- LIGHT_REQ_RISE (R38): A rising LIGHT_REQ is taken; the pilot starts the FB0 timer, wakes the device from PILOT, and auto-light may start PRELIT. -/
  | lightReqRise (e : Env)
  /-- LIGHT_REQ_FALL (R38): A falling LIGHT_REQ turns every fallback channel off and, with auto-light, returns PRELIT or LIT to STANDBY. -/
  | lightReqFall (e : Env)
  /-- FB0_LIGHT_TIMER (R38): 20 ms after the start instant with LIGHT_REQ high and no entry to PRELIT, the pilot runs the pre-light test and lights FB0. -/
  | fb0LightTimer (mid : Mid)
  /-- WAKE_INPUT (R470): WAKE is taken high with WAKE_EN set and wakes the device from PILOT. -/
  | wakeInput
  /-- RTC_ALARM_MATCH (R470): P_RTC reaches a non-zero P_ALARM with ALARM_EN set and wakes the device. -/
  | rtcAlarmMatch
  /-- RTC_TICK (R455): The pilot advances the RTC, and the operating-seconds meter while the main domain is powered. -/
  | rtcTick
  /-- RECOVERY_TIMER (R430): RECOVERY_S after entry to FALLBACK or HALT, the pilot starts BOOT, at most 3 times per power cycle. -/
  | recoveryTimer
  /-- SAFE_IN_N_FALL (R428): A falling SAFE_IN_N is taken; FCL raises SAFE_IN, and the device reaches S-FALLBACK. -/
  | safeInNFall (e : Env)
  /-- SAFE_IN_N_RISE (R428): A high level on SAFE_IN_N is taken, which re-arms the falling-edge detection. -/
  | safeInNRise
  /-- HOST_AWAKE_FALL (R326): A low HOST_AWAKE is taken, and HIF holds completions without WAKE. -/
  | hostAwakeFall
  /-- HOST_AWAKE_RISE (R326): A high HOST_AWAKE is taken, and the 5 us release timer starts. -/
  | hostAwakeRise
  /-- HOST_AWAKE_RELEASE (R327): 5 us after a taken rise, HIF sets PEND for each of CH0 to CH2 that holds unconsumed completions. -/
  | hostAwakeRelease
  /-- START_TESTS_DONE (R410): The PRELIT start tests finish; the device enters LIT, or clears S_PLATE, or on failure raises START_TEST and enters FALLBACK. -/
  | startTestsDone (e : Env) (failStep : Nat)
  /-- LINE_START (R49): A raster line begins, and the line-scheduled activities at its start run. -/
  | lineStart (t : Nat)
  /-- COMMIT_SAMPLE (R65): At line 127 RAS samples GO, clears it, stages and checks the shadows, and refuses, holds for a seam, or keeps the staging set for transfer. -/
  | commitSample
  /-- CONTENT_START (R138): At line 128 offset 0, a content frame's render starts: transfer, base-frame selection, zone frame set, levelling, governors and queued updates. -/
  | contentStart (e : Env)
  /-- TILE_LINE_RENDER (R123): The engines start rendering a tile line once its render line has come and the previous line is done, and ZNE evaluates its mask. -/
  | tileLineRender (east : Bool) (line clocks backlog : Nat)
  /-- RENDER_DEADLINE_MISS (R124): A tile line misses its deadline; RENDER_LATE is raised, TPR stops the content's packets and its slot carries ABORT. -/
  | renderDeadlineMiss (east : Bool) (line : Nat)
  /-- BROADCAST_SLOT (R52): At line 128 offset 2.400 us on the grid, RAS sends FLIP, SEAM or ABORT, increments FCNT and captures the timestamps. -/
  | broadcastSlot (t : Nat) (imeas : List Nat)
  /-- RAS_EVT_FIRE (R82): An enabled software event reaches its line and offset and raises RAS_EVTn, clearing EN when ONCE is set. -/
  | rasEvtFire (n : Nat)
  /-- COMMIT_GO_WRITE (R65): A write of RAS.COMMIT.GO requests a commit, or applies it at once while the raster is stopped. -/
  | commitGoWrite
  /-- COMMIT_CANCEL (R70): A write of RAS.COMMIT.CANCEL clears a GO not yet sampled. -/
  | commitCancel
  /-- PHASE_WRITE (R54): A write of RAS.PHASE shifts raster time, and the raster slews to the new grid. -/
  | phaseWrite (v : Word)
  /-- FCNT_READ (R59): A read of RAS.FCNT copies the count and its captures into the read registers. -/
  | fcntRead
  /-- AVTP_PACKET (R89): ETH receives an AVTP raw-video packet of a bound stream and writes its row; frame completion, discard, drop and skip are judged. -/
  | avtpPacket (port t : Nat) (p : AvtpPkt)
  /-- BASE_STALE_TIMER (R97): BASE_AGE passes STALE_MS or LOST_MS, and GTE raises BASE_STALE or BASE_LOST once per episode. -/
  | baseStaleTimer (t : Nat)
  /-- HATCH_CMD (R278): ETH places a hatch CMD frame's descriptors into the CH1 ring, copies class 0x04 descriptors to the fender, and responds. -/
  | hatchCmd (h : HatchHdr) (descs : List Bytes)
  /-- HATCH_READ (R276): A hatch READ frame reads host-window words and draws a response. -/
  | hatchRead (h : HatchHdr) (count resv : Nat)
  /-- HATCH_WRITE (R276): A hatch WRITE frame writes host-window words and draws a response. -/
  | hatchWrite (h : HatchHdr) (data : Bytes)
  /-- SPI_READ (R281): An SPI READ transaction returns host-window words with status and CRC. -/
  | spiRead (hdr : Bytes) (cut : Bool)
  /-- SPI_WRITE (R282): An SPI WRITE transaction writes host-window words when both CRCs are good and HSPI_CS_N rises after the status. -/
  | spiWrite (hdr data : Bytes) (dcrc : Nat) (cut : Bool)
  /-- CAN_BEAM_FRAME (R287): HIF verifies a CAN FD beam frame's MAC and freshness and builds a CH2 descriptor, or answers AUTH. -/
  | canBeamFrame (id : Nat) (ext : Bool) (data : Bytes)
  /-- CAN_STATUS_FRAME (R289): Every STPER x 10 ms the device sends the CAN status frame. -/
  | canStatusFrame
  /-- CAN_BUSOFF (R284): The CAN port enters bus-off and raises CAN_BUSOFF. -/
  | canBusoff
  /-- CAN_BUSOFF_RECOVERY (R284): After 128 occurrences of 11 recessive bits, the port leaves bus-off. -/
  | canBusoffRecovery
  /-- ETH_LINK (R275): A port's link changes state, and ETH sets LINKCHG and raises ETH_LINK. -/
  | ethLink (port rate : Nat)
  /-- GPTP_FRAME (R293): ETH receives or sends a gPTP event message and stamps it with NTM.RAW. -/
  | gptpFrame (port t : Nat) (tx : Bool)
  /-- ARP_REQUEST (R272): ETH answers an ARP request for its address. -/
  | arpRequest (port senderIp senderMac targetIp : Nat)
  /-- ICMP_ECHO (R272): ETH answers an ICMP echo request. -/
  | icmpEcho (port srcIp dstIp : Nat) (payload : Bytes)
  /-- NTM_APPLY_STEP (R291): A write of Dn_APPLY.STEP steps the domain view and takes the staged INC, or sets ERR. -/
  | ntmApplyStep (n t : Nat)
  /-- NTM_APPLY_SET (R291): A write of Dn_APPLY.SET sets the domain view and takes the staged INC, or sets ERR. -/
  | ntmApplySet (n t : Nat)
  /-- ACTIVE_DOMAIN_WRITE (R294): A write of NTM.CTRL.ACTIVE changes the active domain at the next tick, and the raster slews. -/
  | activeDomainWrite (n t : Nat)
  /-- DOMAIN_STATE_WRITE (R292): Stoker firmware writes Dn_STATE; a change of the active domain away from VALID raises NTM_DOMAIN. -/
  | domainStateWrite (n st t : Nat)
  /-- NTM_SNAP (R295): A write of NTM.SNAP.GO captures NTM.RAW and both domain times at one tick. -/
  | ntmSnap (t : Nat)
  /-- TTO_ARM_WRITE (R297): A write of TTOn_CTRL.EN arms or disarms the output, or is refused with ERR. -/
  | ttoArmWrite (n : Nat) (v : Word) (t : Nat)
  /-- TTO_EDGE (R296): The domain time reaches edge e_k, and the output asserts for its width; missed edges after a forward step are counted. -/
  | ttoEdge (n t : Nat)
  /-- PPS_CAPTURE (R299): A rising PPS_IN captures NTM.RAW and both domain times and raises NTM_PPS. -/
  | ppsCapture (t : Nat)
  /-- PPS_RAW_LO_READ (R299): A read of NTM.PPS_RAW_LO clears PPS_STAT.FULL. -/
  | ppsRawLoRead
  /-- DOORBELL (R312): A write of CMDWP takes effect as a doorbell, or is counted in DBERR and raises MBX_DB. -/
  | doorbell (who : Master) (ch v : Nat)
  /-- CPLRP_WRITE (R312): A write of CPLRP by the consumer takes effect or is ignored and counted in DBERR. -/
  | cplrpWrite (who : Master) (ch v : Nat)
  /-- DESCRIPTOR_TAKE (R314): S0 takes the next descriptor by priority and round robin and runs the checks of R318. -/
  | descriptorTake (e : Env)
  /-- MODERATION_TIMER (R324): A moderation window reaches TIME, and HIF sets PEND unless the host is asleep. -/
  | moderationTimer (ch : Nat)
  /-- DEFER_EXPIRED (R322): A deferred command's deadline passes, and it completes with EXPIRED. -/
  | deferExpired (ch tag t : Nat)
  /-- MBX_CHANNEL_RESET (R323): A write of MBc_CTRL.RESET drops untaken descriptors and completes deferred commands with ABORTED. -/
  | mbxChannelReset (who : Master) (ch : Nat)
  /-- PEND_CLEAR (R325): A W1C write to MB_IRQ.PEND clears bits and reopens windows of channels with unconsumed completions. -/
  | pendClear (who : Master) (mask : Nat)
  /-- STATE_GET (R338): Command returning the STATE word and RAS.FCNT. -/
  | stateGet (d : Desc) (e : Env)
  /-- PERF_SET (R339): Command requesting a performance level; it completes when PWC reports the level in force. -/
  | perfSet (d : Desc) (e : Env)
  /-- SERVICE_ENTER (R340): Command entering SERVICE, which needs standstill asserted. -/
  | serviceEnter (d : Desc) (e : Env)
  /-- SERVICE_EXIT (R340): Command leaving SERVICE for PRELIT. -/
  | serviceExit (d : Desc) (e : Env)
  /-- STANDSTILL_SET (R341): Command asserting standstill for HOLD_MS or withdrawing it. -/
  | standstillSet (d : Desc) (e : Env)
  /-- STANDSTILL_HOLD_EXPIRY (R341): The standstill hold ends and withdraws standstill, which may start the transition from SERVICE to PRELIT. -/
  | standstillHoldExpiry (e : Env)
  /-- LIGHT_ON (R342): Command taking the device from STANDBY through PRELIT to LIT. -/
  | lightOn (d : Desc) (e : Env)
  /-- LIGHT_OFF (R343): Command returning the device to STANDBY and suspending auto-light. -/
  | lightOff (d : Desc) (e : Env)
  /-- RESET (R344): Command that writes OK and starts the transition to BOOT 1 ms later. -/
  | reset (d : Desc) (e : Env)
  /-- RESET_DELAY (R344): 1 ms after the RESET completion, the device starts the transition to BOOT. -/
  | resetDelay
  /-- SLEEP (R344): Command that runs the sleep-entry handshake to PILOT. -/
  | sleep (d : Desc) (e : Env)
  /-- SLEEP_GO (R466): A write of PWC.SLEEP.GO starts the handshake with every block, the fender and the S1 runtime. -/
  | sleepGo (t : Nat)
  /-- HANDSHAKE_ANSWER (R466): A block answers ACK, DELAY or REFUSE; entry proceeds, waits or aborts. -/
  | handshakeAnswer (block ans code t : Nat)
  /-- HANDSHAKE_DELAY_EXPIRY (R466): A block's requested delay ends, and PWC asks it again. -/
  | handshakeDelayExpiry (block t : Nat)
  /-- SLEEP_ENTRY (R468): After every ACK, S0 completes OK, PWC drives outputs, latches the pads and the pilot drops PMIC_EN. -/
  | sleepEntry
  /-- BINDING_INFO (R338): Command returning the version and CRC of the binding or a tip-in slot. -/
  | bindingInfo (d : Desc) (e : Env)
  /-- TIPIN_SELECT (R376): Command writing the shadows of a tip-in and optionally its commit. -/
  | tipinSelect (d : Desc) (e : Env)
  /-- IMAGE_BEGIN (R346): Command opening an image transfer to a target. -/
  | imageBegin (d : Desc) (e : Env)
  /-- IMAGE_DATA (R346): Command writing a 32-byte block of the open image transfer. -/
  | imageData (d : Desc) (e : Env)
  /-- IMAGE_END (R347): Command checking the image and writing it to eMRAM under the hold-up check. -/
  | imageEnd (d : Desc) (e : Env)
  /-- STREAM_STATUS (R338): Command returning a stream's counters, selection and base age. -/
  | streamStatus (d : Desc) (e : Env)
  /-- DIRECT_SET (R348): Command writing RAS.SH_BASEADDR for direct mode. -/
  | directSet (d : Desc) (e : Env)
  /-- ZONE_PUT (R349): Command gathering a zone descriptor and, with PUB, publishing the gathered set. -/
  | zonePut (d : Desc) (e : Env)
  /-- ZONE_GATHER_TIMEOUT (R349): A gathered zone set has no PUB 2 ms after its first take and completes with TIMEOUT. -/
  | zoneGatherTimeout (ch : Nat)
  /-- ZONE_CLEAR_ALL (R351): Command publishing CLEARs for every held zone in its scope. -/
  | zoneClearAll (d : Desc) (e : Env)
  /-- ZONE_STATUS (R338): Command returning a zone's flags and te. -/
  | zoneStatus (d : Desc) (e : Env)
  /-- ZNE_PUBLISH (R129): A write of ZNE.PUBLISH makes ZNE accept the staged descriptors at one edge, increment SETVER and mirror the table. -/
  | znePublish (v : Word) (t : Nat)
  /-- LEVEL_STALE_TIMER (R151): No pitch descriptor for STALE_MS; ZNE switches prediction off and raises LEVEL_STALE. -/
  | levelStaleTimer (t : Nat)
  /-- GLYPH_LOAD (R352): Command copying texels into a glyph plate. -/
  | glyphLoad (d : Desc) (e : Env)
  /-- GLYPH_PLACE (R352): Command writing a plate's placement shadows. -/
  | glyphPlace (d : Desc) (e : Env)
  /-- GLYPH_HIDE (R352): Command clearing EN in the placement shadows of named plates. -/
  | glyphHide (d : Desc) (e : Env)
  /-- ENVSCALE_SET (R334): Command writing RAS.SH_ENVSCALE. -/
  | envscaleSet (d : Desc) (e : Env)
  /-- MESH_SELECT (R334): Command writing RAS.SH_MESH. -/
  | meshSelect (d : Desc) (e : Env)
  /-- PITCH_UPDATE (R353): Command passing a pitch descriptor to ZNE. -/
  | pitchUpdate (d : Desc) (e : Env)
  /-- LEVEL_STATUS (R338): Command returning ZNE.LVLSTAT and ZNE.PITCH. -/
  | levelStatus (d : Desc) (e : Env)
  /-- COMMIT (R354): Command setting RAS.COMMIT.GO and completing at the transfer. -/
  | commit (d : Desc) (e : Env)
  /-- TIMING_SET (R355): Command writing RAS.SH_TIMING. -/
  | timingSet (d : Desc) (e : Env)
  /-- PHASE_SET (R355): Command writing RAS.PHASE. -/
  | phaseSet (d : Desc) (e : Env)
  /-- FRAME_GET (R338): Command returning RAS.FCNT and the last slot's capture. -/
  | frameGet (d : Desc) (e : Env)
  /-- CAL_STATUS (R338): Command returning sense-channel calibration counts and times. -/
  | calStatus (d : Desc) (e : Env)
  /-- CAL_ROUND (R356): Command starting a sense-channel calibration round at once. -/
  | calRound (d : Desc) (e : Env)
  /-- CAL_RESET_LANE (R357): Command resetting a lane's device-maintained calibration fields and wear values. -/
  | calResetLane (d : Desc) (e : Env)
  /-- WEAR_PASS (R356): Command running a wear pass. -/
  | wearPass (d : Desc) (e : Env)
  /-- DIAG_SUMMARY (R338): Command returning SWP.COUNTS and SWP.AGEMAX. -/
  | diagSummary (d : Desc) (e : Env)
  /-- PIXEL_QUERY (R338): Command returning a pixel's calibration word, lit-age and suspect mark. -/
  | pixelQuery (d : Desc) (e : Env)
  /-- GROUP_STATUS (R338): Command returning a group's currents and failure run. -/
  | groupStatus (d : Desc) (e : Env)
  /-- WINDOW_MAP (R358): Command mapping a recorder or dump area onto the recorder read window. -/
  | windowMap (d : Desc) (e : Env)
  /-- REC_STATUS (R338): Command returning the newest sequence number and the lost-events count. -/
  | recStatus (d : Desc) (e : Env)
  /-- DUMP_CLEAR (R505): Command writing the dump header clear under the hold-up check. -/
  | dumpClear (d : Desc) (e : Env)
  /-- CKU_SCAN (R358): Command computing a CRC-32 over a memory range with CKU1. -/
  | ckuScan (d : Desc) (e : Env)
  /-- TIME_GET (R338): Command returning a domain's time and state. -/
  | timeGet (d : Desc) (e : Env)
  /-- DOMAIN_SELECT (R359): Command selecting the active domain. -/
  | domainSelect (d : Desc) (e : Env)
  /-- TTO_ARM (R359): Command arming or disarming a time-triggered output. -/
  | ttoArm (d : Desc) (e : Env)
  /-- RTC_ALARM (R338): Command setting or cancelling the RTC alarm. -/
  | rtcAlarm (d : Desc) (e : Env)
  /-- FAULT_GET (R338): Command returning FCL.FIRST and FIRST_EXT. -/
  | faultGet (d : Desc) (e : Env)
  /-- FAULT_CLEAR (R360): Command clearing the fault latch and, in S-PLATE, rerunning the start tests. -/
  | faultClear (d : Desc) (e : Env)
  /-- SEVERITY_SET (R361): Command changing a source's severity in STANDBY. -/
  | severitySet (d : Desc) (e : Env)
  /-- FENDER_STATUS (R338): Command returning words 0 and 1 of the fender status window. -/
  | fenderStatus (d : Desc) (e : Env)
  /-- FALLBACK_OFF (R361): Command asking the pilot to turn the fallback beam off in STANDBY. -/
  | fallbackOff (d : Desc) (e : Env)
  /-- SAFE_TEST (R361): Command running the safety output tests in SERVICE. -/
  | safeTest (d : Desc) (e : Env)
  /-- LANE_STATUS (R338): Command returning a lane's TLK and TPR status. -/
  | laneStatus (d : Desc) (e : Env)
  /-- LANE_TRAIN (R362): Command training a lane not in service. -/
  | laneTrain (d : Desc) (e : Env)
  /-- LANE_TEST (R362): Command running a loopback or PRBS test on a lane for DURATION_MS. -/
  | laneTest (d : Desc) (e : Env)
  /-- LANE_TEST_END (R362): DURATION_MS ends; LB and PRBS return to 0, and LANE_TEST completes. -/
  | laneTestEnd (n : Nat)
  /-- TILE_SET (R363): Command sending PLATE, COAST or WIPE to one tile. -/
  | tileSet (d : Desc) (e : Env)
  /-- TILE_RESUME (R364): Command sending RESUME for the next content and clearing the lane's DEGMAP bit. -/
  | tileResume (d : Desc) (e : Env)
  /-- TILE_REFSEL (R364): Command sending REFSEL to a tile, optionally holding the automatic choice. -/
  | tileRefsel (d : Desc) (e : Env)
  /-- PAIR_STATUS (R338): Command returning pair role, link and partner state. -/
  | pairStatus (d : Desc) (e : Env)
  /-- PAIR_HANDOVER (R365): Command making the active device hand over its role. -/
  | pairHandover (d : Desc) (e : Env)
  /-- PTN_DIGEST (R515): CH4 command carrying the partner's digest for comparison. -/
  | ptnDigest (d : Desc) (e : Env)
  /-- PTN_ADOPT (R515): CH4 command carrying the active's adoption record. -/
  | ptnAdopt (d : Desc) (e : Env)
  /-- PTN_BARRIER (R365): CH4 command completing when both devices reach the barrier, or with TIMEOUT after 10 us. -/
  | ptnBarrier (d : Desc) (e : Env)
  /-- LC_GET (R338): Command returning the life-cycle state and firmware slot status. -/
  | lcGet (d : Desc) (e : Env)
  /-- LC_ADVANCE (R383): Command advancing the life-cycle state, wiping and resetting the device. -/
  | lcAdvance (d : Desc) (e : Env)
  /-- FW_SELECT (R366): Command choosing the preferred firmware slot after a signature check. -/
  | fwSelect (d : Desc) (e : Env)
  /-- TMX_SELECT (R551): Command selecting a test multiplexer signal. -/
  | tmxSelect (d : Desc) (e : Env)
  /-- LANE_PLL_LOCK (R188): The lane PLL locks after PLL_EN is set. -/
  | lanePllLock
  /-- LANE_PLL_LOSS (R214): The lane PLL loses lock, every lane goes down, and LANE_PLL reaches S-FALLBACK. -/
  | lanePllLoss (e : Env)
  /-- TLK_TRAIN_WRITE (R199): A write of LNn_CTRL.TRAIN starts training on a lane not in service, or raises LANE_CFG. -/
  | tlkTrainWrite (n : Nat)
  /-- TSB_RECEIVE (R199): TLK receives a valid TSB; it advances training, sets LINK UP with TLK_UP, or fails with LANE_CROSS. -/
  | tsbReceive (n : Nat) (set : Bytes) (err : Bool)
  /-- TRAIN_ATTEMPT_TIMEOUT (R200): LINK is not UP 500 us after an attempt starts; TLK sends electrical idle or, after three attempts, raises LANE_TRAIN. -/
  | trainAttemptTimeout (n : Nat)
  /-- TRAIN_IDLE_END (R200): The 1 ms of electrical idle ends, and TLK starts the next training attempt. -/
  | trainIdleEnd (n : Nat)
  /-- RX_SYNC_ACQUIRE (R194): The receiver sees three commas at one position and reports SYNC. -/
  | rxSyncAcquire (n : Nat)
  /-- LANE_RX_LOSS (R196): A lane in service loses RX sync; TLK counts SYNCLOSS and raises LANE_RX_LOSS. -/
  | laneRxLoss (n : Nat)
  /-- LANE_ERR_SECOND (R193): Each second of raster time TLK compares CV + DISP with ERRLIM and raises LANE_ERR. -/
  | laneErrSecond (counts : List Nat)
  /-- SLIP_WRITE (R213): A write of LNn_CTRL.SLIP moves the symbol boundary one bit later. -/
  | slipWrite (n : Nat)
  /-- TX_ON_WRITE (R207): A write of LNn_CTRL.TX_ON wakes or sleeps the TX direction, or raises LANE_CFG on a lane in service. -/
  | txOnWrite (n : Nat) (on : Bool)
  /-- RX_ON_WRITE (R207): A write of LNn_CTRL.RX_ON wakes or sleeps the RX direction, or raises LANE_CFG on a lane in service. -/
  | rxOnWrite (n : Nat) (on : Bool)
  /-- LOOPBACK_WRITE (R210): A write of LNn_CTRL.LB selects a loopback, starting or ending far-end loopback. -/
  | loopbackWrite (n lb : Nat)
  /-- PRBS_WRITE (R210): A write of LNn_CTRL.PRBS selects a PRBS pattern and checker. -/
  | prbsWrite (n pat : Nat)
  /-- INSERV_WRITE (R239): A write of TPR.TLn_STATUS.INSERV puts a lane in or out of service. -/
  | inservWrite (n : Nat) (on : Bool)
  /-- BCAST_PLATE (R223): TPR.BCAST with OP PLATE sends PLATE on one lane or every lane in service. -/
  | bcastPlate (all : Bool) (lane cause : Nat)
  /-- BCAST_COAST (R223): TPR.BCAST with OP COAST sends COAST on one lane or every lane in service. -/
  | bcastCoast (all : Bool) (lane cause : Nat)
  /-- BCAST_WIPE (R223): TPR.BCAST with OP WIPE sends WIPE on one lane or every lane in service. -/
  | bcastWipe (all : Bool) (lane cause : Nat)
  /-- SNAP_REQ (R240): A write of TPR.SNAP.REQ sends SNAP at the next line 128. -/
  | snapReq (id : Nat)
  /-- CMDQ_PUSH (R224): A write of TPR.CMDQ.PUSH queues a command set from the payload window. -/
  | cmdqPush (all : Bool) (lane opc len : Nat)
  /-- DARKROW_GO (R398): The fender writes TPR.DARKROW.GO, and TPR sends DARKROW for the next displayed frame. -/
  | darkrowGo (lane phase row : Nat)
  /-- ACK_TIMEOUT (R225): No ACK 20 us after a command set; TPR resends, or raises TILE_NAK after three sends. -/
  | ackTimeout (n : Nat)
  /-- LSTAT (R226): TPR receives a tile's line status. -/
  | lstat (n : Nat) (pkt : UpPkt)
  /-- FTEL (R259): TPR receives a tile's frame telemetry; freeze and signature checks, probe results, dark-path acknowledgement and state reports follow. -/
  | ftel (n t : Nat) (pkt : UpPkt) (drop : Nat)
  /-- ACK (R225): TPR receives a tile's acknowledgement of a command set. -/
  | ack (n : Nat) (pkt : UpPkt)
  /-- SNAPR (R226): TPR receives a tile's snapshot reply. -/
  | snapr (n : Nat) (pkt : UpPkt)
  /-- CLASSQ_READ (R255): A read of SWP.CLASSQ that returns VALID removes the entry from the queue. -/
  | classqRead
  /-- UPD_DATA_WRITE (R179): A write of COR.UPD_DATA pushes an update entry, or drops it and raises UPD_OVF. -/
  | updDataWrite (data : Nat)
  /-- AT_EN_WRITE (R180): A write of COR.UPD_CTRL.AT_EN holds entries for UPD_AT, or applies them at the next start and sets UPD_MISS. -/
  | atEnWrite (on : Bool)
  /-- WEAR_PASS_TIMER (R176): Every 600 operating seconds, and at entry to STANDBY, COR runs a wear pass over every enabled lane. -/
  | wearPassTimer (e : Env)
  /-- SNS_CAL_TIMER (R266): Every CALPER operating seconds SNS starts a calibration round. -/
  | snsCalTimer
  /-- SNS_CAL_STEP_DONE (R266): A channel's calibration step completes; duty returns and the next channel starts. -/
  | snsCalStepDone (elem : Nat) (corr : Word)
  /-- SNS_CAL_STEP_TIMEOUT (R267): A step cannot complete within 10 ms; the channel keeps its element and SNS_CAL is raised. -/
  | snsCalStepTimeout
  /-- FENDER_INGRESS (R391): The fender takes a protected descriptor from its ingress queue and verifies its tag. -/
  | fenderIngress (t : Nat)
  /-- FENDER_ZONE_APPLY (R391): ZACC_US after its own acceptance, the fender applies a protected descriptor that ZNE's tap has not yet reported. -/
  | fenderZoneApply (zid t : Nat)
  /-- FENDER_VERDICT (R396): By line 127 the fender judges the content's zones, test points and SLIP limits and raises any failed verdict. -/
  | fenderVerdict (t : Nat)
  /-- FENDER_HEARTBEAT (R397): The fender signals FCL every 1 ms. -/
  | fenderHeartbeat (t : Nat)
  /-- FENDER_LOST_TIMER (R397): No fender signal for 2 ms, and FCL raises FENDER_LOST. -/
  | fenderLostTimer
  /-- FENDER_CLK_CHECK (R397): FCL or the fender finds the other's clock off by more than 2 % and raises FENDER_CLK. -/
  | fenderClkCheck (byFender : Bool)
  /-- DARK_PATH_TIMER (R398): Every DP_PER_MS the fender starts a dark-path test on the next LIVE lane. -/
  | darkPathTimer
  /-- EMBER_EDGE (R426): Every 1 ms the fender makes an edge on EMBER while its conditions hold. -/
  | emberEdge
  /-- TGEN_TEST_TIMER (R401): The next group's TGEN off-pulse starts at a line start in lines 129 to 134. -/
  | tgenTestTimer
  /-- TGEN_PULSE_END (R401): The TGEN off-pulse ends, and the readback is judged for TGEN_STUCK or TGEN_OPEN. -/
  | tgenPulseEnd (lowOk highOk : Bool)
  /-- FB_CHECK_TIMER (R403): Every 10 ms the pilot runs the off check or the conduction check of each channel. -/
  | fbCheckTimer (mids : List Mid)
  /-- FB_PULSE_TIMER (R403): Every FB_PER_MS while lit the pilot runs a low-side or high-side open pulse. -/
  | fbPulseTimer (ch : Nat)
  /-- FB_PULSE_END (R404): An FB test pulse ends, its result is judged, and a pending demand takes effect. -/
  | fbPulseEnd (ch : Nat) (mid : Mid)
  /-- FAULT_MESSAGE (R417): FCL latches a fault message and takes the actions of its severity. -/
  | faultMessage (e : Env) (m : FMsg) (more : List FMsg)
  /-- FCL_CLEAR_WRITE (R429): A write of FCL.CTRL.CLEAR clears the first-error latch. -/
  | fclClearWrite
  /-- ASH_DUMP (R504): After a FATAL reaction, the boot ROM writes the full or short dump, or skips it, and the device enters HALT. -/
  | ashDump (e : Env)
  /-- LOCKSTEP_MISMATCH (R432): The lockstep checker finds the cores of a partition disagree and raises LOCKSTEP. -/
  | lockstepMismatch (part : Nat)
  /-- WATCHDOG_EXPIRY (R436): A target's watchdog expires and raises WATCHDOG. -/
  | watchdogExpiry (tgt : Nat)
  /-- WDKICK_WRITE (R436): A write of 0xA5 to Tt_WDKICK restarts the watchdog count. -/
  | wdkickWrite (tgt v t : Nat)
  /-- WDOG_EN_WRITE (R436): A write of Tt_WDOG.EN starts the watchdog until the next reset. -/
  | wdogEnWrite (tgt : Nat) (v : Word) (t : Nat)
  /-- S1_RUN_WRITE (R435): S0 writes T1_CTRL.RUN and releases S1 from reset. -/
  | s1RunWrite (who : Master) (run : Bool)
  /-- IRQ_ACCEPT (R443): A core fetches the vector of the chosen source; the pending bit clears and the handler becomes active. -/
  | irqAccept (tgt : Nat)
  /-- MRET (R444): A normal handler returns with MRET. -/
  | mret (tgt : Nat)
  /-- FRET (R443): A fast handler returns with FRET, swapping the fast bank back. -/
  | fret (tgt : Nat)
  /-- SETP_WRITE (R445): A write to ITC.SETPw sets pending bits. -/
  | setpWrite (who : Master) (w : Nat) (v : Word)
  /-- CLRP_WRITE (R445): A write to ITC.CLRPw clears pending bits. -/
  | clrpWrite (who : Master) (w : Nat) (v : Word)
  /-- SRC_TARGET_WRITE (R447): A write to ITC.SRCs moves a source to another target, or is refused with TGTREJ. -/
  | srcTargetWrite (who : Master) (src : Nat) (v : Word)
  /-- WFI (R448): A core executes WFI and sleeps clock-gated or power-gated. -/
  | wfi (tgt : Nat)
  /-- CORE_WAKE (R449): A sleeping core wakes for a pending enabled or watched source. -/
  | coreWake (tgt src : Nat)
  /-- STRANDED_TIMER (R450): A source pending for STRAND.MS at a target that does not wake is moved or wakes it, and IRQ_STRANDED is raised. -/
  | strandedTimer (src : Nat)
  /-- PL_CHANGE_DONE (R465): PWC completes a performance-level change at line 126 and reports the new level. -/
  | plChangeDone
  /-- DOMAIN_POWER_UP (R472): An access wakes an on-demand domain; it is ready within 60 us or the access fails with ACCESS_OFF. -/
  | domainPowerUp (dom : Nat) (ready : Bool)
  /-- DOMOFF_WRITE (R472): A write of PWC.DOMOFF runs the handshake for one domain and powers it down. -/
  | domoffWrite (mask t : Nat)
  /-- PADREL_WRITE (R469): A write of PWC.PADREL.REL releases the latched pads in STANDBY. -/
  | padrelWrite
  /-- FB_OFFREQ_WRITE (R38): A write of PWC.P_FB.OFFREQ asks the pilot to turn the fallback beam off in STANDBY. -/
  | fbOffreqWrite
  /-- THM_SAMPLE (R476): THM samples a sensor, raises THERM_WARN or THERM_SENSOR, and moves the damper step up. -/
  | thmSample (n : Nat) (meas rise : Int) (stuck : Bool) (t : Nat)
  /-- DAMPER_ESCALATE (R478): A reading stays at or above throttle for ESC_MS, and the damper rises from D1 to D2 or D2 to D3. -/
  | damperEscalate (t : Nat)
  /-- DAMPER_DWELL (R479): The readings stay below the release limits for DWELL_S, and the damper drops one step. -/
  | damperDwell (t : Nat)
  /-- SENSOR_SELF_TEST (R477): Every 60 s THM tests each sensor and marks a broken one. -/
  | sensorSelfTest (failed : Nat)
  /-- MRC_WGO_WRITE (R488): A write of MRC.WGO.GO starts a burst after the hold-up check, or refuses or defers it. -/
  | mrcWgoWrite (e : Env)
  /-- MRC_BURST_DONE (R486): The last line of a burst is written and verified, or the burst ends with VERIFY. -/
  | mrcBurstDone (e : Env) (failAt : Option Nat)
  /-- EVR_WRITE (R496): At most every 4 ms EVR writes the next queued record, with its front-matter copy or anchor. -/
  | evrWrite (e : Env) (fails : List Bool)
  /-- EVR_RETRY (R491): 10 ms after a deferral, EVR retries the queued record. -/
  | evrRetry (e : Env) (fails : List Bool)
  /-- CKU_GO (R507): A write of CKUn.CTRL.GO starts a memory scan, or sets ERR. -/
  | ckuGo (who : Master) (n : Nat)
  /-- CKU_SCAN_DONE (R507): A memory scan ends, or stops on an uncorrectable word with CKU_ECC. -/
  | ckuScanDone (n : Nat)
  /-- CKU_INIT_WRITE (R506): A write of CKUn.CTRL.INIT loads INIT into the running value. -/
  | ckuInitWrite (n : Nat)
  /-- CKU_DATA_WRITE (R506): A write of CKUn.DATA feeds bytes into the running value. -/
  | ckuDataWrite (n : Nat) (v : Word)
  /-- LOCK_SET (R12): A write setting a block's LOCK bit makes its RWL fields read-only until the next reset. -/
  | lockSet (who : Master) (addr : Nat) (v : Word)
  /-- REGISTER_WRITE (R13): A write to a register with no row of its own takes effect by field type, or raises LOCKED_WRITE, BUS_DECODE, ACCESS_POLICY or CAL_WRITE. -/
  | registerWrite (who : Master) (addr : Nat) (v : Word)
  /-- HELLO (R513): A partner HELLO frame arrives with state, role, damper step, domain, READY and CRCs. -/
  | hello (lane t : Nat) (f : PtnFrame)
  /-- HELLO_TIMER (R513): Every 5.0 us a device sends HELLO to its partner. -/
  | helloTimer
  /-- DIGEST (R523): A partner DIGEST arrives; PTN measures skew, compares and hands it to S0 on CH4. -/
  | digest (lane t : Nat) (f : PtnFrame)
  /-- ADOPT (R521): The active's ADOPT arrives and names the base frame the standby selects. -/
  | adopt (lane : Nat) (f : PtnFrame)
  /-- BARRIER (R521): A partner BARRIER arrives; the device sends the named set, or ABORT, or joins the barrier. -/
  | barrier (lane : Nat) (f : PtnFrame)
  /-- STAGE (R521): The active's STAGE arrives and PTN writes it into the standby's staging set. -/
  | stage (lane : Nat) (f : PtnFrame)
  /-- ZPUB (R514): A ZPUB part arrives; when all parts are in, the standby publishes at the named line or from the next content. -/
  | zpub (lane t : Nat) (f : PtnFrame)
  /-- PITCH (R521): The active's PITCH arrives and goes to the standby's ZNE. -/
  | pitch (lane t : Nat) (f : PtnFrame)
  /-- UPDQ (R521): The active's UPDQ arrives and the standby queues its update entries for UPD_AT. -/
  | updq (lane : Nat) (f : PtnFrame)
  /-- GOV (R521): The active's GOV arrives with governor sums and tile temperatures for the next content. -/
  | gov (lane : Nat) (f : PtnFrame)
  /-- TCMD (R521): The active's TCMD arrives and the standby's TPR sends the set in the named line. -/
  | tcmd (lane : Nat) (f : PtnFrame)
  /-- HANDOVER (R529): A HANDOVER arrives; a healthy standby takes the active role, sends SWITCH and RESUME, and answers TAKEN. -/
  | handover (lane t : Nat) (f : PtnFrame)
  /-- TAKEN (R529): A TAKEN arrives; the former active becomes standby or withdraws. -/
  | taken (lane t : Nat) (f : PtnFrame)
  /-- PARTNER_LINK_LOSS (R516): No valid partner frame for 20 us; PTN clears LINK, raises PTN_LINK, and the standby takes over or stands down. -/
  | partnerLinkLoss (t : Nat)
  /-- WITHDRAW_TIMEOUT (R530): A withdrawing device waits 20 us without TAKEN and then carries out R405 in full. -/
  | withdrawTimeout (t : Nat)
  /-- TILE_POWER_UP (R234): A tile's link and logic supply rises; it takes its power-up values and is wiped DARK. -/
  | tilePowerUp (n : Nat)
  /-- TILE_LINE_PACKET (R220): A tile receives a line packet and writes its back buffer row if it passes the checks, then sends LSTAT. -/
  | tileLinePacket (n port : Nat) (p : LinePkt)
  /-- TILE_PHASE_BOUNDARY (R229): At a phase boundary a tile applies the pending sets by precedence and starts the next phase. -/
  | tilePhaseBoundary (n : Nat) (meas : List Nat)
  /-- FLIP (R231): A tile acts on FLIP, swaps buffers or coasts with INCOMPLETE, restarts phase 0 and sends FTEL. -/
  | flip (n port : Nat) (b : BSet)
  /-- SEAM (R231): A tile acts on SEAM, keeps its buffers, takes TIMING, restarts phase 0 and sends FTEL. -/
  | seam (n port : Nat) (b : BSet)
  /-- ABORT (R231): A tile acts on ABORT, discards its back buffer, restarts phase 0 and sends FTEL. -/
  | abort (n port : Nat) (b : BSet)
  /-- SNAP (R226): A tile latches its snapshot values and sends SNAPR. -/
  | snap (n port : Nat) (b : BSet)
  /-- PLATE (R233): A tile acts on PLATE and enters PLATE, or DARK without a valid plate. -/
  | plate (n port : Nat) (b : BSet)
  /-- COAST (R233): A tile in LIVE acts on COAST and enters COAST, starting its coast timer. -/
  | coast (n port : Nat) (b : BSet)
  /-- SWITCH (R237): A dual-ported tile accepts SWITCH naming the other port and selects it before the next SOL. -/
  | switch (n port : Nat) (b : BSet)
  /-- TILE_PORT_AUTO_SWITCH (R237): A tile switches port on its own when the selected port loses sync or fails two lines. -/
  | tilePortAutoSwitch (n : Nat)
  /-- CFG (R224): Tile command setting COASTLIM, TIMING and ROLE. -/
  | cfg (n port : Nat) (c : CSet)
  /-- WIPE (R234): Tile command clearing buffers, plate and selects and entering DARK. -/
  | wipe (n port : Nat) (c : CSet)
  /-- RESUME (R233): Tile command returning the tile to LIVE at the named FLIP, or lapsing. -/
  | resume (n port : Nat) (c : CSet)
  /-- SELWR (R230): Tile command writing emitter selects from a named SEQ. -/
  | selwr (n port : Nat) (c : CSet)
  /-- PROBES (R248): Tile command appending probe entries for the displayed frame of a SEQ. -/
  | probes (n port : Nat) (c : CSet)
  /-- DARKROW (R224): Tile command holding a row dark through one scan phase of a displayed frame. -/
  | darkrow (n port : Nat) (c : CSet)
  /-- REFSEL (R224): Tile command selecting the current reference from the next phase boundary. -/
  | refsel (n port : Nat) (c : CSet)
  /-- PLATECAP (R236): Tile command capturing the frame latched at the named FLIP into the plate memory. -/
  | platecap (n port : Nat) (c : CSet)
  /-- TILE_COAST_EXPIRY (R233): A tile's coast timer expires, and it enters PLATE, or DARK without a valid plate. -/
  | tileCoastExpiry (n : Nat)
  /-- TILE_NOBCAST_TIMEOUT (R232): No valid FLIP, SEAM or ABORT within 2P + 100 us, and a LIVE tile coasts with CAUSE NOBCAST. -/
  | tileNobcastTimeout (n : Nat)
  /-- TILE_SYNC_LOSS (R232): A tile's selected port loses symbol sync, and the tile coasts with CAUSE SYNC unless it can switch. -/
  | tileSyncLoss (n : Nat)
  /-- TILE_SUPPLY_LOSS (R234): A tile's emitter supply is absent for more than 20 us, and a lit tile enters DARK with CAUSE SUPPLY. -/
  | tileSupplyLoss (n : Nat)
  /-- TILE_PLATE_CHECK (R236): A tile recomputes its plate signature and, on mismatch, clears PLATEV and goes DARK if in PLATE. -/
  | tilePlateCheck (n : Nat)
  /-- TILE_FREE_FTEL (R226): Without downstream sync, a tile sends FTEL every 10 ms. -/
  | tileFreeFtel (n : Nat)
  /-- PAIR_ACT_CHANGE (R530): The joined PAIR_ACT line changes level, and the pilot of a withdrawn device lights its fallback channels once PAIR_ACT reads low. -/
  | pairActChange (level : Bool)
  /-- PTN_BARRIER_TIMEOUT (R365): PTN_BARRIER has not seen both devices reach the barrier within 10 us and completes with TIMEOUT. -/
  | ptnBarrierTimeout
  /-- PAIR_HANDOVER_TIMEOUT (R365): PAIR_HANDOVER gets no report of the partner becoming active within 10 ms and completes with TIMEOUT. -/
  | pairHandoverTimeout
  /-- HANDSHAKE_NOANSWER (R467): A block gives no answer within 100 us of the sleep or domain handshake request, and PWC records NOANSWER and aborts entry. -/
  | handshakeNoanswer (block t : Nat)
  /-- PMIC_EN_LOW_WAIT (R468): With a wake source that became active after the pads latched, the pilot runs the way up once PMIC_EN has been low for at least 1 ms. -/
  | pmicEnLowWait
  /-- TTO_PULSE_END (R296): A time-triggered output's pulse width of ceil(WIDTH/4 ns) ticks ends and the pin returns to its inactive level. -/
  | ttoPulseEnd (n : Nat)
  /-- DPAUSE_EXPIRY (R478): At damper step D1 or beyond, a DPAUSE.MS pause between wear-pass lanes, sense-channel steps, CKU scan blocks or eMRAM writes ends and the next part starts. -/
  | dpauseExpiry (e : Env)
  /-- TSA_RECEIVE (R199): A far end, partner device 2 or a tile, acquires sync on TSA and answers with TSB READY and FELB_ACK as training and far-end loopback require. -/
  | tsaReceive (n : Nat) (set : Bytes) (err : Bool)
  /-- TILE_LOOPBACK_EXIT (R211): A tile in far-end loopback sees 2 us of electrical idle on its input, leaves the loopback and awaits training. -/
  | tileLoopbackExit (n : Nat)
  /-- MKA_FRAME (R273): A port receives an MKA (IEEE 802.1X) frame, and stoker firmware runs MKA and installs SAKs through SEC. -/
  | mkaFrame (port : Nat) (sak : Option MkaSak)
  /-- ETH_FRAME_DISCARD (R272): A port receives a frame that needs an unsupported feature or fails MACsec, discards it and counts it in ETH.Pp_RXDROP. -/
  | ethFrameDiscard (port : Nat) (why : RxDrop)
  deriving DecidableEq, Repr

end Sys2Proof
end

