-- ==== Sys2Proof/Config.lean ====
section
/-! DEFINITION. What the spec leaves open, as constants with no body: nothing proves a value of them. They
are the free values, and the functions of public standards that the spec names and does not define. -/

namespace Sys2Proof

/-- A value that the spec leaves open, by the count of free values taken before it (log entry 5). -/
opaque Config.freeValue : Nat → Nat

/-- AES-CMAC of NIST SP 800-38B under a 16-byte or 32-byte key: key, message, 16-byte tag (log entry 6). -/
opaque Config.cmac : Bytes → Bytes → Bytes

/-- SHA-256: message, 32-byte digest (log entry 6). -/
opaque Config.sha256 : Bytes → Bytes

/-- ECDSA P-256 verification: public key X ‖ Y, digest, signature r ‖ s (log entry 6). -/
opaque Config.ecdsaOk : Bytes → Bytes → Bytes → Bool

/-- AES key unwrap of RFC 3394: key, wrapped bytes, the unwrapped bytes where the check passes (log entry 6). -/
opaque Config.keyUnwrap : Bytes → Bytes → Option Bytes

/-- The Moarok firmware public key of the boot ROM (R378, log entry 7). -/
opaque Config.fwKey : Bytes

/-- The Moarok test key (BLANK) and analysis key (FIELD_RETURN) of the life-cycle table, by life-cycle code
(log entry 7). -/
opaque Config.extraKey : Nat → Bytes

/-- How far, in 1/65,536 of the error that R135 allows, ZNE's r or e of a subsample lies toward the inside: of the
shape's outline and margin and the subsample's offset from its centre (log entry 8). -/
opaque Config.edgeSlack : List Int → Nat

/-- Error of a glyph's texel position, in 1/65,536 texel, before it is held to the 1/256 texel that R108 allows:
of the plate's placement, the pixel's offset, and 0 for tu or 1 for tv (log entry 8). -/
opaque Config.texelError : List Int → Int

/-- What a life-cycle wipe leaves in a byte of a key page or of the customer area, by eMRAM offset (R383, log
entry 10). -/
opaque Config.wipeByte : Nat → BitVec 8

/-- Detail field of FB_SWITCH for a channel and a switch, 0 high side and 1 low side (R403, log entry 12). -/
opaque Config.fbDetail : Nat → Nat → Nat

/-- Tile type that a far end reports in TSB, by lane (R198, log entry 20). -/
opaque Config.tileType : Nat → BitVec 16

/-- What a halfword of the envelope parameter set in an uncorrectable word reads as, by address, where R100 and R118
do not say (log entry 32). -/
opaque Config.badParam : Nat → Nat

/-- The ATAG of a ZPUB entry verifies: of the entry's zone descriptor, tag and counter. The entry does not carry the
descriptor bytes 0x00 to 0x07 and 0x34 to 0x37 that the tag also covers (R315, R513, log entry 36). -/
opaque Config.zpubTagOk : Bytes → Nat → Nat → Bool

end Sys2Proof
end

