-- ==== Sys2Proof/Machine/Operands.lean ====
section
/-! DEFINITION. Operand forms and plain arithmetic: sparse tables, little- and big-endian fields, signed
fields, rounding and clamping as the chapters name them, and the check values that the spec defines. -/

namespace Sys2Proof.Machine

/-! ### Sparse tables -/

/-- The value at key `k`, if the table lists one. -/
def SMap.find {α : Type} (m : SMap α) (k : Nat) : Option α :=
  match m with
  | [] => none
  | (j, v) :: rest => if j = k then some v else SMap.find rest k

/-- The value at key `k`, or `d` where nothing is listed. -/
def SMap.getD {α : Type} (m : SMap α) (k : Nat) (d : α) : α := (SMap.find m k).getD d

/-- The table with `v` at key `k`; keys stay strictly rising. -/
def SMap.put {α : Type} (m : SMap α) (k : Nat) (v : α) : SMap α :=
  match m with
  | [] => [(k, v)]
  | (j, w) :: rest =>
    if k < j then (k, v) :: (j, w) :: rest
    else if k = j then (k, v) :: rest
    else (j, w) :: SMap.put rest k v

/-- The table without key `k`. -/
def SMap.del {α : Type} (m : SMap α) (k : Nat) : SMap α :=
  match m with
  | [] => []
  | (j, w) :: rest => if j = k then rest else (j, w) :: SMap.del rest k

/-- The keys strictly rise. -/
def SMap.Sorted {α : Type} (m : SMap α) : Prop := List.Pairwise (fun a b => a.1 < b.1) m

/-- The table with the value at `k` changed by `f`, starting from `d` where nothing is listed. -/
def SMap.modify {α : Type} (m : SMap α) (k : Nat) (d : α) (f : α → α) : SMap α :=
  SMap.put m k (f (SMap.getD m k d))

/-! ### Fields of byte strings -/

/-- Byte `i` of a byte string; bytes past its end read 0. -/
def byteAt (b : Bytes) (i : Nat) : Nat := ((b[i]?).getD 0).toNat

/-- Little-endian field of `n` bytes from byte `i` (R8). -/
def leAt (b : Bytes) (i n : Nat) : Nat :=
  match n with
  | 0 => 0
  | k + 1 => byteAt b i + 256 * leAt b (i + 1) k

/-- Big-endian field of `n` bytes from byte `i` (network byte order). -/
def beAt (b : Bytes) (i n : Nat) : Nat :=
  match n with
  | 0 => 0
  | k + 1 => byteAt b i * 256 ^ k + beAt b (i + 1) k

/-- `v` as `n` bytes, little-endian. -/
def leBytes (n v : Nat) : Bytes :=
  match n with
  | 0 => []
  | k + 1 => BitVec.ofNat 8 v :: leBytes k (v / 256)

/-- `v` as `n` bytes, big-endian. -/
def beBytes (n v : Nat) : Bytes := (leBytes n v).reverse

/-- `n` zero bytes. -/
def zeroBytes (n : Nat) : Bytes := List.replicate n 0

/-- The byte string cut or padded with zeros to `n` bytes. -/
def padTo (n : Nat) (b : Bytes) : Bytes := b.take n ++ zeroBytes (n - b.length)

/-- The bytes are all zero. -/
def allZero (b : Bytes) : Bool := b.all (· == 0)

/-! ### Bits and signed fields -/

/-- Bits [lo + n - 1 : lo] of `v`. -/
def bits (v lo n : Nat) : Nat := v / 2 ^ lo % 2 ^ n

/-- Bit `i` of `v`. -/
def bit (v i : Nat) : Bool := v.testBit i

/-- `v` with bit `i` set. -/
def setBit (v i : Nat) : Nat := if v.testBit i then v else v + 2 ^ i

/-- `v` with bit `i` cleared. -/
def clearBit (v i : Nat) : Nat := if v.testBit i then v - 2 ^ i else v

/-- `v` with bit `i` at `b`. -/
def putBit (v i : Nat) (b : Bool) : Nat := if b then setBit v i else clearBit v i

/-- The bits of `v` that are clear in `m`, `w` bits wide. -/
def andNot (v m w : Nat) : Nat := v &&& (2 ^ w - 1 - m % 2 ^ w)

/-- 1 for true. -/
def b2n (b : Bool) : Nat := if b then 1 else 0

/-- The two's-complement value of the low `w` bits of `v`. -/
def sx (w v : Nat) : Int :=
  if v % 2 ^ w < 2 ^ (w - 1) then (v % 2 ^ w : Nat) else (v % 2 ^ w : Nat) - 2 ^ w

/-- `x` as a `w`-bit two's-complement field. -/
def toField (w : Nat) (x : Int) : Nat := (x % (2 ^ w : Int)).toNat

/-! ### Rounding, clamping and counters -/

/-- `v` held to lo..hi. -/
def clampN (lo hi v : Nat) : Nat := if v < lo then lo else if v > hi then hi else v

/-- `x` held to lo..hi. -/
def clampI (lo hi x : Int) : Int := if x < lo then lo else if x > hi then hi else x

/-- `v` plus `n`, saturating at the largest value of `w` bits. -/
def satAdd (w v n : Nat) : Nat := min (2 ^ w - 1) (v + n)

/-- round_half_up of a / b for natural numbers. -/
def roundDiv (a b : Nat) : Nat := (2 * a + b) / (2 * b)

/-- round_half_up of a / b for a signed dividend: floor(a / b + 1/2). -/
def roundDivI (a : Int) (b : Nat) : Int := (2 * a + b) / (2 * b : Int)

/-- Ceiling of a / b. -/
def ceilDiv (a b : Nat) : Nat := (a + b - 1) / b

/-- 32-bit word of four byte-wide parts, high part first. -/
def pack4 (a b c d : Nat) : Nat := a * 2 ^ 24 + b * 2 ^ 16 + c * 2 ^ 8 + d

/-! ### Check values -/

/-- One input bit of a reflected CRC with polynomial `poly`. -/
def crcReflBit (poly crc : Nat) : Nat :=
  if crc % 2 = 1 then (crc / 2) ^^^ poly else crc / 2

/-- One input byte of a reflected CRC. -/
def crcReflByte (poly crc b : Nat) : Nat := Nat.repeat (crcReflBit poly) 8 (crc ^^^ b)

/-- CRC-32 of R219 (polynomial 0x04C1_1DB7, reflected, initial value and final XOR all ones). -/
def crc32 (bs : Bytes) : Nat :=
  (bs.foldl (fun c b => crcReflByte 0xEDB88320 c b.toNat) 0xFFFFFFFF) ^^^ 0xFFFFFFFF

/-- One input bit of a `w`-bit CRC with the most significant bit first. -/
def crcMsbBit (w poly crc : Nat) : Nat :=
  if crc.testBit (w - 1) then ((crc * 2) % 2 ^ w) ^^^ poly else (crc * 2) % 2 ^ w

/-- One input byte of a `w`-bit CRC with the most significant bit first. -/
def crcMsbByte (w poly crc b : Nat) : Nat :=
  Nat.repeat (crcMsbBit w poly) 8 (crc ^^^ (b * 2 ^ (w - 8)))

end Sys2Proof.Machine
end

