-- ==== Sys2Proof/Machine/RegTable.lean ====
section
/-! DEFINITION. The registers of the device: every field of every register table of the spec, with its
stoker address, bits, type code (R12) and reset value, and the fault sources of R418 with their default
severities and floors. -/

namespace Sys2Proof.Machine

/-- One register field: the stoker address of its register, its lowest bit, its width and its value
after reset. A field is the one home of its bits. -/
structure Fld where
  addr  : Nat
  lo    : Nat
  width : Nat
  reset : Nat
  deriving DecidableEq, Repr

/-- The key a field is stored under. -/
def Fld.key (f : Fld) : Nat := f.addr * 32 + f.lo

/-- Register field type codes (`00_scope.md`, table "Register field type codes"; R12). -/
inductive FTy where
  | ro | rw | wo | w1c | w1s | rwl
  deriving DecidableEq, Repr

/-- One row of the register map: `count` registers from `base`, `stride` bytes apart, the fields of number
`n`. -/
structure RegRow where
  name   : String
  base   : Nat
  count  : Nat
  stride : Nat
  fields : Nat → List (Fld × FTy)

/-- The default limits of the thermal sensors, 0.1 °C as s16 (R475): warn. -/
def sensorWarn (n : Nat) : Nat :=
  if n < 5 then 1150 else if n = 5 then 1050 else if n = 6 then 0 else 950
/-- The default throttle limits (R475). -/
def sensorThrottle (n : Nat) : Nat :=
  if n < 5 then 1250 else if n = 5 then 1150 else if n = 6 then 0 else 1050
/-- The default critical limits (R475). -/
def sensorCrit (n : Nat) : Nat :=
  if n < 5 then 1450 else if n = 5 then 1400 else if n = 6 then 1450 else 1200

/-- One row of the table of fault sources and kinds (R418): source, kind code, default severity, floor
(0 INFO, 1 WARN, 2 DEGRADE, 3 SAFE, 4 FATAL). -/
structure FaultRow where
  source : Nat
  kind   : Nat
  sev    : Nat
  floor  : Nat
  deriving DecidableEq, Repr

/-- Rows of the table of R418, in its order. -/
def faultRows0 : List FaultRow :=
  [⟨0x000, 0x01, 1, 0⟩, ⟨0x001, 0x02, 1, 0⟩, ⟨0x002, 0x03, 1, 0⟩,
   ⟨0x003, 0x04, 1, 0⟩, ⟨0x010, 0x05, 1, 1⟩, ⟨0x020, 0x06, 0, 0⟩,
   ⟨0x021, 0x07, 1, 0⟩, ⟨0x022, 0x08, 3, 3⟩, ⟨0x023, 0x09, 1, 1⟩,
   ⟨0x030, 0x0A, 1, 1⟩, ⟨0x040, 0x0B, 3, 3⟩, ⟨0x041, 0x0C, 3, 3⟩,
   ⟨0x042, 0x0D, 3, 3⟩, ⟨0x1A9, 0x0D, 3, 3⟩, ⟨0x050, 0x0E, 3, 3⟩,
   ⟨0x060, 0x0F, 1, 0⟩, ⟨0x061, 0x10, 3, 1⟩, ⟨0x062, 0x11, 1, 0⟩,
   ⟨0x072, 0x11, 1, 0⟩, ⟨0x063, 0x12, 1, 1⟩, ⟨0x064, 0x13, 1, 0⟩,
   ⟨0x074, 0x13, 1, 0⟩, ⟨0x065, 0x14, 3, 3⟩, ⟨0x080, 0x15, 0, 0⟩]

/-- Rows of the table of R418, in its order. -/
def faultRows1 : List FaultRow :=
  [⟨0x081, 0x16, 0, 0⟩, ⟨0x082, 0x17, 1, 1⟩, ⟨0x083, 0x18, 1, 1⟩,
   ⟨0x084, 0x19, 3, 3⟩, ⟨0x090, 0x1A, 1, 0⟩, ⟨0x091, 0x1B, 1, 1⟩,
   ⟨0x092, 0x1C, 1, 1⟩, ⟨0x093, 0x1D, 0, 0⟩, ⟨0x094, 0x1E, 1, 0⟩,
   ⟨0x095, 0x1F, 0, 0⟩, ⟨0x0A0, 0x20, 0, 0⟩, ⟨0x0A1, 0x21, 0, 0⟩,
   ⟨0x0A2, 0x22, 0, 0⟩, ⟨0x0A3, 0x23, 2, 2⟩, ⟨0x0A4, 0x24, 1, 0⟩,
   ⟨0x0B0, 0x25, 3, 3⟩, ⟨0x0B1, 0x26, 2, 2⟩, ⟨0x0B2, 0x27, 1, 1⟩,
   ⟨0x0B3, 0x28, 1, 1⟩, ⟨0x0B4, 0x29, 1, 0⟩, ⟨0x0B5, 0x2A, 0, 0⟩,
   ⟨0x0C0, 0x2B, 1, 0⟩, ⟨0x0C1, 0x2C, 2, 2⟩, ⟨0x0C2, 0x2D, 2, 2⟩]

/-- Rows of the table of R418, in its order. -/
def faultRows2 : List FaultRow :=
  [⟨0x0C3, 0x2E, 2, 2⟩, ⟨0x0C4, 0x2F, 1, 1⟩, ⟨0x0C5, 0x30, 1, 0⟩,
   ⟨0x0C6, 0x31, 2, 2⟩, ⟨0x0C7, 0x32, 2, 2⟩, ⟨0x0D0, 0x33, 1, 0⟩,
   ⟨0x0E0, 0x34, 1, 0⟩, ⟨0x0E1, 0x35, 0, 0⟩, ⟨0x0F0, 0x36, 1, 0⟩,
   ⟨0x0F1, 0x37, 0, 0⟩, ⟨0x0F2, 0x38, 0, 0⟩, ⟨0x0F3, 0x39, 0, 0⟩,
   ⟨0x100, 0x3A, 1, 1⟩, ⟨0x101, 0x3B, 0, 0⟩, ⟨0x110, 0x3C, 1, 0⟩,
   ⟨0x111, 0x3D, 1, 0⟩, ⟨0x112, 0x3E, 0, 0⟩, ⟨0x120, 0x3F, 1, 0⟩,
   ⟨0x130, 0x3F, 1, 0⟩, ⟨0x140, 0x40, 3, 2⟩, ⟨0x141, 0x41, 2, 1⟩,
   ⟨0x142, 0x42, 1, 0⟩, ⟨0x143, 0x43, 1, 0⟩, ⟨0x150, 0x44, 1, 1⟩]

/-- Rows of the table of R418, in its order. -/
def faultRows3 : List FaultRow :=
  [⟨0x151, 0x45, 0, 0⟩, ⟨0x152, 0x46, 1, 1⟩, ⟨0x153, 0x47, 1, 0⟩,
   ⟨0x170, 0x48, 1, 1⟩, ⟨0x171, 0x49, 1, 0⟩, ⟨0x172, 0x4A, 1, 1⟩,
   ⟨0x173, 0x4B, 0, 0⟩, ⟨0x180, 0x4C, 4, 4⟩, ⟨0x181, 0x4D, 4, 4⟩,
   ⟨0x182, 0x4E, 4, 4⟩, ⟨0x183, 0x4F, 3, 3⟩, ⟨0x190, 0x4C, 3, 3⟩,
   ⟨0x191, 0x4D, 3, 3⟩, ⟨0x192, 0x4E, 1, 0⟩, ⟨0x1A0, 0x50, 3, 3⟩,
   ⟨0x1A1, 0x51, 3, 3⟩, ⟨0x1A2, 0x52, 3, 2⟩, ⟨0x1A3, 0x53, 3, 3⟩,
   ⟨0x1A4, 0x54, 3, 3⟩, ⟨0x1A5, 0x55, 3, 3⟩, ⟨0x1A6, 0x56, 3, 2⟩,
   ⟨0x1A7, 0x57, 2, 2⟩, ⟨0x1A8, 0x58, 2, 2⟩, ⟨0x1B0, 0x59, 1, 1⟩]

/-- Rows of the table of R418, in its order. -/
def faultRows4 : List FaultRow :=
  [⟨0x1B1, 0x5A, 1, 1⟩]

/-- The blocks with a LOCK bit (R416); local index 0xF of each is the source of its LOCKED_WRITE. -/
def lockBlocks : List Nat :=
  [0x1, 0x2, 0x3, 0x4, 0x6, 0x8, 0x9, 0xa, 0xb, 0xc, 0xd, 0xe, 0xf, 0x10, 0x11, 0x14, 0x15, 0x17]

/-- The whole table of R418. -/
def faultRows : List FaultRow :=
  faultRows0 ++ faultRows1 ++ faultRows2 ++ faultRows3 ++ faultRows4 ++
    lockBlocks.map (fun b => ⟨b * 16 + 15, 0x5B, 1, 0⟩)

/-- The row of a source, if the kind table names it (R416). -/
def faultRow (source : Nat) : Option FaultRow := faultRows.find? (fun r => r.source == source)

/-- Default severity of a source; 0 for a source that no row names (R416). -/
def severityDefault (source : Nat) : Nat := ((faultRow source).map FaultRow.sev).getD 0
/-- Floor of a source; 0 for a source that no row names (R416). -/
def severityFloor (source : Nat) : Nat := ((faultRow source).map FaultRow.floor).getD 0

namespace Reg

/-! RAS.CTRL (R83, `02_raster_and_frame_timing.md`). -/
def RAS_CTRL_VIEW : Fld := ⟨0x40040000, 1, 1, 0⟩
def RAS_CTRL_RUN : Fld := ⟨0x40040000, 0, 1, 0⟩

/-! RAS.STATUS (R83, `02_raster_and_frame_timing.md`). -/
def RAS_STATUS_SEAM_ACT : Fld := ⟨0x40040004, 16, 1, 0⟩
def RAS_STATUS_TSV1 : Fld := ⟨0x40040004, 15, 1, 0⟩
def RAS_STATUS_TSV0 : Fld := ⟨0x40040004, 14, 1, 0⟩
def RAS_STATUS_LOCKST : Fld := ⟨0x40040004, 12, 2, 0⟩
def RAS_STATUS_ABORT_LAST : Fld := ⟨0x40040004, 11, 1, 0⟩
def RAS_STATUS_SEAM_LAST : Fld := ⟨0x40040004, 10, 1, 0⟩
def RAS_STATUS_SEAM_WAIT : Fld := ⟨0x40040004, 9, 1, 0⟩
def RAS_STATUS_PENDING : Fld := ⟨0x40040004, 8, 1, 0⟩
def RAS_STATUS_REFCAUSE : Fld := ⟨0x40040004, 4, 3, 0⟩
def RAS_STATUS_REFUSED : Fld := ⟨0x40040004, 1, 1, 0⟩
def RAS_STATUS_LATE : Fld := ⟨0x40040004, 0, 1, 0⟩

/-! RAS.COMMIT (R83, `02_raster_and_frame_timing.md`). -/
def RAS_COMMIT_CANCEL : Fld := ⟨0x40040008, 1, 1, 0⟩
def RAS_COMMIT_GO : Fld := ⟨0x40040008, 0, 1, 0⟩

/-! RAS.COMMIT_FCNT (R83, `02_raster_and_frame_timing.md`). -/
def RAS_COMMIT_FCNT_FCNT : Fld := ⟨0x4004000C, 0, 32, 0⟩

/-! RAS.POS (R83, `02_raster_and_frame_timing.md`). -/
def RAS_POS_OFFSET : Fld := ⟨0x40040010, 16, 12, 0⟩
def RAS_POS_LINE : Fld := ⟨0x40040010, 0, 8, 0xFE⟩

/-! RAS.FCNT (R83, `02_raster_and_frame_timing.md`). -/
def RAS_FCNT_FCNT : Fld := ⟨0x40040014, 0, 32, 0⟩

/-! RAS.FLIPTS0_S (R83, `02_raster_and_frame_timing.md`). -/
def RAS_FLIPTS0_S_SEC : Fld := ⟨0x40040018, 0, 32, 0⟩

/-! RAS.FLIPTS1_S (R83, `02_raster_and_frame_timing.md`). -/
def RAS_FLIPTS1_S_SEC : Fld := ⟨0x40040020, 0, 32, 0⟩

/-! RAS.FLIPTS0_NS (R83, `02_raster_and_frame_timing.md`). -/
def RAS_FLIPTS0_NS_NSEC : Fld := ⟨0x4004001C, 0, 30, 0⟩

/-! RAS.FLIPTS1_NS (R83, `02_raster_and_frame_timing.md`). -/
def RAS_FLIPTS1_NS_NSEC : Fld := ⟨0x40040024, 0, 30, 0⟩

/-! RAS.FLIPRAW_LO (R83, `02_raster_and_frame_timing.md`). -/
def RAS_FLIPRAW_LO_RAW : Fld := ⟨0x40040028, 0, 32, 0⟩

/-! RAS.FLIPRAW_HI (R83, `02_raster_and_frame_timing.md`). -/
def RAS_FLIPRAW_HI_RAW : Fld := ⟨0x4004002C, 0, 32, 0⟩

/-! RAS.PHASE (R83, `02_raster_and_frame_timing.md`). -/
def RAS_PHASE_PHASE_NS : Fld := ⟨0x40040030, 0, 21, 0⟩

/-! RAS.ERR (R83, `02_raster_and_frame_timing.md`). -/
def RAS_ERR_ERR : Fld := ⟨0x40040034, 0, 32, 0⟩

/-! RAS.SEAM_FCNT (R83, `02_raster_and_frame_timing.md`). -/
def RAS_SEAM_FCNT_FCNT : Fld := ⟨0x40040038, 0, 32, 0⟩

/-! RAS.SH_TIMING (R83, `02_raster_and_frame_timing.md`). -/
def RAS_SH_TIMING_PBLANK : Fld := ⟨0x40040040, 8, 5, 0x5⟩
def RAS_SH_TIMING_PHLEN : Fld := ⟨0x40040040, 4, 1, 0⟩
def RAS_SH_TIMING_MODE : Fld := ⟨0x40040040, 0, 2, 0x1⟩

/-! RAS.SH_BASEADDR (R83, `02_raster_and_frame_timing.md`). -/
def RAS_SH_BASEADDR_ADDR : Fld := ⟨0x40040044, 6, 26, 0⟩
def RAS_SH_BASEADDR_DIRECT : Fld := ⟨0x40040044, 0, 1, 0⟩

/-! RAS.SH_MESH (R83, `02_raster_and_frame_timing.md`). -/
def RAS_SH_MESH_MESH : Fld := ⟨0x40040048, 0, 2, 0⟩

/-! RAS.SH_TIPIN (R83, `02_raster_and_frame_timing.md`). -/
def RAS_SH_TIPIN_TIPIN : Fld := ⟨0x4004004C, 0, 3, 0⟩

/-! RAS.SH_ENVSCALE (R83, `02_raster_and_frame_timing.md`). -/
def RAS_SH_ENVSCALE_SCALE : Fld := ⟨0x40040050, 0, 16, 0x8000⟩

/-! RAS.EVT (R83, `02_raster_and_frame_timing.md`). -/
def RAS_EVT_EN (n : Nat) : Fld := ⟨0x40040060 + 0x4 * n, 31, 1, 0⟩
def RAS_EVT_ONCE (n : Nat) : Fld := ⟨0x40040060 + 0x4 * n, 30, 1, 0⟩
def RAS_EVT_OFFSET (n : Nat) : Fld := ⟨0x40040060 + 0x4 * n, 8, 12, 0⟩
def RAS_EVT_LINE (n : Nat) : Fld := ⟨0x40040060 + 0x4 * n, 0, 8, 0⟩

/-! GTx.STATUS (R126, `03_gathering_pipeline.md`). -/
def GTX_STATUS_LINE (n : Nat) : Fld := ⟨0x40050000 + 0x10000 * n, 8, 8, 0xFF⟩
def GTX_STATUS_ECCU (n : Nat) : Fld := ⟨0x40050000 + 0x10000 * n, 2, 1, 0⟩
def GTX_STATUS_LATE (n : Nat) : Fld := ⟨0x40050000 + 0x10000 * n, 1, 1, 0⟩
def GTX_STATUS_RUN (n : Nat) : Fld := ⟨0x40050000 + 0x10000 * n, 0, 1, 0⟩

/-! GTx.LOAD (R126, `03_gathering_pipeline.md`). -/
def GTX_LOAD_BACKLOG (n : Nat) : Fld := ⟨0x40050004 + 0x10000 * n, 16, 8, 0⟩
def GTX_LOAD_MAXCLK (n : Nat) : Fld := ⟨0x40050004 + 0x10000 * n, 0, 13, 0⟩

/-! GTx.ECCCNT (R126, `03_gathering_pipeline.md`). -/
def GTX_ECCCNT_UNCORR (n : Nat) : Fld := ⟨0x40050008 + 0x10000 * n, 16, 16, 0⟩
def GTX_ECCCNT_CORR (n : Nat) : Fld := ⟨0x40050008 + 0x10000 * n, 0, 16, 0⟩

/-! GTE.CTRL (R126, `03_gathering_pipeline.md`). -/
def GTE_CTRL_LOCK : Fld := ⟨0x40050100, 0, 1, 0⟩

/-! GTE.STALE (R126, `03_gathering_pipeline.md`). -/
def GTE_STALE_LOST_MS : Fld := ⟨0x40050104, 16, 16, 0x3E8⟩
def GTE_STALE_STALE_MS : Fld := ⟨0x40050104, 0, 16, 0xFA⟩

/-! GTE.ROWDEG (R126, `03_gathering_pipeline.md`). -/
def GTE_ROWDEG_ROWDEG : Fld := ⟨0x40050108, 0, 16, 0x666⟩

/-! GTE.SID_LO (R126, `03_gathering_pipeline.md`). -/
def GTE_SID_LO_SID (n : Nat) : Fld := ⟨0x40050110 + 0x8 * n, 0, 32, 0⟩

/-! GTE.SID_HI (R126, `03_gathering_pipeline.md`). -/
def GTE_SID_HI_SID (n : Nat) : Fld := ⟨0x40050114 + 0x8 * n, 0, 32, 0⟩

/-! GTE.SCFG (R126, `03_gathering_pipeline.md`). -/
def GTE_SCFG_EN (n : Nat) : Fld := ⟨0x40050130 + 0x4 * n, 31, 1, 0⟩
def GTE_SCFG_FMT (n : Nat) : Fld := ⟨0x40050130 + 0x4 * n, 29, 2, 0⟩
def GTE_SCFG_WM1 (n : Nat) : Fld := ⟨0x40050130 + 0x4 * n, 16, 11, 0x7FF⟩
def GTE_SCFG_HM1 (n : Nat) : Fld := ⟨0x40050130 + 0x4 * n, 0, 9, 0x1FF⟩

/-! GTE.SSTAT (R126, `03_gathering_pipeline.md`). -/
def GTE_SSTAT_DROP (n : Nat) : Fld := ⟨0x40050140 + 0x4 * n, 24, 8, 0⟩
def GTE_SSTAT_SKIP (n : Nat) : Fld := ⟨0x40050140 + 0x4 * n, 16, 8, 0⟩
def GTE_SSTAT_LATE (n : Nat) : Fld := ⟨0x40050140 + 0x4 * n, 8, 8, 0⟩
def GTE_SSTAT_DISC (n : Nat) : Fld := ⟨0x40050140 + 0x4 * n, 0, 8, 0⟩

/-! GTE.SEL (R126, `03_gathering_pipeline.md`). -/
def GTE_SEL_DEFAULT : Fld := ⟨0x40050150, 31, 1, 0⟩
def GTE_SEL_DIRECT : Fld := ⟨0x40050150, 30, 1, 0⟩
def GTE_SEL_STREAM : Fld := ⟨0x40050150, 28, 2, 0⟩
def GTE_SEL_BUF : Fld := ⟨0x40050150, 26, 2, 0⟩

/-! GTE.SEL_PT (R126, `03_gathering_pipeline.md`). -/
def GTE_SEL_PT_PT : Fld := ⟨0x40050154, 0, 32, 0⟩

/-! GTE.BASE_AGE (R126, `03_gathering_pipeline.md`). -/
def GTE_BASE_AGE_AGE : Fld := ⟨0x40050158, 0, 16, 0⟩

/-! GTE.FLUXCAP (R126, `03_gathering_pipeline.md`). -/
def GTE_FLUXCAP_CAP : Fld := ⟨0x40050160, 0, 16, 0⟩

/-! GTE.FLUXK (R126, `03_gathering_pipeline.md`). -/
def GTE_FLUXK_KF : Fld := ⟨0x40050164, 0, 16, 0x8000⟩

/-! GTE.FLUXSUM (R126, `03_gathering_pipeline.md`). -/
def GTE_FLUXSUM_SUM : Fld := ⟨0x40050168, 0, 32, 0⟩

/-! GTE.FLUXOVR (R126, `03_gathering_pipeline.md`). -/
def GTE_FLUXOVR_COUNT : Fld := ⟨0x4005016C, 0, 16, 0⟩

/-! GTE.LEVEL (R126, `03_gathering_pipeline.md`). -/
def GTE_LEVEL_DELTA : Fld := ⟨0x40050170, 0, 16, 0⟩

/-! GTE.ENVSET (R126, `03_gathering_pipeline.md`). -/
def GTE_ENVSET_SET : Fld := ⟨0x40050174, 0, 1, 0⟩

/-! GTE.TILESEL (R126, `03_gathering_pipeline.md`). -/
def GTE_TILESEL_LANE : Fld := ⟨0x40050178, 0, 6, 0⟩

/-! GTE.TILEVIEW (R126, `03_gathering_pipeline.md`). -/
def GTE_TILEVIEW_KT : Fld := ⟨0x4005017C, 16, 16, 0x8000⟩
def GTE_TILEVIEW_DT : Fld := ⟨0x4005017C, 0, 16, 0x8000⟩

/-! GTE.ABORTCNT (R126, `03_gathering_pipeline.md`). -/
def GTE_ABORTCNT_COUNT : Fld := ⟨0x40050180, 0, 32, 0⟩

/-! GTE.PL_CTRL (R126, `03_gathering_pipeline.md`). -/
def GTE_PL_CTRL_EN (n : Nat) : Fld := ⟨0x40050200 + 0x10 * n, 31, 1, 0⟩
def GTE_PL_CTRL_MODE (n : Nat) : Fld := ⟨0x40050200 + 0x10 * n, 30, 1, 0⟩
def GTE_PL_CTRL_WM1 (n : Nat) : Fld := ⟨0x40050200 + 0x10 * n, 16, 9, 0x1FF⟩
def GTE_PL_CTRL_HM1 (n : Nat) : Fld := ⟨0x40050200 + 0x10 * n, 0, 8, 0xFF⟩

/-! GTE.PL_POS (R126, `03_gathering_pipeline.md`). -/
def GTE_PL_POS_Y (n : Nat) : Fld := ⟨0x40050204 + 0x10 * n, 16, 16, 0⟩
def GTE_PL_POS_X (n : Nat) : Fld := ⟨0x40050204 + 0x10 * n, 0, 16, 0⟩

/-! GTE.PL_XFORM (R126, `03_gathering_pipeline.md`). -/
def GTE_PL_XFORM_ANGLE (n : Nat) : Fld := ⟨0x40050208 + 0x10 * n, 16, 16, 0⟩
def GTE_PL_XFORM_SCALE (n : Nat) : Fld := ⟨0x40050208 + 0x10 * n, 0, 16, 0x1000⟩

/-! GTE.PL_INT (R126, `03_gathering_pipeline.md`). -/
def GTE_PL_INT_CAP (n : Nat) : Fld := ⟨0x4005020C + 0x10 * n, 16, 16, 0⟩
def GTE_PL_INT_IG (n : Nat) : Fld := ⟨0x4005020C + 0x10 * n, 0, 16, 0⟩

/-! ZNE.CTRL (R155, `04_shade_zones_and_speculation.md`). -/
def ZNE_CTRL_SPEC_ALLOW : Fld := ⟨0x40070000, 1, 1, 0x1⟩
def ZNE_CTRL_LOCK : Fld := ⟨0x40070000, 0, 1, 0⟩

/-! ZNE.STATUS (R155, `04_shade_zones_and_speculation.md`). -/
def ZNE_STATUS_NZONES : Fld := ⟨0x40070004, 16, 8, 0⟩
def ZNE_STATUS_MEMERR : Fld := ⟨0x40070004, 5, 1, 0⟩
def ZNE_STATUS_RATE : Fld := ⟨0x40070004, 4, 1, 0⟩
def ZNE_STATUS_LVL_STALE : Fld := ⟨0x40070004, 3, 1, 0⟩
def ZNE_STATUS_STALE : Fld := ⟨0x40070004, 2, 1, 0⟩
def ZNE_STATUS_SPEC_ACT : Fld := ⟨0x40070004, 1, 1, 0⟩
def ZNE_STATUS_PUB_BUSY : Fld := ⟨0x40070004, 0, 1, 0⟩

/-! ZNE.SETVER (R155, `04_shade_zones_and_speculation.md`). -/
def ZNE_SETVER_VER : Fld := ⟨0x40070008, 0, 32, 0⟩

/-! ZNE.PUBLISH (R155, `04_shade_zones_and_speculation.md`). -/
def ZNE_PUBLISH_ATLINE : Fld := ⟨0x4007000C, 24, 1, 0⟩
def ZNE_PUBLISH_LINE : Fld := ⟨0x4007000C, 16, 8, 0⟩
def ZNE_PUBLISH_COUNT : Fld := ⟨0x4007000C, 0, 7, 0⟩

/-! ZNE.LAT (R155, `04_shade_zones_and_speculation.md`). -/
def ZNE_LAT_MAX : Fld := ⟨0x40070010, 16, 16, 0⟩
def ZNE_LAT_LAST : Fld := ⟨0x40070010, 0, 16, 0⟩

/-! ZNE.SPEC (R155, `04_shade_zones_and_speculation.md`). -/
def ZNE_SPEC_EN : Fld := ⟨0x40070020, 31, 1, 0x1⟩
def ZNE_SPEC_HORIZON : Fld := ⟨0x40070020, 24, 5, 0x18⟩
def ZNE_SPEC_K : Fld := ⟨0x40070020, 8, 8, 0x40⟩
def ZNE_SPEC_M0 : Fld := ⟨0x40070020, 0, 8, 0x10⟩

/-! ZNE.RELEASE (R155, `04_shade_zones_and_speculation.md`). -/
def ZNE_RELEASE_RAMP_MS : Fld := ⟨0x40070024, 0, 8, 0x14⟩

/-! ZNE.GMARGIN (R155, `04_shade_zones_and_speculation.md`). -/
def ZNE_GMARGIN_GMARGIN : Fld := ⟨0x40070028, 0, 8, 0⟩

/-! ZNE.LVL (R155, `04_shade_zones_and_speculation.md`). -/
def ZNE_LVL_STALE_MS : Fld := ⟨0x40070030, 16, 16, 0x64⟩
def ZNE_LVL_START_D16 : Fld := ⟨0x40070030, 0, 16, 0⟩

/-! ZNE.LVLSTAT (R155, `04_shade_zones_and_speculation.md`). -/
def ZNE_LVLSTAT_DP : Fld := ⟨0x40070034, 16, 16, 0⟩
def ZNE_LVLSTAT_DC : Fld := ⟨0x40070034, 0, 16, 0⟩

/-! ZNE.PITCH (R155, `04_shade_zones_and_speculation.md`). -/
def ZNE_PITCH_RATE : Fld := ⟨0x40070038, 16, 16, 0⟩
def ZNE_PITCH_ANGLE : Fld := ⟨0x40070038, 0, 16, 0⟩

/-! ZNE.ACTIVE_LO (R155, `04_shade_zones_and_speculation.md`). -/
def ZNE_ACTIVE_LO_MAP : Fld := ⟨0x40070040, 0, 32, 0⟩

/-! ZNE.STALEMAP_LO (R155, `04_shade_zones_and_speculation.md`). -/
def ZNE_STALEMAP_LO_MAP : Fld := ⟨0x40070048, 0, 32, 0⟩

/-! ZNE.PROTMAP_LO (R155, `04_shade_zones_and_speculation.md`). -/
def ZNE_PROTMAP_LO_MAP : Fld := ⟨0x40070050, 0, 32, 0⟩

/-! ZNE.ACTIVE_HI (R155, `04_shade_zones_and_speculation.md`). -/
def ZNE_ACTIVE_HI_MAP : Fld := ⟨0x40070044, 0, 32, 0⟩

/-! ZNE.STALEMAP_HI (R155, `04_shade_zones_and_speculation.md`). -/
def ZNE_STALEMAP_HI_MAP : Fld := ⟨0x4007004C, 0, 32, 0⟩

/-! ZNE.PROTMAP_HI (R155, `04_shade_zones_and_speculation.md`). -/
def ZNE_PROTMAP_HI_MAP : Fld := ⟨0x40070054, 0, 32, 0⟩

/-! ZNE.DROPCNT (R155, `04_shade_zones_and_speculation.md`). -/
def ZNE_DROPCNT_LVLDROP : Fld := ⟨0x40070058, 16, 16, 0⟩
def ZNE_DROPCNT_ZDROP : Fld := ⟨0x40070058, 0, 16, 0⟩

/-! ZNE.RATECNT (R155, `04_shade_zones_and_speculation.md`). -/
def ZNE_RATECNT_COUNT : Fld := ⟨0x4007005C, 0, 16, 0⟩

/-! ZNE.ECCCNT (R155, `04_shade_zones_and_speculation.md`). -/
def ZNE_ECCCNT_UNCORR : Fld := ⟨0x40070060, 16, 16, 0⟩
def ZNE_ECCCNT_CORR : Fld := ⟨0x40070060, 0, 16, 0⟩

/-! ZNE.ZSEL (R155, `04_shade_zones_and_speculation.md`). -/
def ZNE_ZSEL_ZID : Fld := ⟨0x40070070, 0, 6, 0⟩

/-! ZNE.ZVIEW0 (R155, `04_shade_zones_and_speculation.md`). -/
def ZNE_ZVIEW0_POS : Fld := ⟨0x40070074, 0, 32, 0⟩

/-! ZNE.ZVIEW1 (R155, `04_shade_zones_and_speculation.md`). -/
def ZNE_ZVIEW1_POS : Fld := ⟨0x40070078, 0, 32, 0⟩

/-! ZNE.ZVIEW2 (R155, `04_shade_zones_and_speculation.md`). -/
def ZNE_ZVIEW2_MARGIN : Fld := ⟨0x4007007C, 16, 16, 0⟩
def ZNE_ZVIEW2_AGE : Fld := ⟨0x4007007C, 0, 16, 0⟩

/-! COR.CTRL (R185, `05_pixel_correction.md`). -/
def COR_CTRL_WEAR_EN : Fld := ⟨0x40080000, 2, 1, 0x1⟩
def COR_CTRL_FILL_EN : Fld := ⟨0x40080000, 1, 1, 0x1⟩
def COR_CTRL_LOCK : Fld := ⟨0x40080000, 0, 1, 0⟩

/-! COR.STATUS (R185, `05_pixel_correction.md`). -/
def COR_STATUS_UNCAL : Fld := ⟨0x40080004, 7, 1, 0⟩
def COR_STATUS_WEAR_BUSY : Fld := ⟨0x40080004, 6, 1, 0⟩
def COR_STATUS_UPD_PEND : Fld := ⟨0x40080004, 5, 1, 0⟩
def COR_STATUS_UPD_MISS : Fld := ⟨0x40080004, 4, 1, 0⟩
def COR_STATUS_UPD_OVF : Fld := ⟨0x40080004, 3, 1, 0⟩
def COR_STATUS_TEMPHOLD : Fld := ⟨0x40080004, 2, 1, 0⟩
def COR_STATUS_ECCU : Fld := ⟨0x40080004, 1, 1, 0⟩

/-! COR.LIMIT (R185, `05_pixel_correction.md`). -/
def COR_LIMIT_KMAX : Fld := ⟨0x40080008, 0, 20, 0x10000⟩

/-! COR.FILL (R185, `05_pixel_correction.md`). -/
def COR_FILL_GAIN : Fld := ⟨0x4008000C, 0, 16, 0x8000⟩

/-! COR.UPD_IDX (R185, `05_pixel_correction.md`). -/
def COR_UPD_IDX_REPAIR : Fld := ⟨0x40080010, 31, 1, 0⟩
def COR_UPD_IDX_IDX : Fld := ⟨0x40080010, 0, 20, 0⟩

/-! COR.UPD_DATA (R185, `05_pixel_correction.md`). -/
def COR_UPD_DATA_DATA : Fld := ⟨0x40080014, 0, 16, 0⟩

/-! COR.UPD_AT (R185, `05_pixel_correction.md`). -/
def COR_UPD_AT_FCNT : Fld := ⟨0x40080018, 0, 32, 0⟩

/-! COR.UPD_CTRL (R185, `05_pixel_correction.md`). -/
def COR_UPD_CTRL_AT_EN : Fld := ⟨0x4008001C, 0, 1, 0⟩

/-! COR.UPDSTAT (R185, `05_pixel_correction.md`). -/
def COR_UPDSTAT_APPLIED : Fld := ⟨0x40080020, 16, 16, 0⟩
def COR_UPDSTAT_LEVEL : Fld := ⟨0x40080020, 0, 9, 0⟩

/-! COR.WEAR (R185, `05_pixel_correction.md`). -/
def COR_WEAR_LASTSEC : Fld := ⟨0x40080024, 0, 32, 0⟩

/-! COR.WEARCNT (R185, `05_pixel_correction.md`). -/
def COR_WEARCNT_SAT : Fld := ⟨0x40080028, 24, 8, 0⟩
def COR_WEARCNT_DEFER : Fld := ⟨0x40080028, 16, 8, 0⟩
def COR_WEARCNT_PASSES : Fld := ⟨0x40080028, 0, 16, 0⟩

/-! COR.ECCCNT (R185, `05_pixel_correction.md`). -/
def COR_ECCCNT_UNCORR : Fld := ⟨0x40080030, 16, 16, 0⟩
def COR_ECCCNT_CORR : Fld := ⟨0x40080030, 0, 16, 0⟩

/-! COR.ECCADDR (R185, `05_pixel_correction.md`). -/
def COR_ECCADDR_IDX : Fld := ⟨0x40080034, 0, 20, 0⟩

/-! COR.FILLSTAT (R185, `05_pixel_correction.md`). -/
def COR_FILLSTAT_UNFILLED : Fld := ⟨0x40080038, 16, 16, 0⟩
def COR_FILLSTAT_DEAD : Fld := ⟨0x40080038, 0, 16, 0⟩

/-! TLK.CTRL (R215, `06_amnas_lanes.md`). -/
def TLK_CTRL_PLL_EN : Fld := ⟨0x400A0000, 1, 1, 0⟩
def TLK_CTRL_LOCK : Fld := ⟨0x400A0000, 0, 1, 0⟩

/-! TLK.STATUS (R215, `06_amnas_lanes.md`). -/
def TLK_STATUS_PLL_LOST : Fld := ⟨0x400A0004, 1, 1, 0⟩
def TLK_STATUS_PLL_LOCK : Fld := ⟨0x400A0004, 0, 1, 0⟩

/-! TLK.FLIGHTMAX (R215, `06_amnas_lanes.md`). -/
def TLK_FLIGHTMAX_FMAX : Fld := ⟨0x400A0008, 0, 16, 0⟩

/-! TLK.ERRLIM (R215, `06_amnas_lanes.md`). -/
def TLK_ERRLIM_LIMIT : Fld := ⟨0x400A000C, 0, 16, 0x10⟩

/-! TLK.UPMAP_LO (R215, `06_amnas_lanes.md`). -/
def TLK_UPMAP_LO_MAP : Fld := ⟨0x400A0010, 0, 32, 0⟩

/-! TLK.UPMAP_HI (R215, `06_amnas_lanes.md`). -/
def TLK_UPMAP_HI_MAP : Fld := ⟨0x400A0014, 0, 32, 0⟩

/-! TLK.SYNCMAP_LO (R215, `06_amnas_lanes.md`). -/
def TLK_SYNCMAP_LO_MAP : Fld := ⟨0x400A0018, 0, 32, 0⟩

/-! TLK.SYNCMAP_HI (R215, `06_amnas_lanes.md`). -/
def TLK_SYNCMAP_HI_MAP : Fld := ⟨0x400A001C, 0, 32, 0⟩

/-! TLK.LN_CTRL (R215, `06_amnas_lanes.md`). -/
def TLK_LN_CTRL_PRBS (n : Nat) : Fld := ⟨0x400A0100 + 0x20 * n, 10, 2, 0⟩
def TLK_LN_CTRL_LB (n : Nat) : Fld := ⟨0x400A0100 + 0x20 * n, 8, 2, 0⟩
def TLK_LN_CTRL_TRAIN (n : Nat) : Fld := ⟨0x400A0100 + 0x20 * n, 4, 1, 0⟩
def TLK_LN_CTRL_SLIP (n : Nat) : Fld := ⟨0x400A0100 + 0x20 * n, 3, 1, 0⟩
def TLK_LN_CTRL_AUTOALIGN (n : Nat) : Fld := ⟨0x400A0100 + 0x20 * n, 2, 1, 0x1⟩
def TLK_LN_CTRL_RX_ON (n : Nat) : Fld := ⟨0x400A0100 + 0x20 * n, 1, 1, 0⟩
def TLK_LN_CTRL_TX_ON (n : Nat) : Fld := ⟨0x400A0100 + 0x20 * n, 0, 1, 0⟩

/-! TLK.LN_EQ (R215, `06_amnas_lanes.md`). -/
def TLK_LN_EQ_CTLE (n : Nat) : Fld := ⟨0x400A0104 + 0x20 * n, 8, 3, 0x3⟩
def TLK_LN_EQ_RXPOL (n : Nat) : Fld := ⟨0x400A0104 + 0x20 * n, 5, 1, 0⟩
def TLK_LN_EQ_TXPOL (n : Nat) : Fld := ⟨0x400A0104 + 0x20 * n, 4, 1, 0⟩
def TLK_LN_EQ_DEEMPH (n : Nat) : Fld := ⟨0x400A0104 + 0x20 * n, 2, 2, 0⟩
def TLK_LN_EQ_SWING (n : Nat) : Fld := ⟨0x400A0104 + 0x20 * n, 0, 2, 0x2⟩

/-! TLK.LN_FLIGHT (R215, `06_amnas_lanes.md`). -/
def TLK_LN_FLIGHT_EN (n : Nat) : Fld := ⟨0x400A0108 + 0x20 * n, 31, 1, 0⟩
def TLK_LN_FLIGHT_DELAY (n : Nat) : Fld := ⟨0x400A0108 + 0x20 * n, 16, 8, 0⟩
def TLK_LN_FLIGHT_FLIGHT (n : Nat) : Fld := ⟨0x400A0108 + 0x20 * n, 0, 16, 0⟩

/-! TLK.LN_STATUS (R215, `06_amnas_lanes.md`). -/
def TLK_LN_STATUS_INSERV (n : Nat) : Fld := ⟨0x400A010C + 0x20 * n, 8, 1, 0⟩
def TLK_LN_STATUS_SIGDET (n : Nat) : Fld := ⟨0x400A010C + 0x20 * n, 7, 1, 0⟩
def TLK_LN_STATUS_LINK (n : Nat) : Fld := ⟨0x400A010C + 0x20 * n, 5, 2, 0⟩
def TLK_LN_STATUS_RXST (n : Nat) : Fld := ⟨0x400A010C + 0x20 * n, 3, 2, 0⟩
def TLK_LN_STATUS_TXST (n : Nat) : Fld := ⟨0x400A010C + 0x20 * n, 1, 2, 0⟩
def TLK_LN_STATUS_FELB (n : Nat) : Fld := ⟨0x400A010C + 0x20 * n, 0, 1, 0⟩

/-! TLK.LN_ERR (R215, `06_amnas_lanes.md`). -/
def TLK_LN_ERR_DISP (n : Nat) : Fld := ⟨0x400A0110 + 0x20 * n, 16, 16, 0⟩
def TLK_LN_ERR_CV (n : Nat) : Fld := ⟨0x400A0110 + 0x20 * n, 0, 16, 0⟩

/-! TLK.LN_LOSS (R215, `06_amnas_lanes.md`). -/
def TLK_LN_LOSS_TRAINS (n : Nat) : Fld := ⟨0x400A0114 + 0x20 * n, 16, 16, 0⟩
def TLK_LN_LOSS_SYNCLOSS (n : Nat) : Fld := ⟨0x400A0114 + 0x20 * n, 0, 16, 0⟩

/-! TLK.LN_PRBS (R215, `06_amnas_lanes.md`). -/
def TLK_LN_PRBS_ERRBITS (n : Nat) : Fld := ⟨0x400A0118 + 0x20 * n, 0, 32, 0⟩

/-! TLK.LN_ID (R215, `06_amnas_lanes.md`). -/
def TLK_LN_ID_REV (n : Nat) : Fld := ⟨0x400A011C + 0x20 * n, 24, 8, 0⟩
def TLK_LN_ID_LANE (n : Nat) : Fld := ⟨0x400A011C + 0x20 * n, 16, 8, 0⟩
def TLK_LN_ID_TYPE (n : Nat) : Fld := ⟨0x400A011C + 0x20 * n, 0, 16, 0⟩

/-! TPR.CTRL (R242, `07_tile_protocol.md`). -/
def TPR_CTRL_AUTORES : Fld := ⟨0x400B0000, 2, 1, 0x1⟩
def TPR_CTRL_EN : Fld := ⟨0x400B0000, 1, 1, 0⟩
def TPR_CTRL_LOCK : Fld := ⟨0x400B0000, 0, 1, 0⟩

/-! TPR.CFG (R242, `07_tile_protocol.md`). -/
def TPR_CFG_COASTLIM : Fld := ⟨0x400B0004, 16, 10, 0xFA⟩
def TPR_CFG_AUTOMAX : Fld := ⟨0x400B0004, 8, 8, 0x4⟩

/-! TPR.BCAST (R242, `07_tile_protocol.md`). -/
def TPR_BCAST_CAUSE : Fld := ⟨0x400B0008, 24, 8, 0⟩
def TPR_BCAST_OP : Fld := ⟨0x400B0008, 16, 3, 0⟩
def TPR_BCAST_ALL : Fld := ⟨0x400B0008, 8, 1, 0⟩
def TPR_BCAST_LANE : Fld := ⟨0x400B0008, 0, 6, 0⟩

/-! TPR.SNAP (R242, `07_tile_protocol.md`). -/
def TPR_SNAP_DONE : Fld := ⟨0x400B000C, 16, 1, 0⟩
def TPR_SNAP_REQ : Fld := ⟨0x400B000C, 8, 1, 0⟩
def TPR_SNAP_ID : Fld := ⟨0x400B000C, 0, 8, 0⟩

/-! TPR.TSTATE (R242, `07_tile_protocol.md`). -/
def TPR_TSTATE_STATE (n : Nat) : Fld := ⟨0x400B0010 + 0x4 * n, 0, 32, 0xFFFFFFFF⟩

/-! TPR.CMDQ (R242, `07_tile_protocol.md`). -/
def TPR_CMDQ_PUSH : Fld := ⟨0x400B0020, 31, 1, 0⟩
def TPR_CMDQ_ALL : Fld := ⟨0x400B0020, 30, 1, 0⟩
def TPR_CMDQ_LANE : Fld := ⟨0x400B0020, 24, 6, 0⟩
def TPR_CMDQ_OPC : Fld := ⟨0x400B0020, 16, 8, 0⟩
def TPR_CMDQ_LEN : Fld := ⟨0x400B0020, 0, 9, 0⟩

/-! TPR.CMDQSTAT (R242, `07_tile_protocol.md`). -/
def TPR_CMDQSTAT_NAKS : Fld := ⟨0x400B0024, 16, 16, 0⟩
def TPR_CMDQSTAT_LEVEL : Fld := ⟨0x400B0024, 0, 6, 0⟩

/-! TPR.DARKROW (R242, `07_tile_protocol.md`). -/
def TPR_DARKROW_GO : Fld := ⟨0x400B0028, 31, 1, 0⟩
def TPR_DARKROW_ACK : Fld := ⟨0x400B0028, 30, 1, 0⟩
def TPR_DARKROW_LANE : Fld := ⟨0x400B0028, 24, 6, 0⟩
def TPR_DARKROW_PHASE : Fld := ⟨0x400B0028, 16, 8, 0⟩
def TPR_DARKROW_ROW : Fld := ⟨0x400B0028, 0, 7, 0⟩

/-! TPR.TL_STATUS (R242, `07_tile_protocol.md`). -/
def TPR_TL_STATUS_INSERV (n : Nat) : Fld := ⟨0x400B0100 + 0x20 * n, 10, 1, 0⟩
def TPR_TL_STATUS_TELEM (n : Nat) : Fld := ⟨0x400B0100 + 0x20 * n, 9, 1, 0⟩
def TPR_TL_STATUS_PLATEV (n : Nat) : Fld := ⟨0x400B0100 + 0x20 * n, 8, 1, 0⟩
def TPR_TL_STATUS_REFSEL (n : Nat) : Fld := ⟨0x400B0100 + 0x20 * n, 7, 1, 0⟩
def TPR_TL_STATUS_PORT (n : Nat) : Fld := ⟨0x400B0100 + 0x20 * n, 6, 1, 0⟩
def TPR_TL_STATUS_CAUSE (n : Nat) : Fld := ⟨0x400B0100 + 0x20 * n, 2, 4, 0⟩
def TPR_TL_STATUS_STATE (n : Nat) : Fld := ⟨0x400B0100 + 0x20 * n, 0, 2, 0x3⟩

/-! TPR.TL_SEQ (R242, `07_tile_protocol.md`). -/
def TPR_TL_SEQ_VALUE (n : Nat) : Fld := ⟨0x400B0104 + 0x20 * n, 0, 32, 0⟩

/-! TPR.TL_SIG (R242, `07_tile_protocol.md`). -/
def TPR_TL_SIG_VALUE (n : Nat) : Fld := ⟨0x400B0108 + 0x20 * n, 0, 32, 0⟩

/-! TPR.TL_EXPSIG (R242, `07_tile_protocol.md`). -/
def TPR_TL_EXPSIG_VALUE (n : Nat) : Fld := ⟨0x400B010C + 0x20 * n, 0, 32, 0⟩

/-! TPR.TL_PLATE (R242, `07_tile_protocol.md`). -/
def TPR_TL_PLATE_VALUE (n : Nat) : Fld := ⟨0x400B011C + 0x20 * n, 0, 32, 0⟩

/-! TPR.TL_ENV (R242, `07_tile_protocol.md`). -/
def TPR_TL_ENV_TEMP (n : Nat) : Fld := ⟨0x400B0110 + 0x20 * n, 16, 16, 0x8000⟩

/-! TPR.TL_REF (R242, `07_tile_protocol.md`). -/
def TPR_TL_REF_REFB (n : Nat) : Fld := ⟨0x400B0114 + 0x20 * n, 16, 16, 0⟩
def TPR_TL_REF_REFA (n : Nat) : Fld := ⟨0x400B0114 + 0x20 * n, 0, 16, 0⟩

/-! TPR.TL_ERR (R242, `07_tile_protocol.md`). -/
def TPR_TL_ERR_LCRC (n : Nat) : Fld := ⟨0x400B0118 + 0x20 * n, 16, 16, 0⟩
def TPR_TL_ERR_TELOST (n : Nat) : Fld := ⟨0x400B0118 + 0x20 * n, 8, 8, 0⟩
def TPR_TL_ERR_AUTORES (n : Nat) : Fld := ⟨0x400B0118 + 0x20 * n, 0, 8, 0⟩

/-! SWP.CTRL (R270, `08_pixel_diagnosis_and_self_calibration.md`). -/
def SWP_CTRL_NEUTRAL_EN : Fld := ⟨0x40090000, 2, 1, 0x1⟩
def SWP_CTRL_EN : Fld := ⟨0x40090000, 1, 1, 0⟩
def SWP_CTRL_LOCK : Fld := ⟨0x40090000, 0, 1, 0⟩

/-! SWP.STATUS (R270, `08_pixel_diagnosis_and_self_calibration.md`). -/
def SWP_STATUS_ROUND : Fld := ⟨0x40090004, 8, 8, 0⟩
def SWP_STATUS_BANDDEF : Fld := ⟨0x40090004, 3, 1, 0⟩
def SWP_STATUS_MEMERR : Fld := ⟨0x40090004, 2, 1, 0⟩
def SWP_STATUS_HALF : Fld := ⟨0x40090004, 1, 1, 0⟩
def SWP_STATUS_RUN : Fld := ⟨0x40090004, 0, 1, 0⟩

/-! SWP.THRESH (R270, `08_pixel_diagnosis_and_self_calibration.md`). -/
def SWP_THRESH_CMIN : Fld := ⟨0x40090008, 16, 16, 0x7⟩
def SWP_THRESH_C400 : Fld := ⟨0x40090008, 0, 16, 0x6C6⟩

/-! SWP.VBAND0 (R270, `08_pixel_diagnosis_and_self_calibration.md`). -/
def SWP_VBAND0_VLOW : Fld := ⟨0x4009000C, 16, 16, 0x960⟩
def SWP_VBAND0_VSHORT : Fld := ⟨0x4009000C, 0, 16, 0x4B0⟩

/-! SWP.VBAND1 (R270, `08_pixel_diagnosis_and_self_calibration.md`). -/
def SWP_VBAND1_VOPEN : Fld := ⟨0x40090010, 16, 16, 0x12C0⟩
def SWP_VBAND1_VHIGH : Fld := ⟨0x40090010, 0, 16, 0xE10⟩

/-! SWP.LEAK (R270, `08_pixel_diagnosis_and_self_calibration.md`). -/
def SWP_LEAK_LEAK_SHORT : Fld := ⟨0x40090014, 0, 16, 0x1F4⟩

/-! SWP.AGELIM (R270, `08_pixel_diagnosis_and_self_calibration.md`). -/
def SWP_AGELIM_LIMIT : Fld := ⟨0x40090018, 0, 12, 0xFA0⟩

/-! SWP.AGEMAX (R270, `08_pixel_diagnosis_and_self_calibration.md`). -/
def SWP_AGEMAX_LANE : Fld := ⟨0x4009001C, 26, 6, 0⟩
def SWP_AGEMAX_PIXEL : Fld := ⟨0x4009001C, 12, 14, 0⟩
def SWP_AGEMAX_AGE : Fld := ⟨0x4009001C, 0, 12, 0⟩

/-! SWP.CLASSQ (R270, `08_pixel_diagnosis_and_self_calibration.md`). -/
def SWP_CLASSQ_VALID : Fld := ⟨0x40090020, 31, 1, 0⟩
def SWP_CLASSQ_CLASS : Fld := ⟨0x40090020, 28, 3, 0⟩
def SWP_CLASSQ_EMIT : Fld := ⟨0x40090020, 26, 2, 0⟩
def SWP_CLASSQ_LANE : Fld := ⟨0x40090020, 20, 6, 0⟩
def SWP_CLASSQ_PIXEL : Fld := ⟨0x40090020, 0, 14, 0⟩

/-! SWP.COUNTS (R270, `08_pixel_diagnosis_and_self_calibration.md`). -/
def SWP_COUNTS_GLOW : Fld := ⟨0x40090024, 24, 8, 0⟩
def SWP_COUNTS_WEAK : Fld := ⟨0x40090024, 16, 8, 0⟩
def SWP_COUNTS_SHORT : Fld := ⟨0x40090024, 8, 8, 0⟩
def SWP_COUNTS_OPEN : Fld := ⟨0x40090024, 0, 8, 0⟩

/-! SWP.PAYBACK (R270, `08_pixel_diagnosis_and_self_calibration.md`). -/
def SWP_PAYBACK_UNPAID : Fld := ⟨0x40090028, 16, 16, 0⟩
def SWP_PAYBACK_CANCEL : Fld := ⟨0x40090028, 0, 16, 0⟩

/-! SWP.NOTRUN (R270, `08_pixel_diagnosis_and_self_calibration.md`). -/
def SWP_NOTRUN_QOVF : Fld := ⟨0x4009002C, 16, 16, 0⟩
def SWP_NOTRUN_COUNT : Fld := ⟨0x4009002C, 0, 16, 0⟩

/-! SWP.ECCCNT (R270, `08_pixel_diagnosis_and_self_calibration.md`). -/
def SWP_ECCCNT_UNCORR : Fld := ⟨0x40090030, 16, 16, 0⟩
def SWP_ECCCNT_CORR : Fld := ⟨0x40090030, 0, 16, 0⟩

/-! SNS.CTRL (R271, `08_pixel_diagnosis_and_self_calibration.md`). -/
def SNS_CTRL_CAL_EN : Fld := ⟨0x40130000, 2, 1, 0x1⟩
def SNS_CTRL_EN : Fld := ⟨0x40130000, 1, 1, 0⟩
def SNS_CTRL_LOCK : Fld := ⟨0x40130000, 0, 1, 0⟩

/-! SNS.STATUS (R271, `08_pixel_diagnosis_and_self_calibration.md`). -/
def SNS_STATUS_DUTY : Fld := ⟨0x40130004, 4, 4, 0xF⟩
def SNS_STATUS_CALBUSY : Fld := ⟨0x40130004, 3, 1, 0⟩
def SNS_STATUS_OVER : Fld := ⟨0x40130004, 2, 1, 0⟩
def SNS_STATUS_UNDER : Fld := ⟨0x40130004, 1, 1, 0⟩

/-! SNS.CALPER (R271, `08_pixel_diagnosis_and_self_calibration.md`). -/
def SNS_CALPER_SECONDS : Fld := ⟨0x40130008, 0, 16, 0x3C⟩

/-! SNS.PLAUS (R271, `08_pixel_diagnosis_and_self_calibration.md`). -/
def SNS_PLAUS_NFR : Fld := ⟨0x4013000C, 24, 8, 0x4⟩
def SNS_PLAUS_TOLREL : Fld := ⟨0x4013000C, 16, 8, 0x14⟩
def SNS_PLAUS_TOLABS : Fld := ⟨0x4013000C, 0, 16, 0xC8⟩

/-! SNS.REFTOL (R271, `08_pixel_diagnosis_and_self_calibration.md`). -/
def SNS_REFTOL_TOL : Fld := ⟨0x40130010, 0, 16, 0x96⟩

/-! SNS.CALTOTAL (R271, `08_pixel_diagnosis_and_self_calibration.md`). -/
def SNS_CALTOTAL_COUNT : Fld := ⟨0x40130014, 0, 32, 0⟩

/-! SNS.CALLAST (R271, `08_pixel_diagnosis_and_self_calibration.md`). -/
def SNS_CALLAST_SEC : Fld := ⟨0x40130018, 0, 32, 0⟩

/-! SNS.REFSW (R271, `08_pixel_diagnosis_and_self_calibration.md`). -/
def SNS_REFSW_COUNT : Fld := ⟨0x4013001C, 0, 16, 0⟩

/-! SNS.GRP_MODEL (R271, `08_pixel_diagnosis_and_self_calibration.md`). -/
def SNS_GRP_MODEL_KG (n : Nat) : Fld := ⟨0x40130040 + 0x4 * n, 16, 16, 0⟩
def SNS_GRP_MODEL_IQ (n : Nat) : Fld := ⟨0x40130040 + 0x4 * n, 0, 16, 0⟩

/-! SNS.GRP_I (R271, `08_pixel_diagnosis_and_self_calibration.md`). -/
def SNS_GRP_I_IPRED (n : Nat) : Fld := ⟨0x40130060 + 0x4 * n, 16, 16, 0⟩
def SNS_GRP_I_IMEAS (n : Nat) : Fld := ⟨0x40130060 + 0x4 * n, 0, 16, 0⟩

/-! SNS.GRP_SHUNT (R271, `08_pixel_diagnosis_and_self_calibration.md`). -/
def SNS_GRP_SHUNT_SHUNT (n : Nat) : Fld := ⟨0x40130080 + 0x4 * n, 0, 16, 0x7D0⟩

/-! SNS.CH_CAL (R271, `08_pixel_diagnosis_and_self_calibration.md`). -/
def SNS_CH_CAL_GAINCORR (n : Nat) : Fld := ⟨0x40130100 + 0x10 * n, 16, 16, 0⟩
def SNS_CH_CAL_ELEM (n : Nat) : Fld := ⟨0x40130100 + 0x10 * n, 0, 2, 0⟩

/-! SNS.CH_CALCNT (R271, `08_pixel_diagnosis_and_self_calibration.md`). -/
def SNS_CH_CALCNT_COUNT (n : Nat) : Fld := ⟨0x40130104 + 0x10 * n, 0, 32, 0⟩

/-! SNS.CH_CALSEC (R271, `08_pixel_diagnosis_and_self_calibration.md`). -/
def SNS_CH_CALSEC_SEC (n : Nat) : Fld := ⟨0x40130108 + 0x10 * n, 0, 32, 0⟩

/-! ETH.CTRL (R300, `09_host_links_and_network_time.md`). -/
def ETH_CTRL_MACSEC_REQ : Fld := ⟨0x400C0000, 3, 1, 0x1⟩
def ETH_CTRL_EN1 : Fld := ⟨0x400C0000, 2, 1, 0⟩
def ETH_CTRL_EN0 : Fld := ⟨0x400C0000, 1, 1, 0⟩
def ETH_CTRL_LOCK : Fld := ⟨0x400C0000, 0, 1, 0⟩

/-! ETH.P_STATUS (R300, `09_host_links_and_network_time.md`). -/
def ETH_P_STATUS_RATE (n : Nat) : Fld := ⟨0x400C0100 + 0x100 * n, 6, 2, 0⟩
def ETH_P_STATUS_LINK (n : Nat) : Fld := ⟨0x400C0100 + 0x100 * n, 5, 1, 0⟩
def ETH_P_STATUS_SA (n : Nat) : Fld := ⟨0x400C0100 + 0x100 * n, 4, 1, 0⟩
def ETH_P_STATUS_LINKCHG (n : Nat) : Fld := ⟨0x400C0100 + 0x100 * n, 0, 1, 0⟩

/-! ETH.P_IPADDR (R300, `09_host_links_and_network_time.md`). -/
def ETH_P_IPADDR_ADDR (n : Nat) : Fld := ⟨0x400C0104 + 0x100 * n, 0, 32, 0⟩

/-! ETH.P_PEER0 (R300, `09_host_links_and_network_time.md`). -/
def ETH_P_PEER0_ADDR (n : Nat) : Fld := ⟨0x400C0118 + 0x100 * n, 0, 32, 0⟩

/-! ETH.P_PEER1 (R300, `09_host_links_and_network_time.md`). -/
def ETH_P_PEER1_ADDR (n : Nat) : Fld := ⟨0x400C011C + 0x100 * n, 0, 32, 0⟩

/-! ETH.P_VLAN (R300, `09_host_links_and_network_time.md`). -/
def ETH_P_VLAN_TAGGED (n : Nat) : Fld := ⟨0x400C0108 + 0x100 * n, 16, 1, 0⟩
def ETH_P_VLAN_PCP (n : Nat) : Fld := ⟨0x400C0108 + 0x100 * n, 13, 3, 0⟩
def ETH_P_VLAN_VID (n : Nat) : Fld := ⟨0x400C0108 + 0x100 * n, 0, 12, 0⟩

/-! ETH.P_TSLAT (R300, `09_host_links_and_network_time.md`). -/
def ETH_P_TSLAT_EGRESS (n : Nat) : Fld := ⟨0x400C010C + 0x100 * n, 16, 16, 0⟩
def ETH_P_TSLAT_INGRESS (n : Nat) : Fld := ⟨0x400C010C + 0x100 * n, 0, 16, 0⟩

/-! ETH.P_RXDROP (R300, `09_host_links_and_network_time.md`). -/
def ETH_P_RXDROP_MACSEC (n : Nat) : Fld := ⟨0x400C0110 + 0x100 * n, 24, 8, 0⟩
def ETH_P_RXDROP_FRAME (n : Nat) : Fld := ⟨0x400C0110 + 0x100 * n, 16, 8, 0⟩
def ETH_P_RXDROP_IP (n : Nat) : Fld := ⟨0x400C0110 + 0x100 * n, 8, 8, 0⟩
def ETH_P_RXDROP_UDP (n : Nat) : Fld := ⟨0x400C0110 + 0x100 * n, 0, 8, 0⟩

/-! ETH.P_HATCH (R300, `09_host_links_and_network_time.md`). -/
def ETH_P_HATCH_ACCEPTED (n : Nat) : Fld := ⟨0x400C0114 + 0x100 * n, 16, 16, 0⟩
def ETH_P_HATCH_REJECT (n : Nat) : Fld := ⟨0x400C0114 + 0x100 * n, 8, 8, 0⟩
def ETH_P_HATCH_PEER (n : Nat) : Fld := ⟨0x400C0114 + 0x100 * n, 0, 8, 0⟩

/-! NTM.CTRL (R301, `09_host_links_and_network_time.md`). -/
def NTM_CTRL_ACTIVE : Fld := ⟨0x400D0000, 1, 1, 0⟩
def NTM_CTRL_LOCK : Fld := ⟨0x400D0000, 0, 1, 0⟩

/-! NTM.SNAP (R301, `09_host_links_and_network_time.md`). -/
def NTM_SNAP_GO : Fld := ⟨0x400D0004, 0, 1, 0⟩

/-! NTM.SNAP_RAW_LO (R301, `09_host_links_and_network_time.md`). -/
def NTM_SNAP_RAW_LO_VALUE : Fld := ⟨0x400D0008, 0, 32, 0⟩

/-! NTM.SNAP_RAW_HI (R301, `09_host_links_and_network_time.md`). -/
def NTM_SNAP_RAW_HI_VALUE : Fld := ⟨0x400D000C, 0, 32, 0⟩

/-! NTM.SNAP_D0_SL (R301, `09_host_links_and_network_time.md`). -/
def NTM_SNAP_D0_SL_VALUE : Fld := ⟨0x400D0010, 0, 32, 0⟩

/-! NTM.SNAP_D1_SL (R301, `09_host_links_and_network_time.md`). -/
def NTM_SNAP_D1_SL_VALUE : Fld := ⟨0x400D001C, 0, 32, 0⟩

/-! NTM.PPS_RAW_LO (R301, `09_host_links_and_network_time.md`). -/
def NTM_PPS_RAW_LO_VALUE : Fld := ⟨0x400D0300, 0, 32, 0⟩

/-! NTM.PPS_RAW_HI (R301, `09_host_links_and_network_time.md`). -/
def NTM_PPS_RAW_HI_VALUE : Fld := ⟨0x400D0304, 0, 32, 0⟩

/-! NTM.PPS_D0_SL (R301, `09_host_links_and_network_time.md`). -/
def NTM_PPS_D0_SL_VALUE : Fld := ⟨0x400D0308, 0, 32, 0⟩

/-! NTM.PPS_D1_SL (R301, `09_host_links_and_network_time.md`). -/
def NTM_PPS_D1_SL_VALUE : Fld := ⟨0x400D0314, 0, 32, 0⟩

/-! NTM.SNAP_D0_SH (R301, `09_host_links_and_network_time.md`). -/
def NTM_SNAP_D0_SH_SEC : Fld := ⟨0x400D0014, 0, 16, 0⟩

/-! NTM.SNAP_D1_SH (R301, `09_host_links_and_network_time.md`). -/
def NTM_SNAP_D1_SH_SEC : Fld := ⟨0x400D0020, 0, 16, 0⟩

/-! NTM.PPS_D0_SH (R301, `09_host_links_and_network_time.md`). -/
def NTM_PPS_D0_SH_SEC : Fld := ⟨0x400D030C, 0, 16, 0⟩

/-! NTM.PPS_D1_SH (R301, `09_host_links_and_network_time.md`). -/
def NTM_PPS_D1_SH_SEC : Fld := ⟨0x400D0318, 0, 16, 0⟩

/-! NTM.SNAP_D0_NS (R301, `09_host_links_and_network_time.md`). -/
def NTM_SNAP_D0_NS_NSEC : Fld := ⟨0x400D0018, 0, 30, 0⟩

/-! NTM.SNAP_D1_NS (R301, `09_host_links_and_network_time.md`). -/
def NTM_SNAP_D1_NS_NSEC : Fld := ⟨0x400D0024, 0, 30, 0⟩

/-! NTM.PPS_D0_NS (R301, `09_host_links_and_network_time.md`). -/
def NTM_PPS_D0_NS_NSEC : Fld := ⟨0x400D0310, 0, 30, 0⟩

/-! NTM.PPS_D1_NS (R301, `09_host_links_and_network_time.md`). -/
def NTM_PPS_D1_NS_NSEC : Fld := ⟨0x400D031C, 0, 30, 0⟩

/-! NTM.PPS_STAT (R301, `09_host_links_and_network_time.md`). -/
def NTM_PPS_STAT_OVR : Fld := ⟨0x400D0320, 1, 1, 0⟩
def NTM_PPS_STAT_FULL : Fld := ⟨0x400D0320, 0, 1, 0⟩

/-! NTM.D_STATE (R301, `09_host_links_and_network_time.md`). -/
def NTM_D_STATE_STATE (n : Nat) : Fld := ⟨0x400D0100 + 0x40 * n, 0, 2, 0⟩

/-! NTM.D_APPLY (R301, `09_host_links_and_network_time.md`). -/
def NTM_D_APPLY_ERR (n : Nat) : Fld := ⟨0x400D0104 + 0x40 * n, 2, 1, 0⟩
def NTM_D_APPLY_SET (n : Nat) : Fld := ⟨0x400D0104 + 0x40 * n, 1, 1, 0⟩
def NTM_D_APPLY_STEP (n : Nat) : Fld := ⟨0x400D0104 + 0x40 * n, 0, 1, 0⟩

/-! NTM.D_INC_FRAC (R301, `09_host_links_and_network_time.md`). -/
def NTM_D_INC_FRAC_VALUE (n : Nat) : Fld := ⟨0x400D0108 + 0x40 * n, 0, 32, 0⟩

/-! NTM.D_STEP (R301, `09_host_links_and_network_time.md`). -/
def NTM_D_STEP_VALUE (n : Nat) : Fld := ⟨0x400D0110 + 0x40 * n, 0, 32, 0⟩

/-! NTM.D_SET_SL (R301, `09_host_links_and_network_time.md`). -/
def NTM_D_SET_SL_VALUE (n : Nat) : Fld := ⟨0x400D0114 + 0x40 * n, 0, 32, 0⟩

/-! NTM.D_SET_NS (R301, `09_host_links_and_network_time.md`). -/
def NTM_D_SET_NS_VALUE (n : Nat) : Fld := ⟨0x400D011C + 0x40 * n, 0, 32, 0⟩

/-! NTM.D_INC_INT (R301, `09_host_links_and_network_time.md`). -/
def NTM_D_INC_INT_VALUE (n : Nat) : Fld := ⟨0x400D010C + 0x40 * n, 0, 16, 4⟩

/-! NTM.D_SET_SH (R301, `09_host_links_and_network_time.md`). -/
def NTM_D_SET_SH_VALUE (n : Nat) : Fld := ⟨0x400D0118 + 0x40 * n, 0, 16, 0⟩

/-! NTM.TTO_CTRL (R301, `09_host_links_and_network_time.md`). -/
def NTM_TTO_CTRL_EN (n : Nat) : Fld := ⟨0x400D0200 + 0x20 * n, 31, 1, 0⟩
def NTM_TTO_CTRL_POL (n : Nat) : Fld := ⟨0x400D0200 + 0x20 * n, 30, 1, 0⟩
def NTM_TTO_CTRL_DOM (n : Nat) : Fld := ⟨0x400D0200 + 0x20 * n, 29, 1, 0⟩
def NTM_TTO_CTRL_ERR (n : Nat) : Fld := ⟨0x400D0200 + 0x20 * n, 0, 2, 0⟩

/-! NTM.TTO_START_SL (R301, `09_host_links_and_network_time.md`). -/
def NTM_TTO_START_SL_VALUE (n : Nat) : Fld := ⟨0x400D0204 + 0x20 * n, 0, 32, 0⟩

/-! NTM.TTO_START_NS (R301, `09_host_links_and_network_time.md`). -/
def NTM_TTO_START_NS_VALUE (n : Nat) : Fld := ⟨0x400D020C + 0x20 * n, 0, 32, 0⟩

/-! NTM.TTO_PERIOD (R301, `09_host_links_and_network_time.md`). -/
def NTM_TTO_PERIOD_VALUE (n : Nat) : Fld := ⟨0x400D0210 + 0x20 * n, 0, 32, 0⟩

/-! NTM.TTO_WIDTH (R301, `09_host_links_and_network_time.md`). -/
def NTM_TTO_WIDTH_VALUE (n : Nat) : Fld := ⟨0x400D0214 + 0x20 * n, 0, 32, 0⟩

/-! NTM.TTO_MISSED (R301, `09_host_links_and_network_time.md`). -/
def NTM_TTO_MISSED_VALUE (n : Nat) : Fld := ⟨0x400D0218 + 0x20 * n, 0, 32, 0⟩

/-! NTM.TTO_START_SH (R301, `09_host_links_and_network_time.md`). -/
def NTM_TTO_START_SH_SEC (n : Nat) : Fld := ⟨0x400D0208 + 0x20 * n, 0, 16, 0⟩

/-! HIF.LINKCTRL (R302, `09_host_links_and_network_time.md`). -/
def HIF_LINKCTRL_LOCK : Fld := ⟨0x400E0000, 0, 1, 0⟩

/-! HIF.SPI_STAT (R302, `09_host_links_and_network_time.md`). -/
def HIF_SPI_STAT_HCRC : Fld := ⟨0x400E0004, 24, 8, 0⟩
def HIF_SPI_STAT_DCRC : Fld := ⟨0x400E0004, 16, 8, 0⟩
def HIF_SPI_STAT_ADDR : Fld := ⟨0x400E0004, 8, 8, 0⟩
def HIF_SPI_STAT_SHORT : Fld := ⟨0x400E0004, 0, 8, 0⟩

/-! HIF.CAN_CTRL (R302, `09_host_links_and_network_time.md`). -/
def HIF_CAN_CTRL_EN : Fld := ⟨0x400E0010, 31, 1, 0⟩
def HIF_CAN_CTRL_STPER : Fld := ⟨0x400E0010, 0, 8, 0xA⟩

/-! HIF.CAN_BT (R302, `09_host_links_and_network_time.md`). -/
def HIF_CAN_BT_NSP : Fld := ⟨0x400E0014, 8, 8, 0xCC⟩
def HIF_CAN_BT_DSP : Fld := ⟨0x400E0014, 0, 8, 0xB3⟩

/-! HIF.CAN_STAT (R302, `09_host_links_and_network_time.md`). -/
def HIF_CAN_STAT_TEC : Fld := ⟨0x400E0018, 24, 8, 0⟩
def HIF_CAN_STAT_REC : Fld := ⟨0x400E0018, 16, 8, 0⟩
def HIF_CAN_STAT_AUTH : Fld := ⟨0x400E0018, 8, 8, 0⟩
def HIF_CAN_STAT_BUS : Fld := ⟨0x400E0018, 0, 2, 0⟩

/-! HIF.CAN_FRESH (R302, `09_host_links_and_network_time.md`). -/
def HIF_CAN_FRESH_LAST : Fld := ⟨0x400E001C, 0, 32, 0⟩

/-! HIF.CAN_TXID (R302, `09_host_links_and_network_time.md`). -/
def HIF_CAN_TXID_EN : Fld := ⟨0x400E0020, 31, 1, 0⟩
def HIF_CAN_TXID_EXT : Fld := ⟨0x400E0020, 30, 1, 0⟩
def HIF_CAN_TXID_ID : Fld := ⟨0x400E0020, 0, 29, 0⟩

/-! HIF.CAN_STID (R302, `09_host_links_and_network_time.md`). -/
def HIF_CAN_STID_EN : Fld := ⟨0x400E0024, 31, 1, 0⟩
def HIF_CAN_STID_EXT : Fld := ⟨0x400E0024, 30, 1, 0⟩
def HIF_CAN_STID_ID : Fld := ⟨0x400E0024, 0, 29, 0⟩

/-! HIF.CAN_FILT_ID (R302, `09_host_links_and_network_time.md`). -/
def HIF_CAN_FILT_ID_EN (n : Nat) : Fld := ⟨0x400E0100 + 0x8 * n, 31, 1, 0⟩
def HIF_CAN_FILT_ID_EXT (n : Nat) : Fld := ⟨0x400E0100 + 0x8 * n, 30, 1, 0⟩
def HIF_CAN_FILT_ID_ID (n : Nat) : Fld := ⟨0x400E0100 + 0x8 * n, 0, 29, 0⟩

/-! HIF.CAN_FILT_MASK (R302, `09_host_links_and_network_time.md`). -/
def HIF_CAN_FILT_MASK_MASK (n : Nat) : Fld := ⟨0x400E0104 + 0x8 * n, 0, 29, 0x1FFFFFFF⟩

/-! HIF.MB_CMDWP (R328, `10_mailboxes.md`). -/
def HIF_MB_CMDWP_WP (n : Nat) : Fld := ⟨0x400E0200 + 0x40 * n, 0, 16, 0⟩

/-! HIF.MB_CMDRP (R328, `10_mailboxes.md`). -/
def HIF_MB_CMDRP_COUNT (n : Nat) : Fld := ⟨0x400E0204 + 0x40 * n, 0, 16, 0⟩

/-! HIF.MB_CPLWP (R328, `10_mailboxes.md`). -/
def HIF_MB_CPLWP_COUNT (n : Nat) : Fld := ⟨0x400E0208 + 0x40 * n, 0, 16, 0⟩

/-! HIF.MB_CPLRP (R328, `10_mailboxes.md`). -/
def HIF_MB_CPLRP_RP (n : Nat) : Fld := ⟨0x400E020C + 0x40 * n, 0, 16, 0⟩

/-! HIF.MB_AUTHCNT (R328, `10_mailboxes.md`). -/
def HIF_MB_AUTHCNT_COUNT (n : Nat) : Fld := ⟨0x400E0210 + 0x40 * n, 0, 32, 0⟩

/-! HIF.MB_STAT (R328, `10_mailboxes.md`). -/
def HIF_MB_STAT_DBERR (n : Nat) : Fld := ⟨0x400E0214 + 0x40 * n, 24, 8, 0⟩
def HIF_MB_STAT_STALL (n : Nat) : Fld := ⟨0x400E0214 + 0x40 * n, 16, 8, 0⟩
def HIF_MB_STAT_DEFQ (n : Nat) : Fld := ⟨0x400E0214 + 0x40 * n, 0, 3, 0⟩

/-! HIF.MB_CTRL (R328, `10_mailboxes.md`). -/
def HIF_MB_CTRL_RESET (n : Nat) : Fld := ⟨0x400E0218 + 0x40 * n, 0, 1, 0⟩

/-! HIF.MB_DEFTO (R328, `10_mailboxes.md`). -/
def HIF_MB_DEFTO_MS (n : Nat) : Fld := ⟨0x400E021C + 0x40 * n, 0, 20, 0x3E8⟩

/-! HIF.MB_MOD (R328, `10_mailboxes.md`). -/
def HIF_MB_MOD_TIME (n : Nat) : Fld := ⟨0x400E0400 + 0x10 * n, 16, 16, 0x32⟩
def HIF_MB_MOD_COUNT (n : Nat) : Fld := ⟨0x400E0400 + 0x10 * n, 0, 7, 0x1⟩

/-! HIF.MB_IRQ (R328, `10_mailboxes.md`). -/
def HIF_MB_IRQ_EN : Fld := ⟨0x400E0480, 16, 3, 0⟩
def HIF_MB_IRQ_PEND : Fld := ⟨0x400E0480, 0, 5, 0⟩

/-! HIF.MB_HOST (R328, `10_mailboxes.md`). -/
def HIF_MB_HOST_IRQ : Fld := ⟨0x400E0484, 2, 1, 0⟩
def HIF_MB_HOST_HELD : Fld := ⟨0x400E0484, 1, 1, 0⟩
def HIF_MB_HOST_AWAKE : Fld := ⟨0x400E0484, 0, 1, 0⟩

/-! SEC.CTRL (R384, `12_binding_tipins_lifecycle.md`). -/
def SEC_CTRL_LOCK : Fld := ⟨0x40160000, 0, 1, 0⟩

/-! SEC.LC (R384, `12_binding_tipins_lifecycle.md`). -/
def SEC_LC_RESUMED : Fld := ⟨0x40160004, 8, 1, 0⟩
def SEC_LC_CODE : Fld := ⟨0x40160004, 0, 2, 0⟩

/-! SEC.BOOT (R384, `12_binding_tipins_lifecycle.md`). -/
def SEC_BOOT_TIPINS : Fld := ⟨0x40160008, 17, 7, 0⟩
def SEC_BOOT_BIND : Fld := ⟨0x40160008, 16, 1, 0⟩
def SEC_BOOT_BVALID : Fld := ⟨0x40160008, 3, 1, 0⟩
def SEC_BOOT_AVALID : Fld := ⟨0x40160008, 2, 1, 0⟩
def SEC_BOOT_PREF : Fld := ⟨0x40160008, 1, 1, 0⟩
def SEC_BOOT_RUN : Fld := ⟨0x40160008, 0, 1, 0⟩

/-! SEC.SVN (R384, `12_binding_tipins_lifecycle.md`). -/
def SEC_SVN_BIND : Fld := ⟨0x4016000C, 16, 16, 0⟩
def SEC_SVN_FW : Fld := ⟨0x4016000C, 0, 16, 0⟩

/-! SEC.KEYST (R384, `12_binding_tipins_lifecycle.md`). -/
def SEC_KEYST_KID : Fld := ⟨0x40160010, 1, 7, 0⟩
def SEC_KEYST_KP : Fld := ⟨0x40160010, 0, 1, 0⟩

/-! FST.FST (R413, `13_safety_functions.md`). -/
def FST_RUN : Fld := ⟨0x50000000, 31, 1, 0⟩
def FST_CFGOK : Fld := ⟨0x50000000, 30, 1, 0⟩
def FST_EMBER : Fld := ⟨0x50000000, 29, 1, 0⟩
def FST_MODE : Fld := ⟨0x50000000, 27, 2, 0⟩
def FST_ZONES : Fld := ⟨0x50000000, 16, 8, 0⟩
def FST_LASTKIND : Fld := ⟨0x50000000, 8, 8, 0⟩
def FST_FAILS : Fld := ⟨0x50000000, 0, 8, 0⟩

/-! FST.FST_SEQ (R413, `13_safety_functions.md`). -/
def FST_SEQ_SEQ : Fld := ⟨0x50000004, 0, 32, 0⟩

/-! FST.FST_CELL (R413, `13_safety_functions.md`). -/
def FST_CELL_WHAT : Fld := ⟨0x50000008, 24, 8, 0⟩
def FST_CELL_TP : Fld := ⟨0x50000008, 23, 1, 0⟩
def FST_CELL_CELL : Fld := ⟨0x50000008, 0, 12, 0⟩

/-! FST.FST_DP (R413, `13_safety_functions.md`). -/
def FST_DP_LANE : Fld := ⟨0x5000000C, 26, 6, 0⟩
def FST_DP_RESULT : Fld := ⟨0x5000000C, 25, 1, 0⟩
def FST_DP_ACKONLY : Fld := ⟨0x5000000C, 24, 1, 0⟩
def FST_DP_AGE : Fld := ⟨0x5000000C, 0, 16, 0⟩

/-! FST.FST_DPE (R413, `13_safety_functions.md`). -/
def FST_DPE_E : Fld := ⟨0x50000010, 16, 16, 0⟩
def FST_DPE_D : Fld := ⟨0x50000010, 0, 16, 0⟩

/-! FST.FST_OUT (R413, `13_safety_functions.md`). -/
def FST_OUT_FB1 : Fld := ⟨0x50000014, 18, 2, 0⟩
def FST_OUT_FB0 : Fld := ⟨0x50000014, 16, 2, 0⟩
def FST_OUT_TGFAIL : Fld := ⟨0x50000014, 8, 8, 0⟩
def FST_OUT_TGPASS : Fld := ⟨0x50000014, 0, 8, 0⟩

/-! COR.GATE_CAP (R414, `13_safety_functions.md`). -/
def COR_GATE_CAP_SLCAP : Fld := ⟨0x40080040, 16, 16, 0x4000⟩
def COR_GATE_CAP_LITCAP : Fld := ⟨0x40080040, 0, 16, 0xFFFF⟩

/-! COR.GATE_SLROW (R414, `13_safety_functions.md`). -/
def COR_GATE_SLROW_RISE : Fld := ⟨0x40080044, 16, 16, 0x10⟩
def COR_GATE_SLROW_ROWLIM : Fld := ⟨0x40080044, 0, 16, 0xC80⟩

/-! COR.GATE_BUDGET (R414, `13_safety_functions.md`). -/
def COR_GATE_BUDGET_TILEMEAN : Fld := ⟨0x40080048, 16, 16, 0x2000⟩
def COR_GATE_BUDGET_FLUX : Fld := ⟨0x40080048, 0, 16, 0x190⟩

/-! COR.GATE_STATUS (R414, `13_safety_functions.md`). -/
def COR_GATE_STATUS_G16 : Fld := ⟨0x4008004C, 16, 16, 0⟩
def COR_GATE_STATUS_SLIP : Fld := ⟨0x4008004C, 0, 1, 0⟩

/-! COR.GATE_CLIP (R414, `13_safety_functions.md`). -/
def COR_GATE_CLIP_CLIPB : Fld := ⟨0x40080050, 16, 16, 0⟩
def COR_GATE_CLIP_CLIPC : Fld := ⟨0x40080050, 0, 16, 0⟩

/-! COR.GATE_FDARK_LO (R414, `13_safety_functions.md`). -/
def COR_GATE_FDARK_LO_MAP : Fld := ⟨0x40080054, 0, 32, 0xFFFFFFFF⟩

/-! COR.GATE_FDARK_HI (R414, `13_safety_functions.md`). -/
def COR_GATE_FDARK_HI_MAP : Fld := ⟨0x40080058, 0, 32, 0xFFFFFFFF⟩

/-! FCL.CTRL (R431, `14_fault_collection.md`). -/
def FCL_CTRL_CLEAR : Fld := ⟨0x40030000, 1, 1, 0⟩
def FCL_CTRL_LOCK : Fld := ⟨0x40030000, 0, 1, 0⟩

/-! FCL.STATUS (R431, `14_fault_collection.md`). -/
def FCL_STATUS_COUNT : Fld := ⟨0x40030004, 16, 16, 0⟩
def FCL_STATUS_HIGHEST : Fld := ⟨0x40030004, 8, 3, 0⟩
def FCL_STATUS_EMBER : Fld := ⟨0x40030004, 5, 1, 0⟩
def FCL_STATUS_SAFEIN : Fld := ⟨0x40030004, 4, 1, 0⟩
def FCL_STATUS_FAULTN : Fld := ⟨0x40030004, 3, 1, 0⟩
def FCL_STATUS_OVF : Fld := ⟨0x40030004, 2, 1, 0⟩
def FCL_STATUS_EXTV : Fld := ⟨0x40030004, 1, 1, 0⟩
def FCL_STATUS_VALID : Fld := ⟨0x40030004, 0, 1, 0⟩

/-! FCL.FIRST (R431, `14_fault_collection.md`). -/
def FCL_FIRST_VALUE : Fld := ⟨0x40030008, 0, 32, 0⟩

/-! FCL.FIRST_EXT (R431, `14_fault_collection.md`). -/
def FCL_FIRST_EXT_VALUE : Fld := ⟨0x4003000C, 0, 32, 0⟩

/-! FCL.FIRST_FCNT (R431, `14_fault_collection.md`). -/
def FCL_FIRST_FCNT_VALUE : Fld := ⟨0x40030010, 0, 32, 0⟩

/-! FCL.SAFEKIND (R431, `14_fault_collection.md`). -/
def FCL_SAFEKIND_VALUE : Fld := ⟨0x40030014, 0, 32, 0⟩

/-! FCL.LAST (R431, `14_fault_collection.md`). -/
def FCL_LAST_VALUE : Fld := ⟨0x40030018, 0, 32, 0⟩

/-! FCL.INFOCNT (R431, `14_fault_collection.md`). -/
def FCL_INFOCNT_COUNT : Fld := ⟨0x4003001C, 0, 32, 0⟩

/-! FCL.DEGMAP_LO (R431, `14_fault_collection.md`). -/
def FCL_DEGMAP_LO_MAP : Fld := ⟨0x40030020, 0, 32, 0⟩

/-! FCL.DEGMAP_HI (R431, `14_fault_collection.md`). -/
def FCL_DEGMAP_HI_MAP : Fld := ⟨0x40030024, 0, 32, 0⟩

/-- FCL.SEVw, the severity field of a source (R431). -/
def FCL_SEV (source : Nat) : Fld :=
  ⟨0x40030400 + 4 * (source / 4), 8 * (source % 4), 3, severityDefault source⟩
/-- FCL.SEVw, the floor field of a source (R431). -/
def FCL_FLOOR (source : Nat) : Fld :=
  ⟨0x40030400 + 4 * (source / 4), 8 * (source % 4) + 3, 3, severityFloor source⟩

/-! ITC.CTRL (R452, `15_stoker_cores_and_interrupts.md`). -/
def ITC_CTRL_LOCK : Fld := ⟨0x40020000, 0, 1, 0⟩

/-! ITC.STATUS (R452, `15_stoker_cores_and_interrupts.md`). -/
def ITC_STATUS_STRANDED : Fld := ⟨0x40020004, 2, 1, 0⟩
def ITC_STATUS_TGTREJ : Fld := ⟨0x40020004, 1, 1, 0⟩
def ITC_STATUS_PAIR : Fld := ⟨0x40020004, 0, 1, 0⟩

/-! ITC.LATE_DELIVER (R452, `15_stoker_cores_and_interrupts.md`). -/
def ITC_LATE_DELIVER_COUNT : Fld := ⟨0x40020008, 16, 8, 0⟩
def ITC_LATE_DELIVER_TGT : Fld := ⟨0x40020008, 8, 1, 0⟩
def ITC_LATE_DELIVER_SOURCE : Fld := ⟨0x40020008, 0, 8, 0⟩

/-! ITC.STRAND (R452, `15_stoker_cores_and_interrupts.md`). -/
def ITC_STRAND_MS : Fld := ⟨0x4002000C, 0, 16, 0xA⟩

/-! ITC.WATCH (R452, `15_stoker_cores_and_interrupts.md`). -/
def ITC_WATCH_EN (n : Nat) : Fld := ⟨0x40020040 + 0x4 * n, 31, 1, 0⟩
def ITC_WATCH_SOURCE (n : Nat) : Fld := ⟨0x40020040 + 0x4 * n, 0, 8, 0⟩

/-! ITC.T_CTRL (R452, `15_stoker_cores_and_interrupts.md`). -/
def ITC_T_CTRL_FIE (n : Nat) : Fld := ⟨0x40020100 + 0x40 * n, 1, 1, 0⟩
def ITC_T_CTRL_RUN (n : Nat) : Fld := ⟨0x40020100 + 0x40 * n, 0, 1, 0⟩

/-! ITC.T_VBASE (R452, `15_stoker_cores_and_interrupts.md`). -/
def ITC_T_VBASE_BASE (n : Nat) : Fld := ⟨0x40020104 + 0x40 * n, 12, 20, if n = 1 then 0x10100 else 0⟩

/-! ITC.T_SLEEP (R452, `15_stoker_cores_and_interrupts.md`). -/
def ITC_T_SLEEP_ST (n : Nat) : Fld := ⟨0x40020108 + 0x40 * n, 4, 2, if n = 1 then 3 else 0⟩
def ITC_T_SLEEP_MODE (n : Nat) : Fld := ⟨0x40020108 + 0x40 * n, 0, 2, 0⟩

/-! ITC.T_ACTIVE (R452, `15_stoker_cores_and_interrupts.md`). -/
def ITC_T_ACTIVE_NACT (n : Nat) : Fld := ⟨0x4002010C + 0x40 * n, 31, 1, 0⟩
def ITC_T_ACTIVE_FACT (n : Nat) : Fld := ⟨0x4002010C + 0x40 * n, 30, 1, 0⟩
def ITC_T_ACTIVE_FSRC (n : Nat) : Fld := ⟨0x4002010C + 0x40 * n, 8, 8, 0⟩
def ITC_T_ACTIVE_NSRC (n : Nat) : Fld := ⟨0x4002010C + 0x40 * n, 0, 8, 0⟩

/-! ITC.T_WDOG (R452, `15_stoker_cores_and_interrupts.md`). -/
def ITC_T_WDOG_EN (n : Nat) : Fld := ⟨0x40020110 + 0x40 * n, 31, 1, 0⟩
def ITC_T_WDOG_MS (n : Nat) : Fld := ⟨0x40020110 + 0x40 * n, 0, 16, 0x64⟩

/-! ITC.T_WDKICK (R452, `15_stoker_cores_and_interrupts.md`). -/
def ITC_T_WDKICK_KICK (n : Nat) : Fld := ⟨0x40020114 + 0x40 * n, 0, 8, 0⟩

/-! ITC.T_WAKEVEC (R452, `15_stoker_cores_and_interrupts.md`). -/
def ITC_T_WAKEVEC_ADDR (n : Nat) : Fld := ⟨0x40020118 + 0x40 * n, 2, 30, 0⟩

/-! ITC.PEND (R452, `15_stoker_cores_and_interrupts.md`). -/
def ITC_PEND_MAP (n : Nat) : Fld := ⟨0x40020200 + 0x4 * n, 0, 32, 0⟩

/-! ITC.SETP (R452, `15_stoker_cores_and_interrupts.md`). -/
def ITC_SETP_MAP (n : Nat) : Fld := ⟨0x40020220 + 0x4 * n, 0, 32, 0⟩

/-! ITC.CLRP (R452, `15_stoker_cores_and_interrupts.md`). -/
def ITC_CLRP_MAP (n : Nat) : Fld := ⟨0x40020240 + 0x4 * n, 0, 32, 0⟩

/-! ITC.EN (R452, `15_stoker_cores_and_interrupts.md`). -/
def ITC_EN_MAP (n : Nat) : Fld := ⟨0x40020260 + 0x4 * n, 0, 32, 0⟩

/-! ITC.SRC (R452, `15_stoker_cores_and_interrupts.md`). -/
def ITC_SRC_CLASS (n : Nat) : Fld := ⟨0x40020400 + 0x4 * n, 1, 1, 0⟩
def ITC_SRC_TARGET (n : Nat) : Fld := ⟨0x40020400 + 0x4 * n, 0, 1, 0⟩

/-! PWC.CTRL (R481, `16_power_states_and_thermal.md`). -/
def PWC_CTRL_LOCK : Fld := ⟨0x40000000, 0, 1, 0⟩

/-! PWC.STATUS (R481, `16_power_states_and_thermal.md`). -/
def PWC_STATUS_DOMBUSY : Fld := ⟨0x40000004, 6, 1, 0⟩
def PWC_STATUS_REF_RC : Fld := ⟨0x40000004, 5, 1, 0⟩
def PWC_STATUS_PLBUSY : Fld := ⟨0x40000004, 4, 1, 0⟩
def PWC_STATUS_PL : Fld := ⟨0x40000004, 0, 2, 0⟩

/-! PWC.PLREQ (R481, `16_power_states_and_thermal.md`). -/
def PWC_PLREQ_SB : Fld := ⟨0x40000008, 8, 2, 0⟩
def PWC_PLREQ_LIT : Fld := ⟨0x40000008, 0, 2, 0x1⟩

/-! PWC.VREG (R481, `16_power_states_and_thermal.md`). -/
def PWC_VREG_PRTAD : Fld := ⟨0x4000000C, 16, 5, 0x1F⟩
def PWC_VREG_SETTLE_US : Fld := ⟨0x4000000C, 0, 16, 0xC8⟩

/-! PWC.VSET (R481, `16_power_states_and_thermal.md`). -/
def PWC_VSET_MV : Fld := ⟨0x40000010, 0, 16, 0x2D0⟩

/-! PWC.DOMST (R481, `16_power_states_and_thermal.md`). -/
def PWC_DOMST_MAP : Fld := ⟨0x40000014, 0, 10, 0⟩

/-! PWC.DOMLOCK (R481, `16_power_states_and_thermal.md`). -/
def PWC_DOMLOCK_MAP : Fld := ⟨0x40000018, 0, 10, 0⟩

/-! PWC.DOMOFF (R481, `16_power_states_and_thermal.md`). -/
def PWC_DOMOFF_MAP : Fld := ⟨0x4000001C, 0, 10, 0⟩

/-! PWC.SLEEP (R481, `16_power_states_and_thermal.md`). -/
def PWC_SLEEP_BLOCK : Fld := ⟨0x40000020, 24, 8, 0⟩
def PWC_SLEEP_ANSWER : Fld := ⟨0x40000020, 16, 8, 0⟩
def PWC_SLEEP_CODE : Fld := ⟨0x40000020, 8, 8, 0⟩
def PWC_SLEEP_RESULT : Fld := ⟨0x40000020, 1, 2, 0⟩
def PWC_SLEEP_GO : Fld := ⟨0x40000020, 0, 1, 0⟩

/-! PWC.PADREL (R481, `16_power_states_and_thermal.md`). -/
def PWC_PADREL_LATCHED : Fld := ⟨0x40000024, 1, 1, 0⟩
def PWC_PADREL_REL : Fld := ⟨0x40000024, 0, 1, 0⟩

/-! PWC.RSTCAUSE (R481, `16_power_states_and_thermal.md`). -/
def PWC_RSTCAUSE_CAUSE : Fld := ⟨0x40000028, 0, 3, 1⟩

/-! PWC.TGEN (R481, `16_power_states_and_thermal.md`). -/
def PWC_TGEN_FB : Fld := ⟨0x40000030, 8, 8, 0⟩
def PWC_TGEN_EN : Fld := ⟨0x40000030, 0, 8, 0⟩

/-! PWC.P_RTC (R481, `16_power_states_and_thermal.md`). -/
def PWC_P_RTC_SEC : Fld := ⟨0x40000100, 0, 32, 0⟩

/-! PWC.P_ALARM (R481, `16_power_states_and_thermal.md`). -/
def PWC_P_ALARM_SEC : Fld := ⟨0x40000104, 0, 32, 0⟩

/-! PWC.P_OPSEC (R481, `16_power_states_and_thermal.md`). -/
def PWC_P_OPSEC_SEC : Fld := ⟨0x40000108, 0, 32, 0⟩

/-! PWC.P_PWRCYC (R481, `16_power_states_and_thermal.md`). -/
def PWC_P_PWRCYC_COUNT : Fld := ⟨0x4000010C, 0, 24, 0⟩

/-! PWC.P_WAKE (R481, `16_power_states_and_thermal.md`). -/
def PWC_P_WAKE_ALARM_EN : Fld := ⟨0x40000110, 9, 1, 0⟩
def PWC_P_WAKE_WAKE_EN : Fld := ⟨0x40000110, 8, 1, 0⟩
def PWC_P_WAKE_SRC : Fld := ⟨0x40000110, 4, 3, 0⟩
def PWC_P_WAKE_WAKE_FAIL : Fld := ⟨0x40000110, 0, 1, 0⟩

/-! PWC.P_FB (R481, `16_power_states_and_thermal.md`). -/
def PWC_P_FB_OFFREQ : Fld := ⟨0x40000114, 8, 1, 0⟩
def PWC_P_FB_ON : Fld := ⟨0x40000114, 2, 2, 0⟩
def PWC_P_FB_MASK : Fld := ⟨0x40000114, 0, 2, 0⟩

/-! THM.CTRL (R482, `16_power_states_and_thermal.md`). -/
def THM_CTRL_EN : Fld := ⟨0x40010000, 1, 1, 0x1⟩
def THM_CTRL_LOCK : Fld := ⟨0x40010000, 0, 1, 0⟩

/-! THM.STATUS (R482, `16_power_states_and_thermal.md`). -/
def THM_STATUS_STEP : Fld := ⟨0x40010004, 28, 3, 0⟩
def THM_STATUS_MODECAP : Fld := ⟨0x40010004, 26, 2, 0x3⟩
def THM_STATUS_BROKEN : Fld := ⟨0x40010004, 16, 9, 0⟩
def THM_STATUS_FAST : Fld := ⟨0x40010004, 0, 9, 0⟩

/-! THM.ESC (R482, `16_power_states_and_thermal.md`). -/
def THM_ESC_HYST : Fld := ⟨0x40010008, 24, 8, 0x32⟩
def THM_ESC_DWELL_S : Fld := ⟨0x40010008, 16, 8, 0xA⟩
def THM_ESC_ESC_MS : Fld := ⟨0x40010008, 0, 16, 0x7D0⟩

/-! THM.RATE (R482, `16_power_states_and_thermal.md`). -/
def THM_RATE_RATE3 : Fld := ⟨0x4001000C, 8, 8, 0x96⟩
def THM_RATE_RATE1 : Fld := ⟨0x4001000C, 0, 8, 0x32⟩

/-! THM.DPAUSE (R482, `16_power_states_and_thermal.md`). -/
def THM_DPAUSE_MS : Fld := ⟨0x40010010, 0, 16, 0x32⟩

/-! THM.S_LIM0 (R482, `16_power_states_and_thermal.md`). -/
def THM_S_LIM0_THROTTLE (n : Nat) : Fld := ⟨0x40010100 + 0x10 * n, 16, 16, sensorThrottle n⟩
def THM_S_LIM0_WARN (n : Nat) : Fld := ⟨0x40010100 + 0x10 * n, 0, 16, sensorWarn n⟩

/-! THM.S_LIM1 (R482, `16_power_states_and_thermal.md`). -/
def THM_S_LIM1_CRIT (n : Nat) : Fld := ⟨0x40010104 + 0x10 * n, 0, 16, sensorCrit n⟩

/-! THM.S_VAL (R482, `16_power_states_and_thermal.md`). -/
def THM_S_VAL_USED (n : Nat) : Fld := ⟨0x40010108 + 0x10 * n, 16, 16, 0⟩
def THM_S_VAL_MEAS (n : Nat) : Fld := ⟨0x40010108 + 0x10 * n, 0, 16, 0⟩

/-! THM.S_RISE (R482, `16_power_states_and_thermal.md`). -/
def THM_S_RISE_RISE (n : Nat) : Fld := ⟨0x4001010C + 0x10 * n, 0, 16, 0⟩

/-! THM.NTC_CFG (R482, `16_power_states_and_thermal.md`). -/
def THM_NTC_CFG_BETA (n : Nat) : Fld := ⟨0x40010200 + 0x4 * n, 16, 16, 0xD7A⟩
def THM_NTC_CFG_RNOM (n : Nat) : Fld := ⟨0x40010200 + 0x4 * n, 0, 16, 0x3E8⟩

/-! MRC.CTRL (R508, `17_mram_recorder_and_dump.md`). -/
def MRC_CTRL_LOCK : Fld := ⟨0x40100000, 0, 1, 0⟩

/-! MRC.STATUS (R508, `17_mram_recorder_and_dump.md`). -/
def MRC_STATUS_LAST : Fld := ⟨0x40100004, 2, 3, 0⟩
def MRC_STATUS_DEFER : Fld := ⟨0x40100004, 1, 1, 0⟩
def MRC_STATUS_BUSY : Fld := ⟨0x40100004, 0, 1, 0⟩

/-! MRC.HOLDCFG (R508, `17_mram_recorder_and_dump.md`). -/
def MRC_HOLDCFG_VMIN : Fld := ⟨0x40100008, 16, 16, 0x1770⟩
def MRC_HOLDCFG_CUF : Fld := ⟨0x40100008, 0, 16, 0⟩

/-! MRC.HOLDST (R508, `17_mram_recorder_and_dump.md`). -/
def MRC_HOLDST_VMEAS : Fld := ⟨0x4010000C, 0, 16, 0⟩

/-! MRC.HOLDE (R508, `17_mram_recorder_and_dump.md`). -/
def MRC_HOLDE_VALUE : Fld := ⟨0x40100010, 0, 32, 0⟩

/-! MRC.LINES (R508, `17_mram_recorder_and_dump.md`). -/
def MRC_LINES_VALUE : Fld := ⟨0x40100030, 0, 32, 0⟩

/-! MRC.WSRC (R508, `17_mram_recorder_and_dump.md`). -/
def MRC_WSRC_ADDR : Fld := ⟨0x40100014, 0, 32, 0⟩

/-! MRC.WDST (R508, `17_mram_recorder_and_dump.md`). -/
def MRC_WDST_ADDR : Fld := ⟨0x40100018, 0, 32, 0⟩

/-! MRC.WLEN (R508, `17_mram_recorder_and_dump.md`). -/
def MRC_WLEN_LINES : Fld := ⟨0x4010001C, 0, 16, 0⟩

/-! MRC.WGO (R508, `17_mram_recorder_and_dump.md`). -/
def MRC_WGO_GO : Fld := ⟨0x40100020, 0, 1, 0⟩

/-! MRC.WPROT (R508, `17_mram_recorder_and_dump.md`). -/
def MRC_WPROT_KEYS : Fld := ⟨0x40100024, 8, 1, 0x1⟩
def MRC_WPROT_AREA : Fld := ⟨0x40100024, 0, 8, 0⟩

/-! MRC.ECCCNT (R508, `17_mram_recorder_and_dump.md`). -/
def MRC_ECCCNT_HIGH : Fld := ⟨0x40100028, 16, 16, 0⟩
def MRC_ECCCNT_LOW : Fld := ⟨0x40100028, 0, 16, 0⟩

/-! MRC.VERCNT (R508, `17_mram_recorder_and_dump.md`). -/
def MRC_VERCNT_HIGH : Fld := ⟨0x4010002C, 16, 16, 0⟩
def MRC_VERCNT_LOW : Fld := ⟨0x4010002C, 0, 16, 0⟩

/-! EVR.CTRL (R509, `17_mram_recorder_and_dump.md`). -/
def EVR_CTRL_EN : Fld := ⟨0x400F0000, 1, 1, 0x1⟩
def EVR_CTRL_LOCK : Fld := ⟨0x400F0000, 0, 1, 0⟩

/-! EVR.STATUS (R509, `17_mram_recorder_and_dump.md`). -/
def EVR_STATUS_QLEVEL : Fld := ⟨0x400F0004, 16, 7, 0⟩
def EVR_STATUS_FRONTFULL : Fld := ⟨0x400F0004, 3, 1, 0⟩
def EVR_STATUS_LOSS : Fld := ⟨0x400F0004, 2, 1, 0⟩
def EVR_STATUS_STOPPED : Fld := ⟨0x400F0004, 1, 1, 0⟩
def EVR_STATUS_RUN : Fld := ⟨0x400F0004, 0, 1, 0⟩

/-! EVR.NEWEST (R509, `17_mram_recorder_and_dump.md`). -/
def EVR_NEWEST_SEQ : Fld := ⟨0x400F0008, 0, 32, 0xFFFFFFFF⟩

/-! EVR.WSLOT (R509, `17_mram_recorder_and_dump.md`). -/
def EVR_WSLOT_SLOT : Fld := ⟨0x400F000C, 0, 13, 0⟩

/-! EVR.LOST (R509, `17_mram_recorder_and_dump.md`). -/
def EVR_LOST_COUNT : Fld := ⟨0x400F0010, 0, 32, 0⟩

/-! EVR.BADLINES (R509, `17_mram_recorder_and_dump.md`). -/
def EVR_BADLINES_COUNT : Fld := ⟨0x400F0014, 0, 13, 0⟩

/-! CKU.CTRL (R510, `17_mram_recorder_and_dump.md`). -/
def CKU_CTRL_GO (n : Nat) : Fld := ⟨0x40110000 + 0x10000 * n, 31, 1, 0⟩
def CKU_CTRL_INIT (n : Nat) : Fld := ⟨0x40110000 + 0x10000 * n, 30, 1, 0⟩
def CKU_CTRL_BYTES (n : Nat) : Fld := ⟨0x40110000 + 0x10000 * n, 8, 2, 0x3⟩
def CKU_CTRL_REFOUT (n : Nat) : Fld := ⟨0x40110000 + 0x10000 * n, 2, 1, 0⟩
def CKU_CTRL_REFIN (n : Nat) : Fld := ⟨0x40110000 + 0x10000 * n, 1, 1, 0⟩

/-! CKU.WIDTH (R510, `17_mram_recorder_and_dump.md`). -/
def CKU_WIDTH_WIDTH (n : Nat) : Fld := ⟨0x40110004 + 0x10000 * n, 0, 7, 0x20⟩

/-! CKU.POLY_LO (R510, `17_mram_recorder_and_dump.md`). -/
def CKU_POLY_LO_VALUE (n : Nat) : Fld := ⟨0x40110008 + 0x10000 * n, 0, 32, 0⟩

/-! CKU.POLY_HI (R510, `17_mram_recorder_and_dump.md`). -/
def CKU_POLY_HI_VALUE (n : Nat) : Fld := ⟨0x4011000C + 0x10000 * n, 0, 32, 0⟩

/-! CKU.INIT_LO (R510, `17_mram_recorder_and_dump.md`). -/
def CKU_INIT_LO_VALUE (n : Nat) : Fld := ⟨0x40110010 + 0x10000 * n, 0, 32, 0⟩

/-! CKU.INIT_HI (R510, `17_mram_recorder_and_dump.md`). -/
def CKU_INIT_HI_VALUE (n : Nat) : Fld := ⟨0x40110014 + 0x10000 * n, 0, 32, 0⟩

/-! CKU.XOROUT_LO (R510, `17_mram_recorder_and_dump.md`). -/
def CKU_XOROUT_LO_VALUE (n : Nat) : Fld := ⟨0x40110018 + 0x10000 * n, 0, 32, 0⟩

/-! CKU.XOROUT_HI (R510, `17_mram_recorder_and_dump.md`). -/
def CKU_XOROUT_HI_VALUE (n : Nat) : Fld := ⟨0x4011001C + 0x10000 * n, 0, 32, 0⟩

/-! CKU.ADDR (R510, `17_mram_recorder_and_dump.md`). -/
def CKU_ADDR_VALUE (n : Nat) : Fld := ⟨0x40110020 + 0x10000 * n, 0, 32, 0⟩

/-! CKU.LEN (R510, `17_mram_recorder_and_dump.md`). -/
def CKU_LEN_VALUE (n : Nat) : Fld := ⟨0x40110024 + 0x10000 * n, 0, 32, 0⟩

/-! CKU.DATA (R510, `17_mram_recorder_and_dump.md`). -/
def CKU_DATA_VALUE (n : Nat) : Fld := ⟨0x40110028 + 0x10000 * n, 0, 32, 0⟩

/-! CKU.RESULT_LO (R510, `17_mram_recorder_and_dump.md`). -/
def CKU_RESULT_LO_VALUE (n : Nat) : Fld := ⟨0x4011002C + 0x10000 * n, 0, 32, 0⟩

/-! CKU.RESULT_HI (R510, `17_mram_recorder_and_dump.md`). -/
def CKU_RESULT_HI_VALUE (n : Nat) : Fld := ⟨0x40110030 + 0x10000 * n, 0, 32, 0⟩

/-! CKU.STATUS (R510, `17_mram_recorder_and_dump.md`). -/
def CKU_STATUS_CAUSE (n : Nat) : Fld := ⟨0x40110034 + 0x10000 * n, 2, 2, 0⟩
def CKU_STATUS_ERR (n : Nat) : Fld := ⟨0x40110034 + 0x10000 * n, 1, 1, 0⟩
def CKU_STATUS_BUSY (n : Nat) : Fld := ⟨0x40110034 + 0x10000 * n, 0, 1, 0⟩

/-! CKU.ERRADDR (R510, `17_mram_recorder_and_dump.md`). -/
def CKU_ERRADDR_ADDR (n : Nat) : Fld := ⟨0x40110038 + 0x10000 * n, 0, 32, 0⟩

/-! PTN.CTRL (R532, `18_redundant_pair.md`). -/
def PTN_CTRL_EN : Fld := ⟨0x40140000, 1, 1, 0⟩
def PTN_CTRL_LOCK : Fld := ⟨0x40140000, 0, 1, 0⟩

/-! PTN.STATUS (R532, `18_redundant_pair.md`). -/
def PTN_STATUS_PSTEP : Fld := ⟨0x40140004, 12, 3, 0⟩
def PTN_STATUS_PSTATE : Fld := ⟨0x40140004, 8, 4, 0⟩
def PTN_STATUS_DIVERGE : Fld := ⟨0x40140004, 7, 1, 0⟩
def PTN_STATUS_READY : Fld := ⟨0x40140004, 6, 1, 0⟩
def PTN_STATUS_HEALTHY : Fld := ⟨0x40140004, 5, 1, 0⟩
def PTN_STATUS_LANE65 : Fld := ⟨0x40140004, 4, 1, 0⟩
def PTN_STATUS_LANE64 : Fld := ⟨0x40140004, 3, 1, 0⟩
def PTN_STATUS_LINK : Fld := ⟨0x40140004, 2, 1, 0⟩
def PTN_STATUS_ROLE : Fld := ⟨0x40140004, 0, 2, 0⟩

/-! PTN.SKEW (R532, `18_redundant_pair.md`). -/
def PTN_SKEW_SKEW : Fld := ⟨0x40140008, 0, 32, 0⟩

/-! PTN.LAT (R532, `18_redundant_pair.md`). -/
def PTN_LAT_NS : Fld := ⟨0x4014000C, 0, 16, 0⟩

/-! PTN.LIMIT (R532, `18_redundant_pair.md`). -/
def PTN_LIMIT_XMISLIM : Fld := ⟨0x40140010, 24, 8, 0x3⟩
def PTN_LIMIT_SKEWFR : Fld := ⟨0x40140010, 16, 8, 0x8⟩
def PTN_LIMIT_SKEWMAX : Fld := ⟨0x40140010, 0, 16, 0x3E8⟩

/-! PTN.DIGCNT (R532, `18_redundant_pair.md`). -/
def PTN_DIGCNT_COUNT : Fld := ⟨0x40140014, 0, 32, 0⟩

/-! PTN.DIVCNT (R532, `18_redundant_pair.md`). -/
def PTN_DIVCNT_DIVERGENT : Fld := ⟨0x40140018, 16, 16, 0⟩
def PTN_DIVCNT_HANDOVERS : Fld := ⟨0x40140018, 0, 16, 0⟩

/-! PTN.PORTMAP_LO (R532, `18_redundant_pair.md`). -/
def PTN_PORTMAP_LO_MAP : Fld := ⟨0x40140020, 0, 32, 0⟩

/-! PTN.PORTMAP_HI (R532, `18_redundant_pair.md`). -/
def PTN_PORTMAP_HI_MAP : Fld := ⟨0x40140024, 0, 32, 0⟩

/-! PTN.AUTHERR (R532, `18_redundant_pair.md`). -/
def PTN_AUTHERR_COUNT : Fld := ⟨0x40140028, 0, 32, 0⟩

/-! TMX.SEL0 (R551, `19_package_pins_electrical.md`). -/
def TMX_SEL0_EN : Fld := ⟨0x40150000, 31, 1, 0⟩
def TMX_SEL0_SIGNAL : Fld := ⟨0x40150000, 0, 6, 0⟩

/-! TMX.SEL1 (R551, `19_package_pins_electrical.md`). -/
def TMX_SEL1_EN : Fld := ⟨0x40150004, 31, 1, 0⟩
def TMX_SEL1_SIGNAL : Fld := ⟨0x40150004, 0, 6, 0⟩

/-! TMX.STATUS (R551, `19_package_pins_electrical.md`). -/
def TMX_STATUS_DENIED : Fld := ⟨0x40150008, 1, 1, 0⟩
def TMX_STATUS_FULL : Fld := ⟨0x40150008, 0, 1, 0⟩

end Reg

/-- The registers of RAS. -/
def regRowsRAS0 : List RegRow :=
  [⟨"RAS.CTRL", 0x40040000, 1, 0x0, fun _ =>
     [(Reg.RAS_CTRL_VIEW, .rw), (Reg.RAS_CTRL_RUN, .ro)]⟩,
   ⟨"RAS.STATUS", 0x40040004, 1, 0x0, fun _ =>
     [(Reg.RAS_STATUS_SEAM_ACT, .ro), (Reg.RAS_STATUS_TSV1, .ro), (Reg.RAS_STATUS_TSV0, .ro), (Reg.RAS_STATUS_LOCKST, .ro), (Reg.RAS_STATUS_ABORT_LAST, .ro), (Reg.RAS_STATUS_SEAM_LAST, .ro), (Reg.RAS_STATUS_SEAM_WAIT, .ro), (Reg.RAS_STATUS_PENDING, .ro), (Reg.RAS_STATUS_REFCAUSE, .ro), (Reg.RAS_STATUS_REFUSED, .w1c), (Reg.RAS_STATUS_LATE, .w1c)]⟩,
   ⟨"RAS.COMMIT", 0x40040008, 1, 0x0, fun _ =>
     [(Reg.RAS_COMMIT_CANCEL, .w1s), (Reg.RAS_COMMIT_GO, .w1s)]⟩,
   ⟨"RAS.COMMIT_FCNT", 0x4004000C, 1, 0x0, fun _ =>
     [(Reg.RAS_COMMIT_FCNT_FCNT, .ro)]⟩,
   ⟨"RAS.POS", 0x40040010, 1, 0x0, fun _ =>
     [(Reg.RAS_POS_OFFSET, .ro), (Reg.RAS_POS_LINE, .ro)]⟩,
   ⟨"RAS.FCNT", 0x40040014, 1, 0x0, fun _ =>
     [(Reg.RAS_FCNT_FCNT, .ro)]⟩,
   ⟨"RAS.FLIPTS0_S", 0x40040018, 1, 0x0, fun _ =>
     [(Reg.RAS_FLIPTS0_S_SEC, .ro)]⟩,
   ⟨"RAS.FLIPTS1_S", 0x40040020, 1, 0x0, fun _ =>
     [(Reg.RAS_FLIPTS1_S_SEC, .ro)]⟩,
   ⟨"RAS.FLIPTS0_NS", 0x4004001C, 1, 0x0, fun _ =>
     [(Reg.RAS_FLIPTS0_NS_NSEC, .ro)]⟩,
   ⟨"RAS.FLIPTS1_NS", 0x40040024, 1, 0x0, fun _ =>
     [(Reg.RAS_FLIPTS1_NS_NSEC, .ro)]⟩,
   ⟨"RAS.FLIPRAW_LO", 0x40040028, 1, 0x0, fun _ =>
     [(Reg.RAS_FLIPRAW_LO_RAW, .ro)]⟩,
   ⟨"RAS.FLIPRAW_HI", 0x4004002C, 1, 0x0, fun _ =>
     [(Reg.RAS_FLIPRAW_HI_RAW, .ro)]⟩,
   ⟨"RAS.PHASE", 0x40040030, 1, 0x0, fun _ =>
     [(Reg.RAS_PHASE_PHASE_NS, .rw)]⟩,
   ⟨"RAS.ERR", 0x40040034, 1, 0x0, fun _ =>
     [(Reg.RAS_ERR_ERR, .ro)]⟩,
   ⟨"RAS.SEAM_FCNT", 0x40040038, 1, 0x0, fun _ =>
     [(Reg.RAS_SEAM_FCNT_FCNT, .ro)]⟩,
   ⟨"RAS.SH_TIMING", 0x40040040, 1, 0x0, fun _ =>
     [(Reg.RAS_SH_TIMING_PBLANK, .rw), (Reg.RAS_SH_TIMING_PHLEN, .rw), (Reg.RAS_SH_TIMING_MODE, .rw)]⟩]

/-- The registers of RAS. -/
def regRowsRAS1 : List RegRow :=
  [⟨"RAS.SH_BASEADDR", 0x40040044, 1, 0x0, fun _ =>
     [(Reg.RAS_SH_BASEADDR_ADDR, .rw), (Reg.RAS_SH_BASEADDR_DIRECT, .rw)]⟩,
   ⟨"RAS.SH_MESH", 0x40040048, 1, 0x0, fun _ =>
     [(Reg.RAS_SH_MESH_MESH, .rw)]⟩,
   ⟨"RAS.SH_TIPIN", 0x4004004C, 1, 0x0, fun _ =>
     [(Reg.RAS_SH_TIPIN_TIPIN, .rw)]⟩,
   ⟨"RAS.SH_ENVSCALE", 0x40040050, 1, 0x0, fun _ =>
     [(Reg.RAS_SH_ENVSCALE_SCALE, .rw)]⟩,
   ⟨"RAS.EVT", 0x40040060, 4, 0x4, fun n =>
     [(Reg.RAS_EVT_EN n, .rw), (Reg.RAS_EVT_ONCE n, .rw), (Reg.RAS_EVT_OFFSET n, .rw), (Reg.RAS_EVT_LINE n, .rw)]⟩]

/-- The registers of GTE and GTW. -/
def regRowsGTX : List RegRow :=
  [⟨"GTx.STATUS", 0x40050000, 2, 0x10000, fun n =>
     [(Reg.GTX_STATUS_LINE n, .ro), (Reg.GTX_STATUS_ECCU n, .w1c), (Reg.GTX_STATUS_LATE n, .w1c), (Reg.GTX_STATUS_RUN n, .ro)]⟩,
   ⟨"GTx.LOAD", 0x40050004, 2, 0x10000, fun n =>
     [(Reg.GTX_LOAD_BACKLOG n, .ro), (Reg.GTX_LOAD_MAXCLK n, .ro)]⟩,
   ⟨"GTx.ECCCNT", 0x40050008, 2, 0x10000, fun n =>
     [(Reg.GTX_ECCCNT_UNCORR n, .rw), (Reg.GTX_ECCCNT_CORR n, .rw)]⟩]

/-- The registers of GTE. -/
def regRowsGTE0 : List RegRow :=
  [⟨"GTE.CTRL", 0x40050100, 1, 0x0, fun _ =>
     [(Reg.GTE_CTRL_LOCK, .w1s)]⟩,
   ⟨"GTE.STALE", 0x40050104, 1, 0x0, fun _ =>
     [(Reg.GTE_STALE_LOST_MS, .rwl), (Reg.GTE_STALE_STALE_MS, .rwl)]⟩,
   ⟨"GTE.ROWDEG", 0x40050108, 1, 0x0, fun _ =>
     [(Reg.GTE_ROWDEG_ROWDEG, .rwl)]⟩,
   ⟨"GTE.SID_LO", 0x40050110, 4, 0x8, fun n =>
     [(Reg.GTE_SID_LO_SID n, .rwl)]⟩,
   ⟨"GTE.SID_HI", 0x40050114, 4, 0x8, fun n =>
     [(Reg.GTE_SID_HI_SID n, .rwl)]⟩,
   ⟨"GTE.SCFG", 0x40050130, 4, 0x4, fun n =>
     [(Reg.GTE_SCFG_EN n, .rwl), (Reg.GTE_SCFG_FMT n, .rwl), (Reg.GTE_SCFG_WM1 n, .rwl), (Reg.GTE_SCFG_HM1 n, .rwl)]⟩,
   ⟨"GTE.SSTAT", 0x40050140, 4, 0x4, fun n =>
     [(Reg.GTE_SSTAT_DROP n, .rw), (Reg.GTE_SSTAT_SKIP n, .rw), (Reg.GTE_SSTAT_LATE n, .rw), (Reg.GTE_SSTAT_DISC n, .rw)]⟩,
   ⟨"GTE.SEL", 0x40050150, 1, 0x0, fun _ =>
     [(Reg.GTE_SEL_DEFAULT, .ro), (Reg.GTE_SEL_DIRECT, .ro), (Reg.GTE_SEL_STREAM, .ro), (Reg.GTE_SEL_BUF, .ro)]⟩,
   ⟨"GTE.SEL_PT", 0x40050154, 1, 0x0, fun _ =>
     [(Reg.GTE_SEL_PT_PT, .ro)]⟩,
   ⟨"GTE.BASE_AGE", 0x40050158, 1, 0x0, fun _ =>
     [(Reg.GTE_BASE_AGE_AGE, .ro)]⟩,
   ⟨"GTE.FLUXCAP", 0x40050160, 1, 0x0, fun _ =>
     [(Reg.GTE_FLUXCAP_CAP, .ro)]⟩,
   ⟨"GTE.FLUXK", 0x40050164, 1, 0x0, fun _ =>
     [(Reg.GTE_FLUXK_KF, .ro)]⟩,
   ⟨"GTE.FLUXSUM", 0x40050168, 1, 0x0, fun _ =>
     [(Reg.GTE_FLUXSUM_SUM, .ro)]⟩,
   ⟨"GTE.FLUXOVR", 0x4005016C, 1, 0x0, fun _ =>
     [(Reg.GTE_FLUXOVR_COUNT, .rw)]⟩,
   ⟨"GTE.LEVEL", 0x40050170, 1, 0x0, fun _ =>
     [(Reg.GTE_LEVEL_DELTA, .ro)]⟩,
   ⟨"GTE.ENVSET", 0x40050174, 1, 0x0, fun _ =>
     [(Reg.GTE_ENVSET_SET, .ro)]⟩]

/-- The registers of GTE. -/
def regRowsGTE1 : List RegRow :=
  [⟨"GTE.TILESEL", 0x40050178, 1, 0x0, fun _ =>
     [(Reg.GTE_TILESEL_LANE, .rw)]⟩,
   ⟨"GTE.TILEVIEW", 0x4005017C, 1, 0x0, fun _ =>
     [(Reg.GTE_TILEVIEW_KT, .ro), (Reg.GTE_TILEVIEW_DT, .ro)]⟩,
   ⟨"GTE.ABORTCNT", 0x40050180, 1, 0x0, fun _ =>
     [(Reg.GTE_ABORTCNT_COUNT, .ro)]⟩,
   ⟨"GTE.PL_CTRL", 0x40050200, 8, 0x10, fun n =>
     [(Reg.GTE_PL_CTRL_EN n, .rw), (Reg.GTE_PL_CTRL_MODE n, .rw), (Reg.GTE_PL_CTRL_WM1 n, .rw), (Reg.GTE_PL_CTRL_HM1 n, .rw)]⟩,
   ⟨"GTE.PL_POS", 0x40050204, 8, 0x10, fun n =>
     [(Reg.GTE_PL_POS_Y n, .rw), (Reg.GTE_PL_POS_X n, .rw)]⟩,
   ⟨"GTE.PL_XFORM", 0x40050208, 8, 0x10, fun n =>
     [(Reg.GTE_PL_XFORM_ANGLE n, .rw), (Reg.GTE_PL_XFORM_SCALE n, .rw)]⟩,
   ⟨"GTE.PL_INT", 0x4005020C, 8, 0x10, fun n =>
     [(Reg.GTE_PL_INT_CAP n, .rw), (Reg.GTE_PL_INT_IG n, .rw)]⟩]

/-- The registers of ZNE. -/
def regRowsZNE0 : List RegRow :=
  [⟨"ZNE.CTRL", 0x40070000, 1, 0x0, fun _ =>
     [(Reg.ZNE_CTRL_SPEC_ALLOW, .rwl), (Reg.ZNE_CTRL_LOCK, .w1s)]⟩,
   ⟨"ZNE.STATUS", 0x40070004, 1, 0x0, fun _ =>
     [(Reg.ZNE_STATUS_NZONES, .ro), (Reg.ZNE_STATUS_MEMERR, .w1c), (Reg.ZNE_STATUS_RATE, .w1c), (Reg.ZNE_STATUS_LVL_STALE, .ro), (Reg.ZNE_STATUS_STALE, .ro), (Reg.ZNE_STATUS_SPEC_ACT, .ro), (Reg.ZNE_STATUS_PUB_BUSY, .ro)]⟩,
   ⟨"ZNE.SETVER", 0x40070008, 1, 0x0, fun _ =>
     [(Reg.ZNE_SETVER_VER, .ro)]⟩,
   ⟨"ZNE.PUBLISH", 0x4007000C, 1, 0x0, fun _ =>
     [(Reg.ZNE_PUBLISH_ATLINE, .wo), (Reg.ZNE_PUBLISH_LINE, .wo), (Reg.ZNE_PUBLISH_COUNT, .wo)]⟩,
   ⟨"ZNE.LAT", 0x40070010, 1, 0x0, fun _ =>
     [(Reg.ZNE_LAT_MAX, .rw), (Reg.ZNE_LAT_LAST, .ro)]⟩,
   ⟨"ZNE.SPEC", 0x40070020, 1, 0x0, fun _ =>
     [(Reg.ZNE_SPEC_EN, .rw), (Reg.ZNE_SPEC_HORIZON, .rw), (Reg.ZNE_SPEC_K, .rw), (Reg.ZNE_SPEC_M0, .rw)]⟩,
   ⟨"ZNE.RELEASE", 0x40070024, 1, 0x0, fun _ =>
     [(Reg.ZNE_RELEASE_RAMP_MS, .rw)]⟩,
   ⟨"ZNE.GMARGIN", 0x40070028, 1, 0x0, fun _ =>
     [(Reg.ZNE_GMARGIN_GMARGIN, .rw)]⟩,
   ⟨"ZNE.LVL", 0x40070030, 1, 0x0, fun _ =>
     [(Reg.ZNE_LVL_STALE_MS, .rwl), (Reg.ZNE_LVL_START_D16, .rwl)]⟩,
   ⟨"ZNE.LVLSTAT", 0x40070034, 1, 0x0, fun _ =>
     [(Reg.ZNE_LVLSTAT_DP, .ro), (Reg.ZNE_LVLSTAT_DC, .ro)]⟩,
   ⟨"ZNE.PITCH", 0x40070038, 1, 0x0, fun _ =>
     [(Reg.ZNE_PITCH_RATE, .ro), (Reg.ZNE_PITCH_ANGLE, .ro)]⟩,
   ⟨"ZNE.ACTIVE_LO", 0x40070040, 1, 0x0, fun _ =>
     [(Reg.ZNE_ACTIVE_LO_MAP, .ro)]⟩,
   ⟨"ZNE.STALEMAP_LO", 0x40070048, 1, 0x0, fun _ =>
     [(Reg.ZNE_STALEMAP_LO_MAP, .ro)]⟩,
   ⟨"ZNE.PROTMAP_LO", 0x40070050, 1, 0x0, fun _ =>
     [(Reg.ZNE_PROTMAP_LO_MAP, .ro)]⟩,
   ⟨"ZNE.ACTIVE_HI", 0x40070044, 1, 0x0, fun _ =>
     [(Reg.ZNE_ACTIVE_HI_MAP, .ro)]⟩,
   ⟨"ZNE.STALEMAP_HI", 0x4007004C, 1, 0x0, fun _ =>
     [(Reg.ZNE_STALEMAP_HI_MAP, .ro)]⟩]

/-- The registers of ZNE. -/
def regRowsZNE1 : List RegRow :=
  [⟨"ZNE.PROTMAP_HI", 0x40070054, 1, 0x0, fun _ =>
     [(Reg.ZNE_PROTMAP_HI_MAP, .ro)]⟩,
   ⟨"ZNE.DROPCNT", 0x40070058, 1, 0x0, fun _ =>
     [(Reg.ZNE_DROPCNT_LVLDROP, .rw), (Reg.ZNE_DROPCNT_ZDROP, .rw)]⟩,
   ⟨"ZNE.RATECNT", 0x4007005C, 1, 0x0, fun _ =>
     [(Reg.ZNE_RATECNT_COUNT, .rw)]⟩,
   ⟨"ZNE.ECCCNT", 0x40070060, 1, 0x0, fun _ =>
     [(Reg.ZNE_ECCCNT_UNCORR, .rw), (Reg.ZNE_ECCCNT_CORR, .rw)]⟩,
   ⟨"ZNE.ZSEL", 0x40070070, 1, 0x0, fun _ =>
     [(Reg.ZNE_ZSEL_ZID, .rw)]⟩,
   ⟨"ZNE.ZVIEW0", 0x40070074, 1, 0x0, fun _ =>
     [(Reg.ZNE_ZVIEW0_POS, .ro)]⟩,
   ⟨"ZNE.ZVIEW1", 0x40070078, 1, 0x0, fun _ =>
     [(Reg.ZNE_ZVIEW1_POS, .ro)]⟩,
   ⟨"ZNE.ZVIEW2", 0x4007007C, 1, 0x0, fun _ =>
     [(Reg.ZNE_ZVIEW2_MARGIN, .ro), (Reg.ZNE_ZVIEW2_AGE, .ro)]⟩]

/-- The registers of COR. -/
def regRowsCOR0 : List RegRow :=
  [⟨"COR.CTRL", 0x40080000, 1, 0x0, fun _ =>
     [(Reg.COR_CTRL_WEAR_EN, .rwl), (Reg.COR_CTRL_FILL_EN, .rwl), (Reg.COR_CTRL_LOCK, .w1s)]⟩,
   ⟨"COR.STATUS", 0x40080004, 1, 0x0, fun _ =>
     [(Reg.COR_STATUS_UNCAL, .ro), (Reg.COR_STATUS_WEAR_BUSY, .ro), (Reg.COR_STATUS_UPD_PEND, .ro), (Reg.COR_STATUS_UPD_MISS, .w1c), (Reg.COR_STATUS_UPD_OVF, .w1c), (Reg.COR_STATUS_TEMPHOLD, .ro), (Reg.COR_STATUS_ECCU, .w1c)]⟩,
   ⟨"COR.LIMIT", 0x40080008, 1, 0x0, fun _ =>
     [(Reg.COR_LIMIT_KMAX, .rwl)]⟩,
   ⟨"COR.FILL", 0x4008000C, 1, 0x0, fun _ =>
     [(Reg.COR_FILL_GAIN, .rwl)]⟩,
   ⟨"COR.UPD_IDX", 0x40080010, 1, 0x0, fun _ =>
     [(Reg.COR_UPD_IDX_REPAIR, .rw), (Reg.COR_UPD_IDX_IDX, .rw)]⟩,
   ⟨"COR.UPD_DATA", 0x40080014, 1, 0x0, fun _ =>
     [(Reg.COR_UPD_DATA_DATA, .wo)]⟩,
   ⟨"COR.UPD_AT", 0x40080018, 1, 0x0, fun _ =>
     [(Reg.COR_UPD_AT_FCNT, .rw)]⟩,
   ⟨"COR.UPD_CTRL", 0x4008001C, 1, 0x0, fun _ =>
     [(Reg.COR_UPD_CTRL_AT_EN, .rw)]⟩,
   ⟨"COR.UPDSTAT", 0x40080020, 1, 0x0, fun _ =>
     [(Reg.COR_UPDSTAT_APPLIED, .ro), (Reg.COR_UPDSTAT_LEVEL, .ro)]⟩,
   ⟨"COR.WEAR", 0x40080024, 1, 0x0, fun _ =>
     [(Reg.COR_WEAR_LASTSEC, .ro)]⟩,
   ⟨"COR.WEARCNT", 0x40080028, 1, 0x0, fun _ =>
     [(Reg.COR_WEARCNT_SAT, .rw), (Reg.COR_WEARCNT_DEFER, .rw), (Reg.COR_WEARCNT_PASSES, .ro)]⟩,
   ⟨"COR.ECCCNT", 0x40080030, 1, 0x0, fun _ =>
     [(Reg.COR_ECCCNT_UNCORR, .rw), (Reg.COR_ECCCNT_CORR, .rw)]⟩,
   ⟨"COR.ECCADDR", 0x40080034, 1, 0x0, fun _ =>
     [(Reg.COR_ECCADDR_IDX, .ro)]⟩,
   ⟨"COR.FILLSTAT", 0x40080038, 1, 0x0, fun _ =>
     [(Reg.COR_FILLSTAT_UNFILLED, .ro), (Reg.COR_FILLSTAT_DEAD, .ro)]⟩,
   ⟨"COR.GATE_CAP", 0x40080040, 1, 0x0, fun _ =>
     [(Reg.COR_GATE_CAP_SLCAP, .rwl), (Reg.COR_GATE_CAP_LITCAP, .rwl)]⟩,
   ⟨"COR.GATE_SLROW", 0x40080044, 1, 0x0, fun _ =>
     [(Reg.COR_GATE_SLROW_RISE, .rwl), (Reg.COR_GATE_SLROW_ROWLIM, .rwl)]⟩]

/-- The registers of COR. -/
def regRowsCOR1 : List RegRow :=
  [⟨"COR.GATE_BUDGET", 0x40080048, 1, 0x0, fun _ =>
     [(Reg.COR_GATE_BUDGET_TILEMEAN, .rwl), (Reg.COR_GATE_BUDGET_FLUX, .rwl)]⟩,
   ⟨"COR.GATE_STATUS", 0x4008004C, 1, 0x0, fun _ =>
     [(Reg.COR_GATE_STATUS_G16, .ro), (Reg.COR_GATE_STATUS_SLIP, .ro)]⟩,
   ⟨"COR.GATE_CLIP", 0x40080050, 1, 0x0, fun _ =>
     [(Reg.COR_GATE_CLIP_CLIPB, .rw), (Reg.COR_GATE_CLIP_CLIPC, .rw)]⟩,
   ⟨"COR.GATE_FDARK_LO", 0x40080054, 1, 0x0, fun _ =>
     [(Reg.COR_GATE_FDARK_LO_MAP, .ro)]⟩,
   ⟨"COR.GATE_FDARK_HI", 0x40080058, 1, 0x0, fun _ =>
     [(Reg.COR_GATE_FDARK_HI_MAP, .ro)]⟩]

/-- The registers of TLK. -/
def regRowsTLK : List RegRow :=
  [⟨"TLK.CTRL", 0x400A0000, 1, 0x0, fun _ =>
     [(Reg.TLK_CTRL_PLL_EN, .rw), (Reg.TLK_CTRL_LOCK, .w1s)]⟩,
   ⟨"TLK.STATUS", 0x400A0004, 1, 0x0, fun _ =>
     [(Reg.TLK_STATUS_PLL_LOST, .w1c), (Reg.TLK_STATUS_PLL_LOCK, .ro)]⟩,
   ⟨"TLK.FLIGHTMAX", 0x400A0008, 1, 0x0, fun _ =>
     [(Reg.TLK_FLIGHTMAX_FMAX, .ro)]⟩,
   ⟨"TLK.ERRLIM", 0x400A000C, 1, 0x0, fun _ =>
     [(Reg.TLK_ERRLIM_LIMIT, .rwl)]⟩,
   ⟨"TLK.UPMAP_LO", 0x400A0010, 1, 0x0, fun _ =>
     [(Reg.TLK_UPMAP_LO_MAP, .ro)]⟩,
   ⟨"TLK.UPMAP_HI", 0x400A0014, 1, 0x0, fun _ =>
     [(Reg.TLK_UPMAP_HI_MAP, .ro)]⟩,
   ⟨"TLK.SYNCMAP_LO", 0x400A0018, 1, 0x0, fun _ =>
     [(Reg.TLK_SYNCMAP_LO_MAP, .ro)]⟩,
   ⟨"TLK.SYNCMAP_HI", 0x400A001C, 1, 0x0, fun _ =>
     [(Reg.TLK_SYNCMAP_HI_MAP, .ro)]⟩,
   ⟨"TLK.LN_CTRL", 0x400A0100, 66, 0x20, fun n =>
     [(Reg.TLK_LN_CTRL_PRBS n, .rw), (Reg.TLK_LN_CTRL_LB n, .rw), (Reg.TLK_LN_CTRL_TRAIN n, .w1s), (Reg.TLK_LN_CTRL_SLIP n, .w1s), (Reg.TLK_LN_CTRL_AUTOALIGN n, .rw), (Reg.TLK_LN_CTRL_RX_ON n, .rw), (Reg.TLK_LN_CTRL_TX_ON n, .rw)]⟩,
   ⟨"TLK.LN_EQ", 0x400A0104, 66, 0x20, fun n =>
     [(Reg.TLK_LN_EQ_CTLE n, .rwl), (Reg.TLK_LN_EQ_RXPOL n, .rwl), (Reg.TLK_LN_EQ_TXPOL n, .rwl), (Reg.TLK_LN_EQ_DEEMPH n, .rwl), (Reg.TLK_LN_EQ_SWING n, .rwl)]⟩,
   ⟨"TLK.LN_FLIGHT", 0x400A0108, 66, 0x20, fun n =>
     [(Reg.TLK_LN_FLIGHT_EN n, .rwl), (Reg.TLK_LN_FLIGHT_DELAY n, .ro), (Reg.TLK_LN_FLIGHT_FLIGHT n, .rwl)]⟩,
   ⟨"TLK.LN_STATUS", 0x400A010C, 66, 0x20, fun n =>
     [(Reg.TLK_LN_STATUS_INSERV n, .ro), (Reg.TLK_LN_STATUS_SIGDET n, .ro), (Reg.TLK_LN_STATUS_LINK n, .ro), (Reg.TLK_LN_STATUS_RXST n, .ro), (Reg.TLK_LN_STATUS_TXST n, .ro), (Reg.TLK_LN_STATUS_FELB n, .ro)]⟩,
   ⟨"TLK.LN_ERR", 0x400A0110, 66, 0x20, fun n =>
     [(Reg.TLK_LN_ERR_DISP n, .rw), (Reg.TLK_LN_ERR_CV n, .rw)]⟩,
   ⟨"TLK.LN_LOSS", 0x400A0114, 66, 0x20, fun n =>
     [(Reg.TLK_LN_LOSS_TRAINS n, .ro), (Reg.TLK_LN_LOSS_SYNCLOSS n, .rw)]⟩,
   ⟨"TLK.LN_PRBS", 0x400A0118, 66, 0x20, fun n =>
     [(Reg.TLK_LN_PRBS_ERRBITS n, .rw)]⟩,
   ⟨"TLK.LN_ID", 0x400A011C, 66, 0x20, fun n =>
     [(Reg.TLK_LN_ID_REV n, .ro), (Reg.TLK_LN_ID_LANE n, .ro), (Reg.TLK_LN_ID_TYPE n, .ro)]⟩]

/-- The registers of TPR. -/
def regRowsTPR : List RegRow :=
  [⟨"TPR.CTRL", 0x400B0000, 1, 0x0, fun _ =>
     [(Reg.TPR_CTRL_AUTORES, .rwl), (Reg.TPR_CTRL_EN, .rw), (Reg.TPR_CTRL_LOCK, .w1s)]⟩,
   ⟨"TPR.CFG", 0x400B0004, 1, 0x0, fun _ =>
     [(Reg.TPR_CFG_COASTLIM, .rwl), (Reg.TPR_CFG_AUTOMAX, .rwl)]⟩,
   ⟨"TPR.BCAST", 0x400B0008, 1, 0x0, fun _ =>
     [(Reg.TPR_BCAST_CAUSE, .wo), (Reg.TPR_BCAST_OP, .wo), (Reg.TPR_BCAST_ALL, .wo), (Reg.TPR_BCAST_LANE, .wo)]⟩,
   ⟨"TPR.SNAP", 0x400B000C, 1, 0x0, fun _ =>
     [(Reg.TPR_SNAP_DONE, .ro), (Reg.TPR_SNAP_REQ, .w1s), (Reg.TPR_SNAP_ID, .rw)]⟩,
   ⟨"TPR.TSTATE", 0x400B0010, 4, 0x4, fun n =>
     [(Reg.TPR_TSTATE_STATE n, .ro)]⟩,
   ⟨"TPR.CMDQ", 0x400B0020, 1, 0x0, fun _ =>
     [(Reg.TPR_CMDQ_PUSH, .w1s), (Reg.TPR_CMDQ_ALL, .rw), (Reg.TPR_CMDQ_LANE, .rw), (Reg.TPR_CMDQ_OPC, .rw), (Reg.TPR_CMDQ_LEN, .rw)]⟩,
   ⟨"TPR.CMDQSTAT", 0x400B0024, 1, 0x0, fun _ =>
     [(Reg.TPR_CMDQSTAT_NAKS, .rw), (Reg.TPR_CMDQSTAT_LEVEL, .ro)]⟩,
   ⟨"TPR.DARKROW", 0x400B0028, 1, 0x0, fun _ =>
     [(Reg.TPR_DARKROW_GO, .rw), (Reg.TPR_DARKROW_ACK, .ro), (Reg.TPR_DARKROW_LANE, .rw), (Reg.TPR_DARKROW_PHASE, .rw), (Reg.TPR_DARKROW_ROW, .rw)]⟩,
   ⟨"TPR.TL_STATUS", 0x400B0100, 64, 0x20, fun n =>
     [(Reg.TPR_TL_STATUS_INSERV n, .rw), (Reg.TPR_TL_STATUS_TELEM n, .ro), (Reg.TPR_TL_STATUS_PLATEV n, .ro), (Reg.TPR_TL_STATUS_REFSEL n, .ro), (Reg.TPR_TL_STATUS_PORT n, .ro), (Reg.TPR_TL_STATUS_CAUSE n, .ro), (Reg.TPR_TL_STATUS_STATE n, .ro)]⟩,
   ⟨"TPR.TL_SEQ", 0x400B0104, 64, 0x20, fun n =>
     [(Reg.TPR_TL_SEQ_VALUE n, .ro)]⟩,
   ⟨"TPR.TL_SIG", 0x400B0108, 64, 0x20, fun n =>
     [(Reg.TPR_TL_SIG_VALUE n, .ro)]⟩,
   ⟨"TPR.TL_EXPSIG", 0x400B010C, 64, 0x20, fun n =>
     [(Reg.TPR_TL_EXPSIG_VALUE n, .ro)]⟩,
   ⟨"TPR.TL_PLATE", 0x400B011C, 64, 0x20, fun n =>
     [(Reg.TPR_TL_PLATE_VALUE n, .ro)]⟩,
   ⟨"TPR.TL_ENV", 0x400B0110, 64, 0x20, fun n =>
     [(Reg.TPR_TL_ENV_TEMP n, .ro)]⟩,
   ⟨"TPR.TL_REF", 0x400B0114, 64, 0x20, fun n =>
     [(Reg.TPR_TL_REF_REFB n, .ro), (Reg.TPR_TL_REF_REFA n, .ro)]⟩,
   ⟨"TPR.TL_ERR", 0x400B0118, 64, 0x20, fun n =>
     [(Reg.TPR_TL_ERR_LCRC n, .rw), (Reg.TPR_TL_ERR_TELOST n, .rw), (Reg.TPR_TL_ERR_AUTORES n, .rw)]⟩]

/-- The registers of SWP. -/
def regRowsSWP : List RegRow :=
  [⟨"SWP.CTRL", 0x40090000, 1, 0x0, fun _ =>
     [(Reg.SWP_CTRL_NEUTRAL_EN, .rwl), (Reg.SWP_CTRL_EN, .rw), (Reg.SWP_CTRL_LOCK, .w1s)]⟩,
   ⟨"SWP.STATUS", 0x40090004, 1, 0x0, fun _ =>
     [(Reg.SWP_STATUS_ROUND, .ro), (Reg.SWP_STATUS_BANDDEF, .ro), (Reg.SWP_STATUS_MEMERR, .w1c), (Reg.SWP_STATUS_HALF, .ro), (Reg.SWP_STATUS_RUN, .ro)]⟩,
   ⟨"SWP.THRESH", 0x40090008, 1, 0x0, fun _ =>
     [(Reg.SWP_THRESH_CMIN, .ro), (Reg.SWP_THRESH_C400, .ro)]⟩,
   ⟨"SWP.VBAND0", 0x4009000C, 1, 0x0, fun _ =>
     [(Reg.SWP_VBAND0_VLOW, .rwl), (Reg.SWP_VBAND0_VSHORT, .rwl)]⟩,
   ⟨"SWP.VBAND1", 0x40090010, 1, 0x0, fun _ =>
     [(Reg.SWP_VBAND1_VOPEN, .rwl), (Reg.SWP_VBAND1_VHIGH, .rwl)]⟩,
   ⟨"SWP.LEAK", 0x40090014, 1, 0x0, fun _ =>
     [(Reg.SWP_LEAK_LEAK_SHORT, .rwl)]⟩,
   ⟨"SWP.AGELIM", 0x40090018, 1, 0x0, fun _ =>
     [(Reg.SWP_AGELIM_LIMIT, .rwl)]⟩,
   ⟨"SWP.AGEMAX", 0x4009001C, 1, 0x0, fun _ =>
     [(Reg.SWP_AGEMAX_LANE, .ro), (Reg.SWP_AGEMAX_PIXEL, .ro), (Reg.SWP_AGEMAX_AGE, .ro)]⟩,
   ⟨"SWP.CLASSQ", 0x40090020, 1, 0x0, fun _ =>
     [(Reg.SWP_CLASSQ_VALID, .ro), (Reg.SWP_CLASSQ_CLASS, .ro), (Reg.SWP_CLASSQ_EMIT, .ro), (Reg.SWP_CLASSQ_LANE, .ro), (Reg.SWP_CLASSQ_PIXEL, .ro)]⟩,
   ⟨"SWP.COUNTS", 0x40090024, 1, 0x0, fun _ =>
     [(Reg.SWP_COUNTS_GLOW, .rw), (Reg.SWP_COUNTS_WEAK, .rw), (Reg.SWP_COUNTS_SHORT, .rw), (Reg.SWP_COUNTS_OPEN, .rw)]⟩,
   ⟨"SWP.PAYBACK", 0x40090028, 1, 0x0, fun _ =>
     [(Reg.SWP_PAYBACK_UNPAID, .rw), (Reg.SWP_PAYBACK_CANCEL, .rw)]⟩,
   ⟨"SWP.NOTRUN", 0x4009002C, 1, 0x0, fun _ =>
     [(Reg.SWP_NOTRUN_QOVF, .rw), (Reg.SWP_NOTRUN_COUNT, .rw)]⟩,
   ⟨"SWP.ECCCNT", 0x40090030, 1, 0x0, fun _ =>
     [(Reg.SWP_ECCCNT_UNCORR, .rw), (Reg.SWP_ECCCNT_CORR, .rw)]⟩]

/-- The registers of SNS. -/
def regRowsSNS : List RegRow :=
  [⟨"SNS.CTRL", 0x40130000, 1, 0x0, fun _ =>
     [(Reg.SNS_CTRL_CAL_EN, .rwl), (Reg.SNS_CTRL_EN, .rw), (Reg.SNS_CTRL_LOCK, .w1s)]⟩,
   ⟨"SNS.STATUS", 0x40130004, 1, 0x0, fun _ =>
     [(Reg.SNS_STATUS_DUTY, .ro), (Reg.SNS_STATUS_CALBUSY, .ro), (Reg.SNS_STATUS_OVER, .w1c), (Reg.SNS_STATUS_UNDER, .w1c)]⟩,
   ⟨"SNS.CALPER", 0x40130008, 1, 0x0, fun _ =>
     [(Reg.SNS_CALPER_SECONDS, .rwl)]⟩,
   ⟨"SNS.PLAUS", 0x4013000C, 1, 0x0, fun _ =>
     [(Reg.SNS_PLAUS_NFR, .rwl), (Reg.SNS_PLAUS_TOLREL, .rwl), (Reg.SNS_PLAUS_TOLABS, .rwl)]⟩,
   ⟨"SNS.REFTOL", 0x40130010, 1, 0x0, fun _ =>
     [(Reg.SNS_REFTOL_TOL, .rwl)]⟩,
   ⟨"SNS.CALTOTAL", 0x40130014, 1, 0x0, fun _ =>
     [(Reg.SNS_CALTOTAL_COUNT, .ro)]⟩,
   ⟨"SNS.CALLAST", 0x40130018, 1, 0x0, fun _ =>
     [(Reg.SNS_CALLAST_SEC, .ro)]⟩,
   ⟨"SNS.REFSW", 0x4013001C, 1, 0x0, fun _ =>
     [(Reg.SNS_REFSW_COUNT, .rw)]⟩,
   ⟨"SNS.GRP_MODEL", 0x40130040, 8, 0x4, fun n =>
     [(Reg.SNS_GRP_MODEL_KG n, .rwl), (Reg.SNS_GRP_MODEL_IQ n, .rwl)]⟩,
   ⟨"SNS.GRP_I", 0x40130060, 8, 0x4, fun n =>
     [(Reg.SNS_GRP_I_IPRED n, .ro), (Reg.SNS_GRP_I_IMEAS n, .ro)]⟩,
   ⟨"SNS.GRP_SHUNT", 0x40130080, 8, 0x4, fun n =>
     [(Reg.SNS_GRP_SHUNT_SHUNT n, .rwl)]⟩,
   ⟨"SNS.CH_CAL", 0x40130100, 9, 0x10, fun n =>
     [(Reg.SNS_CH_CAL_GAINCORR n, .ro), (Reg.SNS_CH_CAL_ELEM n, .ro)]⟩,
   ⟨"SNS.CH_CALCNT", 0x40130104, 9, 0x10, fun n =>
     [(Reg.SNS_CH_CALCNT_COUNT n, .ro)]⟩,
   ⟨"SNS.CH_CALSEC", 0x40130108, 9, 0x10, fun n =>
     [(Reg.SNS_CH_CALSEC_SEC n, .ro)]⟩]

/-- The registers of ETH. -/
def regRowsETH : List RegRow :=
  [⟨"ETH.CTRL", 0x400C0000, 1, 0x0, fun _ =>
     [(Reg.ETH_CTRL_MACSEC_REQ, .rwl), (Reg.ETH_CTRL_EN1, .rw), (Reg.ETH_CTRL_EN0, .rw), (Reg.ETH_CTRL_LOCK, .w1s)]⟩,
   ⟨"ETH.P_STATUS", 0x400C0100, 2, 0x100, fun n =>
     [(Reg.ETH_P_STATUS_RATE n, .ro), (Reg.ETH_P_STATUS_LINK n, .ro), (Reg.ETH_P_STATUS_SA n, .ro), (Reg.ETH_P_STATUS_LINKCHG n, .w1c)]⟩,
   ⟨"ETH.P_IPADDR", 0x400C0104, 2, 0x100, fun n =>
     [(Reg.ETH_P_IPADDR_ADDR n, .rwl)]⟩,
   ⟨"ETH.P_PEER0", 0x400C0118, 2, 0x100, fun n =>
     [(Reg.ETH_P_PEER0_ADDR n, .rwl)]⟩,
   ⟨"ETH.P_PEER1", 0x400C011C, 2, 0x100, fun n =>
     [(Reg.ETH_P_PEER1_ADDR n, .rwl)]⟩,
   ⟨"ETH.P_VLAN", 0x400C0108, 2, 0x100, fun n =>
     [(Reg.ETH_P_VLAN_TAGGED n, .rwl), (Reg.ETH_P_VLAN_PCP n, .rwl), (Reg.ETH_P_VLAN_VID n, .rwl)]⟩,
   ⟨"ETH.P_TSLAT", 0x400C010C, 2, 0x100, fun n =>
     [(Reg.ETH_P_TSLAT_EGRESS n, .rwl), (Reg.ETH_P_TSLAT_INGRESS n, .rwl)]⟩,
   ⟨"ETH.P_RXDROP", 0x400C0110, 2, 0x100, fun n =>
     [(Reg.ETH_P_RXDROP_MACSEC n, .rw), (Reg.ETH_P_RXDROP_FRAME n, .rw), (Reg.ETH_P_RXDROP_IP n, .rw), (Reg.ETH_P_RXDROP_UDP n, .rw)]⟩,
   ⟨"ETH.P_HATCH", 0x400C0114, 2, 0x100, fun n =>
     [(Reg.ETH_P_HATCH_ACCEPTED n, .ro), (Reg.ETH_P_HATCH_REJECT n, .rw), (Reg.ETH_P_HATCH_PEER n, .rw)]⟩]

/-- The registers of NTM. -/
def regRowsNTM0 : List RegRow :=
  [⟨"NTM.CTRL", 0x400D0000, 1, 0x0, fun _ =>
     [(Reg.NTM_CTRL_ACTIVE, .rw), (Reg.NTM_CTRL_LOCK, .w1s)]⟩,
   ⟨"NTM.SNAP", 0x400D0004, 1, 0x0, fun _ =>
     [(Reg.NTM_SNAP_GO, .w1s)]⟩,
   ⟨"NTM.SNAP_RAW_LO", 0x400D0008, 1, 0x0, fun _ =>
     [(Reg.NTM_SNAP_RAW_LO_VALUE, .ro)]⟩,
   ⟨"NTM.SNAP_RAW_HI", 0x400D000C, 1, 0x0, fun _ =>
     [(Reg.NTM_SNAP_RAW_HI_VALUE, .ro)]⟩,
   ⟨"NTM.SNAP_D0_SL", 0x400D0010, 1, 0x0, fun _ =>
     [(Reg.NTM_SNAP_D0_SL_VALUE, .ro)]⟩,
   ⟨"NTM.SNAP_D1_SL", 0x400D001C, 1, 0x0, fun _ =>
     [(Reg.NTM_SNAP_D1_SL_VALUE, .ro)]⟩,
   ⟨"NTM.PPS_RAW_LO", 0x400D0300, 1, 0x0, fun _ =>
     [(Reg.NTM_PPS_RAW_LO_VALUE, .ro)]⟩,
   ⟨"NTM.PPS_RAW_HI", 0x400D0304, 1, 0x0, fun _ =>
     [(Reg.NTM_PPS_RAW_HI_VALUE, .ro)]⟩,
   ⟨"NTM.PPS_D0_SL", 0x400D0308, 1, 0x0, fun _ =>
     [(Reg.NTM_PPS_D0_SL_VALUE, .ro)]⟩,
   ⟨"NTM.PPS_D1_SL", 0x400D0314, 1, 0x0, fun _ =>
     [(Reg.NTM_PPS_D1_SL_VALUE, .ro)]⟩,
   ⟨"NTM.SNAP_D0_SH", 0x400D0014, 1, 0x0, fun _ =>
     [(Reg.NTM_SNAP_D0_SH_SEC, .ro)]⟩,
   ⟨"NTM.SNAP_D1_SH", 0x400D0020, 1, 0x0, fun _ =>
     [(Reg.NTM_SNAP_D1_SH_SEC, .ro)]⟩,
   ⟨"NTM.PPS_D0_SH", 0x400D030C, 1, 0x0, fun _ =>
     [(Reg.NTM_PPS_D0_SH_SEC, .ro)]⟩,
   ⟨"NTM.PPS_D1_SH", 0x400D0318, 1, 0x0, fun _ =>
     [(Reg.NTM_PPS_D1_SH_SEC, .ro)]⟩,
   ⟨"NTM.SNAP_D0_NS", 0x400D0018, 1, 0x0, fun _ =>
     [(Reg.NTM_SNAP_D0_NS_NSEC, .ro)]⟩,
   ⟨"NTM.SNAP_D1_NS", 0x400D0024, 1, 0x0, fun _ =>
     [(Reg.NTM_SNAP_D1_NS_NSEC, .ro)]⟩]

/-- The registers of NTM. -/
def regRowsNTM1 : List RegRow :=
  [⟨"NTM.PPS_D0_NS", 0x400D0310, 1, 0x0, fun _ =>
     [(Reg.NTM_PPS_D0_NS_NSEC, .ro)]⟩,
   ⟨"NTM.PPS_D1_NS", 0x400D031C, 1, 0x0, fun _ =>
     [(Reg.NTM_PPS_D1_NS_NSEC, .ro)]⟩,
   ⟨"NTM.PPS_STAT", 0x400D0320, 1, 0x0, fun _ =>
     [(Reg.NTM_PPS_STAT_OVR, .w1c), (Reg.NTM_PPS_STAT_FULL, .ro)]⟩,
   ⟨"NTM.D_STATE", 0x400D0100, 2, 0x40, fun n =>
     [(Reg.NTM_D_STATE_STATE n, .rw)]⟩,
   ⟨"NTM.D_APPLY", 0x400D0104, 2, 0x40, fun n =>
     [(Reg.NTM_D_APPLY_ERR n, .w1c), (Reg.NTM_D_APPLY_SET n, .w1s), (Reg.NTM_D_APPLY_STEP n, .w1s)]⟩,
   ⟨"NTM.D_INC_FRAC", 0x400D0108, 2, 0x40, fun n =>
     [(Reg.NTM_D_INC_FRAC_VALUE n, .rw)]⟩,
   ⟨"NTM.D_STEP", 0x400D0110, 2, 0x40, fun n =>
     [(Reg.NTM_D_STEP_VALUE n, .rw)]⟩,
   ⟨"NTM.D_SET_SL", 0x400D0114, 2, 0x40, fun n =>
     [(Reg.NTM_D_SET_SL_VALUE n, .rw)]⟩,
   ⟨"NTM.D_SET_NS", 0x400D011C, 2, 0x40, fun n =>
     [(Reg.NTM_D_SET_NS_VALUE n, .rw)]⟩,
   ⟨"NTM.D_INC_INT", 0x400D010C, 2, 0x40, fun n =>
     [(Reg.NTM_D_INC_INT_VALUE n, .rw)]⟩,
   ⟨"NTM.D_SET_SH", 0x400D0118, 2, 0x40, fun n =>
     [(Reg.NTM_D_SET_SH_VALUE n, .rw)]⟩,
   ⟨"NTM.TTO_CTRL", 0x400D0200, 4, 0x20, fun n =>
     [(Reg.NTM_TTO_CTRL_EN n, .rw), (Reg.NTM_TTO_CTRL_POL n, .rw), (Reg.NTM_TTO_CTRL_DOM n, .rw), (Reg.NTM_TTO_CTRL_ERR n, .ro)]⟩,
   ⟨"NTM.TTO_START_SL", 0x400D0204, 4, 0x20, fun n =>
     [(Reg.NTM_TTO_START_SL_VALUE n, .rw)]⟩,
   ⟨"NTM.TTO_START_NS", 0x400D020C, 4, 0x20, fun n =>
     [(Reg.NTM_TTO_START_NS_VALUE n, .rw)]⟩,
   ⟨"NTM.TTO_PERIOD", 0x400D0210, 4, 0x20, fun n =>
     [(Reg.NTM_TTO_PERIOD_VALUE n, .rw)]⟩,
   ⟨"NTM.TTO_WIDTH", 0x400D0214, 4, 0x20, fun n =>
     [(Reg.NTM_TTO_WIDTH_VALUE n, .rw)]⟩]

/-- The registers of NTM. -/
def regRowsNTM2 : List RegRow :=
  [⟨"NTM.TTO_MISSED", 0x400D0218, 4, 0x20, fun n =>
     [(Reg.NTM_TTO_MISSED_VALUE n, .rw)]⟩,
   ⟨"NTM.TTO_START_SH", 0x400D0208, 4, 0x20, fun n =>
     [(Reg.NTM_TTO_START_SH_SEC n, .rw)]⟩]

/-- The registers of HIF. -/
def regRowsHIF0 : List RegRow :=
  [⟨"HIF.LINKCTRL", 0x400E0000, 1, 0x0, fun _ =>
     [(Reg.HIF_LINKCTRL_LOCK, .w1s)]⟩,
   ⟨"HIF.SPI_STAT", 0x400E0004, 1, 0x0, fun _ =>
     [(Reg.HIF_SPI_STAT_HCRC, .rw), (Reg.HIF_SPI_STAT_DCRC, .rw), (Reg.HIF_SPI_STAT_ADDR, .rw), (Reg.HIF_SPI_STAT_SHORT, .rw)]⟩,
   ⟨"HIF.CAN_CTRL", 0x400E0010, 1, 0x0, fun _ =>
     [(Reg.HIF_CAN_CTRL_EN, .rw), (Reg.HIF_CAN_CTRL_STPER, .rwl)]⟩,
   ⟨"HIF.CAN_BT", 0x400E0014, 1, 0x0, fun _ =>
     [(Reg.HIF_CAN_BT_NSP, .rwl), (Reg.HIF_CAN_BT_DSP, .rwl)]⟩,
   ⟨"HIF.CAN_STAT", 0x400E0018, 1, 0x0, fun _ =>
     [(Reg.HIF_CAN_STAT_TEC, .ro), (Reg.HIF_CAN_STAT_REC, .ro), (Reg.HIF_CAN_STAT_AUTH, .rw), (Reg.HIF_CAN_STAT_BUS, .ro)]⟩,
   ⟨"HIF.CAN_FRESH", 0x400E001C, 1, 0x0, fun _ =>
     [(Reg.HIF_CAN_FRESH_LAST, .ro)]⟩,
   ⟨"HIF.CAN_TXID", 0x400E0020, 1, 0x0, fun _ =>
     [(Reg.HIF_CAN_TXID_EN, .rwl), (Reg.HIF_CAN_TXID_EXT, .rwl), (Reg.HIF_CAN_TXID_ID, .rwl)]⟩,
   ⟨"HIF.CAN_STID", 0x400E0024, 1, 0x0, fun _ =>
     [(Reg.HIF_CAN_STID_EN, .rwl), (Reg.HIF_CAN_STID_EXT, .rwl), (Reg.HIF_CAN_STID_ID, .rwl)]⟩,
   ⟨"HIF.CAN_FILT_ID", 0x400E0100, 16, 0x8, fun n =>
     [(Reg.HIF_CAN_FILT_ID_EN n, .rwl), (Reg.HIF_CAN_FILT_ID_EXT n, .rwl), (Reg.HIF_CAN_FILT_ID_ID n, .rwl)]⟩,
   ⟨"HIF.CAN_FILT_MASK", 0x400E0104, 16, 0x8, fun n =>
     [(Reg.HIF_CAN_FILT_MASK_MASK n, .rwl)]⟩,
   ⟨"HIF.MB_CMDWP", 0x400E0200, 5, 0x40, fun n =>
     [(Reg.HIF_MB_CMDWP_WP n, .rw)]⟩,
   ⟨"HIF.MB_CMDRP", 0x400E0204, 5, 0x40, fun n =>
     [(Reg.HIF_MB_CMDRP_COUNT n, .ro)]⟩,
   ⟨"HIF.MB_CPLWP", 0x400E0208, 5, 0x40, fun n =>
     [(Reg.HIF_MB_CPLWP_COUNT n, .ro)]⟩,
   ⟨"HIF.MB_CPLRP", 0x400E020C, 5, 0x40, fun n =>
     [(Reg.HIF_MB_CPLRP_RP n, .rw)]⟩,
   ⟨"HIF.MB_AUTHCNT", 0x400E0210, 5, 0x40, fun n =>
     [(Reg.HIF_MB_AUTHCNT_COUNT n, .ro)]⟩,
   ⟨"HIF.MB_STAT", 0x400E0214, 5, 0x40, fun n =>
     [(Reg.HIF_MB_STAT_DBERR n, .rw), (Reg.HIF_MB_STAT_STALL n, .rw), (Reg.HIF_MB_STAT_DEFQ n, .ro)]⟩]

/-- The registers of HIF. -/
def regRowsHIF1 : List RegRow :=
  [⟨"HIF.MB_CTRL", 0x400E0218, 5, 0x40, fun n =>
     [(Reg.HIF_MB_CTRL_RESET n, .w1s)]⟩,
   ⟨"HIF.MB_DEFTO", 0x400E021C, 5, 0x40, fun n =>
     [(Reg.HIF_MB_DEFTO_MS n, .rw)]⟩,
   ⟨"HIF.MB_MOD", 0x400E0400, 5, 0x10, fun n =>
     [(Reg.HIF_MB_MOD_TIME n, .rw), (Reg.HIF_MB_MOD_COUNT n, .rw)]⟩,
   ⟨"HIF.MB_IRQ", 0x400E0480, 1, 0x0, fun _ =>
     [(Reg.HIF_MB_IRQ_EN, .rw), (Reg.HIF_MB_IRQ_PEND, .w1c)]⟩,
   ⟨"HIF.MB_HOST", 0x400E0484, 1, 0x0, fun _ =>
     [(Reg.HIF_MB_HOST_IRQ, .ro), (Reg.HIF_MB_HOST_HELD, .ro), (Reg.HIF_MB_HOST_AWAKE, .ro)]⟩]

/-- The registers of SEC. -/
def regRowsSEC : List RegRow :=
  [⟨"SEC.CTRL", 0x40160000, 1, 0x0, fun _ =>
     [(Reg.SEC_CTRL_LOCK, .w1s)]⟩,
   ⟨"SEC.LC", 0x40160004, 1, 0x0, fun _ =>
     [(Reg.SEC_LC_RESUMED, .ro), (Reg.SEC_LC_CODE, .ro)]⟩,
   ⟨"SEC.BOOT", 0x40160008, 1, 0x0, fun _ =>
     [(Reg.SEC_BOOT_TIPINS, .ro), (Reg.SEC_BOOT_BIND, .ro), (Reg.SEC_BOOT_BVALID, .ro), (Reg.SEC_BOOT_AVALID, .ro), (Reg.SEC_BOOT_PREF, .ro), (Reg.SEC_BOOT_RUN, .ro)]⟩,
   ⟨"SEC.SVN", 0x4016000C, 1, 0x0, fun _ =>
     [(Reg.SEC_SVN_BIND, .ro), (Reg.SEC_SVN_FW, .ro)]⟩,
   ⟨"SEC.KEYST", 0x40160010, 1, 0x0, fun _ =>
     [(Reg.SEC_KEYST_KID, .ro), (Reg.SEC_KEYST_KP, .ro)]⟩]

/-- The registers of FST. -/
def regRowsFST : List RegRow :=
  [⟨"FST.FST", 0x50000000, 1, 0x0, fun _ =>
     [(Reg.FST_RUN, .ro), (Reg.FST_CFGOK, .ro), (Reg.FST_EMBER, .ro), (Reg.FST_MODE, .ro), (Reg.FST_ZONES, .ro), (Reg.FST_LASTKIND, .ro), (Reg.FST_FAILS, .ro)]⟩,
   ⟨"FST.FST_SEQ", 0x50000004, 1, 0x0, fun _ =>
     [(Reg.FST_SEQ_SEQ, .ro)]⟩,
   ⟨"FST.FST_CELL", 0x50000008, 1, 0x0, fun _ =>
     [(Reg.FST_CELL_WHAT, .ro), (Reg.FST_CELL_TP, .ro), (Reg.FST_CELL_CELL, .ro)]⟩,
   ⟨"FST.FST_DP", 0x5000000C, 1, 0x0, fun _ =>
     [(Reg.FST_DP_LANE, .ro), (Reg.FST_DP_RESULT, .ro), (Reg.FST_DP_ACKONLY, .ro), (Reg.FST_DP_AGE, .ro)]⟩,
   ⟨"FST.FST_DPE", 0x50000010, 1, 0x0, fun _ =>
     [(Reg.FST_DPE_E, .ro), (Reg.FST_DPE_D, .ro)]⟩,
   ⟨"FST.FST_OUT", 0x50000014, 1, 0x0, fun _ =>
     [(Reg.FST_OUT_FB1, .ro), (Reg.FST_OUT_FB0, .ro), (Reg.FST_OUT_TGFAIL, .ro), (Reg.FST_OUT_TGPASS, .ro)]⟩]

/-- The registers of FCL. -/
def regRowsFCL : List RegRow :=
  [⟨"FCL.CTRL", 0x40030000, 1, 0x0, fun _ =>
     [(Reg.FCL_CTRL_CLEAR, .w1s), (Reg.FCL_CTRL_LOCK, .w1s)]⟩,
   ⟨"FCL.STATUS", 0x40030004, 1, 0x0, fun _ =>
     [(Reg.FCL_STATUS_COUNT, .ro), (Reg.FCL_STATUS_HIGHEST, .ro), (Reg.FCL_STATUS_EMBER, .ro), (Reg.FCL_STATUS_SAFEIN, .ro), (Reg.FCL_STATUS_FAULTN, .ro), (Reg.FCL_STATUS_OVF, .ro), (Reg.FCL_STATUS_EXTV, .ro), (Reg.FCL_STATUS_VALID, .ro)]⟩,
   ⟨"FCL.FIRST", 0x40030008, 1, 0x0, fun _ =>
     [(Reg.FCL_FIRST_VALUE, .ro)]⟩,
   ⟨"FCL.FIRST_EXT", 0x4003000C, 1, 0x0, fun _ =>
     [(Reg.FCL_FIRST_EXT_VALUE, .ro)]⟩,
   ⟨"FCL.FIRST_FCNT", 0x40030010, 1, 0x0, fun _ =>
     [(Reg.FCL_FIRST_FCNT_VALUE, .ro)]⟩,
   ⟨"FCL.SAFEKIND", 0x40030014, 1, 0x0, fun _ =>
     [(Reg.FCL_SAFEKIND_VALUE, .ro)]⟩,
   ⟨"FCL.LAST", 0x40030018, 1, 0x0, fun _ =>
     [(Reg.FCL_LAST_VALUE, .ro)]⟩,
   ⟨"FCL.INFOCNT", 0x4003001C, 1, 0x0, fun _ =>
     [(Reg.FCL_INFOCNT_COUNT, .rw)]⟩,
   ⟨"FCL.DEGMAP_LO", 0x40030020, 1, 0x0, fun _ =>
     [(Reg.FCL_DEGMAP_LO_MAP, .w1c)]⟩,
   ⟨"FCL.DEGMAP_HI", 0x40030024, 1, 0x0, fun _ =>
     [(Reg.FCL_DEGMAP_HI_MAP, .w1c)]⟩,
   ⟨"FCL.SEV", 0x40030400, 128, 4, fun n => [(Reg.FCL_SEV (4*n), .rwl), (Reg.FCL_FLOOR (4*n), .ro), (Reg.FCL_SEV (4*n+1), .rwl), (Reg.FCL_FLOOR (4*n+1), .ro), (Reg.FCL_SEV (4*n+2), .rwl), (Reg.FCL_FLOOR (4*n+2), .ro), (Reg.FCL_SEV (4*n+3), .rwl), (Reg.FCL_FLOOR (4*n+3), .ro)]⟩]

/-- The registers of ITC. -/
def regRowsITC0 : List RegRow :=
  [⟨"ITC.CTRL", 0x40020000, 1, 0x0, fun _ =>
     [(Reg.ITC_CTRL_LOCK, .w1s)]⟩,
   ⟨"ITC.STATUS", 0x40020004, 1, 0x0, fun _ =>
     [(Reg.ITC_STATUS_STRANDED, .w1c), (Reg.ITC_STATUS_TGTREJ, .w1c), (Reg.ITC_STATUS_PAIR, .ro)]⟩,
   ⟨"ITC.LATE_DELIVER", 0x40020008, 1, 0x0, fun _ =>
     [(Reg.ITC_LATE_DELIVER_COUNT, .rw), (Reg.ITC_LATE_DELIVER_TGT, .ro), (Reg.ITC_LATE_DELIVER_SOURCE, .ro)]⟩,
   ⟨"ITC.STRAND", 0x4002000C, 1, 0x0, fun _ =>
     [(Reg.ITC_STRAND_MS, .rwl)]⟩,
   ⟨"ITC.WATCH", 0x40020040, 16, 0x4, fun n =>
     [(Reg.ITC_WATCH_EN n, .rwl), (Reg.ITC_WATCH_SOURCE n, .rwl)]⟩,
   ⟨"ITC.T_CTRL", 0x40020100, 2, 0x40, fun n =>
     [(Reg.ITC_T_CTRL_FIE n, .rw), (Reg.ITC_T_CTRL_RUN n, .rw)]⟩,
   ⟨"ITC.T_VBASE", 0x40020104, 2, 0x40, fun n =>
     [(Reg.ITC_T_VBASE_BASE n, .rw)]⟩,
   ⟨"ITC.T_SLEEP", 0x40020108, 2, 0x40, fun n =>
     [(Reg.ITC_T_SLEEP_ST n, .ro), (Reg.ITC_T_SLEEP_MODE n, .rw)]⟩,
   ⟨"ITC.T_ACTIVE", 0x4002010C, 2, 0x40, fun n =>
     [(Reg.ITC_T_ACTIVE_NACT n, .ro), (Reg.ITC_T_ACTIVE_FACT n, .ro), (Reg.ITC_T_ACTIVE_FSRC n, .ro), (Reg.ITC_T_ACTIVE_NSRC n, .ro)]⟩,
   ⟨"ITC.T_WDOG", 0x40020110, 2, 0x40, fun n =>
     [(Reg.ITC_T_WDOG_EN n, .w1s), (Reg.ITC_T_WDOG_MS n, .rw)]⟩,
   ⟨"ITC.T_WDKICK", 0x40020114, 2, 0x40, fun n =>
     [(Reg.ITC_T_WDKICK_KICK n, .wo)]⟩,
   ⟨"ITC.T_WAKEVEC", 0x40020118, 2, 0x40, fun n =>
     [(Reg.ITC_T_WAKEVEC_ADDR n, .rw)]⟩,
   ⟨"ITC.PEND", 0x40020200, 8, 0x4, fun n =>
     [(Reg.ITC_PEND_MAP n, .ro)]⟩,
   ⟨"ITC.SETP", 0x40020220, 8, 0x4, fun n =>
     [(Reg.ITC_SETP_MAP n, .w1s)]⟩,
   ⟨"ITC.CLRP", 0x40020240, 8, 0x4, fun n =>
     [(Reg.ITC_CLRP_MAP n, .w1c)]⟩,
   ⟨"ITC.EN", 0x40020260, 8, 0x4, fun n =>
     [(Reg.ITC_EN_MAP n, .rw)]⟩]

/-- The registers of ITC. -/
def regRowsITC1 : List RegRow :=
  [⟨"ITC.SRC", 0x40020400, 256, 0x4, fun n =>
     [(Reg.ITC_SRC_CLASS n, .rw), (Reg.ITC_SRC_TARGET n, .rw)]⟩]

/-- The registers of PWC. -/
def regRowsPWC0 : List RegRow :=
  [⟨"PWC.CTRL", 0x40000000, 1, 0x0, fun _ =>
     [(Reg.PWC_CTRL_LOCK, .w1s)]⟩,
   ⟨"PWC.STATUS", 0x40000004, 1, 0x0, fun _ =>
     [(Reg.PWC_STATUS_DOMBUSY, .ro), (Reg.PWC_STATUS_REF_RC, .ro), (Reg.PWC_STATUS_PLBUSY, .ro), (Reg.PWC_STATUS_PL, .ro)]⟩,
   ⟨"PWC.PLREQ", 0x40000008, 1, 0x0, fun _ =>
     [(Reg.PWC_PLREQ_SB, .rw), (Reg.PWC_PLREQ_LIT, .rw)]⟩,
   ⟨"PWC.VREG", 0x4000000C, 1, 0x0, fun _ =>
     [(Reg.PWC_VREG_PRTAD, .rwl), (Reg.PWC_VREG_SETTLE_US, .rwl)]⟩,
   ⟨"PWC.VSET", 0x40000010, 1, 0x0, fun _ =>
     [(Reg.PWC_VSET_MV, .ro)]⟩,
   ⟨"PWC.DOMST", 0x40000014, 1, 0x0, fun _ =>
     [(Reg.PWC_DOMST_MAP, .ro)]⟩,
   ⟨"PWC.DOMLOCK", 0x40000018, 1, 0x0, fun _ =>
     [(Reg.PWC_DOMLOCK_MAP, .rwl)]⟩,
   ⟨"PWC.DOMOFF", 0x4000001C, 1, 0x0, fun _ =>
     [(Reg.PWC_DOMOFF_MAP, .w1s)]⟩,
   ⟨"PWC.SLEEP", 0x40000020, 1, 0x0, fun _ =>
     [(Reg.PWC_SLEEP_BLOCK, .ro), (Reg.PWC_SLEEP_ANSWER, .ro), (Reg.PWC_SLEEP_CODE, .ro), (Reg.PWC_SLEEP_RESULT, .ro), (Reg.PWC_SLEEP_GO, .w1s)]⟩,
   ⟨"PWC.PADREL", 0x40000024, 1, 0x0, fun _ =>
     [(Reg.PWC_PADREL_LATCHED, .ro), (Reg.PWC_PADREL_REL, .w1s)]⟩,
   ⟨"PWC.RSTCAUSE", 0x40000028, 1, 0x0, fun _ =>
     [(Reg.PWC_RSTCAUSE_CAUSE, .ro)]⟩,
   ⟨"PWC.TGEN", 0x40000030, 1, 0x0, fun _ =>
     [(Reg.PWC_TGEN_FB, .ro), (Reg.PWC_TGEN_EN, .rw)]⟩,
   ⟨"PWC.P_RTC", 0x40000100, 1, 0x0, fun _ =>
     [(Reg.PWC_P_RTC_SEC, .rw)]⟩,
   ⟨"PWC.P_ALARM", 0x40000104, 1, 0x0, fun _ =>
     [(Reg.PWC_P_ALARM_SEC, .rw)]⟩,
   ⟨"PWC.P_OPSEC", 0x40000108, 1, 0x0, fun _ =>
     [(Reg.PWC_P_OPSEC_SEC, .ro)]⟩,
   ⟨"PWC.P_PWRCYC", 0x4000010C, 1, 0x0, fun _ =>
     [(Reg.PWC_P_PWRCYC_COUNT, .ro)]⟩]

/-- The registers of PWC. -/
def regRowsPWC1 : List RegRow :=
  [⟨"PWC.P_WAKE", 0x40000110, 1, 0x0, fun _ =>
     [(Reg.PWC_P_WAKE_ALARM_EN, .rw), (Reg.PWC_P_WAKE_WAKE_EN, .rw), (Reg.PWC_P_WAKE_SRC, .ro), (Reg.PWC_P_WAKE_WAKE_FAIL, .w1c)]⟩,
   ⟨"PWC.P_FB", 0x40000114, 1, 0x0, fun _ =>
     [(Reg.PWC_P_FB_OFFREQ, .w1s), (Reg.PWC_P_FB_ON, .ro), (Reg.PWC_P_FB_MASK, .rw)]⟩]

/-- The registers of THM. -/
def regRowsTHM : List RegRow :=
  [⟨"THM.CTRL", 0x40010000, 1, 0x0, fun _ =>
     [(Reg.THM_CTRL_EN, .rw), (Reg.THM_CTRL_LOCK, .w1s)]⟩,
   ⟨"THM.STATUS", 0x40010004, 1, 0x0, fun _ =>
     [(Reg.THM_STATUS_STEP, .ro), (Reg.THM_STATUS_MODECAP, .ro), (Reg.THM_STATUS_BROKEN, .ro), (Reg.THM_STATUS_FAST, .ro)]⟩,
   ⟨"THM.ESC", 0x40010008, 1, 0x0, fun _ =>
     [(Reg.THM_ESC_HYST, .rwl), (Reg.THM_ESC_DWELL_S, .rwl), (Reg.THM_ESC_ESC_MS, .rwl)]⟩,
   ⟨"THM.RATE", 0x4001000C, 1, 0x0, fun _ =>
     [(Reg.THM_RATE_RATE3, .rwl), (Reg.THM_RATE_RATE1, .rwl)]⟩,
   ⟨"THM.DPAUSE", 0x40010010, 1, 0x0, fun _ =>
     [(Reg.THM_DPAUSE_MS, .rwl)]⟩,
   ⟨"THM.S_LIM0", 0x40010100, 9, 0x10, fun n =>
     [(Reg.THM_S_LIM0_THROTTLE n, .rwl), (Reg.THM_S_LIM0_WARN n, .rwl)]⟩,
   ⟨"THM.S_LIM1", 0x40010104, 9, 0x10, fun n =>
     [(Reg.THM_S_LIM1_CRIT n, .rwl)]⟩,
   ⟨"THM.S_VAL", 0x40010108, 9, 0x10, fun n =>
     [(Reg.THM_S_VAL_USED n, .ro), (Reg.THM_S_VAL_MEAS n, .ro)]⟩,
   ⟨"THM.S_RISE", 0x4001010C, 9, 0x10, fun n =>
     [(Reg.THM_S_RISE_RISE n, .ro)]⟩,
   ⟨"THM.NTC_CFG", 0x40010200, 2, 0x4, fun n =>
     [(Reg.THM_NTC_CFG_BETA n, .rwl), (Reg.THM_NTC_CFG_RNOM n, .rwl)]⟩]

/-- The registers of MRC. -/
def regRowsMRC : List RegRow :=
  [⟨"MRC.CTRL", 0x40100000, 1, 0x0, fun _ =>
     [(Reg.MRC_CTRL_LOCK, .w1s)]⟩,
   ⟨"MRC.STATUS", 0x40100004, 1, 0x0, fun _ =>
     [(Reg.MRC_STATUS_LAST, .ro), (Reg.MRC_STATUS_DEFER, .w1c), (Reg.MRC_STATUS_BUSY, .ro)]⟩,
   ⟨"MRC.HOLDCFG", 0x40100008, 1, 0x0, fun _ =>
     [(Reg.MRC_HOLDCFG_VMIN, .rwl), (Reg.MRC_HOLDCFG_CUF, .rwl)]⟩,
   ⟨"MRC.HOLDST", 0x4010000C, 1, 0x0, fun _ =>
     [(Reg.MRC_HOLDST_VMEAS, .ro)]⟩,
   ⟨"MRC.HOLDE", 0x40100010, 1, 0x0, fun _ =>
     [(Reg.MRC_HOLDE_VALUE, .ro)]⟩,
   ⟨"MRC.LINES", 0x40100030, 1, 0x0, fun _ =>
     [(Reg.MRC_LINES_VALUE, .ro)]⟩,
   ⟨"MRC.WSRC", 0x40100014, 1, 0x0, fun _ =>
     [(Reg.MRC_WSRC_ADDR, .rw)]⟩,
   ⟨"MRC.WDST", 0x40100018, 1, 0x0, fun _ =>
     [(Reg.MRC_WDST_ADDR, .rw)]⟩,
   ⟨"MRC.WLEN", 0x4010001C, 1, 0x0, fun _ =>
     [(Reg.MRC_WLEN_LINES, .rw)]⟩,
   ⟨"MRC.WGO", 0x40100020, 1, 0x0, fun _ =>
     [(Reg.MRC_WGO_GO, .w1s)]⟩,
   ⟨"MRC.WPROT", 0x40100024, 1, 0x0, fun _ =>
     [(Reg.MRC_WPROT_KEYS, .ro), (Reg.MRC_WPROT_AREA, .rwl)]⟩,
   ⟨"MRC.ECCCNT", 0x40100028, 1, 0x0, fun _ =>
     [(Reg.MRC_ECCCNT_HIGH, .rw), (Reg.MRC_ECCCNT_LOW, .rw)]⟩,
   ⟨"MRC.VERCNT", 0x4010002C, 1, 0x0, fun _ =>
     [(Reg.MRC_VERCNT_HIGH, .rw), (Reg.MRC_VERCNT_LOW, .rw)]⟩]

/-- The registers of EVR. -/
def regRowsEVR : List RegRow :=
  [⟨"EVR.CTRL", 0x400F0000, 1, 0x0, fun _ =>
     [(Reg.EVR_CTRL_EN, .rwl), (Reg.EVR_CTRL_LOCK, .w1s)]⟩,
   ⟨"EVR.STATUS", 0x400F0004, 1, 0x0, fun _ =>
     [(Reg.EVR_STATUS_QLEVEL, .ro), (Reg.EVR_STATUS_FRONTFULL, .ro), (Reg.EVR_STATUS_LOSS, .w1c), (Reg.EVR_STATUS_STOPPED, .ro), (Reg.EVR_STATUS_RUN, .ro)]⟩,
   ⟨"EVR.NEWEST", 0x400F0008, 1, 0x0, fun _ =>
     [(Reg.EVR_NEWEST_SEQ, .ro)]⟩,
   ⟨"EVR.WSLOT", 0x400F000C, 1, 0x0, fun _ =>
     [(Reg.EVR_WSLOT_SLOT, .ro)]⟩,
   ⟨"EVR.LOST", 0x400F0010, 1, 0x0, fun _ =>
     [(Reg.EVR_LOST_COUNT, .rw)]⟩,
   ⟨"EVR.BADLINES", 0x400F0014, 1, 0x0, fun _ =>
     [(Reg.EVR_BADLINES_COUNT, .ro)]⟩]

/-- The registers of CKU. -/
def regRowsCKU : List RegRow :=
  [⟨"CKU.CTRL", 0x40110000, 2, 0x10000, fun n =>
     [(Reg.CKU_CTRL_GO n, .w1s), (Reg.CKU_CTRL_INIT n, .w1s), (Reg.CKU_CTRL_BYTES n, .rw), (Reg.CKU_CTRL_REFOUT n, .rw), (Reg.CKU_CTRL_REFIN n, .rw)]⟩,
   ⟨"CKU.WIDTH", 0x40110004, 2, 0x10000, fun n =>
     [(Reg.CKU_WIDTH_WIDTH n, .rw)]⟩,
   ⟨"CKU.POLY_LO", 0x40110008, 2, 0x10000, fun n =>
     [(Reg.CKU_POLY_LO_VALUE n, .rw)]⟩,
   ⟨"CKU.POLY_HI", 0x4011000C, 2, 0x10000, fun n =>
     [(Reg.CKU_POLY_HI_VALUE n, .rw)]⟩,
   ⟨"CKU.INIT_LO", 0x40110010, 2, 0x10000, fun n =>
     [(Reg.CKU_INIT_LO_VALUE n, .rw)]⟩,
   ⟨"CKU.INIT_HI", 0x40110014, 2, 0x10000, fun n =>
     [(Reg.CKU_INIT_HI_VALUE n, .rw)]⟩,
   ⟨"CKU.XOROUT_LO", 0x40110018, 2, 0x10000, fun n =>
     [(Reg.CKU_XOROUT_LO_VALUE n, .rw)]⟩,
   ⟨"CKU.XOROUT_HI", 0x4011001C, 2, 0x10000, fun n =>
     [(Reg.CKU_XOROUT_HI_VALUE n, .rw)]⟩,
   ⟨"CKU.ADDR", 0x40110020, 2, 0x10000, fun n =>
     [(Reg.CKU_ADDR_VALUE n, .rw)]⟩,
   ⟨"CKU.LEN", 0x40110024, 2, 0x10000, fun n =>
     [(Reg.CKU_LEN_VALUE n, .rw)]⟩,
   ⟨"CKU.DATA", 0x40110028, 2, 0x10000, fun n =>
     [(Reg.CKU_DATA_VALUE n, .wo)]⟩,
   ⟨"CKU.RESULT_LO", 0x4011002C, 2, 0x10000, fun n =>
     [(Reg.CKU_RESULT_LO_VALUE n, .ro)]⟩,
   ⟨"CKU.RESULT_HI", 0x40110030, 2, 0x10000, fun n =>
     [(Reg.CKU_RESULT_HI_VALUE n, .ro)]⟩,
   ⟨"CKU.STATUS", 0x40110034, 2, 0x10000, fun n =>
     [(Reg.CKU_STATUS_CAUSE n, .ro), (Reg.CKU_STATUS_ERR n, .w1c), (Reg.CKU_STATUS_BUSY n, .ro)]⟩,
   ⟨"CKU.ERRADDR", 0x40110038, 2, 0x10000, fun n =>
     [(Reg.CKU_ERRADDR_ADDR n, .ro)]⟩]

/-- The registers of PTN. -/
def regRowsPTN : List RegRow :=
  [⟨"PTN.CTRL", 0x40140000, 1, 0x0, fun _ =>
     [(Reg.PTN_CTRL_EN, .rw), (Reg.PTN_CTRL_LOCK, .w1s)]⟩,
   ⟨"PTN.STATUS", 0x40140004, 1, 0x0, fun _ =>
     [(Reg.PTN_STATUS_PSTEP, .ro), (Reg.PTN_STATUS_PSTATE, .ro), (Reg.PTN_STATUS_DIVERGE, .ro), (Reg.PTN_STATUS_READY, .ro), (Reg.PTN_STATUS_HEALTHY, .ro), (Reg.PTN_STATUS_LANE65, .ro), (Reg.PTN_STATUS_LANE64, .ro), (Reg.PTN_STATUS_LINK, .ro), (Reg.PTN_STATUS_ROLE, .ro)]⟩,
   ⟨"PTN.SKEW", 0x40140008, 1, 0x0, fun _ =>
     [(Reg.PTN_SKEW_SKEW, .ro)]⟩,
   ⟨"PTN.LAT", 0x4014000C, 1, 0x0, fun _ =>
     [(Reg.PTN_LAT_NS, .ro)]⟩,
   ⟨"PTN.LIMIT", 0x40140010, 1, 0x0, fun _ =>
     [(Reg.PTN_LIMIT_XMISLIM, .rwl), (Reg.PTN_LIMIT_SKEWFR, .rwl), (Reg.PTN_LIMIT_SKEWMAX, .rwl)]⟩,
   ⟨"PTN.DIGCNT", 0x40140014, 1, 0x0, fun _ =>
     [(Reg.PTN_DIGCNT_COUNT, .ro)]⟩,
   ⟨"PTN.DIVCNT", 0x40140018, 1, 0x0, fun _ =>
     [(Reg.PTN_DIVCNT_DIVERGENT, .rw), (Reg.PTN_DIVCNT_HANDOVERS, .rw)]⟩,
   ⟨"PTN.PORTMAP_LO", 0x40140020, 1, 0x0, fun _ =>
     [(Reg.PTN_PORTMAP_LO_MAP, .ro)]⟩,
   ⟨"PTN.PORTMAP_HI", 0x40140024, 1, 0x0, fun _ =>
     [(Reg.PTN_PORTMAP_HI_MAP, .ro)]⟩,
   ⟨"PTN.AUTHERR", 0x40140028, 1, 0x0, fun _ =>
     [(Reg.PTN_AUTHERR_COUNT, .rw)]⟩]

/-- The registers of TMX. -/
def regRowsTMX : List RegRow :=
  [⟨"TMX.SEL0", 0x40150000, 1, 0x0, fun _ =>
     [(Reg.TMX_SEL0_EN, .rw), (Reg.TMX_SEL0_SIGNAL, .rw)]⟩,
   ⟨"TMX.SEL1", 0x40150004, 1, 0x0, fun _ =>
     [(Reg.TMX_SEL1_EN, .rw), (Reg.TMX_SEL1_SIGNAL, .rw)]⟩,
   ⟨"TMX.STATUS", 0x40150008, 1, 0x0, fun _ =>
     [(Reg.TMX_STATUS_DENIED, .w1c), (Reg.TMX_STATUS_FULL, .ro)]⟩]

/-- Every register of the device. -/
def regRows : List RegRow :=
  regRowsRAS0 ++ regRowsRAS1 ++ regRowsGTX ++ regRowsGTE0 ++ regRowsGTE1 ++
  regRowsZNE0 ++ regRowsZNE1 ++ regRowsCOR0 ++ regRowsCOR1 ++ regRowsTLK ++
  regRowsTPR ++ regRowsSWP ++ regRowsSNS ++ regRowsETH ++ regRowsNTM0 ++
  regRowsNTM1 ++ regRowsNTM2 ++ regRowsHIF0 ++ regRowsHIF1 ++ regRowsSEC ++
  regRowsFST ++ regRowsFCL ++ regRowsITC0 ++ regRowsITC1 ++ regRowsPWC0 ++
  regRowsPWC1 ++ regRowsTHM ++ regRowsMRC ++ regRowsEVR ++ regRowsCKU ++
  regRowsPTN ++ regRowsTMX

end Sys2Proof.Machine
end

