-- ==== Sys2Proof/Machine/State.lean ====
section
/-! DEFINITION. The state of the device and of its tiles: every register field, every memory, queue,
counter and mode the spec gives them, as plain data, and the state after reset. -/

namespace Sys2Proof.Machine

/-- The two parts of the family (`00_scope.md`). -/
inductive Part where
  | mu6410
  | mu1610
  deriving DecidableEq, Repr

/-- Device states of R33. -/
inductive DevState where
  | off | pilot | boot | standby | prelit | lit | service | fallback | halt
  deriving DecidableEq, Repr

/-- Tile states of R40. -/
inductive TState where
  | live | coast | plate | dark
  deriving DecidableEq, Repr

/-! ### Mailbox bookkeeping (chapter 10) -/

/-- What a completion record echoes of its descriptor (R308), and whether the command had been deferred. -/
structure Cpl where
  opc    : Nat
  ch     : Nat
  slot   : Nat
  tag    : Nat
  cpl    : Bool
  wake   : Bool
  wasDef : Bool
  deriving DecidableEq, Repr

/-- The later event a running command waits for (`11_command_reference.md`). -/
inductive WaitKind where
  /-- PERF_SET: the level in force reaches `lvl` (R339). -/
  | perf (lvl : Nat)
  /-- A command that set GO; `late` is its own GO write's LATE, `staged` is set at the sample (R334, R354). -/
  | commit (late staged : Bool)
  /-- TIPIN_SELECT taken between a sample and its transfer: slot, COMMIT (R376). -/
  | tipWait (slot : Nat) (commit : Bool)
  /-- SERVICE_ENTER: entry to SERVICE (R340). -/
  | toService
  /-- SERVICE_EXIT: entry to PRELIT (R340). -/
  | toPrelit
  /-- LIGHT_ON taken at instant `t0`: entry to LIT (R342). -/
  | lightOn (t0 : Nat)
  /-- FAULT_CLEAR with S_PLATE: the rerun of the start tests (R360). -/
  | faultClear
  /-- SLEEP: the handshake (R344). -/
  | sleep (alarm : Nat)
  /-- CAL_ROUND: the end of the calibration round (R356). -/
  | calRound
  /-- WEAR_PASS: the end of the wear pass (R356). -/
  | wearPass
  /-- SAFE_TEST: the output tests still to run and the failures found (R361). -/
  | safeTest (left fails : Nat)
  /-- LANE_TRAIN on a lane (R362). -/
  | laneTrain (n : Nat)
  /-- LANE_TEST on a lane (R362). -/
  | laneTest (n : Nat)
  /-- TILE_SET: lane, operation, slots left (R363). -/
  | tileSet (n op slots : Nat)
  /-- TILE_RESUME: lane and the SEQ of the FLIP named (R364). -/
  | tileResume (n seq : Nat)
  /-- A write burst to eMRAM identified by its number (R347, R357, R505). -/
  | burst (id : Nat) (d0 d1 : Nat)
  /-- CKU_SCAN on CKU1 (R358). -/
  | ckuScan
  /-- PAIR_HANDOVER (R365). -/
  | handover
  /-- PTN_BARRIER of a kind and identifier (R365). -/
  | barrier (kind id : Nat)
  deriving DecidableEq, Repr

/-- A command taken and not yet completed. `sc` marks it state-changing (R36). -/
structure Waiter where
  cpl  : Cpl
  sc   : Bool
  kind : WaitKind
  deriving DecidableEq, Repr

/-- A deferred command (R320): its descriptor, opcode, order of take and deadline; `reason`
is DETAIL1 of the last failed check (R333). -/
structure Deferred where
  opc      : Nat
  d        : Desc
  /-- Instant of the take. -/
  taken    : Nat
  deadline : Nat
  reason   : Nat
  deriving DecidableEq, Repr

/-- A moderation window (R324): completions written since it opened. -/
structure Window where
  count : Nat
  deriving DecidableEq, Repr

/-- An image transfer in progress (R346): its channel, target, lane, size, expected CRC, offset, and the
32-byte blocks received, each by its offset. -/
structure Transfer where
  ch     : Nat
  target : Nat
  lane   : Nat
  size   : Nat
  crc    : Nat
  offset : Nat
  blocks : List Nat
  deriving DecidableEq, Repr

/-- The mailboxes' state beside their registers and ring memory (chapters 10 and 11). -/
structure Mbx where
  /-- Deferred commands of all channels, in order of take (R321). -/
  deferred : List Deferred
  /-- Open moderation windows, by channel (R324). -/
  windows  : SMap Window
  /-- The channel served last by the round robin (R314). -/
  last     : Nat
  /-- ZONE_PUTs gathered per channel, with their 48-byte descriptors (R349). -/
  gathers  : SMap (List (Cpl × Bytes))
  /-- Stored reservation of AUTHCNT per channel CH0, CH1 (R317). -/
  authRes  : SMap Nat
  /-- Taken level of HOST_AWAKE (R326). -/
  awake    : Bool
  /-- The 5 µs release timer runs (R327). -/
  release  : Bool
  /-- The recorder read window: area and offset mapped (R358). -/
  window   : Nat × Nat
  /-- Standstill is asserted until this instant (R341). -/
  standstill : Option Nat
  /-- A withdrawal of standstill waits for the end of a state-changing command (R341). -/
  withdraw : Bool
  deriving DecidableEq, Repr

/-! ### Power: pilot, power controller, thermal management (chapter 16) -/

/-- Where the way up of R457 stands. -/
inductive WayUp where
  | idle | waitPg | waitRef | refUp | retryWait | lowWait
  deriving DecidableEq, Repr

/-- The pilot domain beside its registers (R38, R427, R428, R456 to R460, R468, R470, R500). -/
structure Pilot where
  /-- PORST_N as taken (high = released). -/
  porst    : Bool
  pmicEn   : Bool
  pgCore   : Bool
  /-- The REF crystal runs. -/
  refOk    : Bool
  wayUp    : WayUp
  /-- Attempts of the way up made (R459). -/
  attempt  : Nat
  /-- WAKE high as taken. -/
  wakePin  : Bool
  /-- LIGHT_REQ high as taken. -/
  lightReq : Bool
  /-- The RTC alarm has matched (R470). -/
  alarm    : Bool
  /-- SAFE_IN_N low as taken. -/
  safeLow  : Bool
  /-- A high level of SAFE_IN_N has been taken since the last falling edge (R428). -/
  safeArmed : Bool
  /-- The 20 ms FB0 timer runs (R38). -/
  fbTimer  : Bool
  /-- An S-FALLBACK has occurred and LIT has not been reached since (R38, R471). -/
  sFallback : Bool
  /-- FAULT_N was low when the main domain lost power (R427). -/
  faultHold : Bool
  /-- FAULT_N is driven low (R427). -/
  faultN   : Bool
  /-- The way up is barred until PORST_N has been low for 1 ms (R459). -/
  barred   : Bool
  /-- BOOTs that the recovery timer started at the present power-cycle count (R430). -/
  recov    : Nat
  /-- The recovery timer runs (R430). -/
  recovOn  : Bool
  /-- The seconds of RECOVERY_S as the binding loaded gives them (R370). -/
  recovS   : Nat
  /-- PAIR_ID pin: device 2. -/
  pairId   : Bool
  /-- Level of the PAIR_ACT line (R530). -/
  pairAct  : Bool
  /-- FB test pulse in progress: channel and whether it opens the high side (R403). -/
  fbPulse  : Option (Nat × Bool)
  /-- Next low-side or high-side pulse per channel (R403). -/
  fbHigh   : List Bool
  /-- Channels that a demand lights at the end of the pulse in progress (R404). -/
  fbDemand : Nat
  /-- The low-beam strings that a withdrawn device would light at PAIR_ACT low (R530). -/
  fbPair   : Nat
  /-- Recorder shadow: up to 8 entries of 32 bytes, oldest first (R500). -/
  shadow   : List Bytes
  /-- Sequence number of the next recorder-shadow entry (R500). -/
  shadowSeq : Nat
  deriving DecidableEq, Repr

/-- An outstanding sleep or domain handshake (R466, R472): the blocks still to answer, the blocks that
delayed, the instant of the request, and the domain (none for sleep). -/
structure Handshake where
  left    : List Nat
  delayed : List (Nat × Nat)
  t0      : Nat
  dom     : Option Nat
  deriving DecidableEq, Repr

/-- PWC beside its registers. -/
structure Pwc where
  hs       : Option Handshake
  /-- A level change in progress: the level it reaches (R465). -/
  plTo     : Option Nat
  /-- TGEN levels forced low by a safe state, a test pulse or GLOWCUT (R401, R407, R408). -/
  tgenCut  : Nat
  deriving DecidableEq, Repr

/-- One thermal sensor's history (R476, R477). -/
structure Sensor where
  /-- A warn episode is in progress. -/
  warned : Bool
  /-- The instant from which the reading has stayed at or above throttle. -/
  since  : Option Nat
  deriving DecidableEq, Repr

/-- THM beside its registers (R475 to R479). -/
structure Thm where
  sensors : SMap Sensor
  /-- The instant from which every reading has stayed below its release limit (R479). -/
  coolAt  : Option Nat
  /-- The same for D4 (R479). -/
  coolCrit : Option Nat
  /-- Background operations held by a DPAUSE.MS pause: 0 wear pass, 1 sense steps, 2 CKU0 scan, 3 CKU1 scan, 4 eMRAM writes (R478). -/
  paused  : List Nat
  deriving DecidableEq, Repr

/-! ### Raster (chapter 2) -/

/-- The captures of one slot (R58). -/
structure Caps where
  d0s : Nat
  d0n : Nat
  d1s : Nat
  d1n : Nat
  raw : Nat
  deriving DecidableEq, Repr

/-- RAS beside its registers. -/
structure Ras where
  /-- Elapsed instant at which the line in progress started. -/
  lineAt   : Nat
  /-- The frame in progress is the start frame (R56). -/
  startFrame : Bool
  /-- The content start of this blanking has run. -/
  csDone   : Bool
  /-- The slot of this blanking has run. -/
  slotDone : Bool
  /-- The sample of this line 127 has run. -/
  sampled  : Bool
  /-- This blanking applies a seam (R76). -/
  seam     : Bool
  /-- MODE before the seam, while the seam period runs. -/
  oldMode  : Nat
  /-- Active copies of the shadows, by field key (R64). -/
  act      : SMap Nat
  /-- The staging set, from the sample to its transfer (R65, R75). -/
  stag     : Option (SMap Nat)
  /-- The staging set has waited for a seam slot (R354). -/
  waited   : Bool
  /-- MODE of the last commit before the damper's cap (R480). -/
  uncapped : Nat
  /-- The mode cap last staged (R480). -/
  capSeen  : Nat
  /-- The content sent in this raster frame has been withdrawn (R124). -/
  withdrawn : Bool
  /-- The content being rendered has been withdrawn (R124). -/
  withdrawnNext : Bool
  /-- Consecutive slots that carried ABORT (R125). -/
  abortRun : Nat
  /-- Raster time of the next slot, ns (R52). -/
  slotNs   : Nat
  /-- Captures of the last slot (R58). -/
  caps     : Caps
  /-- A domain has been valid since the raster started (R55). -/
  everValid : Bool
  deriving DecidableEq, Repr

/-! ### Gathering engines (chapter 3) -/

/-- A base frame being written (R89, R92). -/
structure Writing where
  buf    : Nat
  /-- Presentation time, full network time in ns (R90). -/
  pt     : Nat
  /-- Rows of exactly W samples received. -/
  rows   : List Nat
  /-- Sequence number of the last packet. -/
  seqNo  : Nat
  /-- A row or sequence error makes the frame incomplete. -/
  bad    : Bool
  /-- The frame is counted in DISC already. -/
  counted : Bool
  /-- It would have qualified at a selection (R93). -/
  missed : Bool
  deriving DecidableEq, Repr

/-- A complete base frame: buffer, presentation time. -/
structure Frame where
  buf : Nat
  pt  : Nat
  deriving DecidableEq, Repr

/-- One stream's frames (R92). -/
structure StreamSt where
  writing : Option Writing
  waiting : Option Frame
  deriving DecidableEq, Repr

/-- Which image the engines render (R91, R96, R99). -/
inductive Source where
  | default
  | stream (n : Nat) (f : Frame)
  | direct
  deriving DecidableEq, Repr

/-- GTE and GTW beside their registers. -/
structure Gte where
  streams : SMap StreamSt
  source  : Source
  /-- Instant BASE_AGE counts from (R97). -/
  ageFrom : Nat
  /-- BASE_STALE and BASE_LOST raised in this episode (R97). -/
  staleUp : Bool
  lostUp  : Bool
  /-- ENV_TABLE raised since the commit (R118). -/
  envUp   : Bool
  /-- Envelope library index held in set A (0) and set B (1) (R376). -/
  envLib  : SMap Nat
  /-- Sums of the content being rendered (R120): Sf, So, and St per lane. -/
  sf      : Nat
  so      : Nat
  st      : SMap Nat
  /-- Kt per lane (R119), default 0x8000. -/
  kt      : SMap Nat
  /-- Temperature per lane that the content takes (R117): s16 field plus 65,536 × the frames since it was valid. -/
  dt      : SMap Nat
  /-- Levelling shift of the content, 1/16 row (R103). -/
  d16     : Int
  /-- SEQ of the content being rendered. -/
  seq     : Nat
  /-- Next tile line to render in GTE and GTW (128: content complete). -/
  nextE   : Nat
  nextW   : Nat
  /-- A content is being rendered. -/
  active  : Bool
  /-- Largest clocks and backlog of the content being rendered, per engine. -/
  maxClk  : SMap Nat
  backlog : SMap Nat
  /-- Codes of the content being rendered after the last gate: the row of tile line L of a lane, 128 codes, at
  lane × 128 + L (R15). -/
  codes   : SMap (List Nat)
  /-- Mask M of the content being rendered, by lane × 16,384 + L × 128 + p, default 0x1000 (R111). -/
  mask    : SMap Nat
  /-- Rows and SEQ of the content sent last, which the next FLIP shows. -/
  sent    : SMap (List Nat)
  sentSeq : Nat
  /-- Rows and SEQ of the content being displayed (R256). -/
  shown   : SMap (List Nat)
  shownSeq : Nat
  deriving DecidableEq, Repr

/-! ### Shade zones (chapter 4) -/

/-- The outline of a shape in force (R135), positions in 1/16 pixel. -/
inductive Outline where
  | ellipse (a b angle : Nat)
  | quad (corners : List (Int × Int))
  deriving DecidableEq, Repr

/-- A shape in force for a content frame (R135, R142): centre, total margin Mg, soft width W16. -/
structure Shape where
  outline : Outline
  cx      : Int
  cy      : Int
  mg      : Int
  w16     : Nat
  deriving DecidableEq, Repr

/-- A zone held by ZNE: the descriptor in force, its TOBS as extended (ns), and its state (R128 to R131, R144, R554). -/
structure Zone where
  desc   : Bytes
  tobs   : Nat
  prot   : Bool
  stale  : Bool
  setver : Nat
  /-- te of the content frame being rendered, µs (R141). -/
  te     : Nat
  /-- Extrapolated centre and margin of the content being rendered (ZVIEW0 to ZVIEW2). -/
  vx     : Int
  vy     : Int
  vm     : Int
  deriving DecidableEq, Repr

/-- The pitch descriptor in force (R149). -/
structure Pitch where
  tobs  : Nat
  angle : Int
  rate  : Int
  deriving DecidableEq, Repr

/-- The values of a content frame that ZNE takes at its start (R138, R141, R146). -/
structure ZneFrame where
  tShow   : Nat
  tMid    : Nat
  period  : Nat
  spec    : Bool
  horizon : Nat
  k       : Nat
  m0      : Nat
  gmargin : Nat
  steps   : Nat
  deriving DecidableEq, Repr

/-- ZNE beside its registers. -/
structure Zne where
  zones    : SMap Zone
  frame    : ZneFrame
  /-- The frame set F as shapes (R138). -/
  shapes   : List Shape
  /-- Mid-frame publishes: the first tile line each applies to, and its shapes (R139, R140). -/
  mids     : List (Nat × List Shape)
  /-- Release levels by field pixel y × 2,048 + x, default 15 (R146). -/
  q        : SMap Nat
  /-- t_show of the previous content frame (R146). -/
  prevShow : Option Nat
  pitch    : Option Pitch
  /-- Prediction is off (R151). -/
  predOff  : Bool
  /-- Instant from which the pitch staleness counts (R151). -/
  pitchAt  : Nat
  /-- LEVEL_STALE raised in this episode. -/
  lvlUp    : Bool
  /-- Instants of the last publishes, newest first (R152). -/
  pubs     : List Nat
  /-- Arrival instant of the CH1 publish in progress, for ZNE.LAT. -/
  arrival  : Option Nat
  /-- A zone-table error darkens the rest of this content frame (R153). -/
  memDark  : Bool
  /-- Zone table entries and release-store pixels that are uncorrectable (R153). -/
  badZones : List Nat
  badQ     : List Nat
  deriving DecidableEq, Repr

/-! ### Per-pixel correction (chapter 5) and the last gate (chapter 13) -/

/-- An update-queue entry (R179). -/
structure Upd where
  repair : Bool
  idx    : Nat
  data   : Nat
  deriving DecidableEq, Repr

/-- A wear pass in progress: the lanes left and how many the hold-up check has deferred (R176, R356). -/
structure WearRun where
  left     : List Nat
  deferred : Nat
  deriving DecidableEq, Repr

/-- COR beside its registers and table windows. -/
structure Cor where
  queue    : List Upd
  /-- FCNT at which the entries held for UPD_AT apply was written; entries apply at the next start (R180). -/
  missed   : Bool
  /-- Wear accumulators by word index, default 0 (R175). -/
  wearA    : SMap Nat
  /-- Whole second of raster time of the last wear sample (R175). -/
  wearSec  : Nat
  /-- The content being rendered is the one sampled for wear (R175). -/
  wearNow  : Bool
  pass     : Option WearRun
  /-- v5, E and M of the content being rendered, by lane × 16,384 + L × 128 + p (R171, R172). -/
  v5       : SMap Nat
  env      : SMap Nat
  /-- Dead pixels with vd > 0 that no neighbour took, in the content being rendered (R173). -/
  unfilled : Nat
  /-- Accumulator words that read uncorrectable (R184). -/
  badA     : List Nat
  /-- COR_TABLE raised for a thermal curve in this content (R165). -/
  tblUp    : Bool
  /-- Last-gate state of the content being rendered: flux spent, spent per lane and per row, clip counts (R387 to R390). -/
  gFlux    : Nat
  gLane    : SMap Nat
  /-- Gate cut-off row in force and SLIP, taken at the content start (R390). -/
  g16      : Int
  slip     : Bool
  clipped  : Bool
  /-- Next tile line that COR emits. -/
  line     : Nat
  deriving DecidableEq, Repr

/-! ### Lanes (chapter 6) -/

/-- Training of a lane (R199, R200). -/
structure Training where
  attempt : Nat
  /-- Consecutive valid TSB so far. -/
  run     : Nat
  /-- The 16 TSA with READY = 1 have been sent. -/
  ready   : Bool
  /-- The electrical idle between attempts runs. -/
  idle    : Bool
  deriving DecidableEq, Repr

/-- A lane's state beside its registers. -/
structure Lane where
  training : Option Training
  /-- Symbol boundary of a manual search, 0 to 9 (R213). -/
  slip     : Nat
  /-- TSA with FELB = 1 is being sent (R211). -/
  felbReq  : Bool
  deriving DecidableEq, Repr

/-- A far end's training responder: a tile of a lane or the partner device (R198, R199, R211). -/
structure FarEnd where
  /-- Answering TSA with TSB. -/
  answering : Bool
  ready     : Bool
  /-- TSB with READY = 1 still to send. -/
  loopback  : Bool
  deriving DecidableEq, Repr

/-! ### Tile protocol, device side (chapter 7) -/

/-- A command set queued or sent (R224, R225). -/
structure CmdSet where
  opc     : Nat
  tag     : Nat
  payload : Bytes
  deriving DecidableEq, Repr

/-- A set in the queue, for the lanes that it leaves on in one symbol slot (R224). -/
structure Queued where
  lanes : List Nat
  set   : CmdSet
  deriving DecidableEq, Repr

/-- A command set sent and not acknowledged: sends made (R225). -/
structure Sent where
  set   : CmdSet
  sends : Nat
  /-- It goes out again at the next place for command sets. -/
  due   : Bool
  deriving DecidableEq, Repr

/-- TPR's record of one lane. -/
structure TprLane where
  /-- Command sets sent and not acknowledged, oldest first. -/
  sent     : List Sent
  /-- Expected signatures of the last two SEQs sent in full: (SEQ, signature) (R238). -/
  sigs     : List (Nat × Nat)
  /-- The signature held for the SEQ that the last good FTEL reported (R238). -/
  held     : Option (Nat × Nat)
  /-- S_t held per SEQ for the last four contents, newest first, and of the plate (R262). -/
  sums     : List (Nat × Nat)
  plateSum : Option Nat
  /-- SEQ of the last FTEL and its signature, for the freeze check (R259). -/
  lastSig  : Option Nat
  /-- The last broadcast that the tile acted on was SEAM (R259). -/
  afterSeam : Bool
  /-- Consecutive slots without a valid FTEL (R242). -/
  lost     : Nat
  /-- TILE_TELEM raised in this run. -/
  telemUp  : Bool
  /-- The newest valid temperature, s16 in 0.1 °C, 0x8000 for none, and the frames since it (R117, R165). -/
  temp     : Nat
  tempAge  : Nat
  /-- Line statuses of the content being sent: all so far report CRCOK, count (R239). -/
  lineOk   : Bool
  lines    : Nat
  /-- The tile coasts with CAUSE INCOMPLETE and automatic resume judges it (R239). -/
  autoRes  : Bool
  /-- Raster instants (ns) of automatic resumes in the last second (R239). -/
  autoAt   : List Nat
  /-- The lane's line packets go out: it was in service when the content in flight began (R239). -/
  sending  : Bool
  /-- SEQ of a RESUME sent by firmware and its lapses (R239). -/
  resumeSeq : Option Nat
  lapses   : Nat
  /-- It is sent again for the next content whose line statuses all report CRCOK (R239). -/
  again    : Bool
  /-- The set of a demand that the tile's next change of state answers: 0 none, 1 PLATE, 2 COAST, 3 WIPE. -/
  cmd      : Nat
  /-- PLATECAP awaiting its FTEL: SEQ (R236). -/
  plateReq : Option Nat
  /-- Signature recorded with the verified plate (R236). -/
  plateSig : Option Nat
  /-- The state the tile reported changed during the frame (R264). -/
  changed  : Bool
  /-- Consecutive FTELs with the selected reference out and the other in tolerance, and with both out (R268). -/
  refRun   : Nat
  refBoth  : Nat
  /-- Automatic reference choice suspended (R364). -/
  refHold  : Bool
  /-- SNAPR received for the snapshot in progress. -/
  snapped  : Bool
  /-- A valid FTEL arrived since the last slot. -/
  got      : Bool
  deriving DecidableEq, Repr

/-- TPR beside its registers and payload window. -/
structure Tpr where
  /-- The 32-set command queue, oldest first (R224). -/
  queue  : List Queued
  lanes  : SMap TprLane
  /-- TAG of the next set queued (R224). -/
  nextTag : Nat
  deriving DecidableEq, Repr

/-! ### Tiles (chapter 7) -/

/-- A pending emitter-select write (R230). -/
structure SelWr where
  seq   : Nat
  line  : Nat
  first : Nat
  sels  : List Nat
  deriving DecidableEq, Repr

/-- A probe entry of a tile (R224, R248). -/
structure Probe where
  seq   : Nat
  pixel : Nat
  mode  : Nat
  phase : Nat
  deriving DecidableEq, Repr

/-- A probe result (R226). -/
structure ProbeRes where
  pixel : Nat
  mode  : Nat
  value : Nat
  deriving DecidableEq, Repr

/-- Sets that arrived and wait for the next phase boundary (R229). -/
structure TileSets where
  wipe  : Bool
  plate : Bool
  coast : Bool
  deriving DecidableEq, Repr

/-- One tile (R220 to R238). -/
structure Tile where
  powered  : Bool
  state    : TState
  cause    : Nat
  sync     : Bool
  supply   : Bool
  /-- Front buffer SEQ and codes; back buffer row SEQs and codes, by row × 128 + pixel. -/
  frontSeq : Nat
  front    : SMap Nat
  backSeq  : SMap Nat
  back     : SMap Nat
  /-- The last broadcast acted on, and its SEQ: 0 none, 1 FLIP, 2 SEAM, 3 ABORT. -/
  lastEvt  : Nat
  lastSeq  : Nat
  sets     : TileSets
  resume   : Option Nat
  plateCap : Option Nat
  /-- PLATECAP latched at FLIP, copied before the next FLIP. -/
  plate    : SMap Nat
  plateSeq : Nat
  plateV   : Bool
  plateCrc : Nat
  sel      : SMap Nat
  selPend  : List SelWr
  probes   : List Probe
  results  : List ProbeRes
  darkRow  : Option (Nat × Nat × Nat)
  darkAck  : Nat
  coastLim : Nat
  timing   : Nat
  oldTiming : Nat
  role     : Nat
  port     : Nat
  autoPort : Bool
  ref      : Nat
  refPend  : Option Nat
  badSet   : Nat
  lcrc     : Nat
  lcrcAll  : Nat
  xmisCnt  : Nat
  /-- Lines that the selected port has failed one after the other, the other port passing all but perhaps the last, and
  how many of them the other port has passed (R237). -/
  badRun   : Nat
  otherRun : Nat
  /-- CRC fields of the line in progress per port, for XMIS (R237). -/
  crcA     : SMap Nat
  crcB     : SMap Nat
  /-- Good copy of a line from the port not selected, until the selected port's copy has come (R237). -/
  other    : Option LinePkt
  phase    : Nat
  far      : FarEnd
  deriving DecidableEq, Repr

/-! ### Sweeper and sense front-end (chapter 8) -/

/-- A probe balance (R250): code-phases left, contents left, trims of the content in progress. -/
structure Balance where
  lane  : Nat
  pixel : Nat
  bal   : Nat
  left  : Nat
  trim  : Nat
  seq   : Nat
  deriving DecidableEq, Repr

/-- A suspect mark (R254): class, and whether from an emission probe. -/
structure Suspect where
  cls  : Nat
  emission : Bool
  deriving DecidableEq, Repr

/-- SWP beside its registers. -/
structure Swp where
  /-- Lit-age by lane × 16,384 + pixel, units of 0.5 ms, default 0 (R256). -/
  age      : SMap Nat
  /-- Suspect marks by (lane × 16,384 + pixel) × 4 + emitter: 0 the single emitter in use, 1 primary, 2 spare (R254). -/
  suspects : SMap Suspect
  /-- Balances by (lane × 64 + slot) × 16 + SEQ mod 16 (R252). -/
  balances : SMap Balance
  /-- CLASSQ, at most 32 entries (R255). -/
  classq   : List Nat
  /-- Words that read uncorrectable: lit-age or suspect (R258). -/
  badAge   : List Nat
  /-- The frame being displayed is a seam frame. -/
  seamFrame : Bool
  deriving DecidableEq, Repr

/-- A calibration round of SNS (R266). -/
structure CalRound where
  ch    : Nat
  /-- Channels that kept their previous element. -/
  kept  : Nat
  /-- Between channels, held by a DPAUSE.MS pause (R267). -/
  paused : Bool
  deriving DecidableEq, Repr

/-- SNS beside its registers. -/
structure Sns where
  round : Option CalRound
  /-- Run of consecutive failing frames per group, with the sign (true: above) (R263). -/
  runs  : SMap (Nat × Bool)
  /-- Groups whose frame contained a TGEN off-pulse or dark-path test (R264). -/
  skip  : Nat
  deriving DecidableEq, Repr

/-! ### Ethernet, CAN FD and network time (chapter 9) -/

/-- A domain view (R290): anchor raw count, anchor time in ns, increment in 2^-32 ns per tick. -/
structure DomView where
  a   : Nat
  t   : Nat
  inc : Nat
  deriving DecidableEq, Repr

/-- A time-triggered output (R296): index of its next edge and whether its pulse is in progress. -/
structure Tto where
  k     : Nat
  pulse : Bool
  deriving DecidableEq, Repr

/-- NTM beside its registers. -/
structure Ntm where
  views : SMap DomView
  ttos  : SMap Tto
  deriving DecidableEq, Repr

/-- The link side of ETH and HIF beside their registers. -/
structure Links where
  /-- ARP caches by port, newest first, at most 16 pairs (IPv4 address, MAC address) (R272). -/
  arp      : SMap (List (Nat × Nat))
  /-- Installed MACsec SAs by port (R273). -/
  sas      : SMap (List MkaSak)
  /-- Counter byte of the CAN status frame (R289). -/
  canCount : Nat
  /-- Highest severity latched since the last CAN status frame (R289). -/
  canHigh  : Nat
  /-- Stored reservation of CAN_FRESH in the key area (R288). -/
  canRes   : Nat
  /-- FRESH of the beam frame that each CH2 descriptor was built from, by ring slot (R285, R287). -/
  canFresh : SMap Nat
  /-- Newest corrected stamp of a gPTP event message, in ns of the raw count, by 2 × port + 1 for a sent one (R293). -/
  stamps   : SMap Int
  deriving DecidableEq, Repr

/-! ### Fender (chapter 13) and fault collection (chapter 14) -/

/-- A copy in the fender's ingress queue (R278, R391, R515): the opcode, descriptor bytes 0x00 to 0x37 of a command
from CH1, or the 48-byte zone descriptor of a ZPUB entry, with the tag and the counter that the tag covers. -/
structure Ingress where
  opc  : Nat
  zpub : Bool
  body : Bytes
  atag : Nat
  cnt  : Nat
  deriving DecidableEq, Repr

/-- A dark-path test in progress (R398): lane, row, phase, SEQ, expected drop, how many rows of larger
sums it passed over, and whether the DARKROW has been sent. -/
structure DarkTest where
  lane  : Nat
  row   : Nat
  phase : Nat
  seq   : Nat
  e     : Nat
  fails : Nat
  deriving DecidableEq, Repr

/-- The fender beside its status window. -/
structure Fender where
  /-- The SAFETY section in the fender's SRAM (R386). -/
  safety   : Option Bytes
  ingress  : List Ingress
  /-- Protected zones that the fender applies to the content being rendered, by ZID (R391). -/
  held     : SMap Bytes
  /-- Accepted copies, with the instant of acceptance, waiting for the tap or for ZACC_US (R391). -/
  waiting  : List (Bytes × Nat)
  /-- Accepted copies that apply at the next content start (R391). -/
  due      : List Bytes
  /-- (ZID, TOBS) that ZNE's tap has reported (R391). -/
  taps     : List (Nat × Nat)
  /-- The fender's own gate row, and whether SLIP was in force in the content before (R395). -/
  g16      : Int
  slip     : Bool
  /-- Instant since which each test point has stayed below its minimum (R394). -/
  tpLow    : SMap Nat
  /-- Lane tested last by the dark-path rotation (R398). -/
  lastLane : Nat
  test     : Option DarkTest
  /-- Instant of the last passed dark-path test (FST_DP.AGE). -/
  passAt   : Nat
  /-- Instant of the last signal to FCL (R397). -/
  signalAt : Nat
  /-- Group tested last by the TGEN rotation, and the pulse in progress (R401). -/
  lastGrp  : Nat
  pulse    : Option Nat
  /-- A failed verdict from a source of severity SAFE or FATAL since the last clear (R426). -/
  bad      : Bool
  /-- Level of EMBER. -/
  ember    : Bool
  /-- Consecutive content frames whose verdict and plausibility passed (R410). -/
  passRun  : Nat
  /-- VERIFY_AGE has been raised in this episode (R257). -/
  ageUp    : Bool
  deriving DecidableEq, Repr

/-! ### Stoker cores (chapter 15) -/

/-- One core of a partition, as far as the chapters read or write it: program counter, x1 to x31, the fast
bank (1 to 15 for x1 to x15, 0 for the saved PC), the machine-mode CSRs, ITC's standing choice, and the
start of the watchdog count. -/
structure Core where
  pc      : Nat
  x       : SMap Nat
  bank    : SMap Nat
  mstatus : Nat
  mepc    : Nat
  mcause  : Nat
  mtval   : Nat
  /-- ITC's choice that stands for 4 STK cycles (R446): the source. -/
  choice  : Option Nat
  wdogAt  : Option Nat
  /-- S1 is held in reset until the next BOOT (R422). -/
  barred  : Bool
  deriving DecidableEq, Repr

/-! ### eMRAM bursts, event recorder, check-value units, ash dump (chapter 17) -/

/-- What a write burst is for, which decides what follows its end (R347, R383, R487, R488). -/
inductive BurstWhy where
  /-- A write of MRC.WGO.GO (R488). -/
  | wgo
  /-- A command that waits for the burst (R347, R505). -/
  | cmd
  /-- A command that writes the calibration words of a lane (R183, R357). -/
  | lane (n : Nat)
  /-- One lane of a wear pass (R176). -/
  | wear (n : Nat)
  /-- A wipe of a life-cycle transition (R383). -/
  | wipe
  deriving DecidableEq, Repr

/-- A write burst (R487): its number, requester (0 S0, 1 EVR, 2 ash dump), the runs of whole lines it writes
by eMRAM offset, the lines that the hold-up check counts, and what it is for. -/
structure Burst where
  id    : Nat
  who   : Nat
  parts : List (Nat × Bytes)
  lines : Nat
  why   : BurstWhy
  deriving DecidableEq, Repr

/-- MRC beside its registers: the burst in progress, the bursts waiting in order, the next number. -/
structure Mrc where
  run  : Option Burst
  wait : List Burst
  next : Nat
  deriving DecidableEq, Repr

/-- A staging-queue entry of EVR (R493, R496). -/
structure EvEntry where
  opsec  : Nat
  pwrcyc : Nat
  sev    : Nat
  code   : Nat
  ext    : Option Nat
  more   : Nat
  fcnt   : Nat
  deriving DecidableEq, Repr

/-- EVR beside its registers. -/
structure Evr where
  queue   : List EvEntry
  /-- Sequence number of the next record (R494). -/
  seq     : Nat
  /-- The next record written carries LOSS = 1 (R497). -/
  loss    : Bool
  /-- Events lost in the loss episode in progress; 0 none (R497). -/
  episode : Nat
  /-- HOLDUP_LOW has been raised in this episode (R491). -/
  holdUp  : Bool
  deriving DecidableEq, Repr

/-- A memory scan of a check-value unit (R507). -/
structure Scan where
  who  : Master
  addr : Nat
  len  : Nat
  deriving DecidableEq, Repr

/-- A check-value unit beside its registers. -/
structure Cku where
  run  : Nat
  scan : Option Scan
  deriving DecidableEq, Repr

/-- What the ash dump keeps of the FATAL reaction (R501 to R503). -/
structure Dump where
  /-- The last 64 descriptors taken, oldest first, 64 bytes each (R503). -/
  log    : List Bytes
  /-- Message word of the FATAL that the dump routine still has to serve, its STATE word, and the captured
  state of S0 and S1, 320 bytes. -/
  fatal  : Option (Nat × Nat × Bytes)
  deriving DecidableEq, Repr

/-! ### Binding, keys and life-cycle (chapter 12) -/

/-- The binding, the keys and the life-cycle beside the SEC registers. -/
structure Sec where
  /-- The sections of the binding loaded, by ID (R370). -/
  sections : SMap Bytes
  /-- Valid tip-ins by slot: the body of 32 bytes, then VERSION and CRC-32 of the image (R375). -/
  tips     : SMap Bytes
  /-- Unwrapped keys by KID (R379). -/
  keys     : SMap Bytes
  bindVer  : Nat
  bindCrc  : Nat
  bindSvn  : Nat
  fwSvn    : Nat
  /-- SVN minimums in the key area (R381). -/
  minFw    : Nat
  minBind  : Nat
  /-- Life-cycle transition marker (R383). -/
  marker   : Option Nat
  /-- Wipes of the transition still to run: (offset, bytes) (R383). -/
  wipes    : List (Nat × Nat)
  /-- A TIPIN_SELECT not transferred yet: slot (R377). -/
  tipPend  : Option Nat
  deriving DecidableEq, Repr

/-! ### Partner link (chapter 18) -/

/-- What the partner's last HELLO reported (R513). -/
structure Hello where
  stateW  : Nat
  role    : Nat
  step    : Nat
  domain  : Nat
  ready   : Bool
  bindCrc : Nat
  calCrc  : Nat
  deriving DecidableEq, Repr

/-- PTN beside its registers. -/
structure Ptn where
  /-- CNT of the next frame sent and of the last frame accepted (R513). -/
  txCnt    : Nat
  rxCnt    : Option Nat
  peer     : Option Hello
  /-- Own DIGEST of the frame in progress, and the partner's where it arrived first (R523). -/
  own      : Option Bytes
  theirs   : Option Bytes
  /-- Consecutive frames with the skew within and outside SKEWMAX (R518). -/
  skewOk   : Nat
  /-- Consecutive frames with XMIS by lane, and the lanes that reported it in this frame (R527). -/
  xmisRun  : SMap Nat
  xmisNow  : List Nat
  /-- ZPUB parts received: (index, payload) (R514). -/
  parts    : List (Nat × Bytes)
  /-- Publishes that apply at the next content start (R522). -/
  late     : List (Nat × List Bytes)
  /-- ADOPT for the next selection (R521). -/
  adopt    : Option Bytes
  /-- STAGE set to write at the next sample (R521). -/
  stage    : Option Bytes
  /-- GOV of line 126 (R521). -/
  gov      : Option Bytes
  /-- TCMD sets by the line they go out in: (line, lane, payload) (R521). -/
  tcmds    : List (Nat × Nat × Bytes)
  /-- Barriers that this device has reached: (kind, identifier); those that the partner has: (kind, identifier,
  the partner's FCNT) (R365). -/
  reached  : List (Nat × Nat)
  peerAt   : List (Nat × Nat × Nat)
  /-- Content frames without XMIS since joining began; none before joining (R520). -/
  joining  : Option Nat
  /-- HANDOVER with its REASON sent and not answered (R528). -/
  asked    : Option Nat
  /-- Line packets and broadcasts have stopped (R527, R529, R530). -/
  mute     : Bool
  /-- They stop at the next line start (R530). -/
  muteNext : Bool
  /-- The slot of the content in flight carries ABORT by agreement (R521, R522). -/
  abort    : Bool
  /-- SEQs whose TILE_XMIS is suppressed (R523). -/
  diverged : List Nat
  deriving DecidableEq, Repr

/-! ### The device as a whole (chapter 1) -/

/-- Where the device stands between states. -/
structure Dev where
  state    : DevState
  sPlate   : Bool
  /-- Start tests are running; `rerun` when they rerun steps 1, 4, 6 and 7 (R410). -/
  tests    : Bool
  rerun    : Bool
  /-- An entry to PRELIT or SERVICE that takes effect at the transfer of its tip-in (R556). -/
  entering : Option DevState
  /-- A level that PWC raises before an entry: the state entered when the change is done (R464). -/
  raising  : Option DevState
  /-- Auto-light does not act until the next fall of LIGHT_REQ (R343). -/
  autoHold : Bool
  /-- A reset that follows a RESET or LC_ADVANCE: its RSTCAUSE (R344, R366). -/
  resetDue : Option Nat
  /-- A BOOT whose entry has run; its next step: 1 boot ROM checks, 2 binding load. -/
  bootStep : Nat
  /-- REF fails: degraded STANDBY from the RC oscillator (R460). -/
  rc       : Bool
  /-- Firmware runs (FIRMWARE word of R31). -/
  fwRuns   : Bool
  deriving DecidableEq, Repr

/-- What has left the device or a tile on a wire, in order. -/
inductive Tx where
  /-- Hatch datagram: port, destination address, destination UDP port, payload (R276). -/
  | hatch (port ip udp : Nat) (payload : Bytes)
  /-- SPI response: STATUS, data bytes and CRC-8 (R281). -/
  | spi (bytes : Bytes)
  /-- CAN FD frame: identifier word and data (R285, R289). -/
  | can (id : Nat) (data : Bytes)
  /-- ARP reply: port, target address, target MAC (R272). -/
  | arp (port ip mac : Nat)
  /-- ICMP echo reply (R272). -/
  | icmp (port ip : Nat) (payload : Bytes)
  /-- Line packet on a lane: raster line and packet payload from SEQ (R218). -/
  | line (lane l : Nat) (payload : Bytes)
  /-- Broadcast set on a lane: opcode and A0 to A5 (R221). -/
  | bcast (lane opc : Nat) (args : Bytes)
  /-- Command set on a lane: TAG and payload (R224). -/
  | cmd (lane tag : Nat) (payload : Bytes)
  /-- Training, loopback or probe set on a lane: its four symbols' first byte and argument bytes (R199). -/
  | train (lane code : Nat) (args : Bytes)
  /-- Upstream packet of a tile (R226). -/
  | up (lane : Nat) (payload : Bytes)
  /-- Partner frame: type and payload (R513). -/
  | ptn (type cnt : Nat) (payload : Bytes)
  /-- VCORE target in mV over MDIO (R463). -/
  | vset (mv : Nat)
  /-- Edge of a time-triggered output: output, level asserted (R296). -/
  | tto (n : Nat) (on : Bool)
  /-- Level of IRQ_N, true = asserted (R324). -/
  | irq (on : Bool)
  deriving DecidableEq, Repr

/-! ### The whole state -/

/-- No meaning of this model stops with a fault: every command of the table has an effect that the spec
gives, and an access that the spec turns away (R17, R18, R27, R472) raises the fault message and the bus
error that the spec names, which is a next state. The type has no constructor; nothing raises it. -/
inductive Fault where
  deriving DecidableEq, Repr

/-- Why a command has no meaning. -/
inductive Refusal where
  /-- Raised by an arm of `exec` whose command has no meaning yet, by its mnemonic. Safe: the machine stops. -/
  | notModelled (mnemonic : String)
  deriving DecidableEq, Repr

/-- The state of the device, of its tiles and of the queue of waiting commands. -/
structure State where
  /-- Which part of the family this is (`00_scope.md`). -/
  part    : Part
  /-- Commands waiting, first in first out. -/
  pending : List Instr
  /-- Elapsed time in 4 ns ticks, as the last command that names an instant gave it. -/
  now     : Nat
  /-- NTM.RAW less elapsed ticks: the elapsed instant at which NTC started (R290). -/
  ntcFrom : Nat
  /-- NTC runs (R24, R25). -/
  ntcOn   : Bool
  /-- Raised when the view reads are needed while NTC is stopped: the frozen raw count. -/
  rawHeld : Nat
  /-- Register fields that differ from their reset value, by field key (`Fld.key`). -/
  regs    : SMap Nat
  /-- Pixel store, local RAMs, eMRAM and table windows by stoker address; unlisted bytes read 0. -/
  mem     : List Host.Cell
  /-- Aligned 64-bit words that read uncorrectable, by address (R553, R434, R484). -/
  eccBad  : List Nat
  dev     : Dev
  pilot   : Pilot
  pwc     : Pwc
  thm     : Thm
  ras     : Ras
  gte     : Gte
  zne     : Zne
  cor     : Cor
  /-- Lanes 0 to 65 of TLK by number. -/
  lanes   : SMap Lane
  tpr     : Tpr
  /-- Tiles by the number of their lane. -/
  tiles   : SMap Tile
  /-- Training responder of the partner device on lanes 64 and 65. -/
  far     : SMap FarEnd
  swp     : Swp
  sns     : Sns
  links   : Links
  ntm     : Ntm
  mbx     : Mbx
  /-- The open image transfer (R346). -/
  image   : Option Transfer
  /-- Commands taken and waiting for a later event (chapter 11). -/
  waits   : List Waiter
  /-- Fault messages raised and not yet latched by FCL (R417). -/
  inbox   : List FMsg
  fender  : Fender
  core0   : Core
  core1   : Core
  mrc     : Mrc
  evr     : Evr
  cku0    : Cku
  cku1    : Cku
  dump    : Dump
  sec     : Sec
  ptn     : Ptn
  /-- What has left on a wire, in order. -/
  tx      : List Tx
  /-- The model's own counter of free values taken (not the spec's). -/
  freeCnt : Nat
  deriving DecidableEq, Repr

/-! ### Reset -/

/-- The pilot domain right after VPILOT has entered its range (R455, R456): PORST_N low, no wake source. -/
def Pilot.cold : Pilot :=
  { porst := false, pmicEn := false, pgCore := false, refOk := false, wayUp := .idle, attempt := 0,
    wakePin := false, lightReq := false, alarm := false, safeLow := false, safeArmed := true,
    fbTimer := false, sFallback := false, faultHold := false, faultN := false, barred := false,
    recov := 0, recovOn := false, recovS := 0, pairId := false, pairAct := false, fbPulse := none,
    fbHigh := [false, false], fbDemand := 0, fbPair := 0, shadow := [],
    shadowSeq := 0 }

/-- The device as a whole in PILOT. -/
def Dev.cold : Dev :=
  { state := .pilot, sPlate := false, tests := false, rerun := false, entering := none, raising := none,
    autoHold := false, resetDue := none, bootStep := 0, rc := false, fwRuns := false }

/-- PWC with no handshake and no level change. -/
def Pwc.cold : Pwc := { hs := none, plTo := none, tgenCut := 0 }

/-- THM with no history. -/
def Thm.cold : Thm := { sensors := [], coolAt := none, coolCrit := none, paused := [] }

/-- The raster stopped, before any line. -/
def Ras.cold : Ras :=
  { lineAt := 0, startFrame := false, csDone := false, slotDone := false, sampled := false, seam := false,
    oldMode := 1, act := [], stag := none, waited := false, uncapped := 1, capSeen := 3,
    withdrawn := false, withdrawnNext := false, abortRun := 0, slotNs := 0,
    caps := { d0s := 0, d0n := 0, d1s := 0, d1n := 0, raw := 0 }, everValid := false }

/-- The gathering engines with no frame and no content. -/
def Gte.cold : Gte :=
  { streams := [], source := .default, ageFrom := 0, staleUp := false, lostUp := false, envUp := false,
    envLib := [], sf := 0, so := 0, st := [], kt := [], dt := [], d16 := 0, seq := 0, nextE := 0, nextW := 0,
    active := false, maxClk := [], backlog := [], codes := [], mask := [], sent := [], sentSeq := 0,
    shown := [], shownSeq := 0 }

/-- ZNE with no zone. -/
def Zne.cold : Zne :=
  { zones := [],
    frame := { tShow := 0, tMid := 0, period := 0, spec := false, horizon := 0, k := 0, m0 := 0,
               gmargin := 0, steps := 0 },
    shapes := [], mids := [], q := [], prevShow := none, pitch := none, predOff := false, pitchAt := 0,
    lvlUp := false, pubs := [], arrival := none, memDark := false, badZones := [], badQ := [] }

/-- COR with empty tables. -/
def Cor.cold : Cor :=
  { queue := [], missed := false, wearA := [], wearSec := 0, wearNow := false, pass := none, v5 := [],
    env := [], unfilled := 0, badA := [], tblUp := false, gFlux := 0, gLane := [], g16 := 0, slip := false,
    clipped := false, line := 0 }

/-- SWP with no probe. -/
def Swp.cold : Swp :=
  { age := [], suspects := [], balances := [], classq := [], badAge := [], seamFrame := false }

/-- The links with no association and no frame counted. -/
def Links.cold : Links :=
  { arp := [], sas := [], canCount := 0, canHigh := 0, canRes := 0, canFresh := [], stamps := [] }

/-- The mailboxes with nothing deferred, gathered or open. -/
def Mbx.cold : Mbx :=
  { deferred := [], windows := [], last := 0, gathers := [], authRes := [], awake := false,
    release := false, window := (0, 0), standstill := none, withdraw := false }

/-- The fender before its checks run. -/
def Fender.cold : Fender :=
  { safety := none, ingress := [], held := [], waiting := [], due := [], taps := [], g16 := 0, slip := false,
    tpLow := [], lastLane := 63, test := none, passAt := 0, signalAt := 0, lastGrp := 7, pulse := none,
    bad := false, ember := false, passRun := 0, ageUp := false }

/-- A core out of reset, with x1 to x31, the CSRs and the fast bank zero (R443, R448). -/
def Core.cold : Core :=
  { pc := 0, x := [], bank := [], mstatus := 0, mepc := 0, mcause := 0, mtval := 0, choice := none,
    wdogAt := none, barred := false }

/-- SEC with nothing loaded. -/
def Sec.cold : Sec :=
  { sections := [], tips := [], keys := [], bindVer := 0, bindCrc := 0, bindSvn := 0,
    fwSvn := 0, minFw := 0, minBind := 0, marker := none, wipes := [], tipPend := none }

/-- The partner link down, no role. -/
def Ptn.cold : Ptn :=
  { txCnt := 0, rxCnt := none, peer := none, own := none, theirs := none, skewOk := 0, xmisRun := [],
    xmisNow := [], parts := [], late := [], adopt := none, stage := none, gov := none,
    tcmds := [], reached := [], peerAt := [], joining := none, asked := none, mute := false,
    muteNext := false,
    abort := false, diverged := [] }

/-- The machine right after reset: the COLD reset of R456, VPILOT in range, the device in PILOT, every
register at the reset value its table gives (a field of `regs` that is not listed reads its reset value),
every memory empty, no tile powered, no command waiting. -/
def State.reset : State :=
  { part := .mu6410, pending := [], now := 0, ntcFrom := 0, ntcOn := false, rawHeld := 0, regs := [],
    mem := [], eccBad := [], dev := Dev.cold, pilot := Pilot.cold, pwc := Pwc.cold, thm := Thm.cold,
    ras := Ras.cold, gte := Gte.cold, zne := Zne.cold, cor := Cor.cold, lanes := [],
    tpr := { queue := [], lanes := [], nextTag := 0 }, tiles := [], far := [], swp := Swp.cold,
    sns := { round := none, runs := [], skip := 0 }, links := Links.cold,
    ntm := { views := [], ttos := [] }, mbx := Mbx.cold, image := none, waits := [], inbox := [],
    fender := Fender.cold, core0 := Core.cold, core1 := Core.cold,
    mrc := { run := none, wait := [], next := 0 },
    evr := { queue := [], seq := 0, loss := false, episode := 0, holdUp := false },
    cku0 := { run := 0, scan := none }, cku1 := { run := 0, scan := none },
    dump := { log := [], fatal := none }, sec := Sec.cold, ptn := Ptn.cold, tx := [], freeCnt := 0 }

end Sys2Proof.Machine
end

