-- ==== Sys2Proof/Machine/Ops.lean ====
section
/-! DEFINITION. The named operations over registers, memory, time, faults, interrupts and wires that every
meaning is written with. -/

namespace Sys2Proof.Machine

/-- The answer of a meaning. -/
abbrev Out := Host.Outcome State Fault Refusal

/-! ### Registers -/

/-- The value of a register field; a field that was never written reads its reset value. -/
def rd (s : State) (f : Fld) : Nat := SMap.getD s.regs f.key f.reset

/-- The field reads non-zero. -/
def rdb (s : State) (f : Fld) : Bool := rd s f != 0

/-- The two's-complement value of a field. -/
def rdi (s : State) (f : Fld) : Int := sx f.width (rd s f)

/-- Hardware or firmware sets a field; bits above its width are cut. -/
def wr (f : Fld) (v : Nat) (s : State) : State :=
  { s with regs := SMap.put s.regs f.key (v % 2 ^ f.width) }

/-- Sets a signed field. -/
def wri (f : Fld) (v : Int) (s : State) : State := wr f (toField f.width v) s

/-- Adds to a counter field that saturates. -/
def satInc (f : Fld) (n : Nat) (s : State) : State := wr f (satAdd f.width (rd s f) n) s

/-- Adds to a counter field that wraps. -/
def wrapInc (f : Fld) (n : Nat) (s : State) : State := wr f (rd s f + n) s

/-- Bit `k` of a pair of 32-bit maps, LO for lanes 0 to 31 and HI for lanes 32 to 63. -/
def mapBit (s : State) (lo hi : Fld) (k : Nat) : Bool :=
  if k < 32 then bit (rd s lo) k else bit (rd s hi) (k - 32)

/-- Sets bit `k` of such a pair of maps. -/
def setMapBit (lo hi : Fld) (k : Nat) (b : Bool) (s : State) : State :=
  if k < 32 then wr lo (putBit (rd s lo) k b) s
  else if k < 64 then wr hi (putBit (rd s hi) (k - 32) b) s else s

/-- The active copy of a shadow field (R64). -/
def act (s : State) (f : Fld) : Nat := SMap.getD s.ras.act f.key f.reset

/-- Sets the active copy of a shadow field (R66, R72). -/
def setAct (f : Fld) (v : Nat) (s : State) : State :=
  { s with ras := { s.ras with act := SMap.put s.ras.act f.key (v % 2 ^ f.width) } }

/-- Applies `f` to the state for each element of a list in order. -/
def forEach {α : Type} (l : List α) (f : α → State → State) (s : State) : State :=
  l.foldl (fun acc x => f x acc) s

/-- Applies `f` when `c` holds. -/
def when (c : Bool) (f : State → State) (s : State) : State := if c then f s else s

/-! ### Wires, faults and interrupts -/

/-- Something leaves on a wire. -/
def send (x : Tx) (s : State) : State := { s with tx := s.tx ++ [x] }

/-- A block detects a fault: the message of R415 is on its way to FCL (R417). -/
def raiseExt (source detail : Nat) (ext : Option Nat) (s : State) : State :=
  match faultRow source with
  | some r => { s with inbox := s.inbox ++ [⟨source, r.kind, detail % 65536, ext⟩] }
  | none => s

/-- A fault message without an extended word. -/
def raise (source detail : Nat) (s : State) : State := raiseExt source detail none s

/-- Sources that the hardware or software may set pending (R440); others read 0 and ignore writes. -/
def irqKnown (src : Nat) : Bool :=
  src ≤ 5 || (0x10 ≤ src && src ≤ 0x15) || src == 0x20 || src == 0x28 || src == 0x30 || src == 0x38 ||
    src == 0x40 || (0x80 ≤ src && src ≤ 0xBF)

/-- An interrupt source fires into its pending bit (R441). -/
def fire (src : Nat) (s : State) : State :=
  if irqKnown src then
    wr (Reg.ITC_PEND_MAP (src / 32)) (setBit (rd s (Reg.ITC_PEND_MAP (src / 32))) (src % 32)) s
  else s

/-- Takes a free value: `n` is open to the spec below `bound` (log entry 5). -/
def freeBelow (bound : Nat) (s : State) : Nat × State :=
  (Config.freeValue s.freeCnt % bound, { s with freeCnt := s.freeCnt + 1 })

/-! ### Memory

One list of cells by stoker address. An unlisted byte reads 0. -/

/-- What an address that no cell lists reads as (log entry 2). -/
def Memory.unlisted : Byte := 0

/-- The canonical form: addresses strictly rise and no cell holds the unlisted value. -/
def Memory.wf (m : List Host.Cell) : Bool :=
  decide (List.Pairwise (fun a b => a.1 < b.1) m) && m.all (fun c => c.2 != Memory.unlisted)

/-- One byte. -/
def Memory.get (m : List Host.Cell) (a : Nat) : Byte :=
  ((m.find? (fun c => c.1 == a)).map Prod.snd).getD Memory.unlisted

/-- The cells of a run of bytes from address `a`, none for an unlisted value. -/
def Memory.cells (a : Nat) (bs : Bytes) : List Host.Cell :=
  match bs with
  | [] => []
  | b :: rest => if b = Memory.unlisted then Memory.cells (a + 1) rest else (a, b) :: Memory.cells (a + 1) rest

/-- The memory with the bytes `bs` stored from address `a`. -/
def Memory.put (m : List Host.Cell) (a : Nat) (bs : Bytes) : List Host.Cell :=
  let e := a + bs.length
  m.filter (fun c => c.1 < a) ++ Memory.cells a bs ++ m.filter (fun c => e ≤ c.1)

/-- The memory with the `n` bytes from `a` unlisted. -/
def Memory.clear (m : List Host.Cell) (a n : Nat) : List Host.Cell :=
  m.filter (fun c => c.1 < a) ++ m.filter (fun c => a + n ≤ c.1)

/-- One byte of memory. -/
def ldByte (s : State) (a : Nat) : Byte := Memory.get s.mem a

/-- `n` bytes from address `a`, of cells whose addresses rise from `a` on; those between them are unlisted. -/
def Memory.spread (a n : Nat) (cs : List Host.Cell) : Bytes :=
  match n, cs with
  | 0, _ => []
  | k, [] => List.replicate k Memory.unlisted
  | k + 1, c :: rest =>
    if c.1 = a then c.2 :: Memory.spread (a + 1) k rest else Memory.unlisted :: Memory.spread (a + 1) k (c :: rest)

/-- `n` bytes of memory from `a`. -/
def ldBytes (s : State) (a n : Nat) : Bytes :=
  Memory.spread a n (s.mem.filter (fun c => a ≤ c.1 && c.1 < a + n))

/-- Little-endian 16-bit value in memory. -/
def ld16 (s : State) (a : Nat) : Nat := (ldByte s a).toNat + 256 * (ldByte s (a + 1)).toNat

/-- Little-endian 32-bit value in memory. -/
def ld32 (s : State) (a : Nat) : Nat := ld16 s a + 65536 * ld16 s (a + 2)

/-- Stores bytes with no ECC rule (local RAM, eMRAM lines, table windows). -/
def stBytes (a : Nat) (bs : Bytes) (s : State) : State := { s with mem := Memory.put s.mem a bs }

/-- The aligned 64-bit word that holds address `a` reads uncorrectable. -/
def eccBadAt (s : State) (a : Nat) : Bool := s.eccBad.contains (a / 8 * 8)

/-- Some word of the range reads uncorrectable. -/
def eccBadIn (s : State) (a n : Nat) : Bool := s.eccBad.any (fun w => w < a + n && a < w + 8)

/-- A write to the pixel store by any master or block (R553): words covered whole take new check bits; a
word covered in part whose read is uncorrectable keeps its bytes and raises PSTORE_ECC. -/
def psWrite (a : Nat) (bs : Bytes) (s : State) : State :=
  if bs.isEmpty then s else
    let e := a + bs.length
    let w0 := a / 8 * 8
    let w1 := (e - 1) / 8 * 8
    let badHead := eccBadAt s a && !(a == w0 && w0 + 8 ≤ e)
    let badTail := w1 != w0 && e < w1 + 8 && eccBadAt s w1
    let lo := if badHead then min e (w0 + 8) else a
    let hi := if badTail then max lo w1 else e
    let s := { s with
      mem := Memory.put s.mem lo ((bs.drop (lo - a)).take (hi - lo))
      eccBad := s.eccBad.filter (fun w => !(lo ≤ w && w + 8 ≤ hi)) }
    s |> when badHead (raise 0x003 w0) |> when badTail (raise 0x003 w1)

/-- A narrower write of `psWrite` at `a` would store nothing in one of its words. -/
def psRefused (s : State) (a n : Nat) : Bool :=
  (eccBadAt s a && !(a % 8 == 0 && 8 ≤ n)) ||
    ((a + n) % 8 != 0 && (a + n - 1) / 8 != a / 8 && eccBadAt s (a + n - 1))

/-! ### Time -/

/-- The instant moves to `t`; it never moves back (log entry 9). -/
def atTime (t : Nat) (s : State) : State := { s with now := max s.now t }

/-- NTM.RAW now (R290, R25). -/
def rawNow (s : State) : Nat := if s.ntcOn then s.now - s.ntcFrom else s.rawHeld

/-- The view of domain `n` (R290); its reset increment is 4 ns per tick (R301). -/
def view (s : State) (n : Nat) : DomView := SMap.getD s.ntm.views n ⟨0, 0, 4 * 2 ^ 32⟩

/-- The time of domain `n` at raw count `k`, in ns (R290). -/
def timeAt (s : State) (n k : Nat) : Nat :=
  (view s n).t + (k - (view s n).a) * (view s n).inc / 2 ^ 32

/-- The time of domain `n` now. -/
def timeNow (s : State) (n : Nat) : Nat := timeAt s n (rawNow s)

/-- The active domain (R294). -/
def activeDom (s : State) : Nat := rd s Reg.NTM_CTRL_ACTIVE

/-- A domain is valid while its state is VALID or HOLDOVER (R292). -/
def domValid (s : State) (n : Nat) : Bool :=
  rd s (Reg.NTM_D_STATE_STATE n) == 1 || rd s (Reg.NTM_D_STATE_STATE n) == 2

/-- 4 ns ticks in `n` milliseconds. -/
def msTicks (n : Nat) : Nat := n * 250000

/-- 4 ns ticks in `n` microseconds. -/
def usTicks (n : Nat) : Nat := n * 250

/-! ### The part and the device state -/

/-- Columns of tiles (`00_scope.md`): 16 on the MU6410, 8 on the MU1610. -/
def tileCols (s : State) : Nat := match s.part with | .mu6410 => 16 | .mu1610 => 8

/-- Rows of tiles: 4 on the MU6410, 2 on the MU1610. -/
def tileRows (s : State) : Nat := match s.part with | .mu6410 => 4 | .mu1610 => 2

/-- Tile lanes of the part: 64 or 16. -/
def laneCount (s : State) : Nat := tileCols s * tileRows s

/-- Power groups of the part: 8 or 2 (R401). -/
def groupCount (s : State) : Nat := laneCount s / 8

/-- Field width in pixels. -/
def fieldW (s : State) : Nat := tileCols s * 128

/-- Field height in pixels. -/
def fieldH (s : State) : Nat := tileRows s * 128

/-- The tile lanes of the part. -/
def tileLanes (s : State) : List Nat := List.range (laneCount s)

/-- Section `id` of the binding loaded, empty where there is none. -/
def bindSec (s : State) (id : Nat) : Bytes := SMap.getD s.sec.sections id []

/-- The binding is loaded (R373, R374). -/
def bound (s : State) : Bool := rdb s Reg.SEC_BOOT_BIND

/-- Pair operation is bound (R43, R370). -/
def pairOp (s : State) : Bool := rdb s Reg.ITC_STATUS_PAIR

/-- PTN role: 0 none, 1 active, 2 standby, 3 withdrawing. -/
def role (s : State) : Nat := rd s Reg.PTN_STATUS_ROLE

/-- The device is the standby of a pair. -/
def isStandby (s : State) : Bool := pairOp s && role s == 2

/-- Auto-light is set in the binding (R33, R370). -/
def autoLight (s : State) : Bool := bound s && bit (byteAt (bindSec s 0x0D) 0) 0

/-- The device is in one of the states in which the raster can run (R56). -/
def rasterState (d : DevState) : Bool :=
  match d with | .prelit => true | .lit => true | .service => true | _ => false

/-- The main domain is powered (R453): BOOT and above. -/
def mainOn (d : DevState) : Bool := match d with | .off => false | .pilot => false | _ => true

/-- Lane `n` is in service (R209). -/
def inService (s : State) (n : Nat) : Bool := rdb s (Reg.TLK_LN_STATUS_INSERV n)

/-- The lanes in service. -/
def serviceLanes (s : State) : List Nat := (tileLanes s).filter (inService s)

/-- The state TPR reports for the tile of lane `n`: 0 LIVE, 1 COAST, 2 PLATE, 3 DARK (R40). -/
def tileState (s : State) (n : Nat) : Nat := rd s (Reg.TPR_TL_STATUS_STATE n)

/-- The power group of a lane. -/
def groupOf (n : Nat) : Nat := n / 8

end Sys2Proof.Machine
end

