-- ==== Sys2Proof/Machine/Flags.lean ====
section
/-! DEFINITION. Status words and flags that the chapters compute from the state. -/

namespace Sys2Proof.Machine

/-! ### The STATE word -/

/-- Device state code of R32; OFF has none and reads 0. -/
def devCode (d : DevState) : Nat :=
  match d with
  | .off => 0 | .pilot => 1 | .boot => 2 | .standby => 3 | .prelit => 4 | .lit => 5 | .service => 6
  | .fallback => 7 | .halt => 8

/-- Timing mode in force: 0 T500, 1 T1000, 2 T2000. -/
def modeNow (s : State) : Nat := act s Reg.RAS_SH_TIMING_MODE

/-- The STATE word of R32. In PILOT only STATE, WAKE_FAIL and FB_ON are valid. -/
def stateWord (s : State) : Nat :=
  let fb := b2n (rdb s Reg.PWC_P_FB_ON) * 2 ^ 8 + rd s Reg.PWC_P_WAKE_WAKE_FAIL * 2 ^ 9
  match s.dev.state with
  | .off => 0
  | .pilot => 1 + fb
  | d =>
    devCode d + b2n s.dev.sPlate * 2 ^ 6 + rd s Reg.PWC_STATUS_REF_RC * 2 ^ 7 + fb +
      b2n (pairOp s && role s == 1) * 2 ^ 10 + b2n (pairOp s) * 2 ^ 11 +
      rd s Reg.PWC_STATUS_PL * 2 ^ 12 + modeNow s * 2 ^ 14

/-- DEVICE_ID of R31. -/
def deviceId (s : State) : Nat := match s.part with | .mu6410 => 0x4D4B6410 | .mu1610 => 0x4D4B1610

/-- FIRMWARE of R31: stoker firmware 2.4, 0 before firmware runs. -/
def firmwareWord (s : State) : Nat := if s.dev.fwRuns then 0x00020004 else 0

/-! ### Timing modes (R48, R50) -/

/-- Frame period in ns of a timing mode. -/
def modePeriod (mode : Nat) : Nat := if mode = 0 then 2000000 else if mode = 1 then 1000000 else 500000

/-- Frame period in force, in ns. -/
def period (s : State) : Nat := modePeriod (modeNow s)

/-- Minimum performance level of a timing mode (R22). -/
def modeMinPl (mode : Nat) : Nat := if mode = 2 then 3 else 1

/-- Scan phases of a displayed frame (R50). -/
def phaseCount (mode phlen : Nat) : Nat :=
  (if mode = 0 then 128 else if mode = 1 then 64 else 32) * (if phlen = 0 then 1 else 2)

/-- Phase length in half ns (R50): 15.625 µs or 7.8125 µs. -/
def phaseLen2 (phlen : Nat) : Nat := if phlen = 0 then 31250 else 15625

/-- The raster runs (R56). -/
def rasterOn (s : State) : Bool := rdb s Reg.RAS_CTRL_RUN

/-- The line in progress; 0xFF in the seam period, 0xFE with the raster stopped. -/
def lineNow (s : State) : Nat := rd s Reg.RAS_POS_LINE

/-! ### Safety and severity flags -/

/-- The damper step (R478). -/
def damper (s : State) : Nat := rd s Reg.THM_STATUS_STEP

/-- SLIP is in force for content that starts now (R390). -/
def slipState (s : State) : Bool :=
  match s.dev.state with | .prelit => true | .service => true | _ => false

/-- Severity programmed for a source (R419): 0 INFO, 1 WARN, 2 DEGRADE, 3 SAFE, 4 FATAL. -/
def severity (s : State) (source : Nat) : Nat := rd s (Reg.FCL_SEV source)

/-- FAULT_N is asserted by FCL (R427). -/
def faultPin (s : State) : Bool :=
  rdb s Reg.FCL_STATUS_VALID || s.dev.sPlate || s.dev.state == .fallback || s.dev.state == .halt ||
    s.pilot.safeLow || rdb s Reg.PWC_P_WAKE_WAKE_FAIL

/-- FAULT_N is held low by the pilot while the main domain is unpowered (R427). -/
def faultPinPilot (s : State) : Bool :=
  s.pilot.safeLow || rdb s Reg.PWC_P_WAKE_WAKE_FAIL || s.pilot.faultHold

/-- FAULT_N and its status bit follow the state (R427). -/
def setFaultN (s : State) : State :=
  if mainOn s.dev.state then
    let f := faultPin s
    wr Reg.FCL_STATUS_FAULTN (b2n f) { s with pilot := { s.pilot with faultN := f } }
  else { s with pilot := { s.pilot with faultN := faultPinPilot s } }

/-- The conditions under which the fender makes edges on EMBER (R426). -/
def emberHolds (s : State) : Bool :=
  rdb s Reg.FST_RUN && rdb s Reg.FST_CFGOK && !s.fender.bad && rd s Reg.FCL_STATUS_HIGHEST < 3 &&
    s.dev.state != .fallback && s.dev.state != .halt && mainOn s.dev.state && !s.dev.sPlate

/-- The EMBER bits follow the conditions of R426. -/
def setEmber (s : State) : State :=
  s |> wr Reg.FST_EMBER (b2n (emberHolds s)) |> wr Reg.FCL_STATUS_EMBER (b2n (emberHolds s))

/-- The standby is healthy as far as this device can tell of itself (R518). -/
def selfHealthy (s : State) : Bool :=
  rdb s Reg.PTN_STATUS_LINK && rdb s Reg.PTN_STATUS_READY && !s.dev.sPlate &&
    s.dev.state != .fallback && s.dev.state != .halt &&
    decide (max 1 (rd s Reg.PTN_LIMIT_SKEWFR) ≤ s.ptn.skewOk)

/-- IRQ_N is asserted (R325); in PILOT and BOOT it is high. -/
def irqLevel (s : State) : Bool :=
  mainOn s.dev.state && s.dev.state != .boot &&
    (rd s Reg.HIF_MB_IRQ_PEND &&& rd s Reg.HIF_MB_IRQ_EN) % 8 != 0

/-- A state-changing command runs (R36). -/
def scBusy (s : State) : Bool := s.waits.any Waiter.sc

/-- A performance level in force no lower than the mode needs (R22). -/
def levelCovers (s : State) (mode : Nat) : Bool := modeMinPl mode ≤ rd s Reg.PWC_STATUS_PL

end Sys2Proof.Machine
end

