-- ==== Sys2Proof/Machine/Mailbox.lean ====
section
/-! DEFINITION. Mailboxes and host interrupts (`10_mailboxes.md`): rings, pointers and doorbells, completion
records, moderation, the sleeping host, and the end of commands that wait for a later event. -/

namespace Sys2Proof.Machine

/-! ### Rings and pointers (R304, R311, R313) -/

/-- Stoker address of the descriptor at command count `k` of channel `c`. -/
def cmdSlotAddr (c k : Nat) : Nat := 0x21F00000 + 0x2000 * c + 64 * (k % 64)

/-- Stoker address of the completion record at count `k` of channel `c`. -/
def cplSlotAddr (c k : Nat) : Nat := 0x21F01000 + 0x2000 * c + 16 * (k % 128)

/-- `a` less `b` as 16-bit free-running counts. -/
def diff16 (a b : Nat) : Nat := (a + 65536 - b % 65536) % 65536

/-- Completions of channel `c` not yet consumed. -/
def unconsumed (s : State) (c : Nat) : Nat :=
  diff16 (rd s (Reg.HIF_MB_CPLWP_COUNT c)) (rd s (Reg.HIF_MB_CPLRP_RP c))

/-- Deferred commands that channel `c` holds. -/
def deferredOf (s : State) (c : Nat) : List Deferred := s.mbx.deferred.filter (fun q => q.d.ch == c)

/-- DEFQ of every channel follows the deferred commands held. -/
def setDefq (s : State) : State :=
  forEach (List.range 5) (fun c s => wr (Reg.HIF_MB_STAT_DEFQ c) (deferredOf s c).length s) s

/-- The channel waits, because its completion ring has fewer than 2 + Q free records (R313). -/
def channelWaits (s : State) (c : Nat) : Bool := 128 - unconsumed s c < 2 + (deferredOf s c).length

/-! ### Interrupts and moderation (R280, R324 to R327) -/

/-- The hatch NOTIFY of R280 on port `p`; its SEQ is free (log entry 5). -/
def notifyPort (p : Nat) (s : State) : State :=
  let a0 := rd s (Reg.ETH_P_PEER0_ADDR p)
  let peer := if a0 = 0 then rd s (Reg.ETH_P_PEER1_ADDR p) else a0
  if peer = 0 || !rdb s (Reg.ETH_P_STATUS_LINK p) then s else
    let (sq, s) := freeBelow (2 ^ 32) s
    send (.hatch p peer 49770
      (leBytes 2 0x4854 ++ [1, 0x10] ++ leBytes 4 sq ++ leBytes 2 8 ++ [0, 0] ++ leBytes 4 0 ++
        leBytes 2 (rd s (Reg.HIF_MB_CPLWP_COUNT 1)) ++ [0, 0] ++ leBytes 4 (stateWord s))) s

/-- NOTIFY, on each port that has a peer and a link (log entry 31). -/
def notify (s : State) : State := s |> notifyPort 0 |> notifyPort 1

/-- IRQ_N follows PEND and EN (R325). -/
def setIrqPin (s : State) : State :=
  let l := irqLevel s
  if rdb s Reg.HIF_MB_HOST_IRQ == l then s
  else s |> wr Reg.HIF_MB_HOST_IRQ (b2n l) |> send (.irq l)

/-- HIF sets the PEND bit of channel `c` and closes its window (R324, R325). -/
def setPend (c : Nat) (s : State) : State :=
  { s with mbx := { s.mbx with windows := SMap.del s.mbx.windows c } }
    |> wr Reg.HIF_MB_IRQ_PEND (setBit (rd s Reg.HIF_MB_IRQ_PEND) c)
    |> when (c == 1) notify |> when (c == 3) (fire 0x05) |> setIrqPin

/-- The host is asleep and channel `c` is one whose completions HIF holds (R326). -/
def held (s : State) (c : Nat) : Bool := !s.mbx.awake && c ≤ 2

/-- The window of channel `c` fires: PEND is set, or for a held channel the window closes (R324, R326). -/
def windowFire (c : Nat) (s : State) : State :=
  if held s c then { s with mbx := { s.mbx with windows := SMap.del s.mbx.windows c } } else setPend c s

/-- `n` completions count in the window of channel `c`, which opens if it is closed (R324). -/
def windowCount (c n : Nat) (s : State) : State :=
  let k := ((SMap.find s.mbx.windows c).map Window.count).getD 0 + n
  let s := { s with mbx := { s.mbx with windows := SMap.put s.mbx.windows c ⟨k⟩ } }
  if clampN 1 64 (rd s (Reg.HIF_MB_MOD_COUNT c)) ≤ k then windowFire c s else s

/-! ### Completion records (R308 to R310) -/

/-- The CAN FD response frame of a CH2 completion (R285, R286). -/
def canResponse (opc tag status fresh : Nat) (s : State) : State :=
  if rdb s Reg.HIF_CAN_TXID_EN && rdb s Reg.HIF_CAN_CTRL_EN && rd s Reg.HIF_CAN_STAT_BUS != 2 then
    let idw := rd s Reg.HIF_CAN_TXID_ID + rd s Reg.HIF_CAN_TXID_EXT * 2 ^ 31
    let body := leBytes 2 opc ++ leBytes 1 tag ++ leBytes 1 status ++ leBytes 4 fresh
    let mac := padTo 8 (Config.cmac (SMap.getD s.sec.keys 3 []) (leBytes 4 idw ++ body))
    send (.can idw (body ++ mac)) s
  else s

/-- What follows a record written on channel `c`: moderation for the host and S1, the response frame for
CAN FD, consumption by PTN for CH4. -/
def afterRecord (q : Cpl) (status : Nat) (s : State) : State :=
  if q.ch == 4 then wr (Reg.HIF_MB_CPLRP_RP 4) (rd s (Reg.HIF_MB_CPLWP_COUNT 4)) s
  else
    let s := if q.ch == 2 then
        s |> canResponse q.opc q.tag status (SMap.getD s.links.canFresh q.slot 0)
          |> wr (Reg.HIF_MB_CPLRP_RP 2) (rd s (Reg.HIF_MB_CPLWP_COUNT 2))
      else s
    if held s q.ch && q.wake then setPend q.ch s
    else
      let s := windowCount q.ch 1 s
      if held s q.ch then wr Reg.HIF_MB_HOST_HELD 1 s else s

/-- The bytes of a completion record (R308, R309). -/
def recordBytes (s : State) (q : Cpl) (k status d0 d1 : Nat) : Bytes :=
  let phase := if k / 128 % 2 = 0 then 1 else 0
  leBytes 2 q.opc ++ leBytes 2 q.tag ++ leBytes 1 status ++ leBytes 1 (devCode s.dev.state) ++
    leBytes 1 (phase + 2 * b2n q.wake + 4 * b2n q.wasDef) ++ leBytes 1 q.slot ++ leBytes 4 d0 ++ leBytes 4 d1

/-- S0 writes a completion (R308, R310): for a descriptor with CPL = 0 only when the status is neither OK nor
DEFERRED. DETAIL0 of STATE, DEFERRED and EXPIRED is the STATE word. -/
def complete (q : Cpl) (status d0 d1 : Nat) (s : State) : State :=
  if q.cpl || (status != 0 && status != 6) then
    let k := rd s (Reg.HIF_MB_CPLWP_COUNT q.ch)
    let d0 := if status = 5 || status = 6 || status = 12 then stateWord s else d0
    s |> psWrite (cplSlotAddr q.ch k) (recordBytes s q k status d0 d1)
      |> wr (Reg.HIF_MB_CPLWP_COUNT q.ch) (k + 1)
      |> afterRecord q status
  else s

/-! ### Commands that wait for a later event -/

/-- Steps 2 and 3 of a channel reset (R323). -/
def channelDrop (c : Nat) (s : State) : State :=
  let gone := deferredOf s c
  let s := { s with mbx := { s.mbx with deferred := s.mbx.deferred.filter (fun q => q.d.ch != c) } }
  s |> wr (Reg.HIF_MB_CMDRP_COUNT c) (rd s (Reg.HIF_MB_CMDWP_WP c))
    |> setDefq
    |> forEach gone (fun q => complete ⟨q.opc, c, q.d.slot, q.d.tag, bit q.d.flags 1, bit q.d.flags 2, true⟩ 9 0 0)
    |> wr (Reg.HIF_MB_CTRL_RESET c) 0

/-- A channel reset that waited for the channel's commands goes on when none is left (R323). -/
def channelSettle (s : State) : State :=
  forEach (List.range 5) (fun c s =>
    if rdb s (Reg.HIF_MB_CTRL_RESET c) && !s.waits.any (fun w => w.cpl.ch == c) then channelDrop c s else s) s

/-- Every waiting command that `p` selects completes with `status` and the details that `det` gives. -/
def finish (p : Waiter → Bool) (status : Nat) (det : Waiter → Nat × Nat) (s : State) : State :=
  let done := s.waits.filter p
  { s with waits := s.waits.filter (fun w => !p w) }
    |> forEach done (fun w => complete w.cpl status (det w).1 (det w).2)
    |> channelSettle

/-- Every waiting command of one kind completes with fixed details. -/
def finishKind (p : WaitKind → Bool) (status d0 d1 : Nat) (s : State) : State :=
  finish (fun w => p w.kind) status (fun _ => (d0, d1)) s

/-! ### The rows of the table -/

/-- R305, R328, R278: whether a master may write CMDWP of channel `c`. -/
def doorbellRight (who : Master) (c : Nat) : Bool :=
  match who with
  | .s0 => true
  | .host => c == 0
  | .s1 => c == 3
  | .fender => false

/-- A doorbell write of `v` to CMDWP of channel `c` (R312, R313). -/
def doorbellWrite (c v : Nat) (s : State) : State :=
  let toRp := diff16 v (rd s (Reg.HIF_MB_CMDRP_COUNT c))
  let toWp := diff16 v (rd s (Reg.HIF_MB_CMDWP_WP c))
  if toRp ≤ 64 && toWp ≤ toRp then
    s |> wr (Reg.HIF_MB_CMDWP_WP c) v
      |> when (channelWaits s c) (satInc (Reg.HIF_MB_STAT_STALL c) 1)
      |> fire c
  else s |> satInc (Reg.HIF_MB_STAT_DBERR c) 1 |> raise 0x0F3 c

/-- DOORBELL (R312). An S1 write outside its grant fails under R18. -/
def doDoorbell (who : Master) (c v : Nat) (s : State) : State :=
  if !mainOn s.dev.state || 4 < c then s
  else if doorbellRight who c then doorbellWrite c (v % 65536) s
  else if who == .s1 then raise 0x001 (0x200 + 0x40 * c) s else s

/-- R305, R328: whether a master may write CPLRP of channel `c`. -/
def cplrpRight (who : Master) (c : Nat) : Bool :=
  match who with
  | .s0 => true
  | .host => c ≤ 1
  | .s1 => c == 3
  | .fender => false

/-- CPLRP_WRITE (R312). -/
def doCplrpWrite (who : Master) (c v : Nat) (s : State) : State :=
  if !mainOn s.dev.state || 4 < c then s
  else if cplrpRight who c then
    if diff16 (v % 65536) (rd s (Reg.HIF_MB_CPLRP_RP c)) ≤ unconsumed s c then
      wr (Reg.HIF_MB_CPLRP_RP c) v s
    else satInc (Reg.HIF_MB_STAT_DBERR c) 1 s
  else if who == .s1 then raise 0x001 (0x20C + 0x40 * c) s else s

/-- MODERATION_TIMER (R324): the window of channel `c` reaches TIME. -/
def doModerationTimer (c : Nat) (s : State) : State :=
  if (SMap.find s.mbx.windows c).isSome then windowFire c s else s

/-- MBX_CHANNEL_RESET (R323). -/
def doChannelReset (who : Master) (c : Nat) (s : State) : State :=
  if !mainOn s.dev.state || 4 < c then s
  else if cplrpRight who c then s |> wr (Reg.HIF_MB_CTRL_RESET c) 1 |> channelSettle
  else if who == .s1 then raise 0x001 (0x218 + 0x40 * c) s else s

/-- PEND bits that a master may clear (R325). -/
def pendRight (who : Master) : Nat :=
  match who with
  | .s0 => 0x1F
  | .host => 0x07
  | .s1 => 0x08
  | .fender => 0

/-- PEND_CLEAR (R325): each bit cleared reopens the window of a channel with unconsumed completions. -/
def doPendClear (who : Master) (mask : Nat) (s : State) : State :=
  if !mainOn s.dev.state then s else
    let hit := rd s Reg.HIF_MB_IRQ_PEND &&& mask &&& pendRight who
    let s := wr Reg.HIF_MB_IRQ_PEND (andNot (rd s Reg.HIF_MB_IRQ_PEND) hit 5) s
    s |> forEach ((List.range 5).filter (bit hit)) (fun c s =>
          if unconsumed s c = 0 then s
          else windowCount c (unconsumed s c)
            { s with mbx := { s.mbx with windows := SMap.del s.mbx.windows c } })
      |> setIrqPin

/-- HOST_AWAKE_FALL (R326). -/
def doHostAwakeFall (s : State) : State :=
  if mainOn s.dev.state then
    wr Reg.HIF_MB_HOST_AWAKE 0 { s with mbx := { s.mbx with awake := false, release := false } }
  else s

/-- HOST_AWAKE_RISE (R327): the 5 µs to the release start. -/
def doHostAwakeRise (s : State) : State :=
  if mainOn s.dev.state && !s.mbx.awake then
    wr Reg.HIF_MB_HOST_AWAKE 1 { s with mbx := { s.mbx with awake := true, release := true } }
  else s

/-- HOST_AWAKE_RELEASE (R327): PEND of every channel with unconsumed completions, in one clock cycle. -/
def doHostAwakeRelease (s : State) : State :=
  if s.mbx.release && s.mbx.awake then
    let chs := (List.range 3).filter (fun c => unconsumed s c != 0)
    let pend := chs.foldl (fun p c => setBit p c) (rd s Reg.HIF_MB_IRQ_PEND)
    let wins := chs.foldl (fun w c => SMap.del w c) s.mbx.windows
    { s with mbx := { s.mbx with release := false, windows := wins } }
      |> wr Reg.HIF_MB_HOST_HELD 0
      |> wr Reg.HIF_MB_IRQ_PEND pend
      |> when (chs.contains 1) notify
      |> setIrqPin
  else s

/-! ### The meanings of the rows -/

/-- DOORBELL (R312). -/
def execDoorbell (who : Master) (ch v : Nat) (s : State) : Out :=
  .next (doDoorbell who ch v s)

/-- CPLRP_WRITE (R312). -/
def execCplrpWrite (who : Master) (ch v : Nat) (s : State) : Out :=
  .next (doCplrpWrite who ch v s)

/-- MODERATION_TIMER (R324). -/
def execModerationTimer (ch : Nat) (s : State) : Out :=
  .next (doModerationTimer ch s)

/-- MBX_CHANNEL_RESET (R323). -/
def execMbxChannelReset (who : Master) (ch : Nat) (s : State) : Out :=
  .next (doChannelReset who ch s)

/-- PEND_CLEAR (R325). -/
def execPendClear (who : Master) (mask : Nat) (s : State) : Out :=
  .next (doPendClear who mask s)

/-- HOST_AWAKE_FALL (R326). -/
def execHostAwakeFall (s : State) : Out :=
  .next (doHostAwakeFall s)

/-- HOST_AWAKE_RISE (R326). -/
def execHostAwakeRise (s : State) : Out :=
  .next (doHostAwakeRise s)

/-- HOST_AWAKE_RELEASE (R327). -/
def execHostAwakeRelease (s : State) : Out :=
  .next (doHostAwakeRelease s)

end Sys2Proof.Machine
end

