-- ==== Sys2Proof/Machine/Raster.lean ====
section
/-! DEFINITION. Raster, shadows and commit (`02_raster_and_frame_timing.md`): the lock to network time, the
commit sample, refusals, the seam rules, and the software events. -/

namespace Sys2Proof.Machine

/-! ### Shadows (R64, R376) -/

/-- Source stream that a TIPIN_SELECT writes to its shadow (R95, R376). -/
def tipStream : Fld := ⟨0xF0000000, 0, 2, 0⟩
/-- Glyph permission that a TIPIN_SELECT writes to its shadow (R110, R376). -/
def tipGlyphs : Fld := ⟨0xF0000004, 0, 8, 0⟩
/-- Envelope set, A 0 or B 1, that a TIPIN_SELECT names (R114, R376). -/
def tipEnvSet : Fld := ⟨0xF0000008, 0, 1, 0⟩

/-- The placement shadows of plate `n` (R107). -/
def plateFlds (n : Nat) : List Fld :=
  [Reg.GTE_PL_CTRL_EN n, Reg.GTE_PL_CTRL_MODE n, Reg.GTE_PL_CTRL_WM1 n, Reg.GTE_PL_CTRL_HM1 n,
   Reg.GTE_PL_POS_Y n, Reg.GTE_PL_POS_X n, Reg.GTE_PL_XFORM_ANGLE n, Reg.GTE_PL_XFORM_SCALE n,
   Reg.GTE_PL_INT_CAP n, Reg.GTE_PL_INT_IG n]

/-- The shadows of RAS itself (R64). -/
def rasFlds : List Fld :=
  [Reg.RAS_SH_TIMING_PBLANK, Reg.RAS_SH_TIMING_PHLEN, Reg.RAS_SH_TIMING_MODE, Reg.RAS_SH_BASEADDR_ADDR,
   Reg.RAS_SH_BASEADDR_DIRECT, Reg.RAS_SH_MESH_MESH, Reg.RAS_SH_TIPIN_TIPIN, Reg.RAS_SH_ENVSCALE_SCALE]

/-- The tip-in shadows of ZNE (R154) and of the tip-in itself (R376). -/
def tipFlds : List Fld :=
  [Reg.ZNE_SPEC_EN, Reg.ZNE_SPEC_HORIZON, Reg.ZNE_SPEC_K, Reg.ZNE_SPEC_M0, Reg.ZNE_RELEASE_RAMP_MS,
   Reg.ZNE_GMARGIN_GMARGIN, tipStream, tipGlyphs, tipEnvSet]

/-- Every shadow that a commit moves. -/
def shadowFlds : List Fld := rasFlds ++ tipFlds ++ (List.range 8).flatMap plateFlds

/-- The field is a shadow: writes go to the shadow copy and reads follow RAS.CTRL.VIEW (R83, R154). -/
def isShadow (f : Fld) : Bool := shadowFlds.any (fun g => g.key == f.key)

/-- The value of a field in a staging set. -/
def setGet (m : SMap Nat) (f : Fld) : Nat := SMap.getD m f.key f.reset

/-- A staging set with one field at another value. -/
def setPut (m : SMap Nat) (f : Fld) (v : Nat) : SMap Nat := SMap.put m f.key v

/-- The shadows as they stand (R69). -/
def shadowSet (s : State) : SMap Nat := shadowFlds.foldl (fun m f => setPut m f (rd s f)) []

/-- The active copies as a staging set (R480). -/
def activeSet (s : State) : SMap Nat := shadowFlds.foldl (fun m f => setPut m f (act s f)) []

/-- Meshes of the binding loaded (R370): section 0x04 holds 4,420 bytes each. -/
def meshCount (s : State) : Nat := (bindSec s 0x04).length / 4420

/-- Every staged value lies in the range that its register table states (R71). -/
def setInRange (s : State) (m : SMap Nat) : Bool :=
  let pb := setGet m Reg.RAS_SH_TIMING_PBLANK
  let ad := setGet m Reg.RAS_SH_BASEADDR_ADDR * 64
  let tip := setGet m Reg.RAS_SH_TIPIN_TIPIN
  (2 ≤ pb && pb ≤ 20) && setGet m Reg.RAS_SH_TIMING_MODE != 3 &&
    (setGet m Reg.RAS_SH_BASEADDR_DIRECT == 0 || (0x20000000 ≤ ad && ad ≤ 0x21FFFFFF)) &&
    setGet m Reg.RAS_SH_MESH_MESH < meshCount s &&
    (tip == 0 || (SMap.find s.sec.tips tip).isSome) &&
    setGet m Reg.RAS_SH_ENVSCALE_SCALE ≤ 0x8000 &&
    (List.range 8).all (fun n =>
      let sc := setGet m (Reg.GTE_PL_XFORM_SCALE n)
      0x0100 ≤ sc && sc ≤ 0x8000)

/-- The staged timing parameters differ from the active ones (R51, R74). -/
def timingDiffers (s : State) (m : SMap Nat) : Bool :=
  [Reg.RAS_SH_TIMING_PBLANK, Reg.RAS_SH_TIMING_PHLEN, Reg.RAS_SH_TIMING_MODE].any
    (fun f => setGet m f != act s f)

/-! ### The lock to network time (R52 to R56) -/

/-- Time that the raster follows, in ns: the active domain's view, or the raw count before any domain was
valid (R55). -/
def rasterBase (s : State) : Nat :=
  if s.ras.everValid || domValid s (activeDom s) then timeNow s (activeDom s) else 4 * rawNow s

/-- `e` reduced modulo `p` into (−p/2, +p/2] (R53). -/
def wrapErr (p : Nat) (e : Int) : Int :=
  let r := e % (p : Int)
  if (p : Int) < 2 * r then r - p else r

/-- The raster error in force (R53). -/
def rasErr (s : State) : Int := rdi s Reg.RAS_ERR_ERR

/-- LOCKST follows the active domain's state and the raster error (R53 to R55): 0 FREE, 1 SLEWING, 2 LOCKED,
3 HOLDOVER. -/
def setLockSt (s : State) : State :=
  if !rasterOn s then s else
    let n := activeDom s
    let s := if domValid s n then { s with ras := { s.ras with everValid := true } } else s
    let st :=
      if !s.ras.everValid then 0
      else if rd s (Reg.NTM_D_STATE_STATE n) != 1 then 3
      else if (rasErr s).natAbs ≤ 100 then 2 else 1
    wr Reg.RAS_STATUS_LOCKST st s

/-- The raster error shifts by `d` ns (R54): the slots stay where they are. -/
def shiftErr (d : Int) (s : State) : State :=
  if rasterOn s then s |> wri Reg.RAS_ERR_ERR (wrapErr (period s) (rasErr s + d)) |> setLockSt else s

/-- In one frame the raster removes at most 100 ppm of the frame period from an error above 100 ns; how much
of that is open (R54, log entry 5). -/
def slew (s : State) : State :=
  let e := rasErr s
  if s.ras.everValid && 100 < e.natAbs then
    let (d, s) := freeBelow (period s / 10000 + 1) s
    let d := min d e.natAbs
    s |> wri Reg.RAS_ERR_ERR (if 0 < e then e - d else e + d) |> setLockSt
  else setLockSt s

/-- The first grid point at or after raster time `t` (R52). -/
def gridAfter (s : State) (t : Nat) : Nat :=
  let p := period s
  t + (rd s Reg.RAS_PHASE_PHASE_NS % p + p - t % p) % p

/-! ### Transfer and refusal (R66 to R73) -/

/-- The staging set becomes the active copy: both halves at once, RAS_APPLIED fires, COMMIT_FCNT takes
`fcnt` (R62, R66, R68, R73, R114). -/
def applySet (m : SMap Nat) (fcnt : Nat) (s : State) : State :=
  let envNew := setGet m tipEnvSet != rd s Reg.GTE_ENVSET_SET
  { s with
    ras := { s.ras with act := shadowFlds.foldl (fun a f => SMap.put a f.key (setGet m f)) s.ras.act }
    gte := { s.gte with envUp := false }
    sec := { s.sec with tipPend := none } }
    |> wr Reg.RAS_COMMIT_FCNT_FCNT fcnt
    |> when envNew (wr Reg.GTE_ENVSET_SET (setGet m tipEnvSet))
    |> fire 0x10

/-- The cap that damper step D3 puts on a mode (R478): T2000 to T1000, otherwise T500. -/
def capFor (mode : Nat) : Nat := if mode = 2 then 1 else 0

/-- The mode cap in force: 3 none (R480). The active of a pair applies the standby's step too (R521). -/
def modeCap (s : State) : Nat :=
  let own := rd s Reg.THM_STATUS_MODECAP
  if own = 3 && pairOp s && role s == 1 && 3 ≤ rd s Reg.PTN_STATUS_PSTEP then capFor s.ras.uncapped else own

/-- The slower of a mode and the cap (R480). -/
def capMode (cap mode : Nat) : Nat := if cap = 3 then mode else min cap mode

/-- PENDING: GO is set or a staging set is held. -/
def setPending (s : State) : State :=
  wr Reg.RAS_STATUS_PENDING (b2n (rdb s Reg.RAS_COMMIT_GO || s.ras.stag.isSome)) s

/-- A refused commit (R71): cause 1 MIN_PL, 2 RANGE. -/
def refuse (cause : Nat) (s : State) : State :=
  s |> wr Reg.RAS_STATUS_REFUSED 1 |> wr Reg.RAS_STATUS_REFCAUSE cause |> fire 0x11

/-- Status of a refused commit (R354): MIN_PL is STATE, RANGE is BAD_PARAM. -/
def refuseStatus (cause : Nat) : Nat := if cause = 1 then 5 else 3

/-- A commit applied while the raster is stopped (R72, R480), with its completion: status, DETAIL0, DETAIL1. -/
def commitStopped (s : State) : State × (Nat × Nat × Nat) :=
  let m0 := shadowSet s
  let mode := setGet m0 Reg.RAS_SH_TIMING_MODE
  let m := setPut m0 Reg.RAS_SH_TIMING_MODE (capMode (modeCap s) mode)
  if setInRange s m0 then
    let s := { s with ras := { s.ras with uncapped := mode } }
    let s := applySet m (rd s Reg.RAS_FCNT_FCNT) s
    (s, (0, rd s Reg.RAS_COMMIT_FCNT_FCNT, 0))
  else
    let s := refuse 2 s
    (s, (3, rd s Reg.RAS_COMMIT_FCNT_FCNT, 2 * 16))

/-! ### The seam (R75) -/

/-- The slot of this frame is a legal seam slot for mode `m'`: g + P_old ≡ PHASE_NS (mod P_new), and the
content sent in this frame has not been withdrawn. -/
def seamLegal (s : State) (m' : Nat) : Bool :=
  let pn := modePeriod m'
  (s.ras.slotNs + period s) % pn == rd s Reg.RAS_PHASE_PHASE_NS % pn && !s.ras.withdrawn

/-- The waiting commits whose GO has been sampled become staged. -/
def stageWaiters (s : State) : State :=
  { s with waits := s.waits.map (fun w =>
      match w.kind with
      | .commit late _ => { w with kind := .commit late true }
      | _ => w) }

/-- A staging set of this sample: it transfers at line 128, or at a seam slot (R65, R74, R75). -/
def holdSet (m : SMap Nat) (s : State) : State :=
  let s := stageWaiters { s with ras := { s.ras with stag := some m } }
  if timingDiffers s m then
    if seamLegal s (setGet m Reg.RAS_SH_TIMING_MODE) then
      wr Reg.RAS_STATUS_SEAM_WAIT 0 { s with ras := { s.ras with seam := true } }
    else wr Reg.RAS_STATUS_SEAM_WAIT 1 { s with ras := { s.ras with waited := true } }
  else s

/-- Commits whose GO is sampled now and refused complete (R354). -/
def refuseWaiters (cause : Nat) (s : State) : State :=
  finish (fun w => match w.kind with | .commit _ false => true | _ => false) (refuseStatus cause)
    (fun w => (rd s Reg.RAS_COMMIT_FCNT_FCNT,
      (match w.kind with | .commit late _ => b2n late | _ => 0) + cause * 16)) s

/-- A sampled set is checked and staged, or refused whole (R65, R71). -/
def sampleSet (m : SMap Nat) (uncapped : Nat) (s : State) : State :=
  if !setInRange s m then s |> refuse 2 |> refuseWaiters 2
  else if !levelCovers s (setGet m Reg.RAS_SH_TIMING_MODE) then s |> refuse 1 |> refuseWaiters 1
  else holdSet m { s with ras := { s.ras with uncapped := uncapped, waited := false } }

/-- The standby's staging set from the STAGE frame (R513, R521): FCNT, the five RAS shadows, the three ZNE
shadows and the placement registers of plates 0 to 7, in the register layouts. -/
def stageSet (s : State) (p : Bytes) : SMap Nat :=
  let w := fun (i : Nat) => leAt p (4 + 4 * i) 4
  let m := shadowSet s
  let put := fun (f : Fld) (i : Nat) (m : SMap Nat) => setPut m f (bits (w i) f.lo f.width)
  let m := m |> put Reg.RAS_SH_TIMING_PBLANK 0 |> put Reg.RAS_SH_TIMING_PHLEN 0 |> put Reg.RAS_SH_TIMING_MODE 0
    |> put Reg.RAS_SH_BASEADDR_ADDR 1 |> put Reg.RAS_SH_BASEADDR_DIRECT 1 |> put Reg.RAS_SH_MESH_MESH 2
    |> put Reg.RAS_SH_TIPIN_TIPIN 3 |> put Reg.RAS_SH_ENVSCALE_SCALE 4
    |> put Reg.ZNE_SPEC_EN 5 |> put Reg.ZNE_SPEC_HORIZON 5 |> put Reg.ZNE_SPEC_K 5 |> put Reg.ZNE_SPEC_M0 5
    |> put Reg.ZNE_RELEASE_RAMP_MS 6 |> put Reg.ZNE_GMARGIN_GMARGIN 7
  (List.range 8).foldl (fun m n =>
    (plateFlds n).foldl (fun m f =>
      put f (8 + 4 * n + (f.addr - (Reg.GTE_PL_CTRL_EN n).addr) / 4) m) m) m

/-- The word that holds a set's fields of one register address. -/
def setWord (m : SMap Nat) (addr : Nat) : Nat :=
  shadowFlds.foldl (fun v f => if f.addr == addr then v + setGet m f * 2 ^ f.lo else v) 0

/-- The payload of STAGE (R513). -/
def stagePayload (s : State) (m : SMap Nat) : Bytes :=
  let addrs := [Reg.RAS_SH_TIMING_MODE.addr, Reg.RAS_SH_BASEADDR_ADDR.addr, Reg.RAS_SH_MESH_MESH.addr,
      Reg.RAS_SH_TIPIN_TIPIN.addr, Reg.RAS_SH_ENVSCALE_SCALE.addr, Reg.ZNE_SPEC_EN.addr,
      Reg.ZNE_RELEASE_RAMP_MS.addr, Reg.ZNE_GMARGIN_GMARGIN.addr] ++
    (List.range 8).flatMap (fun n => [(Reg.GTE_PL_CTRL_EN n).addr, (Reg.GTE_PL_POS_X n).addr,
      (Reg.GTE_PL_XFORM_SCALE n).addr, (Reg.GTE_PL_INT_IG n).addr])
  leBytes 4 (rd s Reg.RAS_FCNT_FCNT) ++ addrs.flatMap (fun a => leBytes 4 (setWord m a))

/-- A partner frame leaves with the next CNT (R513). -/
def sendPtn (type : Nat) (payload : Bytes) (s : State) : State :=
  if pairOp s && rdb s Reg.PTN_CTRL_EN &&
      (rd s (Reg.TLK_LN_STATUS_LINK 64) == 2 || rd s (Reg.TLK_LN_STATUS_LINK 65) == 2) then
    { s with ptn := { s.ptn with txCnt := s.ptn.txCnt + 1 } } |> send (.ptn type s.ptn.txCnt payload)
  else s

/-- The active sends STAGE for a set staged at its sample (R513). -/
def sendStage (m : SMap Nat) (s : State) : State := when (role s == 1) (sendPtn 5 (stagePayload s m)) s

/-- The set that the damper's cap or its lifting stages at this sample, if the cap has taken a new value and
the level covers the mode it leads to (R480). -/
def capSet (s : State) : Option (SMap Nat) :=
  let cap := modeCap s
  let want := capMode cap s.ras.uncapped
  if cap != s.ras.capSeen && levelCovers s want && want != modeNow s then
    some (setPut (activeSet s) Reg.RAS_SH_TIMING_MODE want)
  else none

/-- The sample at the edge that begins line 127 (R65, R75, R480). -/
def sampleNow (s : State) : State :=
  let s := { s with ras := { s.ras with sampled := true } }
  let s := match s.ras.stag with
    | some m =>
      let s := sendStage m s
      if seamLegal s (setGet m Reg.RAS_SH_TIMING_MODE) then
        wr Reg.RAS_STATUS_SEAM_WAIT 0 { s with ras := { s.ras with seam := true } }
      else s
    | none =>
      if isStandby s then
        match s.ptn.stage with
        | some p =>
          let m := stageSet s p
          sampleSet m (setGet m Reg.RAS_SH_TIMING_MODE) { s with ptn := { s.ptn with stage := none } }
        | none => s
      else if rdb s Reg.RAS_COMMIT_GO then
        let m0 := shadowSet s
        let mode := setGet m0 Reg.RAS_SH_TIMING_MODE
        let m := setPut m0 Reg.RAS_SH_TIMING_MODE (if mode = 3 then 3 else capMode (modeCap s) mode)
        { s with ras := { s.ras with capSeen := modeCap s } }
          |> wr Reg.RAS_COMMIT_GO 0 |> sampleSet m mode |> sendStage m
      else match capSet s with
        | some m =>
          { s with ras := { s.ras with capSeen := modeCap s } }
            |> sampleSet m s.ras.uncapped |> sendStage m
        | none =>
          if capMode (modeCap s) s.ras.uncapped == modeNow s then
            { s with ras := { s.ras with capSeen := modeCap s } }
          else s
  setPending s

/-- COMMIT_SAMPLE (R65). -/
def doCommitSample (s : State) : State :=
  if rasterOn s && lineNow s == 127 && !s.ras.sampled then sampleNow s else s

/-- A GO write is after the sample of its frame (R67); in the seam period it is not (R77). -/
def goLate (s : State) : Bool := 127 ≤ lineNow s && lineNow s ≤ 135

/-- A write of RAS.COMMIT.GO while the raster runs (R65, R67, R70); the standby's own are ignored (R521). -/
def goRunning (s : State) : State :=
  if isStandby s then s else
    let s := doCommitSample s
    if rdb s Reg.RAS_COMMIT_GO then s
    else s |> when (goLate s) (wr Reg.RAS_STATUS_LATE 1) |> wr Reg.RAS_COMMIT_GO 1 |> setPending

/-- COMMIT_GO_WRITE (R67, R70, R72). -/
def doCommitGoWrite (s : State) : State :=
  if !mainOn s.dev.state then s
  else if rasterOn s then goRunning s else (commitStopped s).1

/-- COMMIT_CANCEL (R70, R354): commands that set the GO end with ABORTED. -/
def doCommitCancel (s : State) : State :=
  if rdb s Reg.RAS_COMMIT_GO && !(lineNow s == 127 && !s.ras.sampled) then
    s |> wr Reg.RAS_COMMIT_GO 0 |> setPending
      |> finish (fun w => match w.kind with | .commit _ false => true | _ => false) 9 (fun _ => (0, 0))
  else s

/-- PHASE_WRITE (R54): while the raster runs the raster error shifts by the change. -/
def doPhaseWrite (v : Word) (s : State) : State :=
  if !mainOn s.dev.state then s else
    let old := rd s Reg.RAS_PHASE_PHASE_NS
    let fresh : Nat := v.toNat % 2 ^ 21
    let d : Int := (fresh : Int) - (old : Int)
    { s with ras := { s.ras with slotNs := ((s.ras.slotNs : Int) + d).toNat } }
      |> wr Reg.RAS_PHASE_PHASE_NS fresh |> shiftErr (-d)

/-- Copies the count's captures into the read registers (R59). -/
def copyCaptures (s : State) : State :=
  s |> wr Reg.RAS_FLIPTS0_S_SEC s.ras.caps.d0s |> wr Reg.RAS_FLIPTS0_NS_NSEC s.ras.caps.d0n
    |> wr Reg.RAS_FLIPTS1_S_SEC s.ras.caps.d1s |> wr Reg.RAS_FLIPTS1_NS_NSEC s.ras.caps.d1n
    |> wr Reg.RAS_FLIPRAW_LO_RAW s.ras.caps.raw |> wr Reg.RAS_FLIPRAW_HI_RAW (s.ras.caps.raw / 2 ^ 32)

/-- FCNT_READ (R59). -/
def doFcntRead (s : State) : State := if mainOn s.dev.state then copyCaptures s else s

/-- RAS_EVT_FIRE (R82): not during the seam period. -/
def doRasEvtFire (n : Nat) (s : State) : State :=
  if n < 4 && rasterOn s && lineNow s != 0xFF && rdb s (Reg.RAS_EVT_EN n) then
    s |> fire (0x12 + n) |> when (rdb s (Reg.RAS_EVT_ONCE n)) (wr (Reg.RAS_EVT_EN n) 0)
  else s

/-- Captures at a slot (R58): zero for a domain that is not valid. -/
def captureSlot (s : State) : State :=
  let r := rawNow s
  let d := fun n => if domValid s n then timeAt s n r else 0
  { s with ras := { s.ras with caps :=
      { d0s := d 0 / 10 ^ 9 % 2 ^ 32, d0n := d 0 % 10 ^ 9, d1s := d 1 / 10 ^ 9 % 2 ^ 32, d1n := d 1 % 10 ^ 9,
        raw := r } } }
    |> wr Reg.RAS_STATUS_TSV0 (b2n (domValid s 0)) |> wr Reg.RAS_STATUS_TSV1 (b2n (domValid s 1))

/-- Every command that waits for the transfer completes at it (R334, R354). -/
def completeCommits (seam waited : Bool) (s : State) : State :=
  let fc := rd s Reg.RAS_COMMIT_FCNT_FCNT
  finish (fun w => match w.kind with | .commit _ true => true | _ => false) 0
    (fun w => (fc, (match w.kind with | .commit late _ => b2n late | _ => 0) + 2 * b2n seam + 4 * b2n waited)) s

/-- The transfer at line 128, offset 0 (R66, R76), for a staging set that does not wait for a seam slot. -/
def transferNow (s : State) : State :=
  match s.ras.stag with
  | none => s
  | some m =>
    if rdb s Reg.RAS_STATUS_SEAM_WAIT then s else
      let seam := s.ras.seam
      let waited := s.ras.waited
      let old := modeNow s
      { s with ras := { s.ras with stag := none, waited := false, oldMode := old } }
        |> applySet m ((rd s Reg.RAS_FCNT_FCNT + 1) % 2 ^ 32)
        |> setPending
        |> completeCommits seam waited

/-- The raster starts (R56): raster time is the active domain's time or the raw count; the start frame's slot
is the first grid point at least 10 µs later; a held staging set applies without a seam (R79). -/
def startRaster (s : State) : State :=
  if rasterOn s then s else
    let s := match s.ras.stag with
      | some m =>
        { s with ras := { s.ras with stag := none, waited := false, seam := false } }
          |> wr Reg.RAS_STATUS_SEAM_WAIT 0 |> applySet m (rd s Reg.RAS_FCNT_FCNT) |> setPending
      | none => s
    let ev := domValid s (activeDom s)
    let s := { s with ras := { s.ras with everValid := ev } }
    { s with
      ras := { s.ras with
        startFrame := true, csDone := false, slotDone := false, sampled := false, seam := false,
        withdrawn := false, withdrawnNext := false, abortRun := 0,
        slotNs := gridAfter s (rasterBase s + 10000), capSeen := modeCap s }
      gte := { s.gte with kt := [], sf := 0, so := 0, st := [], source := .default, ageFrom := s.now, staleUp := false, lostUp := false,
                          active := false }
      zne := { s.zne with pitchAt := s.now, q := [], prevShow := none } }
      |> wr Reg.RAS_CTRL_RUN 1 |> wri Reg.RAS_ERR_ERR 0 |> setLockSt
      |> wr Reg.GTE_SEL_DEFAULT 1 |> wr Reg.GTE_FLUXK_KF 0x8000
      |> wr (Reg.GTX_STATUS_LINE 0) 0xFF |> wr (Reg.GTX_STATUS_LINE 1) 0xFF

/-! ### The meanings of the rows -/

/-- COMMIT_SAMPLE (R65). -/
def execCommitSample (s : State) : Out :=
  .next (doCommitSample s)

/-- COMMIT_GO_WRITE (R65). -/
def execCommitGoWrite (s : State) : Out :=
  .next (doCommitGoWrite s)

/-- COMMIT_CANCEL (R70). -/
def execCommitCancel (s : State) : Out :=
  .next (doCommitCancel s)

/-- PHASE_WRITE (R54). -/
def execPhaseWrite (v : Word) (s : State) : Out :=
  .next (doPhaseWrite v s)

/-- FCNT_READ (R59). -/
def execFcntRead (s : State) : Out :=
  .next (doFcntRead s)

/-- RAS_EVT_FIRE (R82). -/
def execRasEvtFire (n : Nat) (s : State) : Out :=
  .next (doRasEvtFire n s)

end Sys2Proof.Machine
end

