-- ==== Sys2Proof/Machine/Sets.lean ====
section
/-! DEFINITION. What TPR sends to tiles on demand: broadcast sets and the command queue (R221 to R225), and
the way a lane leaves service. -/

namespace Sys2Proof.Machine

/-! ### Broadcast sets (R221, R222)

Kinds are numbered 1 FLIP, 2 SEAM, 3 ABORT, 4 SNAP, 5 PLATE, 6 COAST, 7 SWITCH. -/

/-- Arguments A0 to A5 with SEQ in A0 to A3 and TIMING in A4 and A5. -/
def seqArgs (sq timing : Nat) : Bytes := leBytes 4 sq ++ leBytes 2 timing

/-- Arguments A0 to A5 with one byte in A0. -/
def oneArg (v : Nat) : Bytes := leBytes 1 v ++ zeroBytes 5

/-- The set leaves on each lane of the list; TPR sends nothing with EN = 0 (R242). -/
def sendBcast (kind : Nat) (args : Bytes) (lanes : List Nat) (s : State) : State :=
  when (rdb s Reg.TPR_CTRL_EN) (forEach lanes (fun n => send (.bcast n kind args))) s

/-- PLATE and COAST leave as three copies (R222). -/
def sendThrice (kind : Nat) (args : Bytes) (lanes : List Nat) (s : State) : State :=
  s |> sendBcast kind args lanes |> sendBcast kind args lanes |> sendBcast kind args lanes

/-! ### The command queue (R224, R225) -/

/-- TPR's record of a lane before anything happened on it. -/
def tprLaneInit : TprLane :=
  { sent := [], sigs := [], held := none, sums := [], plateSum := none, lastSig := none, afterSeam := false,
    lost := 0, telemUp := false, temp := 0x8000, tempAge := 16, lineOk := true, lines := 0, autoRes := false, autoAt := [],
    sending := false, resumeSeq := none, lapses := 0, again := false, cmd := 0, plateReq := none,
    plateSig := none, changed := false, refRun := 0, refBoth := 0, refHold := false, snapped := false, got := true }

/-- TPR's record of lane `n`. -/
def tprLane (s : State) (n : Nat) : TprLane := SMap.getD s.tpr.lanes n tprLaneInit

/-- Changes TPR's record of lane `n`. -/
def modTpr (n : Nat) (f : TprLane → TprLane) (s : State) : State :=
  { s with tpr := { s.tpr with lanes := SMap.put s.tpr.lanes n (f (tprLane s n)) } }

/-- LEVEL of the command queue (TPR.CMDQSTAT). -/
def setCmdqLevel (s : State) : State := wr Reg.TPR_CMDQSTAT_LEVEL s.tpr.queue.length s

/-- A set joins the queue for the lanes of a list, in one symbol slot; a full queue of 32 takes no more. -/
def enqueue (lanes : List Nat) (opc : Nat) (payload : Bytes) (s : State) : State :=
  if s.tpr.queue.length < 32 && !lanes.isEmpty then
    let t := s.tpr.nextTag
    { s with tpr := { s.tpr with queue := s.tpr.queue ++ [⟨lanes, ⟨opc, t, payload⟩⟩], nextTag := (t + 1) % 256 } }
      |> setCmdqLevel
  else s

/-- A raster line after line `l` in which command sets go out (R217). -/
def nextCmdLine (l : Nat) : Nat :=
  if l < 127 then l + 1 else if l ≤ 128 then 129 else if l < 134 then l + 1 else 0

/-- A command set from OPC onward (R224). -/
def setBody (c : CmdSet) : Bytes :=
  let body := leBytes 1 c.opc ++ leBytes 1 c.tag ++ leBytes 2 c.payload.length ++ c.payload
  body ++ leBytes 4 (crc32 body)

/-- The active of a pair sends TCMD with each set that its TPR queues, for raster line `l` (R513, R521). -/
def sendTcmd (l lane : Nat) (c : CmdSet) (s : State) : State :=
  if role s == 1 then sendPtn 0x0A (leBytes 1 l ++ leBytes 1 lane ++ setBody c) s else s

/-- A set that firmware or TPR queues; the standby of a pair queues none of its own (R521). -/
def pushLanes (lanes : List Nat) (tcmdLane opc : Nat) (payload : Bytes) (s : State) : State :=
  if isStandby s then s
  else s |> sendTcmd (nextCmdLine (lineNow s)) tcmdLane ⟨opc, s.tpr.nextTag, payload⟩ |> enqueue lanes opc payload

/-- One set joins the queue for one lane. -/
def pushSet (lane opc : Nat) (payload : Bytes) (s : State) : State := pushLanes [lane] lane opc payload s

/-- RESUME naming a SEQ (R224, R233). -/
def pushResume (lane sq : Nat) (s : State) : State := pushSet lane 0x03 (leBytes 4 sq) s

/-- SEQ of the next content frame: the count at the next slot (R57, R239). -/
def nextSeq (s : State) : Nat := (rd s Reg.RAS_FCNT_FCNT + 1) % 2 ^ 32

/-! ### Demands (R78, R223, R521) -/

/-- This device sends no line packets and no broadcasts (R527, R529, R530). -/
def muted (s : State) : Bool := pairOp s && s.ptn.mute

/-- The partner is asked to send the same set: BARRIER of KIND 1 with OP, LANE and CAUSE (R521). -/
def sendBarrier (kind op lane cause : Nat) (s : State) : State :=
  sendPtn 4 (leBytes 1 kind ++ leBytes 1 0 ++ leBytes 1 op ++ leBytes 1 lane ++ leBytes 1 cause ++
    zeroBytes 3 ++ leBytes 4 (rd s Reg.RAS_FCNT_FCNT)) s

/-- The sets of a demand: OP 1 PLATE, 2 COAST, 3 WIPE. A withdrawing device sends none (R530). -/
def demandSets (op cause : Nat) (lanes : List Nat) (s : State) : State :=
  if pairOp s && (role s == 3 || s.ptn.mute) then s
  else
    let s := forEach lanes (fun n => modTpr n (fun l => { l with cmd := op })) s
    if op = 1 then sendThrice 5 (oneArg cause) lanes s
    else if op = 2 then sendThrice 6 (oneArg cause) lanes s
    else if op = 3 then enqueue lanes 0x02 [] s
    else s

/-- A demand of PLATE, COAST or WIPE on one lane of the list (R223), with its BARRIER to the partner. -/
def demand (op cause : Nat) (lane : Option Nat) (s : State) : State :=
  let lanes := match lane with
    | some n => [n]
    | none => serviceLanes s
  s |> demandSets op cause lanes
    |> when (pairOp s && role s != 3) (sendBarrier 1 op (lane.getD 0xFF) cause)

/-! ### Lanes leave service (R209, R388, R407, R423) -/

/-- Lane `n` is held dark by the last gate (R388). -/
def setFdark (n : Nat) (b : Bool) (s : State) : State :=
  setMapBit Reg.COR_GATE_FDARK_LO_MAP Reg.COR_GATE_FDARK_HI_MAP n b s

/-- FDARK of a lane follows its service and its tile's state (R388); in S-FALLBACK FCL holds every lane. -/
def updFdark (n : Nat) (s : State) : State :=
  setFdark n (!inService s n || tileState s n == 3 || s.dev.state == .fallback) s

/-- DEGMAP bit of a lane. -/
def setDeg (n : Nat) (b : Bool) (s : State) : State :=
  setMapBit Reg.FCL_DEGMAP_LO_MAP Reg.FCL_DEGMAP_HI_MAP n b s

/-- TPR reports the state code `v` for the tile of lane `n` (R40, R242). -/
def setTileState (n v : Nat) (s : State) : State :=
  let f := Reg.TPR_TSTATE_STATE (n / 16)
  let m := n % 16
  s |> wr (Reg.TPR_TL_STATUS_STATE n) v
    |> wr f (rd s f - bits (rd s f) (2 * m) 2 * 4 ^ m + v % 4 * 4 ^ m)
    |> updFdark n

/-- Lane `n` leaves service: line packets and probe lists end, its DEGMAP bit clears, TPR reports DARK. -/
def leaveService (n : Nat) (s : State) : State :=
  s |> wr (Reg.TLK_LN_STATUS_INSERV n) 0 |> wr (Reg.TPR_TL_STATUS_INSERV n) 0
    |> setDeg n false |> setTileState n 3
    |> modTpr n (fun l => { l with
        sent := [], autoRes := false, resumeSeq := none, again := false, sending := false, cmd := 0, plateReq := none, lost := 0,
        telemUp := false, got := true })

/-- Every tile lane leaves service. -/
def leaveAll (s : State) : State := forEach (serviceLanes s) leaveService s

end Sys2Proof.Machine
end

