-- ==== Sys2Proof/Machine/Binding.lean ====
section
/-! DEFINITION. Signed images, the binding and the tip-ins (`12_binding_tipins_lifecycle.md`), and what the
access policy of POLICY grants S1 (R437 to R439). -/

namespace Sys2Proof.Machine

/-! ### The register map by address -/

/-- The fields of the register at a stoker address, if a block holds one there (R26). -/
def fieldsAt (addr : Nat) : Option (List (Fld × FTy)) :=
  regRows.findSome? (fun r =>
    if r.base ≤ addr && addr < r.base + max 4 r.stride * r.count &&
        (addr - r.base) % (if r.stride = 0 then 4 else r.stride) == 0 then
      some (r.fields (if r.stride = 0 then 0 else (addr - r.base) / r.stride))
    else none)

/-- Peripheral block number of an address of the peripheral range. -/
def blockOf (addr : Nat) : Nat := (addr - 0x40000000) / 0x10000

/-- The mask of a register's RWL fields. -/
def rwlMask (fs : List (Fld × FTy)) : Nat :=
  fs.foldl (fun m f => if f.2 == .rwl then m + (2 ^ f.1.width - 1) * 2 ^ f.1.lo else m) 0

/-! ### Images (R367, R368) -/

/-- Life-cycle code (R378). -/
def lcCode (s : State) : Nat := rd s Reg.SEC_LC_CODE

/-- The life-cycle state withholds a test-multiplexer signal (R550). -/
def tmxWithheld (s : State) (sig : Nat) : Bool := (lcCode s == 0 || lcCode s == 2) && decide (7 < sig)

/-- TMX.STATUS.FULL follows the life-cycle state (R551). -/
def setTmxFull (s : State) : State := wr Reg.TMX_STATUS_FULL (b2n (!tmxWithheld s 63)) s

/-- PK_IMG of a life-cycle code's key page (R378). -/
def pageImgKey (s : State) (code : Nat) : Bytes := ldBytes s (0x30F01000 + 0x1000 * code) 64

/-- KT of a key page. -/
def pageKt (s : State) (code : Nat) : Bytes := ldBytes s (0x30F01040 + 0x1000 * code) 32

/-- KP of a key page. -/
def pageKp (s : State) (code : Nat) : Bytes := ldBytes s (0x30F01060 + 0x1000 * code) 16

/-- The keys that may sign with KEYSEL 1 in the life-cycle state in force. -/
def imageKeys (s : State) : List Bytes :=
  let c := lcCode s
  if c = 0 || c = 3 then [pageImgKey s c, Config.extraKey c] else [pageImgKey s c]

/-- Checks 1 to 6 of R368 on the bytes of an area of `area` bytes: the image type, and the SVN minimum. -/
def headerOk (s : State) (typ area minSvn : Nat) (b : Bytes) : Bool :=
  let len := leAt b 8 4
  let img := b.take len
  leAt b 0 4 == 0x4D494B4D && byteAt b 5 == 1 && byteAt b 4 == typ && (128 ≤ len && len ≤ area) &&
    byteAt b 7 == 0 && leAt b 0x1D 3 == 0 && img.length == len &&
    (leAt b 0x14 4 == 0 || leAt b 0x14 4 == deviceId s) && bit (byteAt b 0x1C) (lcCode s) &&
    (b.drop 0x20).take 32 == Config.sha256 (b.take 0x20 ++ img.drop 0x80) &&
    byteAt b 6 == (if typ == 1 then 0 else 1) &&
    (if typ == 1 then [Config.fwKey] else imageKeys s).any
      (fun k => Config.ecdsaOk k (Config.sha256 (b.take 0x40)) ((b.drop 0x40).take 64)) &&
    minSvn ≤ leAt b 0x10 4

/-! ### The binding body (R370) -/

/-- The directory: (ID, reserved, OFFSET, SLEN) of each entry. -/
def directory (b : Bytes) : List (Nat × Nat × Nat × Nat) :=
  (List.range (leAt b 0x80 2)).map (fun i =>
    let o := 0x84 + 12 * i
    (leAt b o 2, leAt b (o + 2) 2, leAt b (o + 4) 4, leAt b (o + 8) 4))

/-- The bytes of section `id`. -/
def sectionOf (b : Bytes) (id : Nat) : Option Bytes :=
  ((directory b).find? (fun e => e.1 == id)).map (fun e => (b.drop e.2.2.1).take e.2.2.2)

/-- Samples of a half-resolution map (R371): 256 × 64, or 128 × 32 on the MU1610. -/
def halfW (s : State) : Nat := match s.part with | .mu6410 => 256 | .mu1610 => 128
/-- Rows of a half-resolution map. -/
def halfH (s : State) : Nat := match s.part with | .mu6410 => 64 | .mu1610 => 32
/-- Bytes of a half-resolution map. -/
def halfBytes (s : State) : Nat := halfW s * halfH s * 2

/-- The section lengths of the table of R370. -/
def sectionLenOk (s : State) (id n : Nat) : Bool :=
  if id = 1 then n == 32
  else if id = 2 then n == 528
  else if id = 3 then n == 64
  else if id = 4 then n % 4420 == 0 && (1 ≤ n / 4420 && n / 4420 ≤ 4)
  else if id = 5 || id = 6 then n == halfBytes s
  else if id = 7 then n % halfBytes s == 0 && (1 ≤ n / halfBytes s && n / halfBytes s ≤ 4)
  else if id = 8 then n % 8496 == 0 && (1 ≤ n / 8496 && n / 8496 ≤ 4)
  else if id = 9 then n == 8224
  else if id = 0x0A then n == 8528
  else if id = 0x0B then n == 512
  else if id = 0x0C then n == 248
  else if id = 0x0D then n == 64
  else if id = 0x0E then n % 8 == 0 && n ≤ 4096
  else if id = 0x0F then n == 256
  else id == 0x10

/-- Two sections do not overlap. -/
def sectionsApart (a b : Nat × Nat × Nat × Nat) : Bool :=
  a.2.2.1 + a.2.2.2 ≤ b.2.2.1 || b.2.2.1 + b.2.2.2 ≤ a.2.2.1

/-- The directory rules of R370. -/
def directoryOk (s : State) (b : Bytes) : Bool :=
  let d := directory b
  let len := leAt b 8 4
  (1 ≤ d.length && d.length ≤ 32) && leAt b 0x82 2 == 0 &&
    d.all (fun e => e.2.1 == 0 && e.2.2.1 % 4 == 0 && 0x84 + 12 * d.length ≤ e.2.2.1 &&
      e.2.2.1 + e.2.2.2 ≤ len && sectionLenOk s e.1 e.2.2.2) &&
    decide (List.Pairwise (fun a b => a.1 ≠ b.1 ∧ sectionsApart a b = true) d) &&
    (List.range 13).all (fun i => d.any (fun e => e.1 == i + 1))

/-- TILEMAP (R46): each tile position of the part names a distinct enabled lane; the rest is unused. -/
def tileMapOk (s : State) (m : Bytes) : Bool :=
  let n := laneCount s
  let used := (List.range n).map (byteAt m)
  used.all (· < n) && decide used.Nodup && (List.range 64).all (fun i => i < n || byteAt m i == 0xFF)

/-- A timing value in range (R83): PBLANK 2 to 20, MODE 0 to 2, reserved bits zero. -/
def timingOk (v : Nat) : Bool :=
  let pb := bits v 8 5
  (2 ≤ pb && pb ≤ 20) && bits v 0 2 != 3 && bits v 2 2 == 0 && bits v 5 3 == 0 && bits v 13 3 == 0

/-- The body of a tip-in or BASEMODE (R375), with `envs` envelope maps in the library. -/
def tipBodyOk (envs : Nat) (b : Bytes) : Bool :=
  let spec := leAt b 8 4
  let hz := bits spec Reg.ZNE_SPEC_HORIZON.lo Reg.ZNE_SPEC_HORIZON.width
  let specMask := [Reg.ZNE_SPEC_EN, Reg.ZNE_SPEC_HORIZON, Reg.ZNE_SPEC_K, Reg.ZNE_SPEC_M0].foldl
    (fun m f => m + (2 ^ f.width - 1) * 2 ^ f.lo) 0
  leAt b 0 2 < 128 && byteAt b 2 < 16 && byteAt b 3 ≤ 3 && byteAt b 4 < envs &&
    (10 ≤ byteAt b 7 && byteAt b 7 ≤ 200) && (1 ≤ hz && hz ≤ 24) && andNot spec specMask 32 == 0 &&
    timingOk (leAt b 12 2) && allZero ((b.drop 14).take 18)

/-- One REGINIT pair obeys R372. -/
def regInitOk (addr v : Nat) : Bool :=
  let blk := blockOf addr
  0x40000000 ≤ addr && addr % 4 == 0 &&
    ([5, 7, 8, 9, 0x13, 0xA, 0xB, 0xC, 0xD].contains blk || (blk == 0xE && addr % 0x10000 < 0x200)) &&
    (match fieldsAt addr with
     | some fs => rwlMask fs != 0 && andNot v (rwlMask fs) 32 == 0
     | none => false)

/-- The pairs of REGINIT. -/
def regInitPairs (b : Bytes) : List (Nat × Nat) :=
  (List.range (b.length / 8)).map (fun i => (leAt b (8 * i) 4, leAt b (8 * i + 4) 4))

/-- Marking of each peripheral block: 0 S0-only, 1 S1-read-only, 2 S1-accessible (R438 and the register
sections of the chapters). -/
def blockMarking (blk : Nat) : Nat :=
  if blk = 2 || blk = 0x12 then 2
  else if [0x0C, 0x10, 0x11, 0x15, 0x16].contains blk then 0
  else 1

/-- Window `i` of POLICY: base, size, rights (R437). -/
def policyWin (p : Bytes) (i : Nat) : Nat × Nat × Nat :=
  (leAt p (0x30 + 12 * i) 4, leAt p (0x34 + 12 * i) 4, byteAt p (0x38 + 12 * i))

/-- The rules of R437 and R438 for POLICY. -/
def policyOk (p : Bytes) : Bool :=
  let n := byteAt p 1
  let wins := (List.range n).map (policyWin p)
  byteAt p 0 == 1 && n ≤ 8 && leAt p 2 2 &&& 0x103 == 0 && leAt p 2 2 < 512 && byteAt p 4 ≤ 32 &&
    allZero ((p.drop 5).take 11) && allZero ((p.drop 0x27).take 9) && allZero ((p.drop 0xF0).take 16) &&
    (List.range 23).all (fun b => byteAt p (0x10 + b) ≤ blockMarking b) &&
    (List.range n).all (fun i => allZero ((p.drop (0x39 + 12 * i)).take 3)) &&
    wins.all (fun w => w.1 % 65536 == 0 && w.2.1 % 65536 == 0 && w.2.1 != 0 && w.2.2 < 4 &&
      ((0x20000000 ≤ w.1 && w.1 + w.2.1 ≤ 0x21800000) || (0x21F80000 ≤ w.1 && w.1 + w.2.1 ≤ 0x22000000))) &&
    decide (List.Pairwise (fun a b => a.1 + a.2.1 ≤ b.1 ∨ b.1 + b.2.1 ≤ a.1) wins)

/-- The ranges of the SAFETY section (R385). -/
def safetyOk (b : Bytes) : Bool :=
  let u := fun o => leAt b o 2
  let within := fun lo v hi => decide (lo ≤ v) && decide (v ≤ hi)
  u 0 < 8 && bits (u 0) 1 2 != 0 && 16 ≤ byteAt b 3 && 0x100 ≤ u 4 && 1 ≤ u 0xA && u 0xE ≤ 160 &&
    within 20 (u 0x14) 100 && 32 ≤ byteAt b 0x16 && 5 ≤ byteAt b 0x17 && within 100 (u 0x18) 10000 &&
    within 10 (byteAt b 0x1A) 20 && within 10 (byteAt b 0x1B) 50 && within 100 (u 0x1C) 10000 &&
    within 50 (u 0x1E) 5000 && within 100 (u 0x20) 5000 && 16 ≤ byteAt b 0x22 && byteAt b 0x23 ≤ 32 &&
    within 100 (u 0x24) 2000 && allZero ((b.drop 0x26).take 26) &&
    (List.range 32).all (fun i => leAt b (0x46 + 8 * i) 2 == 0)

/-- The DEVICE record (R370); pair operation exists on the MU6410 only (R3). -/
def deviceOk (s : State) (b : Bytes) : Bool :=
  leAt b 0 2 < 4 && byteAt b 2 ≤ 7 && byteAt b 3 ≤ 7 && (1 ≤ leAt b 6 2 && leAt b 6 2 ≤ 3600) &&
    leAt b 0xE 2 == 0 && allZero ((b.drop 0x1C).take 36) && (s.part == .mu6410 || leAt b 0 2 < 2)

/-- The key slots of an unwrapped KEYS section: KID with its bytes; a 32-byte key spans two slots (R379). -/
def keySlots (u : Bytes) : SMap Bytes :=
  let slot := fun i => (u.drop (24 * i)).take 24
  (List.range 10).foldl (fun m i =>
    let e := slot i
    let kid := byteAt e 0
    let first := i == 0 || byteAt (slot (i - 1)) 0 != kid
    if kid = 0 || !first then m
    else SMap.put m kid ((e.drop 8).take 16 ++
      (if byteAt e 1 = 32 then ((slot (i + 1)).drop 8).take 16 else []))) []

/-- The KEYS section unwraps and holds every key that R379 asks for. -/
def unwrapKeys (s : State) (w : Bytes) (pair : Bool) : Option (SMap Bytes) :=
  match Config.keyUnwrap (pageKt s (lcCode s)) w with
  | none => none
  | some u =>
    let m := keySlots u
    let needed := [1, 2, 3, 4, 5, 6] ++ (if pair then [7] else [])
    if needed.all (fun k => (SMap.find m k).isSome) then some m else none

/-- The bytes of the binding area (R369). -/
def bindingArea (s : State) : Bytes := ldBytes s 0x30A00000 0x70000

/-- The bytes of tip-in slot `n` (R369). -/
def tipArea (s : State) (n : Nat) : Bytes := ldBytes s (0x30A70000 + (n - 1) * 0x1000) 0x1000

/-- A section of an image, empty where it has none. -/
def secD (b : Bytes) (id : Nat) : Bytes := (sectionOf b id).getD []

/-- Envelope maps in a binding's library. -/
def envCount (s : State) (b : Bytes) : Nat := (secD b 7).length / halfBytes s

/-- The body rules of a binding image: check 7 of R368 with R370 to R372. -/
def bindingBodyOk (s : State) (b : Bytes) : Bool :=
  directoryOk s b && tileMapOk s (secD b 3) && (secD b 8).length / 8496 == envCount s b &&
    leAt (secD b 1) 0 2 == 127 && tipBodyOk (envCount s b) (secD b 1) &&
    (regInitPairs (secD b 0x0E)).all (fun p => regInitOk p.1 p.2) &&
    (match sectionOf b 0x0F with | some p => policyOk p | none => true) &&
    safetyOk (secD b 0x0A) && deviceOk s (secD b 0x0D)

/-- A binding image passes R368. -/
def bindingOk (s : State) (b : Bytes) : Bool :=
  headerOk s 0x10 0x70000 s.sec.minBind b && bindingBodyOk s (b.take (leAt b 8 4))

/-- A tip-in image passes R368 against the binding image stored in the binding area. -/
def tipOk (s : State) (b : Bytes) : Bool :=
  headerOk s 0x11 0x1000 s.sec.minBind b && leAt b 8 4 == 160 &&
    leAt b 0x18 4 == leAt (ldBytes s 0x30A00000 0x20) 0x18 4 &&
    tipBodyOk (envCount s (bindingArea s)) ((b.drop 0x80).take 32)

/-- A firmware image passes R368. -/
def firmwareOk (s : State) (b : Bytes) : Bool :=
  headerOk s 0x01 0x200000 s.sec.minFw b && leAt b 0x18 4 == 0

/-- The severity bytes respect the floors of their sources (R373, R416, R419). -/
def severityOk (b : Bytes) : Bool :=
  (List.range 512).all (fun i =>
    let v := byteAt b i
    v == 0xFF || ((faultRow i).isNone && v == 0) || (severityFloor i ≤ v && v ≤ 4 && (faultRow i).isSome))

/-- The further checks of R373 on a binding, with the valid tip-in bodies. -/
def bindingFurtherOk (s : State) (b : Bytes) (tips : SMap Bytes) : Bool :=
  let dev := secD b 0x0D
  let states := fun slot => if slot = 0 then 0x0F else byteAt (SMap.getD tips slot []) 2
  let valid := fun slot => slot == 0 || (SMap.find tips slot).isSome
  let st := byteAt dev 2
  let sv := byteAt dev 3
  valid st && bit (states st) 1 && bit (states st) 2 && valid sv && bit (states sv) 3 &&
    severityOk (secD b 0x0B) && (unwrapKeys s (secD b 0x0C) (bit (leAt dev 0 2) 1)).isSome

/-! ### Maps (R371) -/

/-- Sample (x, y) of a half-resolution map. -/
def halfAt (w : Nat) (b : Bytes) (x y : Nat) : Nat := leAt b (2 * (y * w + x)) 2

/-- One output row of R371. -/
def expandRow (w h : Nat) (b : Bytes) (y : Nat) : Bytes :=
  let b0 := y / 2
  let b1 := min ((y + 1) / 2) (h - 1)
  (List.range (2 * w)).flatMap (fun x =>
    let a0 := x / 2
    let a1 := min ((x + 1) / 2) (w - 1)
    leBytes 2 ((halfAt w b a0 b0 + halfAt w b a1 b0 + halfAt w b a0 b1 + halfAt w b a1 b1) / 4))

/-- A half-resolution map fills the pixel-store map at `base`, pitch 1,024 bytes. -/
def storeMap (base : Nat) (b : Bytes) (s : State) : State :=
  let w := halfW s
  let h := halfH s
  forEach (List.range (2 * h)) (fun y => psWrite (base + 1024 * y) (expandRow w h b y)) s

/-- Library map and parameter set `k` go into envelope set `e` (R112, R370, R376). -/
def loadEnv (e k : Nat) (s : State) : State :=
  let n := halfBytes s
  let map := ((bindSec s 7).drop (n * k)).take n
  let par := ((bindSec s 8).drop (8496 * k)).take 8496
  let pb := 0x21E68000 + 0x4000 * e
  let s := s |> storeMap (0x21E28000 + 0x20000 * e) map
    |> psWrite pb (par.take 0x130)
    |> psWrite (pb + 0x2000) ((par.drop 0x130).take 0x2000)
  { s with gte := { s.gte with envLib := SMap.put s.gte.envLib e k } }

/-! ### Tip-ins (R375 to R377) -/

/-- The body of a tip-in slot; slot 0 is BASEMODE. -/
def tipBody (s : State) (slot : Nat) : Bytes :=
  if slot = 0 then bindSec s 1 else SMap.getD s.sec.tips slot (bindSec s 1)

/-- States in which a tip-in may be in force; slot 0 takes them as 0x0F. -/
def tipStates (s : State) (slot : Nat) : Nat := if slot = 0 then 0x0F else byteAt (tipBody s slot) 2

/-- The bit of STATES for a device state. -/
def tipStateBit (d : DevState) : Option Nat :=
  match d with | .standby => some 0 | .prelit => some 1 | .lit => some 2 | .service => some 3 | _ => none

/-- The tip-in may be in force in a device state. -/
def tipPermits (s : State) (slot : Nat) (d : DevState) : Bool :=
  match tipStateBit d with | some b => bit (tipStates s slot) b | none => false

/-- A field of the tip-in in effect: the slot's own where PRESENT has bit `p`, else the BASEMODE value. -/
def tipField (s : State) (slot p off n : Nat) : Nat :=
  let b := tipBody s slot
  if slot != 0 && bit (leAt b 0 2) p then leAt b off n else leAt (bindSec s 1) off n

/-- TIPIN_SELECT's shadow writes (R376): envelope set, ZNE shadows, glyph permission and stream, timing,
tip-in. -/
def stageTip (slot : Nat) (s : State) : State :=
  let env := tipField s slot 1 4 1
  let cur := rd s Reg.GTE_ENVSET_SET
  let differs := (SMap.find s.gte.envLib cur) != some env
  let named := if differs then 1 - cur else cur
  let spec := tipField s slot 2 8 4
  let tim := tipField s slot 6 12 2
  let timAct := act s Reg.RAS_SH_TIMING_MODE + 16 * act s Reg.RAS_SH_TIMING_PHLEN +
    256 * act s Reg.RAS_SH_TIMING_PBLANK
  let put := fun (f : Fld) (s : State) => wr f (bits spec f.lo f.width) s
  let s := s |> when differs (loadEnv (1 - cur) env)
    |> put Reg.ZNE_SPEC_EN |> put Reg.ZNE_SPEC_HORIZON |> put Reg.ZNE_SPEC_K |> put Reg.ZNE_SPEC_M0
    |> wr Reg.ZNE_RELEASE_RAMP_MS (tipField s slot 3 7 1)
    |> wr Reg.ZNE_GMARGIN_GMARGIN (tipField s slot 4 6 1)
    |> wr tipGlyphs (tipField s slot 5 5 1)
    |> wr tipStream (tipField s slot 0 3 1)
    |> wr tipEnvSet named
    |> when (tim != timAct) (fun s => s
        |> wr Reg.RAS_SH_TIMING_MODE (bits tim 0 2) |> wr Reg.RAS_SH_TIMING_PHLEN (bits tim 4 1)
        |> wr Reg.RAS_SH_TIMING_PBLANK (bits tim 8 5))
    |> wr Reg.RAS_SH_TIPIN_TIPIN slot
  { s with sec := { s.sec with tipPend := some slot } }

/-- START_TIPIN or SERVICE_TIPIN of the DEVICE record for a state that is entered (R377). -/
def entryTip (s : State) (d : DevState) : Nat :=
  byteAt (bindSec s 0x0D) (if d == .service then 3 else 2)

/-- A TIPIN_SELECT that waits for its commit or for a transfer. -/
def tipWaits (w : Waiter) : Bool :=
  w.cpl.opc == 0x0202 && match w.kind with | .commit _ _ => true | .tipWait _ _ => true | _ => false

/-- On an entry to PRELIT or SERVICE S0 stages the state's tip-in; a TIPIN_SELECT not yet transferred is staged
after it where its STATES permit the new state, else it completes with STATE, reason 0x09 (R377). -/
def stageEntryTip (d : DevState) (s : State) : State :=
  let pend := s.sec.tipPend
  let s := stageTip (entryTip s d) s
  match pend with
  | some slot => if tipPermits s slot d then stageTip slot s else finish tipWaits 5 (fun _ => (0, 9)) s
  | none => s

/-! ### What POLICY grants S1 (R437 to R439) -/

/-- S1's right to a peripheral block: 0 none, 1 read, 2 read and write. -/
def s1Right (s : State) (blk : Nat) : Nat :=
  let p := bindSec s 0x0F
  if p.isEmpty || 22 < blk then 0 else byteAt p (0x10 + blk)

/-- One 64 KiB page of the pixel store is granted to S1 with a right: bit 0 read, bit 1 write. -/
def s1Page (s : State) (right page : Nat) : Bool :=
  let p := bindSec s 0x0F
  !p.isEmpty && (List.range (byteAt p 1)).any (fun i =>
    let w := policyWin p i
    w.1 ≤ page * 65536 && page * 65536 < w.1 + w.2.1 && bit w.2.2 right)

/-- Every byte of a range of the pixel store is granted to S1 with a right. -/
def s1Range (s : State) (right addr len : Nat) : Bool :=
  len == 0 || (List.range ((addr + len - 1) / 65536 - addr / 65536 + 1)).all
    (fun i => s1Page s right (addr / 65536 + i))

/-- S1 may own an interrupt source (POLICY.SRC, R447). -/
def s1Source (s : State) (src : Nat) : Bool :=
  let p := bindSec s 0x0F
  !p.isEmpty && bit (byteAt p (0x90 + src / 8)) (src % 8)

/-- An opcode is withdrawn from CH3 (POLICY.CMDX, R336). -/
def s1Withdrawn (s : State) (opc : Nat) : Bool :=
  let p := bindSec s 0x0F
  (List.range (byteAt p 4)).any (fun i => leAt p (0xB0 + 2 * i) 2 == opc)

/-- S1 may read an area of the eMRAM: the customer area, and what POLICY.EMRAM grants (R16, R437). -/
def s1Emram (s : State) (area : Nat) : Bool := area == 7 || bit (leAt (bindSec s 0x0F) 2 2) area

end Sys2Proof.Machine
end

