-- ==== Sys2Proof/Machine/Device.lean ====
section
/-! DEFINITION. The device between its states (R33 to R39): entering and leaving PRELIT, LIT, SERVICE and
STANDBY, the safe states S-PLATE and S-FALLBACK (R405 to R407), the fallback beam, the performance level
(R464, R465), and what a reset keeps (R455, R456). -/

namespace Sys2Proof.Machine

/-! ### The fallback beam (R38, R403, R404, R530) -/

/-- Channels lit, as PWC.P_FB.ON shows them. -/
def fbOn (s : State) : Nat := rd s Reg.PWC_P_FB_ON

/-- In pair operation a device lights no channel while PAIR_ACT reads high (R38, R530). -/
def fbWithheld (s : State) : Bool := pairOp s && s.pilot.pairAct

/-- The pilot lights the channels of `mask`, or remembers them until PAIR_ACT reads low; a channel that a test
pulse holds takes the demand at the pulse's end (R404). -/
def fbLight (mask : Nat) (s : State) : State :=
  if fbWithheld s then { s with pilot := { s.pilot with fbPair := s.pilot.fbPair ||| mask } }
  else
    let busy := match s.pilot.fbPulse with | some (ch, _) => 2 ^ ch &&& mask | none => 0
    wr Reg.PWC_P_FB_ON (fbOn s ||| andNot mask busy 2)
      { s with pilot := { s.pilot with fbDemand := s.pilot.fbDemand ||| busy } }

/-- The pilot turns every channel off; a pulse in progress ends with the channel off (R404). -/
def fbDark (s : State) : State :=
  wr Reg.PWC_P_FB_ON 0 { s with pilot := { s.pilot with fbPair := 0, fbDemand := 0 } }

/-- PAIR_ACT is driven high by this device (R517). -/
def drivesPairAct (s : State) : Bool :=
  pairOp s && rasterState s.dev.state && (role s == 1 || role s == 2) && !s.dev.sPlate &&
    (List.range (laneCount s)).all (fun i => inService s (byteAt (bindSec s 3) i))

/-! ### SAFE_TEST (R361) -/

/-- Output test `k` of a SAFE_TEST has ended: 0 to 7 TGEN, 8 and 9 FB0 and FB1, 10 the dark-path test. The command
completes with its last test. -/
def testDone (k : Nat) (fail : Bool) (s : State) : State :=
  { s with waits := s.waits.map (fun w => match w.kind with
      | .safeTest left fails =>
        if bit left k then
          { w with kind := .safeTest (putBit left k false) (if fail then setBit fails k else fails) }
        else w
      | _ => w) }
    |> finish (fun w => match w.kind with | .safeTest 0 _ => true | _ => false) 0
        (fun w => match w.kind with | .safeTest _ fails => (0, fails) | _ => (0, 0))

/-- A SAFE_TEST still waits for the test of a group. -/
def groupsToTest (s : State) : Bool :=
  s.waits.any (fun w => match w.kind with | .safeTest left _ => left % 256 != 0 | _ => false)

/-! ### TGEN (R401, R407, R408) -/

/-- Level of TGEN[n]: PWC.TGEN.EN unless a safe state, a test pulse or a GLOWCUT holds it low. -/
def tgenHigh (s : State) (n : Nat) : Bool :=
  bit (rd s Reg.PWC_TGEN_EN) n && !bit s.pwc.tgenCut n && s.fender.pulse != some n

/-- PWC holds the TGEN pins of `mask` low. -/
def tgenForce (mask : Nat) (s : State) : State := { s with pwc := { s.pwc with tgenCut := s.pwc.tgenCut ||| mask } }

/-! ### Performance level (R462 to R465) -/

/-- The level that R464 gives in a device state. -/
def effLevel (s : State) (d : DevState) : Nat :=
  match d with
  | .prelit | .lit | .service =>
    let m := max (modeMinPl (modeNow s)) (modeMinPl (capMode (modeCap s) s.ras.uncapped))
    if 2 ≤ damper s then m else max (max (rd s Reg.PWC_PLREQ_LIT) 1) m
  | .standby | .fallback => rd s Reg.PWC_PLREQ_SB
  | _ => 0

/-- VCORE target of a level in mV (R462). -/
def levelMv (d : DevState) (lvl : Nat) : Nat :=
  if lvl = 0 then (if d == .boot || d == .halt then 720 else 650)
  else if lvl = 1 then 720 else if lvl = 2 then 800 else 880

/-- PWC writes a new VCORE target over MDIO (R463). -/
def writeVset (mv : Nat) (s : State) : State := s |> wr Reg.PWC_VSET_MV mv |> send (.vset mv)

/-- PWC reports the level in force: PERF_SET completes (R339, R465). -/
def perfDone (s : State) : State :=
  finishKind (fun k => match k with | .perf _ => true | _ => false) 0 (stateWord s) 0 s

/-- A level change starts where the level in force differs from the one to reach (R465). -/
def startLevel (lvl : Nat) (s : State) : State :=
  let pl := rd s Reg.PWC_STATUS_PL
  if pl = lvl then s |> wr Reg.PWC_STATUS_PLBUSY 0 |> (fun s => perfDone { s with pwc := { s.pwc with plTo := none } })
  else if s.pwc.plTo = some lvl then s
  else { s with pwc := { s.pwc with plTo := some lvl } }
    |> wr Reg.PWC_STATUS_PLBUSY 1
    |> when (pl < lvl) (writeVset (levelMv s.dev.state lvl))

/-- The level follows the state, or the entry that waits for it, the requests and the damper (R464). -/
def relevel (s : State) : State := startLevel (effLevel s (s.dev.raising.getD s.dev.state)) s

/-! ### Power domains (R453, R472) -/

/-- Domains of a state that are on without an access: GEE to SWP while the raster can run, ETH when bound,
PTN in pair operation. -/
def stateDomains (s : State) (d : DevState) : Nat :=
  if rasterState d then
    rd s Reg.PWC_DOMST_MAP ||| 0x1F ||| (if bound s then 0x20 else 0) ||| (if pairOp s then 0x40 else 0)
  else match d with
    | .standby | .fallback => rd s Reg.PWC_DOMST_MAP
    | .boot | .halt => rd s Reg.PWC_DOMST_MAP &&& 0x180
    | _ => 0

/-! ### A change of the device state -/

/-- ZNE at a raster stop (R132, R133, R554): no zone, every mirror entry as not held, levelling reset. -/
def zneStop (s : State) : State :=
  let entry := zeroBytes 0x3C ++ leBytes 4 (crc32 (zeroBytes 0x3C))
  { s with zne := { Zne.cold with badZones := s.zne.badZones, badQ := s.zne.badQ } }
    |> psWrite 0x21E70000 (List.replicate 64 entry).flatten
    |> wr Reg.ZNE_ACTIVE_LO_MAP 0 |> wr Reg.ZNE_ACTIVE_HI_MAP 0 |> wr Reg.ZNE_STALEMAP_LO_MAP 0
    |> wr Reg.ZNE_STALEMAP_HI_MAP 0 |> wr Reg.ZNE_PROTMAP_LO_MAP 0 |> wr Reg.ZNE_PROTMAP_HI_MAP 0
    |> wr Reg.ZNE_STATUS_NZONES 0 |> wr Reg.ZNE_STATUS_STALE 0 |> wr Reg.ZNE_STATUS_LVL_STALE 0
    |> wr Reg.ZNE_STATUS_SPEC_ACT 0 |> wr Reg.ZNE_STATUS_PUB_BUSY 0
    |> wr Reg.ZNE_LVLSTAT_DP 0 |> wr Reg.ZNE_LVLSTAT_DC 0 |> wr Reg.ZNE_PITCH_ANGLE 0 |> wr Reg.ZNE_PITCH_RATE 0

/-- The device state changes: an open image transfer ends (R346), the pilot takes its start instant (R38),
and the pins that follow the state do. -/
def setDev (d : DevState) (s : State) : State :=
  let old := s.dev.state
  let doms := stateDomains s d
  let leaves := rasterState old && !rasterState d
  let timer := !rasterState d && (s.pilot.fbTimer || (leaves && s.pilot.lightReq && d != .fallback))
  let s := { s with
    dev := { s.dev with state := d, entering := none, raising := none }
    image := none
    pilot := { s.pilot with fbTimer := timer } }
  s |> wr Reg.PWC_DOMST_MAP doms |> setFaultN |> setEmber |> setIrqPin

/-- Completions at a raster stop: a gathered zone set ends with STATE, reason 0x06 (R350); commits as R354
says for a commanded stop or for one that a fault reaction causes. -/
def stopWaiters (fault : Bool) (s : State) : State :=
  let gathered := s.mbx.gathers.flatMap Prod.snd
  let s := { s with mbx := { s.mbx with gathers := [] } }
  let s := forEach gathered (fun q => complete q.1 5 0 6) s
  let isCommit := fun (st : Bool) (w : Waiter) => match w.kind with | .commit _ x => x == st | _ => false
  let late := fun (w : Waiter) => match w.kind with | .commit l _ => b2n l | _ => 0
  let hadGo := rdb s Reg.RAS_COMMIT_GO
  let s := wr Reg.RAS_COMMIT_GO 0 s
  let (s, st) := if hadGo then commitStopped s else (s, (0, rd s Reg.RAS_COMMIT_FCNT_FCNT, 0))
  let held := rdb s Reg.RAS_STATUS_SEAM_WAIT
  let s := match s.ras.stag with
    | some m => if held then s else
        applySet m (rd s Reg.RAS_FCNT_FCNT) { s with ras := { s.ras with stag := none, seam := false } }
    | none => s
  let fc := rd s Reg.RAS_COMMIT_FCNT_FCNT
  s |> finish (isCommit false) (if fault then 9 else st.1)
        (fun w => (fc, if fault then 0 else late w + (if st.1 = 0 then 0 else st.2.2)))
    |> finish (isCommit true) (if fault then 9 else 0)
        (fun w => (fc, if fault then 0 else late w + 4 * b2n held))
    |> setPending

/-- The raster stops (R56, R79, R132, R391): engines idle, ZNE and the fender drop their zones. -/
def stopRaster (fault : Bool) (s : State) : State :=
  if !rasterOn s then s else
    let s := wr Reg.RAS_CTRL_RUN 0 s
    { s with
      gte := { s.gte with active := false, codes := [], mask := [] }
      fender := { s.fender with held := [], waiting := [], due := [], taps := [], test := none, pulse := none,
                                tpLow := [], passRun := 0 }
      swp := { s.swp with balances := [] }
      ras := { s.ras with seam := false, csDone := false, slotDone := false, sampled := false } }
      |> stopWaiters fault
      |> zneStop
      |> wr Reg.RAS_POS_LINE 0xFE |> wr Reg.RAS_POS_OFFSET 0 |> wr Reg.RAS_STATUS_SEAM_ACT 0
      |> wr (Reg.GTX_STATUS_RUN 0) 0 |> wr (Reg.GTX_STATUS_RUN 1) 0 |> wr Reg.FST_ZONES 0 |> wr Reg.FST_MODE 0

/-! ### Safe states (R405 to R407) -/

/-- Commanded transitions and tests that a fault reaction ends (R35). -/
def isTransition (k : WaitKind) : Bool :=
  match k with
  | .toService | .toPrelit | .lightOn _ | .safeTest _ _ => true
  | _ => false

/-- Tile commands that wait for a tile of a lane in service. -/
def isTileWait (k : WaitKind) : Bool :=
  match k with
  | .tileSet _ _ _ | .tileResume _ _ => true
  | _ => false

/-- A transition in progress is abandoned and its command completes with ABORTED (R35). -/
def abortTransitions (s : State) : State :=
  { s with dev := { s.dev with entering := none, raising := none, tests := false, rerun := false } }
    |> finishKind isTransition 9 0 0

/-- S-PLATE (R406) set by a message word: PLATE on every lane in service, PRELIT with S_PLATE = 1. Entering
PRELIT, S0 stages the state's tip-in (R377). -/
def enterSPlate (word : Nat) (s : State) : State :=
  let s := s |> demand 1 (bits word 16 7) none
  let was := s.dev.state
  { s with dev := { s.dev with sPlate := true, tests := false, rerun := false } }
    |> wr Reg.FCL_SAFEKIND_VALUE word
    |> setDev .prelit
    |> abortTransitions
    |> when (was != .prelit) (fun s => s |> stageEntryTip .prelit |> goRunning)
    |> relevel

/-- S-FALLBACK (R407) up to the latched pads: FDARK on every lane, the channels of P_FB.MASK lit, every TGEN
low, the pads latched. -/
def fallbackOutputs (s : State) : State :=
  { s with pilot := { s.pilot with sFallback := true } }
    |> wr Reg.COR_GATE_FDARK_LO_MAP 0xFFFFFFFF |> wr Reg.COR_GATE_FDARK_HI_MAP 0xFFFFFFFF
    |> fbLight (rd s Reg.PWC_P_FB_MASK)
    |> tgenForce 0xFF
    |> wr Reg.PWC_PADREL_LATCHED 1

/-- The recovery timer starts at an entry to FALLBACK or HALT (R430). -/
def startRecovery (s : State) : State := { s with pilot := { s.pilot with recovOn := s.pilot.recovS != 0 } }

/-- Step 4 of R407: FALLBACK, the raster stops, every tile lane leaves service. -/
def enterFallbackState (s : State) : State :=
  { s with dev := { s.dev with sPlate := false } }
    |> wr Reg.FCL_SAFEKIND_VALUE 0
    |> setDev .fallback
    |> startRecovery
    |> stopRaster true
    |> leaveAll
    |> abortTransitions
    |> finishKind isTileWait 9 0 0
    |> finishKind (fun k => k == .faultClear) 11 0 (rd s Reg.FCL_FIRST_VALUE)
    |> relevel

/-- S-FALLBACK in a state from which R33 leads to FALLBACK. -/
def enterSFallback (s : State) : State := s |> fallbackOutputs |> enterFallbackState

/-! ### Entering PRELIT, LIT, SERVICE and STANDBY -/

/-- An entry to PRELIT or SERVICE takes effect: start tests run in PRELIT; the command that asked for it
completes with the STATE word; with SAFE_IN_N low PRELIT passes at once to FALLBACK (R428). -/
def arrive (d : DevState) (s : State) : State :=
  let s := { s with
      dev := { s.dev with tests := d == .prelit, rerun := false, sPlate := false }
      fender := { s.fender with passRun := 0 } }
    |> setDev d |> relevel
  if d == .prelit && s.pilot.safeLow then enterSFallback s
  else
    let w := stateWord s
    if d == .service then finishKind (fun k => k == .toService) 0 w 0 s
    else finishKind (fun k => k == .toPrelit) 0 w 0 s

/-- Entry from STANDBY once the level is reached: the state's tip-in as a commit with the raster stopped
(R72, R377), then the raster starts (R56). -/
def arriveFromStandby (d : DevState) (s : State) : State :=
  let s := stageEntryTip d s
  (commitStopped s).1 |> startRaster |> arrive d

/-- An entry to PRELIT or SERVICE from STANDBY starts: PWC raises the level first (R22, R464). -/
def leaveStandby (d : DevState) (s : State) : State :=
  let lvl := effLevel s d
  if rd s Reg.PWC_STATUS_PL < lvl then startLevel lvl { s with dev := { s.dev with raising := some d } }
  else arriveFromStandby d s

/-- An entry to PRELIT or SERVICE while the raster runs starts: S0 stages the tip-in and writes GO; the entry
takes effect at its transfer (R556). -/
def enterRunning (d : DevState) (s : State) : State :=
  { s with dev := { s.dev with entering := some d } } |> stageEntryTip d |> goRunning

/-- The transfer that applies the tip-in of an entry (R556). -/
def entryTransfer (s : State) : State :=
  match s.dev.entering with
  | some d => arrive d s
  | none => s

/-- SVN minimums rise on the first entry to LIT with a higher SVN (R381). -/
def raiseSvn (s : State) : State :=
  let fw := max s.sec.minFw s.sec.fwSvn
  let bd := max s.sec.minBind s.sec.bindSvn
  { s with sec := { s.sec with minFw := fw, minBind := bd } }
    |> wr Reg.SEC_SVN_FW fw |> wr Reg.SEC_SVN_BIND bd

/-- Entry to LIT (R33, R38, R342): the fallback beam goes out and LIGHT_ON completes. -/
def enterLit (s : State) : State :=
  { s with
    dev := { s.dev with tests := false, rerun := false }
    pilot := { s.pilot with sFallback := false } }
    |> fbDark |> setDev .lit |> raiseSvn |> relevel
    |> (fun s => finish (fun w => match w.kind with | .lightOn _ => true | _ => false) 0
        (fun w => (stateWord s, match w.kind with | .lightOn t0 => (s.now - t0) / 250 | _ => 0)) s)

/-- Entry to STANDBY from PRELIT or LIT (R33, R209): the raster stops, the lanes leave service, S0 drops the
TGEN pins; a LIGHT_ON in progress ends (log entry 22). -/
def enterStandby (s : State) : State :=
  { s with dev := { s.dev with tests := false, rerun := false, sPlate := false, entering := none } }
    |> wr Reg.FCL_SAFEKIND_VALUE 0
    |> setDev .standby
    |> stopRaster false
    |> leaveAll
    |> wr Reg.PWC_TGEN_EN 0
    |> abortTransitions
    |> finishKind isTileWait 9 0 0
    |> finishKind (fun k => k == .faultClear) 9 0 0
    |> relevel

/-- Standstill is withdrawn (R341): in SERVICE the transition to PRELIT starts, or waits for the end of a
state-changing command. -/
def withdrawStandstill (s : State) : State :=
  let s := { s with mbx := { s.mbx with standstill := none } }
  if s.dev.state == .service && s.dev.entering.isNone then
    if scBusy s then { s with mbx := { s.mbx with withdraw := true } } else enterRunning .prelit s
  else s

/-- At the end of a state-changing command a withdrawal that waited starts, if the device is still in SERVICE
without standstill (R341). -/
def settleWithdraw (s : State) : State :=
  if s.mbx.withdraw && !scBusy s then
    let s := { s with mbx := { s.mbx with withdraw := false } }
    if s.dev.state == .service && s.mbx.standstill.isNone && s.dev.entering.isNone then enterRunning .prelit s
    else s
  else s

/-- Auto-light acts: STANDBY with LIGHT_REQ high, not suspended, not degraded, damper below D4, in a pair
the active, pads released (R33, R343, R374, R479). -/
def autoLightOn (s : State) : State :=
  if s.dev.state == .standby && s.pilot.lightReq && autoLight s && !s.dev.autoHold && !s.dev.rc &&
      damper s < 4 && (!pairOp s || role s == 1) && !scBusy s && s.dev.raising.isNone then leaveStandby .prelit s
  else s

/-! ### Reset (R455, R456) -/

/-- Registers that a warm reset keeps (R11): pilot registers, RSTCAUSE, the pad latch, AUTHCNT, CAN_FRESH, the
wear and calibration counts, and what the key area holds of SEC. -/
def keptKey (k : Nat) : Bool :=
  let a := k / 32
  (0x40000100 ≤ a && a ≤ 0x40000117) || k == Reg.PWC_RSTCAUSE_CAUSE.key || k == Reg.PWC_PADREL_LATCHED.key ||
    k == Reg.HIF_CAN_FRESH_LAST.key || (List.range 5).any (fun c => k == (Reg.HIF_MB_AUTHCNT_COUNT c).key) ||
    k == Reg.SEC_LC_CODE.key || k == Reg.SEC_BOOT_PREF.key || k == Reg.SEC_SVN_BIND.key ||
    k == Reg.SEC_SVN_FW.key || k == Reg.COR_WEAR_LASTSEC.key || k == Reg.SNS_CALTOTAL_COUNT.key ||
    k == Reg.SNS_CALLAST_SEC.key ||
    (List.range 9).any (fun n => k == (Reg.SNS_CH_CALCNT_COUNT n).key || k == (Reg.SNS_CH_CALSEC_SEC n).key)

/-- The main domain at its reset values: registers that are not kept, RAMs wiped (R456), eMRAM, pilot, tiles
and what has left on the wires as they were. -/
def resetMain (d : DevState) (s : State) : State :=
  setTmxFull { State.reset with
    part := s.part, pending := s.pending, now := s.now, freeCnt := s.freeCnt, tx := s.tx,
    regs := s.regs.filter (fun e => keptKey e.1)
    mem := s.mem.filter (fun c => 0x30000000 ≤ c.1 && c.1 < 0x31000000)
    eccBad := s.eccBad.filter (fun w => 0x30000000 ≤ w)
    dev := { Dev.cold with state := d }
    pilot := s.pilot, tiles := s.tiles, far := s.far
    links := { Links.cold with canRes := s.links.canRes }
    mbx := { Mbx.cold with authRes := s.mbx.authRes }
    sec := { Sec.cold with minFw := s.sec.minFw, minBind := s.sec.minBind, marker := s.sec.marker } }

/-- The device falls to PILOT with the main domain unpowered: the pilot keeps FAULT_N as it stood (R427) and
drops PMIC_EN; RSTCAUSE takes a code unless the fall is a sleep entry. -/
def fallToPilot (cause : Option Nat) (s : State) : State :=
  let leaves := rasterState s.dev.state
  let s := { s with pilot := { s.pilot with
      faultHold := if mainOn s.dev.state then faultPin s else s.pilot.faultHold
      pmicEn := false, pgCore := false, refOk := false, wayUp := .idle, attempt := 0
      fbTimer := s.pilot.fbTimer || (leaves && s.pilot.lightReq)
      recovOn := false } }
  let s := resetMain .pilot s
  let s := match cause with
    | some c => wr Reg.PWC_RSTCAUSE_CAUSE c s
    | none => s
  let on := fbOn s
  s |> when (on != 0) (wr Reg.PWC_P_FB_ON (if s.pilot.sFallback then on else on &&& 1)) |> setFaultN

end Sys2Proof.Machine
end

