-- ==== Sys2Proof/Machine/Cores.lean ====
section
/-! DEFINITION. Stoker cores and interrupt controller (`15_stoker_cores_and_interrupts.md`): the choice and
delivery of interrupts, handlers, sleep and wake, stranded sources, watchdogs, and the S1 image. Targets are
0 S0 and 1 S1. -/

namespace Sys2Proof.Machine

/-- The core pair of a target. -/
def coreOf (s : State) (t : Nat) : Core := if t = 0 then s.core0 else s.core1

/-- Sets the core pair of a target. -/
def setCore (t : Nat) (c : Core) (s : State) : State :=
  if t = 0 then { s with core0 := c } else { s with core1 := c }

/-- Sleep state of a target: 0 running, 1 clock-gated, 2 power-gated, 3 held in reset. -/
def sleepSt (s : State) (t : Nat) : Nat := rd s (Reg.ITC_T_SLEEP_ST t)

/-- mstatus.MIE. -/
def mie (c : Core) : Bool := bit c.mstatus 3

/-! ### The S1 image (R435) -/

/-- S1 is put back into reset; its watchdog ends with the partition's reset (R436). -/
def s1Reset (s : State) : State :=
  setCore 1 { Core.cold with barred := s.core1.barred } s
    |> wr (Reg.ITC_T_CTRL_RUN 1) 0 |> wr (Reg.ITC_T_SLEEP_ST 1) 3 |> wr (Reg.ITC_T_WDOG_EN 1) 0
    |> wr (Reg.ITC_T_ACTIVE_NACT 1) 0 |> wr (Reg.ITC_T_ACTIVE_FACT 1) 0

/-- S0 copies and checks the S1 image and releases S1 at ENTRY; an image that fails leaves S1 in reset and
raises WATCHDOG from STK1 with detail 0xFFFF. -/
def s1Start (s : State) : State :=
  let hdr := ldBytes s 0x30C00000 16
  let len := leAt hdr 4 4
  let entry := leAt hdr 8 4
  if leAt hdr 0 4 != 0x4D4B5331 || s.core1.barred then s
  else
    let body := ldBytes s 0x30C00010 len
    if 4 ≤ len && len ≤ 1048576 && (0x10100000 ≤ entry && entry ≤ 0x101FFFFF) &&
        crc32 body == leAt hdr 12 4 then
      s |> stBytes 0x10100000 body
        |> setCore 1 { Core.cold with pc := entry }
        |> wr (Reg.ITC_T_CTRL_RUN 1) 1 |> wr (Reg.ITC_T_SLEEP_ST 1) 0
    else raise 0x192 0xFFFF s

/-- S1 stays in reset until the next BOOT (R422). -/
def s1Bar (s : State) : State := s1Reset { s with core1 := { s.core1 with barred := true } }

/-- S1_RUN_WRITE (R435): only S0 writes RUN. -/
def doS1RunWrite (who : Master) (run : Bool) (s : State) : State :=
  if who != .s0 || !mainOn s.dev.state then s
  else if run then (if rdb s (Reg.ITC_T_CTRL_RUN 1) then s else s1Start s)
  else s1Reset s

/-! ### Choice and delivery (R441 to R443) -/

/-- The pending bit of a source. -/
def irqPending (s : State) (src : Nat) : Bool := bit (rd s (Reg.ITC_PEND_MAP (src / 32))) (src % 32)

/-- The enable bit of a source. -/
def irqEnabled (s : State) (src : Nat) : Bool := bit (rd s (Reg.ITC_EN_MAP (src / 32))) (src % 32)

/-- The target of a source. -/
def irqTarget (s : State) (src : Nat) : Nat := rd s (Reg.ITC_SRC_TARGET src)

/-- The source is of the fast class. -/
def irqFast (s : State) (src : Nat) : Bool := rdb s (Reg.ITC_SRC_CLASS src)

/-- Pending and enabled sources that name a target, lowest number first. -/
def irqReady (s : State) (t : Nat) : List Nat :=
  (List.range 256).filter (fun k => irqPending s k && irqEnabled s k && irqTarget s k == t)

/-- A fast source can be delivered to the target. -/
def fastOpen (s : State) (t : Nat) : Bool :=
  rdb s (Reg.ITC_T_CTRL_FIE t) && !rdb s (Reg.ITC_T_ACTIVE_FACT t)

/-- A normal source can be delivered to the target. -/
def normalOpen (s : State) (t : Nat) : Bool :=
  mie (coreOf s t) && !rdb s (Reg.ITC_T_ACTIVE_FACT t) && !rdb s (Reg.ITC_T_ACTIVE_NACT t)

/-- The source that ITC delivers to the target: fast before normal, lower number first (R442). -/
def irqBest (s : State) (t : Nat) : Option Nat :=
  let r := irqReady s t
  match (if fastOpen s t then r.find? (irqFast s) else none) with
  | some k => some k
  | none => if normalOpen s t then r.find? (fun k => !irqFast s k) else none

/-- Clears the pending bit of a source. -/
def clearPending (src : Nat) (s : State) : State :=
  wr (Reg.ITC_PEND_MAP (src / 32)) (clearBit (rd s (Reg.ITC_PEND_MAP (src / 32))) (src % 32)) s

/-- Exchanges x1 to x15 with the fast bank (R443). -/
def swapBank (c : Core) : Core :=
  let xs := (List.range 15).foldl (fun m i => SMap.put m (i + 1) (SMap.getD c.bank (i + 1) 0)) c.x
  let bs := (List.range 15).foldl (fun m i => SMap.put m (i + 1) (SMap.getD c.x (i + 1) 0)) c.bank
  { c with x := xs, bank := bs }

/-- The core fetches the vector of a source (R443). -/
def takeVector (t src : Nat) (s : State) : State :=
  let c := coreOf s t
  let vec := rd s (Reg.ITC_T_VBASE_BASE t) * 4096 + 16 * src
  let s := clearPending src s
  if irqFast s src then
    let c' := swapBank c
    s |> setCore t { c' with pc := vec, bank := SMap.put c'.bank 0 c.pc }
      |> wr (Reg.ITC_T_ACTIVE_FACT t) 1 |> wr (Reg.ITC_T_ACTIVE_FSRC t) src
  else
    let st := putBit (clearBit c.mstatus 3) 7 (mie c)
    s |> setCore t { c with pc := vec, mepc := c.pc, mcause := 0x80000000 + src, mstatus := st }
      |> wr (Reg.ITC_T_ACTIVE_NACT t) 1 |> wr (Reg.ITC_T_ACTIVE_NSRC t) src

/-- IRQ_ACCEPT (R443, R446): a choice that still stands after its source was cleared is delivered once and
recorded in LATE_DELIVER. -/
def doIrqAccept (t : Nat) (s : State) : State :=
  if 1 < t || sleepSt s t != 0 || !mainOn s.dev.state then s else
    match (coreOf s t).choice with
    | some src =>
      setCore t { coreOf s t with choice := none } s
        |> satInc Reg.ITC_LATE_DELIVER_COUNT 1 |> wr Reg.ITC_LATE_DELIVER_TGT t
        |> wr Reg.ITC_LATE_DELIVER_SOURCE src |> takeVector t src
    | none =>
      match irqBest s t with
      | some src => takeVector t src s
      | none => s

/-- MRET (R443, R444): ends the normal handler. -/
def doMret (t : Nat) (s : State) : State :=
  if t ≤ 1 && rdb s (Reg.ITC_T_ACTIVE_NACT t) && !rdb s (Reg.ITC_T_ACTIVE_FACT t) then
    let c := coreOf s t
    let st := setBit (putBit c.mstatus 3 (bit c.mstatus 7)) 7
    s |> setCore t { c with pc := c.mepc, mstatus := st } |> wr (Reg.ITC_T_ACTIVE_NACT t) 0
  else s

/-- FRET (R443): swaps the registers back and returns to the saved PC. -/
def doFret (t : Nat) (s : State) : State :=
  if t ≤ 1 && rdb s (Reg.ITC_T_ACTIVE_FACT t) then
    let c := coreOf s t
    s |> setCore t { swapBank c with pc := SMap.getD c.bank 0 0 } |> wr (Reg.ITC_T_ACTIVE_FACT t) 0
  else s

/-! ### Writes of pending bits, enables and targets (R445 to R447) -/

/-- The bits of word `w` that a master may write: S1 only those of sources that POLICY.SRC grants. -/
def irqMask (s : State) (who : Master) (w v : Nat) : Nat :=
  (List.range 32).foldl (fun m k =>
    let src := 32 * w + k
    if bit v k && irqKnown src && (who == .s0 || (who == .s1 && s1Source s src)) then m + 2 ^ k else m) 0

/-- The master reaches ITC for writing: S1 needs the block's right (R18, R452). -/
def itcWritable (s : State) (who : Master) : Bool :=
  match who with | .s0 => true | .s1 => s1Right s 2 == 2 | _ => false

/-- S1 without the right gets a bus error and ACCESS_POLICY (R18). -/
def itcDenied (who : Master) (off : Nat) (s : State) : State :=
  if who == .s1 then raise 0x001 off s else s

/-- A source is about to lose its enable or pending bit: when it is the choice that stands for its target,
whether the write retires within the 4 cycles of R446 is open, and within them the choice stands. -/
def lateChoice (src : Nat) (s : State) : State :=
  let t := irqTarget s src
  if irqBest s t == some src && sleepSt s t == 0 then
    let (r, s) := freeBelow 2 s
    if r = 1 then setCore t { coreOf s t with choice := some src } s else s
  else s

/-- SETP_WRITE (R445). -/
def doSetpWrite (who : Master) (w : Nat) (v : Word) (s : State) : State :=
  if 7 < w || !mainOn s.dev.state then s
  else if itcWritable s who then
    let m := irqMask s who w v.toNat
    forEach ((List.range 32).filter (bit m)) (fun k => fire (32 * w + k)) s
  else itcDenied who (0x220 + 4 * w) s

/-- CLRP_WRITE (R445, R446). -/
def doClrpWrite (who : Master) (w : Nat) (v : Word) (s : State) : State :=
  if 7 < w || !mainOn s.dev.state then s
  else if itcWritable s who then
    let m := irqMask s who w v.toNat
    forEach ((List.range 32).filter (bit m)) (fun k s => s |> lateChoice (32 * w + k) |> clearPending (32 * w + k)) s
  else itcDenied who (0x240 + 4 * w) s

/-- A write of ITC.ENw (R441, R446). -/
def enWrite (who : Master) (w v : Nat) (s : State) : State :=
  let may := irqMask s who w 0xFFFFFFFF
  let old := rd s (Reg.ITC_EN_MAP w)
  let s := forEach ((List.range 32).filter (fun k => bit may k && bit old k && !bit v k))
    (fun k => lateChoice (32 * w + k)) s
  wr (Reg.ITC_EN_MAP w) ((old &&& (0xFFFFFFFF - may)) + (v &&& may)) s

/-- SRC_TARGET_WRITE (R447). -/
def doSrcTargetWrite (who : Master) (src : Nat) (v : Word) (s : State) : State :=
  if 255 < src || !mainOn s.dev.state then s
  else if !itcWritable s who then itcDenied who (0x400 + 4 * src) s
  else if !irqKnown src || (who == .s1 && !s1Source s src) then s
  else
    let old := irqTarget s src
    let tgt := v.toNat % 2
    let s := wr (Reg.ITC_SRC_CLASS src) (v.toNat / 2 % 2) s
    if tgt = 1 && !s1Source s src then wr Reg.ITC_STATUS_TGTREJ 1 s
    else
      let c := coreOf s old
      s |> when (tgt != old && c.choice == some src) (setCore old { c with choice := none })
        |> wr (Reg.ITC_SRC_TARGET src) tgt

/-! ### Sleep and wake (R448 to R451, R454) -/

/-- The target may be power-gated: solo only, S0 only in STANDBY. -/
def mayPowerGate (s : State) (t : Nat) : Bool := !pairOp s && (t == 1 || s.dev.state == .standby)

/-- WFI (R448). -/
def doWfi (t : Nat) (s : State) : State :=
  if t ≤ 1 && sleepSt s t == 0 && mainOn s.dev.state then
    let c := coreOf s t
    let gate := rd s (Reg.ITC_T_SLEEP_MODE t) == 1 && mayPowerGate s t
    s |> setCore t { c with pc := (c.pc + 4) % 2 ^ 32 } |> wr (Reg.ITC_T_SLEEP_ST t) (if gate then 2 else 1)
  else s

/-- The source is on the pilot watch list. -/
def watched (s : State) (src : Nat) : Bool :=
  (List.range 16).any (fun n => rdb s (Reg.ITC_WATCH_EN n) && rd s (Reg.ITC_WATCH_SOURCE n) == src)

/-- A sleeping target wakes for a source (R449, R451). -/
def wakesFor (s : State) (t src : Nat) : Bool :=
  irqPending s src && irqEnabled s src && irqTarget s src == t &&
    (if pairOp s then sleepSt s t == 1 || sleepSt s t == 2
     else if sleepSt s t == 1 then
       (if irqFast s src then fastOpen s t else normalOpen s t)
     else sleepSt s t == 2 && watched s src)

/-- The core resumes: after its WFI, or from power gating at WAKEVEC with registers, CSRs and bank zero. -/
def resumeCore (t : Nat) (s : State) : State :=
  if sleepSt s t = 2 then
    let c := coreOf s t
    s |> setCore t { Core.cold with pc := rd s (Reg.ITC_T_WAKEVEC_ADDR t) * 4, wdogAt := c.wdogAt, barred := c.barred }
      |> wr (Reg.ITC_T_SLEEP_ST t) 0 |> wr (Reg.ITC_T_ACTIVE_NACT t) 0 |> wr (Reg.ITC_T_ACTIVE_FACT t) 0
  else if sleepSt s t = 1 then wr (Reg.ITC_T_SLEEP_ST t) 0 s else s

/-- CORE_WAKE (R449). -/
def doCoreWake (t src : Nat) (s : State) : State :=
  if t ≤ 1 && src ≤ 255 && wakesFor s t src then resumeCore t s else s

/-- A pending enabled source is stranded: its target sleeps and does not wake for it, or it names S1 in reset;
never in pair operation (R450, R451). -/
def stranded (s : State) (src : Nat) : Bool :=
  let t := irqTarget s src
  !pairOp s && irqPending s src && irqEnabled s src &&
    ((sleepSt s t != 0 && sleepSt s t != 3 && !wakesFor s t src) || (t == 1 && sleepSt s t == 3))

/-- STRANDED_TIMER (R450). -/
def doStrandedTimer (src : Nat) (s : State) : State :=
  if src ≤ 255 && mainOn s.dev.state && stranded s src then
    let t := irqTarget s src
    let permitted := if t = 0 then s1Source s src && sleepSt s 1 != 3 else true
    let s := if permitted then s |> wr (Reg.ITC_SRC_TARGET src) (1 - t) |> resumeCore (1 - t)
      else resumeCore t s
    s |> raise 0x030 src |> wr Reg.ITC_STATUS_STRANDED 1
  else s

/-! ### Watchdogs and lockstep (R432, R436) -/

/-- LOCKSTEP_MISMATCH (R432). -/
def doLockstep (part : Nat) (s : State) : State :=
  if mainOn s.dev.state && part ≤ 1 && sleepSt s part != 3 then
    raise (if part = 0 then 0x180 else 0x190) 0 s
  else s

/-- WATCHDOG_EXPIRY (R436). -/
def doWatchdogExpiry (t : Nat) (s : State) : State :=
  if mainOn s.dev.state && t ≤ 1 && rdb s (Reg.ITC_T_WDOG_EN t) then
    raise (if t = 0 then 0x182 else 0x192) 0 s
  else s

/-- WDKICK_WRITE (R436): 0xA5 restarts the count. -/
def doWdkick (t v at' : Nat) (s : State) : State :=
  if mainOn s.dev.state && t ≤ 1 && v % 256 = 0xA5 && rdb s (Reg.ITC_T_WDOG_EN t) then
    atTime at' s |> setCore t { coreOf s t with wdogAt := some (max s.now at') }
  else s

/-- WDOG_EN_WRITE (R436): starts the watchdog until the partition's next reset; MS holds while it runs. What MS
takes for a value outside 1 to 10,000 is open (log entry 5). -/
def doWdogEnWrite (t : Nat) (v : Word) (at' : Nat) (s : State) : State :=
  if mainOn s.dev.state && t ≤ 1 then
    if rdb s (Reg.ITC_T_WDOG_EN t) then s
    else
      let ms := v.toNat % 65536
      let (ms, s) := if 1 ≤ ms && ms ≤ 10000 then (ms, s) else freeBelow 65536 s
      let s := s |> atTime at' |> wr (Reg.ITC_T_WDOG_MS t) ms
      if bit v.toNat 31 then
        s |> wr (Reg.ITC_T_WDOG_EN t) 1 |> setCore t { coreOf s t with wdogAt := some s.now }
      else s
  else s

/-! ### The meanings of the rows -/

/-- S1_RUN_WRITE (R435). -/
def execS1RunWrite (who : Master) (run : Bool) (s : State) : Out :=
  .next (doS1RunWrite who run s)

/-- IRQ_ACCEPT (R443). -/
def execIrqAccept (tgt : Nat) (s : State) : Out :=
  .next (doIrqAccept tgt s)

/-- MRET (R444). -/
def execMret (tgt : Nat) (s : State) : Out :=
  .next (doMret tgt s)

/-- FRET (R443). -/
def execFret (tgt : Nat) (s : State) : Out :=
  .next (doFret tgt s)

/-- SETP_WRITE (R445). -/
def execSetpWrite (who : Master) (w : Nat) (v : Word) (s : State) : Out :=
  .next (doSetpWrite who w v s)

/-- CLRP_WRITE (R445). -/
def execClrpWrite (who : Master) (w : Nat) (v : Word) (s : State) : Out :=
  .next (doClrpWrite who w v s)

/-- SRC_TARGET_WRITE (R447). -/
def execSrcTargetWrite (who : Master) (src : Nat) (v : Word) (s : State) : Out :=
  .next (doSrcTargetWrite who src v s)

/-- WFI (R448). -/
def execWfi (tgt : Nat) (s : State) : Out :=
  .next (doWfi tgt s)

/-- CORE_WAKE (R449). -/
def execCoreWake (tgt src : Nat) (s : State) : Out :=
  .next (doCoreWake tgt src s)

/-- STRANDED_TIMER (R450). -/
def execStrandedTimer (src : Nat) (s : State) : Out :=
  .next (doStrandedTimer src s)

/-- LOCKSTEP_MISMATCH (R432). -/
def execLockstepMismatch (part : Nat) (s : State) : Out :=
  .next (doLockstep part s)

/-- WATCHDOG_EXPIRY (R436). -/
def execWatchdogExpiry (tgt : Nat) (s : State) : Out :=
  .next (doWatchdogExpiry tgt s)

/-- WDKICK_WRITE (R436). -/
def execWdkickWrite (tgt v t : Nat) (s : State) : Out :=
  .next (doWdkick tgt v t s)

/-- WDOG_EN_WRITE (R436). -/
def execWdogEnWrite (tgt : Nat) (v : Word) (t : Nat) (s : State) : Out :=
  .next (doWdogEnWrite tgt v t s)

end Sys2Proof.Machine
end

