-- ==== Sys2Proof/Machine/Correct.lean ====
section
/-! DEFINITION. Per-pixel correction (`05_pixel_correction.md`): the calibration word, the correction chain,
neighbour fill, dither, wear sampling, the aging step and the update queue. -/

namespace Sys2Proof.Machine

/-! ### The calibration word (R156, R157) -/

/-- Index of a pixel: lane, tile line, pixel. -/
def pixIdx (lane line p : Nat) : Nat := lane * 16384 + line * 128 + p

/-- Stoker address of the working copy of word `i`. -/
def calAddr (i : Nat) : Nat := 0x21800000 + 4 * i

/-- The working-copy calibration word `i`. -/
def calWord (s : State) (i : Nat) : Nat := ld32 s (calAddr i)

/-- Word `i` reads uncorrectable. -/
def calBad (s : State) (i : Nat) : Bool := eccBadAt s (calAddr i)

/-- GAIN of a word. -/
def calGain (w : Nat) : Nat := bits w 20 12
/-- BIN of a word. -/
def calBin (w : Nat) : Nat := bits w 16 4
/-- SEL of a word. -/
def calSel (w : Nat) : Nat := bits w 14 2
/-- AGE of a word. -/
def calAge (w : Nat) : Nat := bits w 8 6
/-- TCLASS of a word. -/
def calTclass (w : Nat) : Nat := bits w 4 4

/-- Pixels of the part. -/
def pixelCount (s : State) : Nat := laneCount s * 16384

/-- Pixels with SEL = 0b11 in the working copy (COR.FILLSTAT.DEAD). -/
def deadCount (s : State) : Nat :=
  (s.mem.filter (fun c => 0x21800000 ≤ c.1 && c.1 < 0x21C00000 && c.1 % 4 == 1 && 192 ≤ c.2.toNat)).length

/-- COR.FILLSTAT.DEAD follows the working copy. -/
def setDead (s : State) : State := wr Reg.COR_FILLSTAT_DEAD (min 65535 (deadCount s)) s

/-! ### The table windows (R186) -/

/-- A used location of the table windows, by offset from the block's base. -/
def corUsed (o : Nat) : Bool :=
  if 0x1000 ≤ o && o < 0x1C00 then decide ((o - 0x1000) % 0x40 < 34)
  else (0x1C00 ≤ o && o < 0x1E00) || (0x2000 ≤ o && o < 0x3020)

/-- Halfword of a table window. -/
def corTab (s : State) (o : Nat) : Nat := ld16 s (0x40080000 + o)

/-- Loads the windows from offset 0x1000 on; unused locations take nothing. -/
def storeCorTables (b : Bytes) (s : State) : State :=
  let used := (b.zipIdx).map (fun e => if corUsed (0x1000 + e.2) then e.1 else 0)
  stBytes 0x40081000 used s

/-! ### Factors (R164 to R166) -/

/-- Gbin: the 17-point curve of selection and class at `v`. -/
def gbin (s : State) (sel cls v : Nat) : Nat :=
  let p := fun j => corTab s (0x1000 + 0x40 * (16 * sel + cls) + 2 * j)
  if 0x100000 ≤ v then p 16
  else
    let j := v / 65536
    let f : Int := (v % 65536 : Nat)
    ((p j : Int) + (((p (j + 1) : Int) - p j) * f + 0x8000) / 65536).toNat

/-- Points of a temperature curve: (T, factor). -/
def tempCurve (s : State) (o : Nat) : List (Int × Nat) :=
  (List.range 8).map (fun k => (sx 16 (corTab s (o + 4 * k)), corTab s (o + 4 * k + 2)))

/-- Temperatures of a curve increase strictly. -/
def tempsRise (c : List (Int × Nat)) : Bool :=
  (List.range 7).all (fun k => decide ((c.getD k (0, 0)).1 < (c.getD (k + 1) (0, 0)).1))

/-- Linear interpolation on a curve with the end values held, rounded half up (R162). -/
def lerpCurve (c : List (Int × Nat)) (t : Int) : Nat :=
  match c with
  | [] => 0
  | [a] => a.2
  | a :: b :: rest =>
    if t ≤ a.1 then a.2
    else if t < b.1 then ((a.2 : Int) + roundDivI (((b.2 : Int) - a.2) * (t - a.1)) (b.1 - a.1).toNat).toNat
    else lerpCurve (b :: rest) t

/-- Temperature that the content in render takes for a lane (R117): none where the tile has reported no
valid temperature for 16 frames (R165). -/
def tileTemp (s : State) (lane : Nat) : Option Int :=
  match SMap.find s.gte.dt lane with
  | some v => if v / 65536 < 16 then some (sx 16 v) else none
  | none => none

/-- Gtherm (R165). -/
def gtherm (s : State) (cls lane : Nat) : Nat :=
  let c := tempCurve s (0x1C00 + 0x20 * cls)
  if !tempsRise c then 0x4000
  else match tileTemp s lane with
    | some t => lerpCurve c t
    | none => c.foldl (fun m q => min m q.2) 0xFFFF

/-- Gage (R166). -/
def gage (s : State) (cls k : Nat) : Nat := corTab s (0x2000 + 0x80 * cls + 2 * k)

/-! ### The correction chain (R162, R163, R174) -/

/-- The total factor k of a pixel with target `v` (R162). -/
def corFactor (s : State) (w lane v : Nat) : Nat :=
  let gb := gbin s (calSel w) (calBin w) v
  let gt := gtherm s (calTclass w) lane
  let ga := gage s (calBin w) (calAge w)
  let k := calGain w * gb / 2 ^ 11
  let k := min 0xFFFFF (k * gt / 2 ^ 14)
  let k := min 0xFFFFF (k * ga / 2 ^ 14)
  min k (rd s Reg.COR_LIMIT_KMAX)

/-- The dither matrix B of R174. -/
def ditherB (line p : Nat) : Nat :=
  ([0, 8, 2, 10, 12, 4, 14, 6, 3, 11, 1, 9, 15, 7, 13, 5] : List Nat).getD (line % 4 * 4 + p % 4) 0

/-- The 16-bit code of c20 (R174). -/
def dither (c20 line p fcnt : Nat) : Nat :=
  min 0xFFFF ((c20 + (ditherB line p + 7 * (fcnt % 16)) % 16) / 16)

/-! ### Neighbour fill (R171 to R173) -/

/-- v5 of a pixel of the content in render. -/
def v5Of (s : State) (i : Nat) : Nat := SMap.getD s.cor.v5 i 0

/-- A pixel is dead for this content: SEL = 0b11, or its word is uncorrectable. -/
def pixDead (s : State) (i : Nat) : Bool := calBad s i || calSel (calWord s i) == 3

/-- The neighbours of pixel (line, p) in its tile. -/
def neighbours (line p : Nat) : List (Nat × Nat) :=
  (if 0 < p then [(line, p - 1)] else []) ++ (if p < 127 then [(line, p + 1)] else []) ++
    (if 0 < line then [(line - 1, p)] else []) ++ (if line < 127 then [(line + 1, p)] else [])

/-- A pixel may take a share. -/
def isDonor (s : State) (i : Nat) : Bool :=
  !pixDead s i && !bit (calWord s i) 0 && SMap.getD s.gte.mask i 0x1000 == 0x1000

/-- The share that a dead pixel offers each neighbour. -/
def fillShare (s : State) (i : Nat) : Nat := v5Of s i * rd s Reg.COR_FILL_GAIN / 2 ^ 15 / 4

/-- The fill that a pixel takes. -/
def pixFill (s : State) (lane line p : Nat) : Nat :=
  if rdb s Reg.COR_CTRL_FILL_EN && isDonor s (pixIdx lane line p) then
    (neighbours line p).foldl (fun a n =>
      let j := pixIdx lane n.1 n.2
      if pixDead s j then a + fillShare s j else a) 0
  else 0

/-- A dead pixel with vd > 0 from which no neighbour took a share. -/
def pixUnfilled (s : State) (lane line p : Nat) : Bool :=
  let i := pixIdx lane line p
  pixDead s i && 0 < v5Of s i &&
    !(rdb s Reg.COR_CTRL_FILL_EN && (neighbours line p).any (fun n => isDonor s (pixIdx lane n.1 n.2)))

/-- The code of a pixel after the dither (R162, R172, R174). -/
def corCode (s : State) (lane line p : Nat) : Nat :=
  let i := pixIdx lane line p
  if pixDead s i then 0
  else
    let w := calWord s i
    let fill := pixFill s lane line p
    let v := if 0 < fill then min (SMap.getD s.cor.env i 0xFFFFF) (v5Of s i + fill) else v5Of s i
    dither (min 0xFFFFF (v * corFactor s w lane v / 2 ^ 14)) line p s.gte.seq

/-! ### Wear (R175) -/

/-- The wear weight of a lane (R175), each curve point limited to 0x400. -/
def wearWeight (s : State) (lane : Nat) : Nat :=
  let c := (tempCurve s 0x3000).map (fun q => (q.1, min 0x400 q.2))
  match tileTemp s lane with
  | some t => lerpCurve c t
  | none => c.foldl (fun m q => max m q.2) 0

/-- The accumulator of a pixel; an uncorrectable word reads 0 (R184). -/
def wearA (s : State) (i : Nat) : Nat := if s.cor.badA.contains i then 0 else SMap.getD s.cor.wearA i 0

/-- Sets an accumulator. -/
def setWearA (i v : Nat) (s : State) : State :=
  { s with cor := { s.cor with
      wearA := if v = 0 then SMap.del s.cor.wearA i else SMap.put s.cor.wearA i v
      badA := s.cor.badA.filter (· != i) } }

/-- One wear sample of a pixel; the LFSR value r is free (R175, log entry 5). -/
def wearSample (lane i code : Nat) (s : State) : State :=
  let (r, s) := freeBelow (2 ^ 20) s
  let a := wearA s i + (code * wearWeight s lane + r) / 2 ^ 20
  s |> setWearA i (min 0xFFFF a) |> when (0xFFFF ≤ a) (satInc Reg.COR_WEARCNT_SAT 1)

/-! ### One tile line (R162, R173, R184) -/

/-- What the read of a word that is uncorrectable leaves (R184). -/
def calEccSeen (i : Nat) (s : State) : State :=
  if calBad s i then
    s |> wr Reg.COR_STATUS_ECCU 1 |> wr Reg.COR_ECCADDR_IDX i |> satInc Reg.COR_ECCCNT_UNCORR 1
      |> raise 0x090 (calAddr i)
  else s

/-- A thermal curve whose temperatures do not increase is reported once per content frame (R165). -/
def thermSeen (i : Nat) (s : State) : State :=
  if !s.cor.tblUp && !pixDead s i && !tempsRise (tempCurve s (0x1C00 + 0x20 * calTclass (calWord s i))) then
    raise 0x092 0 { s with cor := { s.cor with tblUp := true } }
  else s

/-- COR emits pixel (line, p) of a lane: its code, with what the reads leave. -/
def corPixel (lane line p : Nat) (s : State) : Nat × State :=
  let i := pixIdx lane line p
  let code := corCode s lane line p
  let s := s |> calEccSeen i |> thermSeen i
    |> when (pixUnfilled s lane line p) (fun s => { s with cor := { s.cor with unfilled := s.cor.unfilled + 1 } })
    |> when (s.cor.wearNow && rdb s Reg.COR_CTRL_WEAR_EN) (wearSample lane i code)
  (code, s)

/-! ### The aging step (R176, R177) -/

/-- Aging thresholds of a class, THR(c, 0) = 0 first. -/
def thrList (thr : Nat → Nat) : List Nat := 0 :: (List.range 63).map (fun k => thr (k + 1))

/-- The largest k with THR(k) ≤ W, up to the first decrease of the table. -/
def ageStepGo (l : List Nat) (prev k best w : Nat) : Nat :=
  match l with
  | [] => best
  | t :: rest => if t < prev then best else ageStepGo rest t (k + 1) (if t ≤ w then k else best) w

/-- The aging step of a wear value. -/
def ageStep (thr : Nat → Nat) (w : Nat) : Nat := ageStepGo (thrList thr) 0 0 0 w

/-- THR(c, k) of COR's window. -/
def corThr (s : State) (cls k : Nat) : Nat := if k = 0 then 0 else corTab s (0x2800 + 0x80 * cls + 2 * k)

/-- The threshold table of some class decreases. -/
def thrDecreases (s : State) : Bool :=
  (List.range 16).any (fun c => (List.range 63).any (fun k => decide (corThr s c (k + 1) < corThr s c k)))

/-- A word with another AGE. -/
def withAge (w a : Nat) : Nat := w - calAge w * 256 + a * 256

/-! ### The update queue (R179 to R181) -/

/-- LEVEL and UPD_PEND follow the queue. -/
def setUpdLevel (s : State) : State :=
  s |> wr Reg.COR_UPDSTAT_LEVEL s.cor.queue.length |> wr Reg.COR_STATUS_UPD_PEND (b2n (!s.cor.queue.isEmpty))

/-- TPR gives a tile in service the new select of a pixel (R170, R224). -/
def pushSel (i sel : Nat) (s : State) : State :=
  let lane := i / 16384
  if inService s lane then
    pushSet lane 0x04 (leBytes 4 s.gte.seq ++ leBytes 1 (i / 128 % 128) ++ leBytes 1 (i % 128) ++
      leBytes 1 1 ++ leBytes 1 0 ++ leBytes 1 sel) s
  else s

/-- One entry applies (R179, R184, R553): an entry for half a word whose 64-bit word is uncorrectable stores
nothing; a REPAIR entry writes the whole 64-bit word from the eMRAM image. -/
def applyUpd (u : Upd) (s : State) : State :=
  let before := calSel (calWord s u.idx)
  let s :=
    if u.repair then
      psWrite (calAddr u.idx / 8 * 8) (ldBytes s (0x30400000 + 4 * u.idx / 8 * 8) 8) s
    else psWrite (calAddr u.idx) (leBytes 2 u.data) s
  let after := calSel (calWord s u.idx)
  s |> wrapInc Reg.COR_UPDSTAT_APPLIED 1 |> when (before != after) (pushSel u.idx after)

/-- An entry is pushed: dropped by a full queue, applied at once while the raster is stopped. -/
def pushUpd (u : Upd) (s : State) : State :=
  if pixelCount s ≤ u.idx then s
  else if !rasterOn s then s |> applyUpd u |> setDead
  else if 256 ≤ s.cor.queue.length then s |> wr Reg.COR_STATUS_UPD_OVF 1 |> raise 0x093 0
  else setUpdLevel { s with cor := { s.cor with queue := s.cor.queue ++ [u] } }

/-- The active of a pair holds its entries for a UPD_AT at least two frames ahead and sends them as UPDQ (R521). -/
def pairUpd (u : Upd) (s : State) : State :=
  if !(pairOp s && role s == 1 && rasterOn s) then s
  else
    let soon := (rd s Reg.RAS_FCNT_FCNT + 2) % 2 ^ 32
    let ahead := (rd s Reg.COR_UPD_AT_FCNT + 2 ^ 32 - soon) % 2 ^ 32 < 2 ^ 31
    s |> when (!(rdb s Reg.COR_UPD_CTRL_AT_EN && ahead)) (fun s =>
          s |> wr Reg.COR_UPD_AT_FCNT soon |> wr Reg.COR_UPD_CTRL_AT_EN 1)
      |> (fun s => sendPtn 8 (leBytes 4 (rd s Reg.COR_UPD_AT_FCNT) ++ leBytes 2 1 ++ zeroBytes 2 ++
          leBytes 4 (u.idx + 2 ^ 20 * b2n u.repair) ++ leBytes 2 u.data) s)

/-- An entry of this device's own: the standby of a pair queues none (R521). -/
def ownUpd (u : Upd) (s : State) : State := if isStandby s then s else s |> pairUpd u |> pushUpd u

/-- The word of a pixel as the entries that wait in the queue will leave it (R180). -/
def comingWord (s : State) (i : Nat) : Nat :=
  (s.cor.queue.filter (fun u => u.idx == i)).foldl (fun w u =>
    if u.repair then ld32 s (0x30400000 + 4 * i) else w - w % 65536 + u.data % 65536) (calWord s i)

/-- UPDATE_QUEUE_APPLY (R180): the queue at the start of the content whose SEQ is `gte.seq`. -/
def applyQueue (s : State) : State :=
  if s.cor.missed || !rdb s Reg.COR_UPD_CTRL_AT_EN || rd s Reg.COR_UPD_AT_FCNT == s.gte.seq then
    let q := s.cor.queue
    { s with cor := { s.cor with queue := [], missed := false } } |> forEach q applyUpd |> setDead |> setUpdLevel
  else s

/-- UPD_DATA_WRITE (R179). -/
def doUpdDataWrite (data : Nat) (s : State) : State :=
  if mainOn s.dev.state then
    ownUpd ⟨rdb s Reg.COR_UPD_IDX_REPAIR, rd s Reg.COR_UPD_IDX_IDX, data % 65536⟩ s
  else s

/-- AT_EN_WRITE (R180): a start that has passed lets the entries apply at the next one. -/
def doAtEnWrite (on : Bool) (s : State) : State :=
  if !mainOn s.dev.state then s
  else
    let s := wr Reg.COR_UPD_CTRL_AT_EN (b2n on) s
    let ahead := (rd s Reg.COR_UPD_AT_FCNT + 2 ^ 32 - (s.gte.seq + 1) % 2 ^ 32) % 2 ^ 32
    if on && rasterOn s && 2 ^ 31 ≤ ahead then
      wr Reg.COR_STATUS_UPD_MISS 1 { s with cor := { s.cor with missed := true } }
    else s

/-! ### One lane of a wear pass (R176, R177) -/

/-- Stoker address of the wear value of word `i`. -/
def wearAddr (i : Nat) : Nat := 0x30800000 + 2 * i

/-- The pass over one pixel: the new wear value, with the accumulator and the queued step. A wear value that
reads uncorrectable is rewritten as THR(BIN, AGE), and its accumulator is kept. -/
def wearPixel (i : Nat) (s : State) : Nat × State :=
  let w := calWord s i
  let thr := corThr s (calBin w)
  if eccBadAt s (wearAddr i) then
    (thr (calAge w), raise 0x094 (wearAddr i) s)
  else
    let a := wearA s i
    let v := min 0xFFFF (ld16 s (wearAddr i) + a / 14400)
    let k := ageStep thr v
    (v, s |> when (a != 0) (setWearA i (a % 14400))
      |> when (!calBad s i && calAge w < k) (ownUpd ⟨false, i, withAge (comingWord s i) k % 65536⟩))

/-- The pass over `n` pixels from word `i`: the wear values in order. -/
def wearRow (i n : Nat) (s : State) : Bytes × State :=
  match n with
  | 0 => ([], s)
  | k + 1 =>
    let (v, s) := wearPixel i s
    let (rest, s) := wearRow (i + 1) k s
    (leBytes 2 v ++ rest, s)

/-- The pass over the 512 lines of a lane: the lines of the wear map that change, by eMRAM offset. -/
def wearLane (lane : Nat) (s : State) : List (Nat × Bytes) × State :=
  (List.range 512).foldl (fun (acc : List (Nat × Bytes) × State) l =>
    let i := lane * 16384 + 32 * l
    let old := ldBytes acc.2 (wearAddr i) 64
    let bad := eccBadIn acc.2 (wearAddr i) 64
    let (fresh, s) := wearRow i 32 acc.2
    (if fresh = old && !bad then acc.1 else acc.1 ++ [(0x800000 + 2 * i, fresh)], s)) ([], s)

/-! ### The meanings of the rows -/

/-- UPD_DATA_WRITE (R179). -/
def execUpdDataWrite (data : Nat) (s : State) : Out :=
  .next (doUpdDataWrite data s)

/-- AT_EN_WRITE (R180). -/
def execAtEnWrite (on : Bool) (s : State) : Out :=
  .next (doAtEnWrite on s)

end Sys2Proof.Machine
end

