-- ==== Sys2Proof/Machine/Nvm.lean ====
section
/-! DEFINITION. eMRAM bursts and the hold-up check, the wear pass, the event recorder and the pilot's shadow,
the ash dump and the check-value units (`17_mram_recorder_and_dump.md`). -/

namespace Sys2Proof.Machine

/-! ### The hold-up check (R489) -/

/-- Available energy in µJ: VHOLD in mV, C in µF, VMIN in mV. -/
def holdE (vm c vmin : Nat) : Nat :=
  if 99 * vm ≤ 100 * vmin then 0 else c * ((99 * vm) ^ 2 - (100 * vmin) ^ 2) / (2 * 10 ^ 10)

/-- Energy needed for a burst of `lines` lines. -/
def holdNeed (lines : Nat) : Nat := 100 + (1200 * lines + 999) / 1000

/-- MRC measures VHOLD: HOLDST and HOLDE take the result. -/
def holdMeasure (e : Env) (s : State) : State :=
  let av := if rd s Reg.MRC_HOLDCFG_CUF = 0 then 0
    else holdE e.vhold (rd s Reg.MRC_HOLDCFG_CUF) (rd s Reg.MRC_HOLDCFG_VMIN)
  s |> wr Reg.MRC_HOLDST_VMEAS (min 65535 e.vhold) |> wr Reg.MRC_HOLDE_VALUE av

/-- The check of a burst passes with the energy measured. -/
def holdCovers (s : State) (lines : Nat) : Bool := decide (holdNeed lines ≤ rd s Reg.MRC_HOLDE_VALUE)

/-- The check defers a burst of a requester: 0 S0, 1 EVR, 2 dump. -/
def holdDefer (who : Nat) (loud : Bool) (s : State) : State :=
  s |> wr Reg.MRC_STATUS_LAST 1 |> wr Reg.MRC_STATUS_DEFER 1 |> satInc Reg.MRC_VERCNT_HIGH 1
    |> when loud (raise 0x112 who)

/-! ### Lines (R486) -/

/-- Lines are written: their bytes, good check bits, and the line count. -/
def writeLines (parts : List (Nat × Bytes)) (s : State) : State :=
  forEach parts (fun p s =>
    let a := 0x30000000 + p.1
    { stBytes a p.2 s with eccBad := s.eccBad.filter (fun w => !(a ≤ w && w < a + p.2.length)) }
      |> wrapInc Reg.MRC_LINES_VALUE (p.2.length / 64)) s

/-- The first `n` lines of the runs of a burst. -/
def takeLines (parts : List (Nat × Bytes)) (n : Nat) : List (Nat × Bytes) :=
  match parts with
  | [] => []
  | p :: rest =>
    let k := p.2.length / 64
    if n < k then [(p.1, p.2.take (64 * n))] else p :: takeLines rest (n - k)

/-- eMRAM offset of line `n` of the runs of a burst. -/
def lineOffset (parts : List (Nat × Bytes)) (n : Nat) : Option Nat :=
  match parts with
  | [] => none
  | p :: rest =>
    let k := p.2.length / 64
    if n < k then some (p.1 + 64 * n) else lineOffset rest (n - k)

/-- A line fails its verify twice: MRAM_VERIFY and result VERIFY. -/
def verifyFailed (off : Nat) (s : State) : State :=
  s |> satInc Reg.MRC_VERCNT_LOW 2 |> wr Reg.MRC_STATUS_LAST 2 |> raise 0x111 (bits off 6 16)

/-! ### Bursts (R487, R488) -/

/-- A burst whose check passed starts. -/
def runBurst (b : Burst) (s : State) : State :=
  wr Reg.MRC_STATUS_BUSY 1 { s with mrc := { s.mrc with run := some b } }

/-- The lanes of a wear pass from the first on, with the energy measured: a lane that the check defers keeps
its accumulators, the first that it covers becomes the burst in progress (R176, R491). -/
def wearGo (lanes : List Nat) (deferred : Nat) (s : State) : State :=
  match lanes with
  | [] => { s with cor := { s.cor with pass := some ⟨[], deferred⟩ } }
  | n :: rest =>
    if holdCovers s 512 then
      let (parts, s) := wearLane n s
      runBurst ⟨s.mrc.next, 0, parts, 512, .wear n⟩
        { s with cor := { s.cor with pass := some ⟨rest, deferred⟩ }, mrc := { s.mrc with next := s.mrc.next + 1 } }
    else wearGo rest (deferred + 1) (s |> holdDefer 0 true |> satInc Reg.COR_WEARCNT_DEFER 1)

/-- The pass ends when no lane is left and none of its bursts runs. -/
def wearEnd (s : State) : State :=
  match s.cor.pass with
  | some r =>
    if r.left.isEmpty && s.mrc.run.isNone then
      { s with cor := { s.cor with pass := none } }
        |> wr Reg.COR_STATUS_WEAR_BUSY 0 |> wr Reg.COR_WEAR_LASTSEC (rd s Reg.PWC_P_OPSEC_SEC)
        |> wrapInc Reg.COR_WEARCNT_PASSES 1
        |> finishKind (fun k => k == .wearPass) 0 (rd s Reg.PWC_P_OPSEC_SEC) r.deferred
    else s
  | none => s

/-- The pass goes on with its next lane, if MRC is free. -/
def wearNext (e : Env) (s : State) : State :=
  match s.cor.pass with
  | some r =>
    if s.mrc.run.isSome || r.left.isEmpty then wearEnd s else s |> holdMeasure e |> wearGo r.left r.deferred |> wearEnd
  | none => s

/-- A wear pass starts over every enabled lane (R176, R177). -/
def wearStart (e : Env) (s : State) : State :=
  if s.cor.pass.isSome || !rdb s Reg.COR_CTRL_WEAR_EN then s
  else
    { s with cor := { s.cor with pass := some ⟨tileLanes s, 0⟩ } }
      |> wr Reg.COR_STATUS_WEAR_BUSY 1
      |> when (thrDecreases s) (raise 0x092 0)
      |> wearNext e

/-- A burst starts under its check, or is deferred with what follows for its requester (R491). -/
def startBurst (e : Env) (b : Burst) (s : State) : State :=
  let s := holdMeasure e s
  if holdCovers s b.lines then runBurst b s
  else
    let s := holdDefer b.who true s
    match b.why with
    | .wgo => wr Reg.MRC_WGO_GO 0 s
    | .cmd | .lane _ =>
      finishKind (fun k => match k with | .burst i _ _ => i == b.id | _ => false) 7
        (rd s Reg.MRC_HOLDE_VALUE) (holdNeed b.lines) s
    | .wear _ | .wipe => s

/-- A burst is requested: it starts now, or waits for the burst in progress. -/
def requestBurst (e : Env) (b : Burst) (s : State) : State :=
  if s.mrc.run.isNone then startBurst e b s
  else { s with mrc := { s.mrc with wait := s.mrc.wait ++ [b] } }

/-- The number of the next burst. -/
def burstId (s : State) : Nat := s.mrc.next

/-- The next burst number is taken. -/
def takeBurstId (s : State) : State := { s with mrc := { s.mrc with next := s.mrc.next + 1 } }

/-- The waiting bursts start in order until one runs. -/
def drainWait (e : Env) (l : List Burst) (s : State) : State :=
  match l with
  | [] => s
  | b :: rest =>
    if s.mrc.run.isSome || (b.why == .wgo && s.thm.paused.contains 4) then s
    else drainWait e rest (startBurst e b { s with mrc := { s.mrc with wait := rest } })

/-! ### Life-cycle wipes (R383, R495) -/

/-- eMRAM area of an offset (R483). -/
def areaOf (off : Nat) : Nat :=
  if off < 0x200000 then 0 else if off < 0x400000 then 1 else if off < 0x800000 then 2
  else if off < 0xA00000 then 3 else if off < 0xA80000 then 4 else if off < 0xB00000 then 5
  else if off < 0xC00000 then 6 else if off < 0xF00000 then 7 else 8

/-- The sequence anchor (R492). -/
def anchorLine (seq : Nat) (full : Bool) : Bytes :=
  let b := leBytes 4 seq ++ leBytes 1 (b2n full) ++ zeroBytes 3
  padTo 64 (b ++ leBytes 4 (crc32 b))

/-- What a wipe leaves: all ones in the recorder, the anchor as it stands; elsewhere the spec names no
pattern (log entry 10). -/
def wipeBytes (s : State) (off len : Nat) : Bytes :=
  if off = 0xAC8200 then anchorLine s.evr.seq (rdb s Reg.EVR_STATUS_FRONTFULL)
  else if areaOf off = 5 then List.replicate len 0xFF
  else (List.range len).map (fun i => Config.wipeByte (off + i))

/-- The wipes of a transition out of a life-cycle state, as (offset, bytes) of at most 64 KiB each: its key
page, the customer area, the running pages, the bad-line map and the anchor. -/
def wipeList (code : Nat) : List (Nat × Nat) :=
  [(0xF01000 + 0x1000 * code, 4096)] ++ (List.range 48).map (fun i => (0xC00000 + 65536 * i, 65536)) ++
    (List.range 4).map (fun i => (0xA88000 + 65536 * i, 65536)) ++ [(0xAC8000, 512), (0xAC8200, 64)]

/-- The transition ends: new code, no marker (R383 step 3). The reset of step 4 follows, unless the boot ROM
completed the transition, which it shows in RESUMED (R380, log entry 18). -/
def lcFinish (s : State) : State :=
  match s.sec.marker with
  | some t =>
    let s := setTmxFull (wr Reg.SEC_LC_CODE t { s with sec := { s.sec with marker := none } })
    if s.dev.state == .boot then wr Reg.SEC_LC_RESUMED 1 s
    else { s with dev := { s.dev with resetDue := some 6 } }
  | none => s

/-- The next wipe starts if MRC is free and hold-up covers it; otherwise it waits. -/
def wipeNext (e : Env) (s : State) : State :=
  if s.mrc.run.isSome then s
  else match s.sec.wipes with
    | [] => s
    | w :: _ => startBurst e ⟨burstId s, 0, [(w.1, wipeBytes s w.1 w.2)], w.2 / 64, .wipe⟩ (takeBurstId s)

/-! ### MRC rows (R486 to R488) -/

/-- A source range of R488: pixel store or S0 local RAM. -/
def burstSource (a len : Nat) : Bool :=
  (0x20000000 ≤ a && a + len ≤ 0x22000000) || (0x10000000 ≤ a && a + len ≤ 0x10100000)

/-- The burst that the MRC registers describe is refused: 4 RANGE, 3 PROT, 0 accepted (R488). -/
def wgoResult (s : State) : Nat :=
  let src := rd s Reg.MRC_WSRC_ADDR
  let dst := rd s Reg.MRC_WDST_ADDR
  let n := rd s Reg.MRC_WLEN_LINES
  if n = 0 || 32768 < n || src % 64 != 0 || dst % 64 != 0 || 0x1000000 < dst + 64 * n || !burstSource src (64 * n)
  then 4
  else if (List.range 9).any (fun a => areaOf dst ≤ a && a ≤ areaOf (dst + 64 * n - 1) &&
      (a == 8 || bit (rd s Reg.MRC_WPROT_AREA) a)) then 3
  else 0

/-- MRC_WGO_WRITE (R488): a write while GO reads 1 starts nothing more. At damper D1 or beyond a burst that
follows another waits for the end of its pause (R478). -/
def doMrcWgoWrite (e : Env) (s : State) : State :=
  if !mainOn s.dev.state || rdb s Reg.MRC_WGO_GO then s
  else
    let r := wgoResult s
    if r != 0 then wr Reg.MRC_STATUS_LAST r s
    else
      let src := rd s Reg.MRC_WSRC_ADDR
      let n := rd s Reg.MRC_WLEN_LINES
      let b : Burst := ⟨burstId s, 0, [(rd s Reg.MRC_WDST_ADDR, ldBytes s src (64 * n))], n, .wgo⟩
      let s := s |> atTime e.t |> takeBurstId |> wr Reg.MRC_WGO_GO 1
      if s.thm.paused.contains 4 then { s with mrc := { s.mrc with wait := s.mrc.wait ++ [b] } }
      else requestBurst e b s

/-- A pause of DPAUSE.MS starts in a background operation (R478). -/
def startPause (k : Nat) (s : State) : State :=
  if 1 ≤ damper s && !s.thm.paused.contains k then { s with thm := { s.thm with paused := s.thm.paused ++ [k] } }
  else s

/-- The calibration words of a lane reach the working copy (R183). -/
def laneToWorking (n : Nat) (s : State) : State :=
  s |> psWrite (0x21800000 + 65536 * n) (ldBytes s (0x30400000 + 65536 * n) 65536) |> setDead

/-- What follows the end of a burst, by what it was for; `ok` says that every line verified. -/
def afterBurst (e : Env) (b : Burst) (ok : Bool) (s : State) : State :=
  let fin := fun (s : State) =>
    finish (fun w => match w.kind with | .burst i _ _ => i == b.id | _ => false) (if ok then 0 else 11)
      (fun w => match w.kind with | .burst _ d0 d1 => if ok then (d0, d1) else (0, 0) | _ => (0, 0)) s
  match b.why with
  | .wgo => s |> wr Reg.MRC_WGO_GO 0 |> startPause 4
  | .cmd => fin s
  | .lane n => s |> when ok (laneToWorking n) |> fin
  | .wear _ =>
    let more := match s.cor.pass with | some r => !r.left.isEmpty | none => false
    if more then
      let s := startPause 0 s
      if s.thm.paused.contains 0 then s else wearNext e s
    else wearEnd s
  | .wipe =>
    let s := { s with sec := { s.sec with wipes := s.sec.wipes.drop 1 } }
    if s.sec.wipes.isEmpty then lcFinish s else s

/-- MRC_BURST_DONE (R486): the last line is written, or line `failAt` has failed its verify twice. With no
burst in progress the row repeats the check that a life-cycle wipe waits for. -/
def doMrcBurstDone (e : Env) (failAt : Option Nat) (s : State) : State :=
  let s := atTime e.t s
  match s.mrc.run with
  | none => wipeNext e s
  | some b =>
    let s := wr Reg.MRC_STATUS_BUSY 0 { s with mrc := { s.mrc with run := none } }
    let bad := match failAt with
      | some i => (lineOffset b.parts i).map (fun off => (i, off))
      | none => none
    let s := match bad with
      | some (i, off) => s |> writeLines (takeLines b.parts i) |> verifyFailed off
      | none => s |> writeLines b.parts |> wr Reg.MRC_STATUS_LAST 0
    let s := afterBurst e b bad.isNone s
    let s := drainWait e s.mrc.wait s
    let s := if s.thm.paused.contains 0 then s else wearNext e s
    wipeNext e s

/-- WEAR_PASS_TIMER (R176): every 600 operating seconds, and at entry to STANDBY. -/
def doWearPassTimer (e : Env) (s : State) : State :=
  if mainOn s.dev.state && s.dev.state != .boot && s.dev.state != .halt then s |> atTime e.t |> wearStart e else s

/-! ### Records (R493) -/

/-- CRC-16/CCITT of R493. -/
def crc16 (b : Bytes) : Nat := b.foldl (fun c x => crcMsbByte 16 0x1021 c x.toNat) 0xFFFF

/-- A record of an entry: flags are LOSS bit 5, FRONT bit 6, SHADOW bit 7. -/
def evRecord (q : EvEntry) (seq flags : Nat) : Bytes :=
  let sevf := q.sev % 8 + 8 * b2n q.ext.isSome + 16 * b2n (q.more != 0) + flags
  let b := leBytes 4 seq ++ leBytes 4 q.opsec ++ leBytes 3 q.pwrcyc ++ leBytes 1 sevf ++ leBytes 4 q.code ++
    leBytes 4 (q.ext.getD 0) ++ leBytes 4 q.more ++ leBytes 4 q.fcnt ++ zeroBytes 2
  b ++ leBytes 2 (crc16 b)

/-- The message word of R415. -/
def msgWord (m : FMsg) : Nat := (m.source % 512) * 2 ^ 23 + (m.kind % 128) * 2 ^ 16 + m.detail % 2 ^ 16

/-- RAS.FCNT for a record: 0 while the raster is stopped in a shadow entry (R500). -/
def shadowFcnt (s : State) : Nat := if rasterOn s then rd s Reg.RAS_FCNT_FCNT else 0

/-- The pilot writes an entry of its recorder shadow (R500): entry SEQ takes slot SEQ mod 8. -/
def shadowWrite (source code : Nat) (s : State) : State :=
  let q : EvEntry := ⟨rd s Reg.PWC_P_OPSEC_SEC, rd s Reg.PWC_P_PWRCYC_COUNT, severity s source, code, none, 0,
    shadowFcnt s⟩
  let b := evRecord q s.pilot.shadowSeq 0x80
  let l := s.pilot.shadow ++ [b]
  { s with pilot := { s.pilot with shadow := l.drop (l.length - 8), shadowSeq := s.pilot.shadowSeq + 1 } }

/-- The 256 bytes of the recorder shadow. -/
def shadowBytes (s : State) : Bytes :=
  let n := s.pilot.shadow.length
  (List.range 8).flatMap (fun k =>
    match (List.range n).find? (fun i => (s.pilot.shadowSeq - n + i) % 8 == k) with
    | some i => padTo 32 (s.pilot.shadow.getD i [])
    | none => zeroBytes 32)

/-! ### The staging queue (R497) -/

/-- QLEVEL follows the queue. -/
def setQlevel (s : State) : State := wr Reg.EVR_STATUS_QLEVEL s.evr.queue.length s

/-- An event is lost. -/
def evLose (s : State) : State :=
  { s with evr := { s.evr with loss := true, episode := s.evr.episode + 1 } }
    |> satInc Reg.EVR_LOST_COUNT 1 |> wr Reg.EVR_STATUS_LOSS 1

/-- Source and kind of an entry. -/
def evKey (q : EvEntry) : Nat := q.code / 65536

/-- Adds to MORE, saturating. -/
def evMore (n : Nat) (q : EvEntry) : EvEntry := { q with more := min 0xFFFFFFFF (q.more + n) }

/-- Index of the last element that `p` selects. -/
def lastIdx {α : Type} (p : α → Bool) (l : List α) : Option Nat :=
  (l.zipIdx.filter (fun e => p e.1)).getLast?.map Prod.snd

/-- The first entry with a later entry of the same source and kind: both indices. -/
def evPair (l : List EvEntry) : Option (Nat × Nat) :=
  l.zipIdx.findSome? (fun a =>
    (l.zipIdx.find? (fun b => decide (a.2 < b.2) && evKey a.1 == evKey b.1)).map (fun b => (a.2, b.2)))

/-- The queue after a message that meets 64 queued entries (R497 rules 1 to 4), and whether an event is lost. -/
def evOverflow (l : List EvEntry) (q : EvEntry) : List EvEntry × Bool :=
  match lastIdx (fun x => evKey x == evKey q) l with
  | some i => (l.modify i (evMore 1), false)
  | none =>
    match evPair l with
    | some (i, j) => (((l.modify i (evMore (1 + (l.getD j q).more))).eraseIdx j) ++ [q], false)
    | none =>
      match (if 1 ≤ q.sev then lastIdx (fun x => x.sev == 0) l else none) with
      | some i => (l.eraseIdx i ++ [q], true)
      | none => (l, true)

/-- EVR_QUEUE_ENTRY (R497): a latched message reaches EVR. -/
def evPush (m : FMsg) (sev : Nat) (s : State) : State :=
  let q : EvEntry := ⟨rd s Reg.PWC_P_OPSEC_SEC, rd s Reg.PWC_P_PWRCYC_COUNT, sev, msgWord m, m.ext, 0,
    rd s Reg.RAS_FCNT_FCNT⟩
  if rdb s Reg.EVR_STATUS_STOPPED then evLose s
  else if s.evr.queue.length < 64 then setQlevel { s with evr := { s.evr with queue := s.evr.queue ++ [q] } }
  else
    let (l, lost) := evOverflow s.evr.queue q
    { s with evr := { s.evr with queue := l } } |> when lost evLose |> setQlevel

/-! ### The recorder area (R492, R494, R495) -/

/-- `a` lies after `b` in the serial order of R494. -/
def seqAfter (a b : Nat) : Bool :=
  let d := (a + (2 ^ 32 - 1) - b % (2 ^ 32 - 1)) % (2 ^ 32 - 1)
  1 ≤ d && d ≤ 2 ^ 31 - 1

/-- The next sequence number (R494). -/
def seqNext (a : Nat) : Nat := (a + 1) % (2 ^ 32 - 1)

/-- The SEQ of a valid record at a stoker address. -/
def recordSeq (s : State) (a : Nat) : Option Nat :=
  let b := ldBytes s a 32
  let sq := leAt b 0 4
  if sq != 0xFFFFFFFF && crc16 (b.take 30) == leAt b 30 2 && !eccBadIn s a 32 then some sq else none

/-- Running-page line `k` is marked bad. -/
def lineBad (s : State) (k : Nat) : Bool := bit (ldByte s (0x30AC8000 + k / 8)).toNat (k % 8)

/-- The first of `n` slots from `sl` on that lies on a good line; without one, `sl`. -/
def goodSlot (s : State) (sl n : Nat) : Nat :=
  ((List.range n).find? (fun i => !lineBad s ((sl + i) % 8192 / 2))).elim (sl % 8192) (fun i => (sl + i) % 8192)

/-- EVR_BOOT_SCAN (R495). -/
def evBootScan (s : State) : State :=
  let found := (List.range 8192).filterMap (fun k => (recordSeq s (0x30A88000 + 32 * k)).map (fun q => (q, k)))
  let newest := found.foldl (fun (b : Option (Nat × Nat)) x =>
    match b with | some y => if seqAfter x.1 y.1 then some x else b | none => some x) none
  let an := ldBytes s 0x30AC8200 64
  let anOk := crc32 (an.take 8) == leAt an 8 4
  let aSeq := if anOk then leAt an 0 4 else 0
  let full := if anOk then byteAt an 4 == 1 else (recordSeq s (0x30A80000 + 32 * 1023)).isSome
  let seq := match newest with
    | some x => if seqAfter (seqNext x.1) aSeq then seqNext x.1 else aSeq
    | none => aSeq
  let slot := match newest with | some x => goodSlot s (x.2 + 1) 8192 | none => 0
  { s with evr := { s.evr with seq := seq } }
    |> wr Reg.EVR_STATUS_FRONTFULL (b2n full) |> wr Reg.EVR_WSLOT_SLOT slot
    |> wr Reg.EVR_NEWEST_SEQ (match newest with | some x => x.1 | none => 0xFFFFFFFF)
    |> wr Reg.EVR_BADLINES_COUNT ((List.range 4096).filter (lineBad s)).length
    |> wr Reg.EVR_STATUS_RUN (rd s Reg.EVR_CTRL_EN)

/-! ### Writing a record (R496, R499) -/

/-- One 32-byte half of a line is written with the other half as it stands; `ok` is the verify. -/
def writeHalf (off : Nat) (b : Bytes) (ok : Bool) (s : State) : State :=
  let line := off / 64 * 64
  let old := ldBytes s (0x30000000 + line) 64
  let fresh := if off % 64 = 0 then b ++ old.drop 32 else old.take 32 ++ b
  if ok then writeLines [(line, fresh)] s else verifyFailed off s

/-- The write of a record into a slot: verified, and its other half was readable (R499). -/
def writeSlot (slot : Nat) (b : Bytes) (fails : Bool) (s : State) : State × Bool :=
  let off := 0xA88000 + 32 * slot
  let other := if slot % 2 = 0 then off + 32 else off - 32
  if eccBadIn s (0x30000000 + other) 32 then (s, false) else (writeHalf off b (!fails) s, !fails)

/-- The recorder stops (R499): LOG_MEM, its shadow entry, and every queued entry lost. -/
def evStop (line : Nat) (s : State) : State :=
  let n := s.evr.queue.length
  s |> raise 0x100 line |> shadowWrite 0x100 (msgWord ⟨0x100, 0x3A, line, none⟩)
    |> (fun s => { s with evr := { s.evr with queue := [], loss := true } })
    |> wr Reg.EVR_STATUS_STOPPED 1 |> wr Reg.EVR_STATUS_RUN 0
    |> satInc Reg.EVR_LOST_COUNT n |> when (n != 0) (wr Reg.EVR_STATUS_LOSS 1) |> setQlevel

/-- After a drain: a loss episode ends once fewer than 32 entries are queued (R497). -/
def evEpisodeEnd (s : State) : State :=
  if s.evr.episode != 0 && s.evr.queue.length < 32 then
    raise 0x101 (min 0xFFFF s.evr.episode) { s with evr := { s.evr with episode := 0 } }
  else s

/-- The record is in its slot: NEWEST, the next number and the next slot. -/
def evWritten (slot : Nat) (s : State) : State :=
  { s with evr := { s.evr with queue := s.evr.queue.drop 1, seq := seqNext s.evr.seq, loss := false } }
    |> wr Reg.EVR_NEWEST_SEQ s.evr.seq |> wr Reg.EVR_WSLOT_SLOT (goodSlot s (slot + 1) 8192)
    |> setQlevel |> evEpisodeEnd

/-- The record of the head entry is written under a check that has passed. `fails` gives, in the order of the
writes, the lines whose verify fails twice: the front-matter copy if there is one, the record, then after a
failure the bad-line map and the second record; the anchor last. -/
def evBurst (q : EvEntry) (fails : List Bool) (s : State) : State :=
  let seq := s.evr.seq
  let full := rdb s Reg.EVR_STATUS_FRONTFULL
  let front := !full && seq < 1024
  let anchor := !full && !front
  let loss := if s.evr.loss then 0x20 else 0
  let failAt := fun (i : Nat) => fails.getD i false
  let frontOk := front && !failAt 0
  let s := if front then writeHalf (0xA80000 + 32 * seq) (evRecord q seq (loss + 0x40)) frontOk s else s
  let k := b2n front
  let b := evRecord q seq (loss + 0x40 * b2n frontOk)
  let slot := rd s Reg.EVR_WSLOT_SLOT
  let (s, ok) := writeSlot slot b (failAt k) s
  let finish := fun (slot i : Nat) (s : State) =>
    s |> when anchor (fun s =>
          let s := wr Reg.EVR_STATUS_FRONTFULL 1 s
          if failAt i then verifyFailed 0xAC8200 s else writeLines [(0xAC8200, anchorLine (seqNext seq) true)] s)
      |> evWritten slot
  if ok then finish slot (k + 1) s
  else
    let line := slot / 2
    let moff := 0xAC8000 + line / 8
    let map := ldBytes s (0x30000000 + moff / 64 * 64) 64
    if failAt (k + 1) then s |> verifyFailed moff |> evStop line
    else
      let s := s |> writeLines [(moff / 64 * 64, map.modify (moff % 64) (fun x => BitVec.ofNat 8 (setBit x.toNat (line % 8))))]
        |> satInc Reg.EVR_BADLINES_COUNT 1
      let slot2 := goodSlot s ((line + 1) * 2) 8192
      let (s, ok2) := writeSlot slot2 b (failAt (k + 2)) s
      if ok2 then finish slot2 (k + 3) s else evStop line s

/-- EVR writes the head entry if it may: its queue drains, MRC is free and no ash dump is due (R496, R501). A
deferral keeps the record and raises HOLDUP_LOW once per episode (R491). -/
def evTry (e : Env) (fails : List Bool) (s : State) : State :=
  let s := atTime e.t s
  if !rdb s Reg.EVR_STATUS_RUN || s.mrc.run.isSome || s.dump.fatal.isSome || !mainOn s.dev.state then s
  else match s.evr.queue with
    | [] => s
    | q :: _ =>
      let lines := if rdb s Reg.EVR_STATUS_FRONTFULL then 1 else 2
      let s := holdMeasure e s
      if holdCovers s lines then
        s |> (fun s => { s with evr := { s.evr with holdUp := false } }) |> wr Reg.MRC_STATUS_LAST 0
          |> evBurst q fails
      else { holdDefer 1 (!s.evr.holdUp) s with evr := { s.evr with holdUp := true } }

/-- EVR_WRITE (R496). -/
def doEvrWrite (e : Env) (fails : List Bool) (s : State) : State := evTry e fails s

/-- EVR_RETRY (R491): 10 ms after a deferral. -/
def doEvrRetry (e : Env) (fails : List Bool) (s : State) : State :=
  if s.evr.holdUp then evTry e fails s else s

/-! ### Register words (R503) -/

/-- What a read of the register at a stoker address answers; shadow registers follow RAS.CTRL.VIEW. -/
def regRead (s : State) (addr : Nat) : Nat :=
  match fieldsAt addr with
  | some fs => fs.foldl (fun v f =>
      if f.2 == .wo then v
      else v + (if isShadow f.1 && rdb s Reg.RAS_CTRL_VIEW then act s f.1 else rd s f.1) * 2 ^ f.1.lo) 0
  | none => 0

/-- Register words from `a` to below `b`, as bytes. -/
def regImage (s : State) (a b : Nat) : Bytes :=
  (List.range ((b - a) / 4)).flatMap (fun i => leBytes 4 (regRead s (a + 4 * i)))

/-! ### The ash dump (R501 to R505) -/

/-- The captured state of one core: 40 words. -/
def coreImage (c : Core) : Bytes :=
  leBytes 4 c.pc ++ leBytes 4 c.mcause ++ leBytes 4 c.mepc ++ leBytes 4 c.mtval ++ leBytes 4 c.mstatus ++
    (List.range 31).flatMap (fun i => leBytes 4 (SMap.getD c.x (i + 1) 0)) ++ zeroBytes 16

/-- The dump body from 0x40 to the end of a short dump (R503). -/
def dumpShort (s : State) (cores : Bytes) : Bytes :=
  padTo 320 cores ++
  padTo 384 (regImage s 0x40030000 0x40030028 ++ regImage s 0x40040000 0x40040070 ++
    regImage s 0x40000000 0x40000034 ++ regImage s 0x40000100 0x40000118 ++ regImage s 0x40010000 0x40010014 ++
    regImage s 0x40020000 0x40020010 ++ regImage s 0x40160000 0x40160014) ++
  padTo 512 (regImage s 0x400E0200 0x400E0340 ++ regImage s 0x400E0400 0x400E0450 ++
    regImage s 0x400E0480 0x400E0488) ++
  (List.range 64).flatMap (fun n => leBytes 4 (regRead s (Reg.TLK_LN_STATUS_INSERV n).addr) ++
    leBytes 4 (regRead s (Reg.TPR_TL_STATUS_INSERV n).addr) ++ leBytes 4 (regRead s (Reg.TPR_TL_SEQ_VALUE n).addr)) ++
  padTo 4096 s.dump.log.flatten ++
  padTo 2048 ((s.evr.queue.take 64).flatMap (fun q => evRecord q 0xFFFFFFFF 0))

/-- The rest of a full dump. -/
def dumpRest (s : State) : Bytes :=
  ldBytes s 0x21E70000 4096 ++ ldBytes s 0x21F00000 65536 ++ ldBytes s 0x21F10000 458752 ++
    ldBytes s 0x10000000 512000

/-- The header (R502). -/
def dumpHeader (s : State) (st skipped len word statew bodyCrc : Nat) : Bytes :=
  let b := [0x41, 0x53, 0x48, 0x44] ++ leBytes 1 st ++ leBytes 1 1 ++ leBytes 2 skipped ++ leBytes 4 len ++
    leBytes 4 (rd s Reg.FCL_FIRST_VALUE) ++ leBytes 4 (rd s Reg.FCL_FIRST_EXT_VALUE) ++
    leBytes 4 (rd s Reg.FCL_FIRST_FCNT_VALUE) ++ leBytes 4 word ++ leBytes 4 (rd s Reg.PWC_P_OPSEC_SEC) ++
    leBytes 4 (rd s Reg.PWC_P_PWRCYC_COUNT) ++ leBytes 4 (rd s Reg.PWC_P_RTC_SEC) ++
    leBytes 4 (rd s Reg.EVR_NEWEST_SEQ) ++ leBytes 4 statew ++ leBytes 4 (rd s Reg.MRC_HOLDE_VALUE) ++
    leBytes 4 (firmwareWord s) ++ leBytes 4 bodyCrc
  b ++ leBytes 4 (crc32 b)

/-- The header stored: its bytes where it reads full or short. -/
def dumpHeld (s : State) : Option Bytes :=
  let h := ldBytes s 0x30B00000 64
  if h.take 4 == [0x41, 0x53, 0x48, 0x44] && crc32 (h.take 60) == leAt h 60 4 && byteAt h 4 != 0 then some h
  else none

/-- A header with another SKIPPED. -/
def withSkipped (h : Bytes) (n : Nat) : Bytes :=
  let b := h.take 6 ++ leBytes 2 n ++ (h.drop 8).take 52
  b ++ leBytes 4 (crc32 b)

/-- The dump routine writes the full or the short dump, or none (R504). -/
def dumpWrite (e : Env) (word statew : Nat) (cores : Bytes) (s : State) : State :=
  let s := holdMeasure e s
  match dumpHeld s with
  | some h =>
    let n := min 0xFFFF (leAt h 6 2 + 1)
    s |> (fun s => if holdCovers s 1 then writeLines [(0xB00000, withSkipped h n)] s else holdDefer 2 true s)
      |> shadowWrite (word / 2 ^ 23) word
  | none =>
    let put := fun (st len : Nat) (body : Bytes) (s : State) =>
      s |> writeLines [(0xB00040, body), (0xB00000, dumpHeader s st 0 len word statew (crc32 body))]
        |> wr Reg.MRC_STATUS_LAST 0
    if holdCovers s 16384 then put 1 0x100000 (padTo (0x100000 - 0x40) (dumpShort s cores ++ dumpRest s)) s
    else if holdCovers s 128 then put 2 0x2000 (padTo (0x2000 - 0x40) (dumpShort s cores)) s
    else s |> holdDefer 2 true |> shadowWrite (word / 2 ^ 23) word

/-- ASH_DUMP (R504): after the burst in progress the dump is written and the device enters HALT. -/
def doAshDump (e : Env) (s : State) : State :=
  match s.dump.fatal with
  | none => s
  | some (word, statew, cores) =>
    if s.mrc.run.isSome || !mainOn s.dev.state then s
    else
      let s := s |> atTime e.t |> dumpWrite e word statew cores
      { s with dump := { s.dump with fatal := none }, dev := { s.dev with sPlate := false } }
        |> setDev .halt |> startRecovery |> relevel
        |> wr Reg.EVR_STATUS_RUN (b2n (rdb s Reg.EVR_CTRL_EN && !rdb s Reg.EVR_STATUS_STOPPED))
        |> drainWait e s.mrc.wait

/-! ### Check-value units (R506, R507) -/

/-- The unit's state. -/
def ckuOf (s : State) (n : Nat) : Cku := if n = 0 then s.cku0 else s.cku1

/-- Sets the unit's state. -/
def setCku (n : Nat) (c : Cku) (s : State) : State := if n = 0 then { s with cku0 := c } else { s with cku1 := c }

/-- The low `w` bits of `v` reflected. -/
def reflect (w v : Nat) : Nat := (List.range w).foldl (fun a i => a + (if bit v i then 2 ^ (w - 1 - i) else 0)) 0

/-- A 64-bit parameter of a unit. -/
def cku64 (s : State) (lo hi : Nat → Fld) (n : Nat) : Nat := rd s (lo n) + rd s (hi n) * 2 ^ 32

/-- WIDTH. -/
def ckuW (s : State) (n : Nat) : Nat := rd s (Reg.CKU_WIDTH_WIDTH n)

/-- One byte feeds the running value. -/
def ckuByte (w poly : Nat) (refin : Bool) (run b : Nat) : Nat :=
  let x := if refin then reflect 8 b else b
  (List.range 8).foldl (fun r i =>
    let top := (bit r (w - 1)) != (bit x (7 - i))
    let sh := r * 2 % 2 ^ w
    if top then sh ^^^ (poly % 2 ^ w) else sh) run

/-- RESULT shows the running value with REFOUT and XOROUT (R506). -/
def setCkuResult (n : Nat) (s : State) : State :=
  let w := ckuW s n
  let run := (ckuOf s n).run % 2 ^ w
  let r := (if rdb s (Reg.CKU_CTRL_REFOUT n) then reflect w run else run) ^^^
    (cku64 s Reg.CKU_XOROUT_LO_VALUE Reg.CKU_XOROUT_HI_VALUE n % 2 ^ w)
  s |> wr (Reg.CKU_RESULT_LO_VALUE n) r |> wr (Reg.CKU_RESULT_HI_VALUE n) (r / 2 ^ 32)

/-- Bytes feed a unit in order. -/
def ckuFeed (n : Nat) (bs : Bytes) (s : State) : State :=
  let w := ckuW s n
  let poly := cku64 s Reg.CKU_POLY_LO_VALUE Reg.CKU_POLY_HI_VALUE n
  let refin := rdb s (Reg.CKU_CTRL_REFIN n)
  let run := bs.foldl (fun r b => ckuByte w poly refin r b.toNat) ((ckuOf s n).run % 2 ^ w)
  s |> setCku n { ckuOf s n with run := run } |> setCkuResult n

/-- The unit scans. -/
def ckuBusy (s : State) (n : Nat) : Bool := rdb s (Reg.CKU_STATUS_BUSY n)

/-- CKU_INIT_WRITE (R506). -/
def doCkuInitWrite (n : Nat) (s : State) : State :=
  if 1 < n || !mainOn s.dev.state || ckuBusy s n then s
  else
    let v := cku64 s Reg.CKU_INIT_LO_VALUE Reg.CKU_INIT_HI_VALUE n % 2 ^ ckuW s n
    s |> setCku n { ckuOf s n with run := v } |> setCkuResult n

/-- CKU_DATA_WRITE (R506). -/
def doCkuDataWrite (n : Nat) (v : Word) (s : State) : State :=
  if 1 < n || !mainOn s.dev.state || ckuBusy s n then s
  else ckuFeed n (leBytes (rd s (Reg.CKU_CTRL_BYTES n) + 1) v.toNat) s

/-- A range lies wholly in the pixel store or wholly in the eMRAM. -/
def scanRange (a len : Nat) : Bool :=
  a % 8 == 0 && len % 8 == 0 &&
    ((0x20000000 ≤ a && a + len ≤ 0x22000000) || (0x30000000 ≤ a && a + len ≤ 0x31000000))

/-- The master may read the range (R507): S1 as POLICY grants. -/
def scanRight (s : State) (who : Master) (a len : Nat) : Bool :=
  match who with
  | .s0 => true
  | .s1 =>
    if a < 0x30000000 then s1Range s 0 a len
    else (List.range 9).all (fun k => len == 0 || k < areaOf (a - 0x30000000) ||
      areaOf (a - 0x30000000 + len - 1) < k || s1Emram s k)
  | _ => false

/-- A scan starts, or sets ERR (R507). -/
def ckuStart (who : Master) (n : Nat) (s : State) : State :=
  let a := rd s (Reg.CKU_ADDR_VALUE n)
  let len := rd s (Reg.CKU_LEN_VALUE n)
  let fail := fun (c : Nat) => s |> wr (Reg.CKU_STATUS_ERR n) 1 |> wr (Reg.CKU_STATUS_CAUSE n) c
  if !scanRange a len then fail 1
  else if !scanRight s who a len then fail 3
  else s |> setCku n { ckuOf s n with scan := some ⟨who, a, len⟩ } |> wr (Reg.CKU_STATUS_BUSY n) 1

/-- CKU_GO (R507): CKU0 is S0-only, CKU1 is S1-accessible. -/
def doCkuGo (who : Master) (n : Nat) (s : State) : State :=
  if 1 < n || !mainOn s.dev.state then s
  else match who with
    | .s0 => if ckuBusy s n then s else ckuStart who n s
    | .s1 =>
      if n = 1 && s1Right s 0x12 == 2 then (if ckuBusy s n then s else ckuStart who n s) else raise 0x001 0 s
    | _ => s

/-- The bytes that a scan feeds: the key pages feed as zero (R378). -/
def scanBytes (s : State) (a len : Nat) : Bytes :=
  (ldBytes s a len).zipIdx.map (fun e => if 0x30F00000 ≤ a + e.2 && a + e.2 < 0x30F05000 then 0 else e.1)

/-- Address of the first uncorrectable word of a range. -/
def firstBad (s : State) (a len : Nat) : Option Nat :=
  (s.eccBad.filter (fun w => a ≤ w && w < a + len)).foldl (fun m w =>
    match m with | some x => some (min x w) | none => some w) none

/-- CKU_SCAN_DONE (R507): the scan ends, or stops on an uncorrectable word. At damper D1 or beyond the row is
the end of one 64 KiB block, after which the scan pauses (R478). -/
def doCkuScanDone (n : Nat) (s : State) : State :=
  match (ckuOf s n).scan with
  | none => s
  | some sc =>
    if 1 < n || s.thm.paused.contains (2 + n) then s
    else
      let part := if 1 ≤ damper s then min sc.len 65536 else sc.len
      let stop := fun (s : State) =>
        s |> setCku n { ckuOf s n with scan := none } |> wr (Reg.CKU_STATUS_BUSY n) 0
      match firstBad s sc.addr part with
      | some w =>
        let s := s |> ckuFeed n (scanBytes s sc.addr (w - sc.addr)) |> stop
          |> wr (Reg.CKU_STATUS_ERR n) 1 |> wr (Reg.CKU_STATUS_CAUSE n) 2 |> wr (Reg.CKU_ERRADDR_ADDR n) w
          |> raise (0x120 + 0x10 * n) (bits w 3 16)
        if n = 1 then finishKind (fun k => k == .ckuScan) 11 0 0 s else s
      | none =>
        let s := ckuFeed n (scanBytes s sc.addr part) s
        if part < sc.len then
          s |> setCku n { ckuOf s n with scan := some ⟨sc.who, sc.addr + part, sc.len - part⟩ } |> startPause (2 + n)
        else
          let s := stop s
          if n = 1 then finishKind (fun k => k == .ckuScan) 0 (rd s (Reg.CKU_RESULT_LO_VALUE 1)) 0 s else s

/-! ### The meanings of the rows -/

/-- MRC_WGO_WRITE (R488). -/
def execMrcWgoWrite (e : Env) (s : State) : Out :=
  .next (doMrcWgoWrite e s)

/-- MRC_BURST_DONE (R486). -/
def execMrcBurstDone (e : Env) (failAt : Option Nat) (s : State) : Out :=
  .next (doMrcBurstDone e failAt s)

/-- WEAR_PASS_TIMER (R176). -/
def execWearPassTimer (e : Env) (s : State) : Out :=
  .next (doWearPassTimer e s)

/-- EVR_WRITE (R496). -/
def execEvrWrite (e : Env) (fails : List Bool) (s : State) : Out :=
  .next (doEvrWrite e fails s)

/-- EVR_RETRY (R491). -/
def execEvrRetry (e : Env) (fails : List Bool) (s : State) : Out :=
  .next (doEvrRetry e fails s)

/-- ASH_DUMP (R504). -/
def execAshDump (e : Env) (s : State) : Out :=
  .next (doAshDump e s)

/-- CKU_GO (R507). -/
def execCkuGo (who : Master) (n : Nat) (s : State) : Out :=
  .next (doCkuGo who n s)

/-- CKU_SCAN_DONE (R507). -/
def execCkuScanDone (n : Nat) (s : State) : Out :=
  .next (doCkuScanDone n s)

/-- CKU_INIT_WRITE (R506). -/
def execCkuInitWrite (n : Nat) (s : State) : Out :=
  .next (doCkuInitWrite n s)

/-- CKU_DATA_WRITE (R506). -/
def execCkuDataWrite (n : Nat) (v : Word) (s : State) : Out :=
  .next (doCkuDataWrite n v s)

end Sys2Proof.Machine
end

