-- ==== Sys2Proof/Machine/Fault.lean ====
section
/-! DEFINITION. Fault collection and reaction (`14_fault_collection.md`): the latch, the actions per severity,
the choice of the safe state (R405), SAFE_IN_N, the clear, and the end of the start tests (R410). -/

namespace Sys2Proof.Machine

/-! ### The latch (R417, R424) -/

/-- The message is one that a row of the kind table names (R416, R418). -/
def msgKnown (m : FMsg) : Bool :=
  match faultRow m.source with | some r => r.kind == m.kind | none => false

/-- A failed verdict of the fender (R397, R426). -/
def fenderVerdictSeen (m : FMsg) (sev : Nat) (s : State) : State :=
  if 0x1A0 ≤ m.source && m.source ≤ 0x1A9 then
    { s with fender := { s.fender with bad := s.fender.bad || decide (3 ≤ sev) } }
      |> satInc Reg.FST_FAILS 1 |> wr Reg.FST_LASTKIND m.kind
  else s

/-- The first message of WARN or above since the last clear, or a later one (R424). -/
def latchWarn (m : FMsg) (sev : Nat) (s : State) : State :=
  let s :=
    if rdb s Reg.FCL_STATUS_VALID then s |> wr Reg.FCL_STATUS_OVF 1 |> satInc Reg.FCL_STATUS_COUNT 1
    else s |> wr Reg.FCL_FIRST_VALUE (msgWord m) |> wr Reg.FCL_FIRST_EXT_VALUE (m.ext.getD 0)
      |> wr Reg.FCL_STATUS_EXTV (b2n m.ext.isSome) |> wr Reg.FCL_FIRST_FCNT_VALUE (rd s Reg.RAS_FCNT_FCNT)
      |> wr Reg.FCL_STATUS_VALID 1
  s |> wr Reg.FCL_STATUS_HIGHEST (max (rd s Reg.FCL_STATUS_HIGHEST) sev) |> fire 0x38

/-- FCL latches one message and passes it to the event recorder (R420, R424). -/
def latch (m : FMsg) (s : State) : State :=
  let sev := severity s m.source
  { s with links := { s.links with canHigh := max s.links.canHigh sev } }
    |> wr Reg.FCL_LAST_VALUE (msgWord m)
    |> (if sev = 0 then satInc Reg.FCL_INFOCNT_COUNT 1 else latchWarn m sev)
    |> fenderVerdictSeen m sev
    |> evPush m sev
    |> setFaultN |> setEmber

/-! ### DEGRADE (R420, R421, R423) -/

/-- Kinds whose detail is a lane. -/
def laneKind (kind : Nat) : Bool :=
  [0x1F, 0x20, 0x21, 0x22, 0x23, 0x24, 0x26, 0x27, 0x28, 0x29, 0x2A, 0x2B, 0x2C, 0x2D, 0x2E, 0x2F, 0x30, 0x31,
   0x32, 0x43, 0x47, 0x54, 0x58].contains kind

/-- Kinds that name every tile of a group. -/
def groupKind (kind : Nat) : Bool := [0x40, 0x41, 0x56, 0x57].contains kind

/-- The lanes that a message names (R421); lanes 64 and 65 name no tile (R516). -/
def namedLanes (s : State) (m : FMsg) : List Nat :=
  if laneKind m.kind then (tileLanes s).filter (· == m.detail)
  else if groupKind m.kind then (tileLanes s).filter (fun n => groupOf n == m.detail)
  else tileLanes s

/-- The tiles among them that act: in service and LIVE. -/
def affected (s : State) (m : FMsg) : List Nat :=
  (namedLanes s m).filter (fun n => inService s n && tileState s n == 0)

/-- The DEGRADE actions of a message: COAST and the DEGMAP bit, where tiles are lit. -/
def degradeAct (m : FMsg) (s : State) : State :=
  if 2 ≤ severity s m.source && rasterState s.dev.state then
    forEach (affected s m) (fun n s => s |> demand 2 m.kind (some n) |> setDeg n true) s
  else s

/-! ### The choice of the safe state (R37, R405) -/

/-- Some tile in service has no verified plate. -/
def plateMissing (s : State) : Bool := (serviceLanes s).any (fun n => !rdb s (Reg.TPR_TL_STATUS_PLATEV n))

/-- A SAFE message reaches S-FALLBACK (R405, R410). -/
def choosesFallback (s : State) (m : FMsg) : Bool :=
  s.pilot.safeLow || [0x54, 0x40, 0x25, 0x4F].contains m.kind || plateMissing s ||
    (s.dev.sPlate && bits (rd s Reg.FCL_SAFEKIND_VALUE) 16 7 != m.kind)

/-- HANDOVER leaves with a REASON (R513, R528). -/
def sendHandover (reason : Nat) (s : State) : State :=
  sendPtn 0x0B (leBytes 1 reason ++ zeroBytes 3) { s with ptn := { s.ptn with asked := some reason } }

/-- The standby's health as the active holds it (R518). -/
def standbyHealthy (s : State) : Bool := rdb s Reg.PTN_STATUS_HEALTHY

/-- A SAFE or FATAL reaction begins: in a pair an active with a healthy standby hands over, and a standby
withdraws (R528, R530). -/
def withdraw (s : State) : State :=
  if !pairOp s then s
  else if role s == 1 && standbyHealthy s then s |> wr Reg.PTN_STATUS_ROLE 3 |> sendHandover 2
  else if role s == 2 then
    { s with ptn := { s.ptn with mute := true } } |> wr Reg.PTN_STATUS_ROLE 3 |> wr Reg.PTN_STATUS_READY 0
  else s

/-- S-PLATE for a message. A message of the kind that set S_PLATE leaves SAFEKIND, abandons a rerun of the
start tests and ends the FAULT_CLEAR that waits for it (R360, R405, R425). -/
def reachSPlate (m : FMsg) (s : State) : State :=
  if s.dev.sPlate then
    { s with dev := { s.dev with tests := false, rerun := false } }
      |> demand 1 m.kind none
      |> finishKind (fun k => k == .faultClear) 11 0 (rd s Reg.FCL_FIRST_VALUE)
  else enterSPlate (msgWord m) s

/-- The SAFE reaction of the messages of one edge, where a device is lit (R405, R422). -/
def reactSafe (ms : List FMsg) (s : State) : State :=
  match ms.filter (fun m => severity s m.source == 3) with
  | [] => s
  | m :: rest =>
    if !rasterState s.dev.state then s
    else
      let fb := (m :: rest).any (choosesFallback s)
      let s := withdraw s
      if fb then enterSFallback s else reachSPlate m s

/-- Every deferred command ends with ABORTED (R332, R420). -/
def abortDeferred (s : State) : State :=
  let gone := s.mbx.deferred
  { s with mbx := { s.mbx with deferred := [] } } |> setDefq
    |> forEach gone (fun q =>
        complete ⟨q.opc, q.d.ch, q.d.slot, q.d.tag, bit q.d.flags 1, bit q.d.flags 2, true⟩ 9 0 0)

/-- A FATAL reaction (R405, R420, R422, R501): S-FALLBACK, the deferred commands end, the cores' state is
captured and EVR stops draining; the dump routine follows. In HALT, and while a dump is due, it is latched
only (R430). -/
def reactFatal (ms : List FMsg) (s : State) : State :=
  match ms.filter (fun m => severity s m.source == 4) with
  | [] => s
  | m :: _ =>
    if s.dev.state == .halt || s.dump.fatal.isSome then s
    else
      let statew := stateWord s
      let cores := coreImage s.core0 ++ coreImage s.core1
      let lit := rasterState s.dev.state
      { withdraw s with dump := { s.dump with fatal := some (msgWord m, statew, cores) } }
        |> fallbackOutputs
        |> when lit enterFallbackState
        |> abortDeferred
        |> wr Reg.EVR_STATUS_RUN 0

/-- What S0 does with a message of the customer partition (R422, R435). -/
def reactS1 (m : FMsg) (s : State) : State :=
  if m.source = 0x190 || m.source = 0x191 then s1Bar s
  else if m.source = 0x192 then (if m.detail = 0xFFFF then s1Bar s else s |> s1Reset |> s1Start)
  else s

/-- BASE_STALE or NTM_DOMAIN in the active while the standby is healthy: S0 hands over (R528). -/
def reactPair (m : FMsg) (s : State) : State :=
  if (m.source = 0x060 || m.source = 0x0E0) && pairOp s && role s == 1 && standbyHealthy s && s.ptn.asked.isNone
  then sendHandover 1 s
  else s

/-! ### FAULT_MESSAGE (R417) -/

/-- `a` reaches FCL before `b` when both do so at one edge. -/
def msgBefore (s : State) (a b : FMsg) : Bool :=
  let x := severity s a.source
  let y := severity s b.source
  decide (y < x) || (x == y && a.source ≤ b.source)

/-- FCL takes the messages of one edge: it latches each, and carries out every reaction they demand. -/
def faultReact (ms : List FMsg) (s : State) : State :=
  if !mainOn s.dev.state then s
  else
    let ms := (ms.filter msgKnown).mergeSort (msgBefore s)
    s |> forEach ms latch
      |> forEach ms degradeAct
      |> reactSafe ms
      |> reactFatal ms
      |> forEach ms reactS1
      |> forEach ms reactPair
      |> setFaultN |> setEmber

/-- FAULT_MESSAGE (R417): messages on their way to FCL arrive together. -/
def doFaultMessage (e : Env) (m : FMsg) (more : List FMsg) (s : State) : State :=
  let ms := m :: more
  { atTime e.t s with inbox := ms.foldl (fun l x => l.erase x) s.inbox } |> faultReact ms

/-! ### SAFE_IN_N (R428) -/

/-- SAFE_IN_N_FALL: the low is taken; FCL raises SAFE_IN. -/
def doSafeInNFall (e : Env) (s : State) : State :=
  if !s.pilot.safeArmed || s.dev.state == .off then s
  else
    { atTime e.t s with pilot := { s.pilot with safeLow := true, safeArmed := false } }
      |> when (mainOn s.dev.state) (wr Reg.FCL_STATUS_SAFEIN 1)
      |> setFaultN
      |> faultReact [⟨0x040, 0x0B, 0, none⟩]

/-- SAFE_IN_N_RISE: the high is taken and re-arms the falling edge. -/
def doSafeInNRise (s : State) : State :=
  if s.dev.state == .off then s
  else
    { s with pilot := { s.pilot with safeLow := false, safeArmed := true } }
      |> when (mainOn s.dev.state) (wr Reg.FCL_STATUS_SAFEIN 0)
      |> setFaultN

/-! ### The clear (R429) -/

/-- The latch is cleared; SAFEKIND, DEGMAP and INFOCNT stay. -/
def fclClear (s : State) : State :=
  { s with fender := { s.fender with bad := false } }
    |> wr Reg.FCL_FIRST_VALUE 0 |> wr Reg.FCL_FIRST_EXT_VALUE 0 |> wr Reg.FCL_FIRST_FCNT_VALUE 0
    |> wr Reg.FCL_STATUS_VALID 0 |> wr Reg.FCL_STATUS_EXTV 0 |> wr Reg.FCL_STATUS_OVF 0
    |> wr Reg.FCL_STATUS_COUNT 0 |> wr Reg.FCL_STATUS_HIGHEST 0
    |> setFaultN |> setEmber

/-- FCL_CLEAR_WRITE (R429). -/
def doFclClearWrite (s : State) : State := if mainOn s.dev.state then fclClear s else s

/-! ### The start tests (R410) -/

/-- Tile lanes of the tile map. -/
def mapLanes (s : State) : List Nat := (List.range (laneCount s)).map (fun i => byteAt (bindSec s 3) i)

/-- The first step that fails by what the registers show: 1 the fender, 3 the lanes, 5 the plates. -/
def startStepSeen (s : State) : Nat :=
  if !(rdb s Reg.FST_RUN && rdb s Reg.FST_CFGOK) then 1
  else if s.dev.rerun || isStandby s then 0
  else if !(mapLanes s).all (inService s) then 3
  else if plateMissing s then 5
  else 0

/-- The first failing step of the tests run, given what the steps that measure found (log entry 11). -/
def startStep (s : State) (found : Nat) : Nat :=
  let seen := startStepSeen s
  if seen = 0 then found else if found = 0 then seen else min seen found

/-- S_PLATE clears after its rerun; tiles in PLATE get RESUME, FAULT_CLEAR completes, with HW_FAULT where a message has
become FIRST since the clear, and the start tests of PRELIT follow (R33, R34, R360). -/
def leaveSPlate (s : State) : State :=
  let lanes := (serviceLanes s).filter (fun n => tileState s n == 2 &&
    !mapBit s Reg.FCL_DEGMAP_LO_MAP Reg.FCL_DEGMAP_HI_MAP n)
  { s with dev := { s.dev with sPlate := false, tests := true, rerun := false } }
    |> wr Reg.FCL_SAFEKIND_VALUE 0 |> setFaultN |> setEmber
    |> forEach lanes (fun n => pushResume n (nextSeq s))
    |> (fun s =>
        if rdb s Reg.FCL_STATUS_VALID then finishKind (fun k => k == .faultClear) 11 0 (rd s Reg.FCL_FIRST_VALUE) s
        else finishKind (fun k => k == .faultClear) 0 (stateWord s) 0 s)

/-- A failed step: START_TEST, FALLBACK, and LIGHT_ON ends with HW_FAULT (R342, R410). -/
def failStart (step : Nat) (s : State) : State :=
  let m : FMsg := ⟨0x183, 0x4F, step, none⟩
  let first := if rdb s Reg.FCL_STATUS_VALID then rd s Reg.FCL_FIRST_VALUE else msgWord m
  s |> finishKind (fun k => match k with | .lightOn _ => true | _ => false) 11 0 first
    |> faultReact [m]

/-- The active of the pair reports LIT (R519). -/
def activeLit (s : State) : Bool := match s.ptn.peer with | some p => p.stateW % 16 == 5 | none => false

/-- Every step passed: LIT, or PRELIT again without S_PLATE; a standby waits in PRELIT for its active (R519). -/
def startPassed (s : State) : State :=
  if s.dev.rerun then leaveSPlate s
  else if isStandby s && !activeLit s then { s with dev := { s.dev with tests := false } }
  else enterLit s

/-- START_TESTS_DONE (R410). -/
def doStartTestsDone (e : Env) (failStep : Nat) (s : State) : State :=
  if !s.dev.tests || s.dev.state != .prelit then s
  else
    let s := atTime e.t s
    let step := startStep s failStep
    if step = 0 then startPassed s else failStart step s

/-! ### The meanings of the rows -/

/-- SAFE_IN_N_RISE (R428). -/
def execSafeInNRise (s : State) : Out :=
  .next (doSafeInNRise s)

/-- FCL_CLEAR_WRITE (R429). -/
def execFclClearWrite (s : State) : Out :=
  .next (doFclClearWrite s)

end Sys2Proof.Machine
end

