-- ==== Sys2Proof/Machine/Power.lean ====
section
/-! DEFINITION. Power, reset and thermal management (`16_power_states_and_thermal.md`): the way up and down,
the fallback beam's tests, the sleep handshake, power domains, level changes and the damper. -/

namespace Sys2Proof.Machine

/-! ### Resets (R455, R456) -/

/-- A reset of the main domain that stays powered: the device starts BOOT with a RSTCAUSE. Leaving PRELIT, LIT
or SERVICE with LIGHT_REQ high is a start instant of R38. -/
def startBoot (cause : Option Nat) (s : State) : State :=
  let timer := s.pilot.fbTimer || (rasterState s.dev.state && s.pilot.lightReq)
  let s := resetMain .boot { s with pilot := { s.pilot with
    fbTimer := timer, recovOn := false, faultHold := false, alarm := false, wakePin := false } }
  let s := match cause with | some c => wr Reg.PWC_RSTCAUSE_CAUSE c s | none => s
  setFaultN s

/-- VPILOT has been out of range: what is left is the eMRAM, the key area's records and the tiles. AUTHCNT and
CAN_FRESH take the stored reservations (R288, R317). -/
def coldStart (d : DevState) (s : State) : State :=
  let keep := [Reg.SEC_LC_CODE.key, Reg.SEC_BOOT_PREF.key, Reg.SEC_SVN_BIND.key, Reg.SEC_SVN_FW.key]
  let s := resetMain d s
  { s with regs := s.regs.filter (fun e => keep.contains e.1), pilot := Pilot.cold }
    |> forEach (List.range 5) (fun c s =>
        wr (Reg.HIF_MB_AUTHCNT_COUNT c) (SMap.getD s.mbx.authRes c 0) s)
    |> wr Reg.HIF_CAN_FRESH_LAST s.links.canRes
    |> wr Reg.PWC_RSTCAUSE_CAUSE 1

/-- VPILOT_ENTER_RANGE (R456). -/
def doVpilotEnterRange (pairId : Bool) (s : State) : State :=
  if s.dev.state == .off then
    let s := coldStart .pilot s
    setFaultN { s with pilot := { s.pilot with pairId := pairId } }
  else s

/-- VPILOT_LEAVE_RANGE (R33). -/
def doVpilotLeaveRange (s : State) : State := if s.dev.state == .off then s else coldStart .off s

/-! ### The way up (R457 to R460, R470) -/

/-- The wake source active, with the precedence of R470: 3 LIGHT_REQ, 2 WAKE, 1 RTC alarm. -/
def wakeSource (s : State) : Option Nat :=
  if s.pilot.lightReq then some 3
  else if s.pilot.wakePin && rdb s Reg.PWC_P_WAKE_WAKE_EN then some 2
  else if s.pilot.alarm && rdb s Reg.PWC_P_WAKE_ALARM_EN then some 1
  else none

/-- The pilot asserts PMIC_EN for an attempt of the way up, if a wake source is active. -/
def beginWayUp (attempt : Nat) (s : State) : State :=
  match wakeSource s with
  | some src =>
    if s.dev.state == .pilot && s.pilot.porst && !s.pilot.barred then
      wr Reg.PWC_P_WAKE_SRC src
        { s with pilot := { s.pilot with pmicEn := true, wayUp := .waitPg, attempt := attempt } }
    else s
  | none => { s with pilot := { s.pilot with wayUp := .idle } }

/-- A wake source may start the way up where none runs. -/
def tryWayUp (s : State) : State :=
  if s.dev.state == .pilot && s.pilot.wayUp == .idle then beginWayUp 1 s else s

/-- PORST_N_LOW (R557). -/
def doPorstNLow (s : State) : State :=
  if s.dev.state == .off then s
  else
    let s := fallToPilot (some 2) s
    { s with pilot := { s.pilot with porst := false, fbTimer := false } }

/-- PORST_N_RISE (R457): the release is a start instant of R38; a low of 1 ms lifts the bar of R459. -/
def doPorstNRise (lowForMs : Nat) (s : State) : State :=
  if s.dev.state == .off || s.pilot.porst then s
  else
    { s with pilot := { s.pilot with
        porst := true, barred := s.pilot.barred && lowForMs < 1, fbTimer := s.pilot.lightReq } } |> tryWayUp

/-- PG_CORE_RISE (R457): the power-cycle counter counts it, and the crystal starts. -/
def doPgCoreRise (s : State) : State :=
  if s.dev.state == .pilot && s.pilot.wayUp == .waitPg then
    { s with pilot := { s.pilot with pgCore := true, wayUp := .waitRef, recov := 0 } }
      |> satInc Reg.PWC_P_PWRCYC_COUNT 1
  else s

/-- PG_CORE_FALL (R456): PILOT, and after 50 ms the way up. -/
def doPgCoreFall (s : State) : State :=
  if s.pilot.pmicEn && s.pilot.pgCore then
    let s := fallToPilot (some 3) s
    { s with pilot := { s.pilot with wayUp := .retryWait, attempt := 0 } }
  else s

/-- PG_CORE_TIMEOUT (R459). -/
def doPgCoreTimeout (s : State) : State :=
  if s.dev.state == .pilot && s.pilot.wayUp == .waitPg then
    if s.pilot.attempt < 2 then
      { s with pilot := { s.pilot with pmicEn := false, wayUp := .retryWait } }
    else
      { s with pilot := { s.pilot with pmicEn := false, wayUp := .idle, barred := true } }
        |> wr Reg.PWC_P_WAKE_WAKE_FAIL 1
        |> shadowWrite 0x1B1 (msgWord ⟨0x1B1, 0x5A, 0, none⟩)
        |> when s.pilot.lightReq (fbLight 1)
        |> setFaultN
  else s

/-- WAKE_RETRY_DELAY (R459). -/
def doWakeRetryDelay (s : State) : State :=
  if s.dev.state == .pilot && s.pilot.wayUp == .retryWait then
    beginWayUp (s.pilot.attempt + 1) { s with pilot := { s.pilot with wayUp := .idle } }
  else s

/-- The device enters BOOT at the end of the way up; the pilot hands FAULT_N back (R427). -/
def wayUpBoot (refOk : Bool) (s : State) : State :=
  startBoot none { s with pilot := { s.pilot with refOk := refOk, wayUp := .refUp } }

/-- REF_STABLE (R457). -/
def doRefStable (s : State) : State :=
  if s.dev.state == .pilot && s.pilot.wayUp == .waitRef then wayUpBoot true s else s

/-- REF_TIMEOUT (R460): BOOT from the RC oscillator, with REF_FAIL. -/
def doRefTimeout (s : State) : State :=
  if s.dev.state == .pilot && s.pilot.wayUp == .waitRef then
    let s := wayUpBoot false s
    { s with dev := { s.dev with rc := true } } |> wr Reg.PWC_STATUS_REF_RC 1 |> raise 0x010 0
  else s

/-- NTC starts from the raw count it holds (R24, R290). -/
def startNtc (s : State) : State := { s with ntcOn := true, ntcFrom := s.now - s.rawHeld }

/-- REF_RETRY (R460). -/
def doRefRetry (runs : Bool) (s : State) : State :=
  if s.dev.rc && s.dev.state == .standby && runs then
    startNtc { s with dev := { s.dev with rc := false }, pilot := { s.pilot with refOk := true } }
      |> wr Reg.PWC_STATUS_REF_RC 0 |> autoLightOn
  else s

/-- WAKE_INPUT (R470). -/
def doWakeInput (s : State) : State :=
  if s.dev.state == .pilot then tryWayUp { s with pilot := { s.pilot with wakePin := true } } else s

/-- RTC_ALARM_MATCH (R470). -/
def doRtcAlarmMatch (s : State) : State :=
  if rd s Reg.PWC_P_ALARM_SEC != 0 && rd s Reg.PWC_P_RTC_SEC == rd s Reg.PWC_P_ALARM_SEC &&
      rdb s Reg.PWC_P_WAKE_ALARM_EN && s.dev.state == .pilot then
    tryWayUp { s with pilot := { s.pilot with alarm := true } }
  else s

/-- RTC_TICK (R455). -/
def doRtcTick (s : State) : State :=
  if s.dev.state == .off then s
  else s |> wrapInc Reg.PWC_P_RTC_SEC 1 |> when (mainOn s.dev.state) (wrapInc Reg.PWC_P_OPSEC_SEC 1)

/-- PMIC_EN_LOW_WAIT (R468): 1 ms after a sleep entry that a wake source overtook. -/
def doPmicEnLowWait (s : State) : State :=
  if s.dev.state == .pilot && s.pilot.wayUp == .lowWait then
    tryWayUp { s with pilot := { s.pilot with wayUp := .idle } }
  else s

/-- RESET_DELAY (R344, R366). -/
def doResetDelay (s : State) : State :=
  match s.dev.resetDue with
  | some c => if mainOn s.dev.state then startBoot (some c) s else s
  | none => s

/-- RECOVERY_TIMER (R430): at most 3 such BOOTs for one power-cycle count. -/
def doRecoveryTimer (s : State) : State :=
  if s.pilot.recovOn && (s.dev.state == .fallback || s.dev.state == .halt) then
    if s.pilot.recov < 3 then
      startBoot (some 5) { s with pilot := { s.pilot with recov := s.pilot.recov + 1 } }
    else { s with pilot := { s.pilot with recovOn := false } }
  else s

/-! ### The sleep and domain handshake (R466 to R474) -/

/-- Domain bit of a block number of R415, for the on-demand domains (R453, R472). -/
def domOfBlock (b : Nat) : Option Nat :=
  if b = 6 then some 0 else if b = 7 then some 1 else if b = 8 then some 2 else if b = 9 then some 3
  else if b = 0xA then some 4 else if b = 0xD then some 5 else if b = 0x15 then some 6
  else if b = 0x12 then some 7 else if b = 0x13 then some 8 else if b = 0x16 then some 9 else none

/-- The block of a domain bit. -/
def blockOfDom (d : Nat) : Nat := ([6, 7, 8, 9, 0xA, 0xD, 0x15, 0x12, 0x13, 0x16] : List Nat).getD d 0

/-- The blocks that PWC asks before sleep: every other block of the main domain that is powered, the fender,
and S1's runtime where S1 runs (log entry 13). -/
def sleepBlocks (s : State) : List Nat :=
  ((List.range 22).map (· + 2)).filter (fun b =>
      match domOfBlock b with | some d => bit (rd s Reg.PWC_DOMST_MAP) d | none => true) ++
    (if rdb s (Reg.ITC_T_CTRL_RUN 1) then [0x19] else []) ++ [0x1A]

/-- A handshake starts. -/
def startHandshake (blocks : List Nat) (dom : Option Nat) (s : State) : State :=
  { s with pwc := { s.pwc with hs := some ⟨blocks, [], s.now, dom⟩ } } |> wr Reg.PWC_STATUS_DOMBUSY 1

/-- A handshake ends with its result in PWC.SLEEP: 1 entered, 2 refused, 3 delay limit passed. -/
def endHandshake (result blk ans code : Nat) (s : State) : State :=
  { s with pwc := { s.pwc with hs := none } }
    |> wr Reg.PWC_STATUS_DOMBUSY 0 |> wr Reg.PWC_SLEEP_GO 0 |> wr Reg.PWC_SLEEP_RESULT result
    |> wr Reg.PWC_SLEEP_BLOCK blk |> wr Reg.PWC_SLEEP_ANSWER ans |> wr Reg.PWC_SLEEP_CODE code

/-- A SLEEP in progress. -/
def isSleep (k : WaitKind) : Bool := match k with | .sleep _ => true | _ => false

/-- Starts entry to PILOT, in STANDBY only. -/
def sleepStart (s : State) : State :=
  if s.dev.state == .standby && s.pwc.hs.isNone then
    s |> startHandshake (sleepBlocks s) none |> wr Reg.PWC_SLEEP_GO 1 |> wr Reg.PWC_SLEEP_RESULT 0
  else s

/-- Where no handshake runs, the one of a SLEEP that waited, or the next domain of PWC.DOMOFF (R472). -/
def nextDomOff (s : State) : State :=
  if s.pwc.hs.isSome then s
  else if s.waits.any (fun w => isSleep w.kind) then sleepStart s
  else match (List.range 10).find? (fun d => bit (rd s Reg.PWC_DOMOFF_MAP) d) with
    | some d => startHandshake [blockOfDom d] (some d) s
    | none => s

/-- A handshake aborts (R344, R467): SLEEP completes with STATE, or with TIMEOUT for a delay beyond the limit; the
refusal stands in DETAIL1 with reason 0x0B. -/
def abortHandshake (result blk ans code : Nat) (s : State) : State :=
  let dom := s.pwc.hs.bind Handshake.dom
  let s := endHandshake result blk ans code s
  match dom with
  | some d => s |> wr Reg.PWC_DOMOFF_MAP (clearBit (rd s Reg.PWC_DOMOFF_MAP) d) |> nextDomOff
  | none =>
    s |> finishKind isSleep (if result = 3 then 8 else 5) 0 (pack4 blk ans code 0x0B) |> nextDomOff

/-- SLEEP_GO (R466). -/
def doSleepGo (t : Nat) (s : State) : State := s |> atTime t |> sleepStart

/-- Untaken descriptors or deferred commands stand in HIF. -/
def hifQueued (s : State) : Bool :=
  !s.mbx.deferred.isEmpty ||
    (List.range 5).any (fun c => rd s (Reg.HIF_MB_CMDWP_WP c) != rd s (Reg.HIF_MB_CMDRP_COUNT c))

/-- The reason for which a block cannot acknowledge (R467). -/
def refusal (s : State) (b : Nat) : Option Nat :=
  if b = 0x11 && s.mrc.run.isSome then some 1
  else if b = 9 && s.cor.pass.isSome then some 1
  else if b = 0x14 && s.sns.round.isSome then some 1
  else if b = 0xF && s.image.isSome then some 1
  else if b = 0xF && hifQueued s then some 3
  else if b = 0x15 && pairOp s && rd s Reg.PTN_STATUS_PSTATE != 3 && rd s Reg.PTN_STATUS_PSTATE != 1 then some 4
  else none

/-- The blocks have all acknowledged: a domain powers down; for sleep the entry follows (R468, R472). -/
def handshakeDone (s : State) : State :=
  match s.pwc.hs with
  | some h =>
    if h.left.isEmpty && h.delayed.isEmpty then
      match h.dom with
      | some d =>
        s |> endHandshake 1 0 0 0
          |> wr Reg.PWC_DOMST_MAP (clearBit (rd s Reg.PWC_DOMST_MAP) d)
          |> wr Reg.PWC_DOMOFF_MAP (clearBit (rd s Reg.PWC_DOMOFF_MAP) d) |> nextDomOff
      | none => s
    else s
  | none => s

/-- HANDSHAKE_ANSWER (R466): 1 ACK, 2 DELAY, 3 REFUSE. A block that R467 bars from an ACK refuses. -/
def doHandshakeAnswer (block ans code t : Nat) (s : State) : State :=
  let s := atTime t s
  match s.pwc.hs with
  | none => s
  | some h =>
    if !h.left.contains block then s
    else
      let (ans, code) := match (if ans = 1 then refusal s block else none) with
        | some r => (3, r)
        | none => (ans, code)
      if ans = 1 then
        handshakeDone { s with pwc := { s.pwc with hs := some { h with left := h.left.erase block } } }
      else if ans = 2 then
        let ms := clampN 1 255 code
        if h.t0 + msTicks 10 < s.now + msTicks ms then abortHandshake 3 block 2 ms s
        else
          let h' : Handshake := { h with left := h.left.erase block, delayed := h.delayed ++ [(block, s.now + msTicks ms)] }
          { s with pwc := { s.pwc with hs := some h' } }
      else if ans = 3 then abortHandshake 2 block 3 code s
      else s

/-- HANDSHAKE_DELAY_EXPIRY (R466): PWC asks the block again. -/
def doHandshakeDelayExpiry (block t : Nat) (s : State) : State :=
  let s := atTime t s
  match s.pwc.hs with
  | none => s
  | some h =>
    if h.delayed.any (fun d => d.1 == block) then
      let h' : Handshake := { h with left := h.left ++ [block], delayed := h.delayed.filter (fun d => d.1 != block) }
      { s with pwc := { s.pwc with hs := some h' } }
    else s

/-- HANDSHAKE_NOANSWER (R467). -/
def doHandshakeNoanswer (block t : Nat) (s : State) : State :=
  let s := atTime t s
  match s.pwc.hs with
  | none => s
  | some h => if h.left.contains block then abortHandshake 2 block 3 6 s else s

/-- Every TTO pin goes to its inactive level. -/
def ttosOff (s : State) : State :=
  forEach ((List.range 4).filter (fun n => match SMap.find s.ntm.ttos n with | some o => o.pulse | none => false))
    (fun n => send (.tto n false)) s

/-- The alarm that SLEEP carries (R470). -/
def sleepAlarm (s : State) : State :=
  s.waits.foldl (fun s w => match w.kind with
    | .sleep a => if a = 0 then s else
        s |> wr Reg.PWC_P_ALARM_SEC (rd s Reg.PWC_P_RTC_SEC + a) |> wr Reg.PWC_P_WAKE_ALARM_EN 1
    | _ => s) s

/-- SLEEP_ENTRY (R468). -/
def doSleepEntry (s : State) : State :=
  match s.pwc.hs with
  | none => s
  | some h =>
    if h.dom.isSome || !h.left.isEmpty || !h.delayed.isEmpty || s.dev.state != .standby then s
    else
      let s := s |> sleepAlarm
        |> finishKind isSleep 0 (stateWord s) 0
        |> endHandshake 1 0 0 0
        |> wr Reg.PWC_TGEN_EN 0 |> ttosOff
        |> when (rdb s Reg.HIF_MB_HOST_IRQ) (send (.irq false))
        |> wr Reg.PWC_PADREL_LATCHED 1
      let s := fallToPilot (some 7) s
      if (wakeSource s).isSome then { s with pilot := { s.pilot with wayUp := .lowWait } } else s

/-- DOMOFF_WRITE (R472). -/
def doDomoffWrite (mask t : Nat) (s : State) : State :=
  if !mainOn s.dev.state then s
  else
    let s := atTime t s
    s |> wr Reg.PWC_DOMOFF_MAP (rd s Reg.PWC_DOMOFF_MAP ||| (mask % 1024 &&& rd s Reg.PWC_DOMST_MAP)) |> nextDomOff

/-- DOMAIN_POWER_UP (R472 to R474): an access by S0 or S1 to a domain; a locked one fails, one that is asked
to power down answers REFUSE. -/
def doDomainPowerUp (dom : Nat) (ready : Bool) (s : State) : State :=
  if 9 < dom || !mainOn s.dev.state then s
  else if bit (rd s Reg.PWC_DOMLOCK_MAP) dom then raise 0x002 dom s
  else if bit (rd s Reg.PWC_DOMST_MAP) dom then
    (match s.pwc.hs with
     | some h => if h.dom = some dom || h.dom.isNone then abortHandshake 2 (blockOfDom dom) 3 2 s else s
     | none => s)
  else if ready then wr Reg.PWC_DOMST_MAP (setBit (rd s Reg.PWC_DOMST_MAP) dom) s
  else raise 0x002 (0x8000 + dom) s

/-- PADREL_WRITE (R469). -/
def doPadrelWrite (s : State) : State :=
  if s.dev.state == .standby then wr Reg.PWC_PADREL_LATCHED 0 s else s

/-! ### LIGHT_REQ and the fallback beam (R38, R403, R404, R471) -/

/-- LIGHT_REQ_RISE (R38): a start instant; a handshake in progress aborts with LIGHT. -/
def doLightReqRise (e : Env) (s : State) : State :=
  if s.dev.state == .off || s.pilot.lightReq then s
  else
    { atTime e.t s with
      pilot := { s.pilot with lightReq := true, fbTimer := !rasterState s.dev.state } }
      |> when s.pilot.sFallback (fbLight (rd s Reg.PWC_P_FB_MASK))
      |> (fun s => match s.pwc.hs with
          | some h => if h.dom.isNone then abortHandshake 2 1 3 7 s else s
          | none => s)
      |> tryWayUp |> autoLightOn

/-- LIGHT_REQ_FALL (R38): every channel goes off; with auto-light PRELIT and LIT go to STANDBY, and an entry that
auto-light has begun ends. A suspension of auto-light ends (R343). -/
def doLightReqFall (e : Env) (s : State) : State :=
  if s.dev.state == .off || !s.pilot.lightReq then s
  else
    let s := atTime e.t s
    let byAuto := !s.waits.any (fun w => isTransition w.kind)
    let s := fbDark { s with
      pilot := { s.pilot with lightReq := false, fbTimer := false }
      dev := { s.dev with autoHold := false, raising := if byAuto then none else s.dev.raising } }
    if autoLight s && (s.dev.state == .prelit || s.dev.state == .lit) && !isStandby s then
      s |> enterStandby |> wearStart e
    else s

/-- A failed switch test of a channel: 0 high side, 1 low side (R403, R413). -/
def fbFailed (ch sw : Nat) (s : State) : State :=
  let d := Config.fbDetail ch sw % 65536
  s |> shadowWrite 0x1B0 (msgWord ⟨0x1B0, 0x59, d, none⟩)
    |> when (mainOn s.dev.state) (fun s =>
        let f := if ch = 0 then Reg.FST_OUT_FB0 else Reg.FST_OUT_FB1
        s |> wr f (setBit (rd s f) sw) |> raise 0x1B0 d)

/-- The pre-light test of a channel by its reading (R403). -/
def preLight (ch : Nat) (mid : Mid) (s : State) : State := if mid == .high then s else fbFailed ch 0 s

/-- FB0_LIGHT_TIMER (R38): the pre-light test, then FB0 is lit whatever the test found. -/
def doFb0LightTimer (mid : Mid) (s : State) : State :=
  if s.pilot.fbTimer && s.pilot.lightReq && !rasterState s.dev.state && s.dev.state != .off then
    let s := { s with pilot := { s.pilot with fbTimer := false } }
    s |> when (!bit (fbOn s) 0 && !fbWithheld s) (preLight 0 mid) |> fbLight 1
  else s

/-- The channel that a test pulse holds. -/
def fbPulsing (s : State) (ch : Nat) : Bool :=
  match s.pilot.fbPulse with | some (c, _) => c == ch | none => false

/-- FB_CHECK_TIMER (R403): the off check or the conduction check of each channel. -/
def doFbCheckTimer (mids : List Mid) (s : State) : State :=
  if s.dev.state == .off then s
  else forEach ((mids.take 2).zipIdx) (fun m s =>
    if fbPulsing s m.2 then s
    else
      let ok := if bit (fbOn s) m.2 then m.1 == .band else m.1 == .low
      let sw := b2n (bit (fbOn s) m.2 && m.1 == .high)
      s |> when (!ok) (fbFailed m.2 sw) |> testDone (8 + m.2) (!ok)) s

/-- FB_PULSE_TIMER (R403): a lit channel opens its low side and its high side in turn. -/
def doFbPulseTimer (ch : Nat) (s : State) : State :=
  if ch < 2 && bit (fbOn s) ch && s.pilot.fbPulse.isNone && s.dev.state != .off then
    let hi := s.pilot.fbHigh.getD ch false
    { s with pilot := { s.pilot with fbPulse := some (ch, hi), fbHigh := s.pilot.fbHigh.set ch (!hi) } }
  else s

/-- FB_PULSE_END (R404): the result is judged, and a demand that waited takes effect. -/
def doFbPulseEnd (ch : Nat) (mid : Mid) (s : State) : State :=
  match s.pilot.fbPulse with
  | none => s
  | some (c, hi) =>
    if c != ch then s
    else
      let dem := s.pilot.fbDemand
      { s with pilot := { s.pilot with fbPulse := none, fbDemand := 0 } }
        |> (if hi then (if mid == .low then id else fbFailed ch 0) else (if mid == .high then id else fbFailed ch 1))
        |> when (dem != 0) (fbLight dem)

/-- FB_OFFREQ_WRITE (R38). -/
def doFbOffreqWrite (s : State) : State := if s.dev.state == .standby then fbDark s else s

/-- PAIR_ACT_CHANGE (R530): the channels withheld light once the line reads low. -/
def doPairActChange (level : Bool) (s : State) : State :=
  if s.dev.state == .off then s
  else
    let s := { s with pilot := { s.pilot with pairAct := level } }
    if level then s else fbLight s.pilot.fbPair { s with pilot := { s.pilot with fbPair := 0 } }

/-! ### Performance level (R465) -/

/-- PL_CHANGE_DONE (R465): the clocks have switched; a lower VCORE target follows. PERF_SET completes, and an
entry that waited for the level goes on. -/
def doPlChangeDone (s : State) : State :=
  match s.pwc.plTo with
  | none => s
  | some l =>
    let down := l < rd s Reg.PWC_STATUS_PL
    let s := { s with pwc := { s.pwc with plTo := none } }
      |> wr Reg.PWC_STATUS_PL l |> wr Reg.PWC_STATUS_PLBUSY 0
      |> when down (writeVset (levelMv s.dev.state l))
      |> perfDone
    match s.dev.raising with
    | some d => leaveStandby d { s with dev := { s.dev with raising := none } }
    | none => relevel s

/-! ### Thermal management (R475 to R479) -/

/-- Throttle limit of a sensor. -/
def thrOf (s : State) (n : Nat) : Int := rdi s (Reg.THM_S_LIM0_THROTTLE n)

/-- Hysteresis in 0.1 °C. -/
def hyst (s : State) : Int := (rd s Reg.THM_ESC_HYST : Nat)

/-- RATE1, no higher than RATE3. -/
def rate1 (s : State) : Int := (min (rd s Reg.THM_RATE_RATE1) (rd s Reg.THM_RATE_RATE3) : Nat)

/-- A sensor is broken. -/
def sensorBroken (s : State) (n : Nat) : Bool := bit (rd s Reg.THM_STATUS_BROKEN) n

/-- History of a sensor. -/
def sensorOf (s : State) (n : Nat) : Sensor := SMap.getD s.thm.sensors n ⟨false, none⟩

/-- Changes the history of a sensor. -/
def modSensor (n : Nat) (f : Sensor → Sensor) (s : State) : State :=
  { s with thm := { s.thm with sensors := SMap.put s.thm.sensors n (f (sensorOf s n)) } }

/-- The damper takes a higher step, for a sensor (R478). -/
def damperUp (step n : Nat) (s : State) : State :=
  if damper s < step then
    s |> wr Reg.THM_STATUS_STEP step
      |> when (3 ≤ step && rd s Reg.THM_STATUS_MODECAP == 3) (wr Reg.THM_STATUS_MODECAP (capFor s.ras.uncapped))
      |> when (step < 4) (raise 0x021 (step * 4096 + n))
      |> wr Reg.SWP_STATUS_HALF 1
      |> relevel
  else s

/-- The sensor is found broken (R477). -/
def breakSensor (n : Nat) (s : State) : State :=
  if sensorBroken s n then s
  else s |> wr Reg.THM_STATUS_BROKEN (setBit (rd s Reg.THM_STATUS_BROKEN) n) |> raise 0x023 n

/-- Sensors with warn and throttle limits. -/
def limited (n : Nat) : Bool := n != 6

/-- The instants from which every reading has stayed below its release limits (R479). -/
def coolTrack (s : State) : State :=
  let cool := (List.range 9).all (fun n => !limited n ||
    (decide (rdi s (Reg.THM_S_VAL_USED n) < thrOf s n - hyst s) && decide (rdi s (Reg.THM_S_RISE_RISE n) ≤ rate1 s)))
  let cc := (List.range 9).all (fun n =>
    decide (rdi s (Reg.THM_S_VAL_USED n) < rdi s (Reg.THM_S_LIM1_CRIT n) - hyst s))
  let keep := fun (c : Bool) (o : Option Nat) => if c then some (o.getD s.now) else none
  { s with thm := { s.thm with coolAt := keep cool s.thm.coolAt, coolCrit := keep cc s.thm.coolCrit } }

/-- A reading in use is judged against the limits (R476, R478). -/
def judgeReading (n : Nat) (used rise : Int) (s : State) : State :=
  let s := s |> wri (Reg.THM_S_VAL_USED n) used |> wri (Reg.THM_S_RISE_RISE n) rise
  let s :=
    if limited n then
      let warn := rdi s (Reg.THM_S_LIM0_WARN n)
      let fast := decide (thrOf s n - 100 ≤ used)
      let hot := decide (thrOf s n ≤ used)
      let q := sensorOf s n
      let newWarn := decide (warn ≤ used) && !q.warned
      s |> wr Reg.THM_STATUS_FAST (putBit (rd s Reg.THM_STATUS_FAST) n fast)
        |> when newWarn (raise 0x020 n)
        |> modSensor n (fun q =>
            { q with warned := (q.warned || newWarn) && !decide (used < warn - hyst s),
                     since := if hot then some (q.since.getD s.now) else none })
        |> when (hot || decide (rate1 s < rise)) (fun s =>
            if decide (((rd s Reg.THM_RATE_RATE3 : Nat) : Int) < rise) then damperUp 3 n s else damperUp 1 n s)
    else s
  let s := if decide (rdi s (Reg.THM_S_LIM1_CRIT n) ≤ used) then
      (if damper s < 4 then s |> damperUp 4 n |> raise 0x022 n else s)
    else s
  coolTrack s

/-- The reading that the damper uses for a sensor: a broken one reads throttle plus 1.0 °C with no rise. -/
def useReading (n : Nat) (meas rise : Int) (s : State) : State :=
  if sensorBroken s n && limited n then judgeReading n (thrOf s n + 10) 0 s else judgeReading n meas rise s

/-- THM_SAMPLE (R476, R477). -/
def doThmSample (n : Nat) (meas rise : Int) (stuck : Bool) (t : Nat) (s : State) : State :=
  if 8 < n || !mainOn s.dev.state || !rdb s Reg.THM_CTRL_EN then s
  else
    atTime t s |> wri (Reg.THM_S_VAL_MEAS n) meas
      |> when (decide (meas < -550) || decide (1750 < meas) || stuck) (breakSensor n)
      |> useReading n meas rise

/-- DAMPER_ESCALATE (R478): D1 to D2, or D2 to D3, for the first sensor that has stayed at or above throttle
for ESC_MS; the time then counts anew. -/
def doDamperEscalate (t : Nat) (s : State) : State :=
  let s := atTime t s
  let esc := msTicks (clampN 100 60000 (rd s Reg.THM_ESC_ESC_MS))
  if !mainOn s.dev.state || damper s = 0 || 3 ≤ damper s then s
  else match (List.range 9).find? (fun n => match (sensorOf s n).since with
      | some a => decide (a + esc ≤ s.now) | none => false) with
    | none => s
    | some n =>
      let s := damperUp (damper s + 1) n s
      forEach (List.range 9) (fun k => modSensor k (fun q => { q with since := q.since.map (fun _ => s.now) })) s

/-- DAMPER_DWELL (R479): the damper drops one step. -/
def doDamperDwell (t : Nat) (s : State) : State :=
  let s := atTime t s
  let dwell := msTicks (1000 * max 1 (rd s Reg.THM_ESC_DWELL_S))
  let ripe := fun (o : Option Nat) => match o with | some a => decide (a + dwell ≤ s.now) | none => false
  let step := damper s
  if !mainOn s.dev.state || step = 0 then s
  else if ripe (if step = 4 then s.thm.coolCrit else s.thm.coolAt) then
    { s with thm := { s.thm with coolAt := s.thm.coolAt.map (fun _ => s.now), coolCrit := s.thm.coolCrit.map (fun _ => s.now) } }
      |> wr Reg.THM_STATUS_STEP (step - 1)
      |> when (step == 3) (wr Reg.THM_STATUS_MODECAP 3)
      |> when (step == 1) (wr Reg.SWP_STATUS_HALF 0)
      |> relevel |> when (step == 4) autoLightOn
  else s

/-- SENSOR_SELF_TEST (R477). -/
def doSensorSelfTest (failed : Nat) (s : State) : State :=
  if mainOn s.dev.state then
    forEach ((List.range 9).filter (bit failed)) (fun n s =>
      let meas := rdi s (Reg.THM_S_VAL_MEAS n)
      s |> breakSensor n |> useReading n meas 0) s
  else s

/-! ### The meanings of the rows -/

/-- VPILOT_ENTER_RANGE (R456). -/
def execVpilotEnterRange (pairId : Bool) (s : State) : Out :=
  .next (doVpilotEnterRange pairId s)

/-- VPILOT_LEAVE_RANGE (R33). -/
def execVpilotLeaveRange (s : State) : Out :=
  .next (doVpilotLeaveRange s)

/-- PORST_N_LOW (R557). -/
def execPorstNLow (s : State) : Out :=
  .next (doPorstNLow s)

/-- PORST_N_RISE (R457). -/
def execPorstNRise (lowForMs : Nat) (s : State) : Out :=
  .next (doPorstNRise lowForMs s)

/-- PG_CORE_RISE (R457). -/
def execPgCoreRise (s : State) : Out :=
  .next (doPgCoreRise s)

/-- PG_CORE_FALL (R456). -/
def execPgCoreFall (s : State) : Out :=
  .next (doPgCoreFall s)

/-- PG_CORE_TIMEOUT (R459). -/
def execPgCoreTimeout (s : State) : Out :=
  .next (doPgCoreTimeout s)

/-- WAKE_RETRY_DELAY (R459). -/
def execWakeRetryDelay (s : State) : Out :=
  .next (doWakeRetryDelay s)

/-- REF_STABLE (R457). -/
def execRefStable (s : State) : Out :=
  .next (doRefStable s)

/-- REF_TIMEOUT (R460). -/
def execRefTimeout (s : State) : Out :=
  .next (doRefTimeout s)

/-- REF_RETRY (R460). -/
def execRefRetry (runs : Bool) (s : State) : Out :=
  .next (doRefRetry runs s)

/-- WAKE_INPUT (R470). -/
def execWakeInput (s : State) : Out :=
  .next (doWakeInput s)

/-- RTC_ALARM_MATCH (R470). -/
def execRtcAlarmMatch (s : State) : Out :=
  .next (doRtcAlarmMatch s)

/-- RTC_TICK (R455). -/
def execRtcTick (s : State) : Out :=
  .next (doRtcTick s)

/-- PMIC_EN_LOW_WAIT (R468). -/
def execPmicEnLowWait (s : State) : Out :=
  .next (doPmicEnLowWait s)

/-- RESET_DELAY (R344). -/
def execResetDelay (s : State) : Out :=
  .next (doResetDelay s)

/-- RECOVERY_TIMER (R430). -/
def execRecoveryTimer (s : State) : Out :=
  .next (doRecoveryTimer s)

/-- SLEEP_GO (R466). -/
def execSleepGo (t : Nat) (s : State) : Out :=
  .next (doSleepGo t s)

/-- SLEEP_ENTRY (R468). -/
def execSleepEntry (s : State) : Out :=
  .next (doSleepEntry s)

/-- DOMOFF_WRITE (R472). -/
def execDomoffWrite (mask t : Nat) (s : State) : Out :=
  .next (doDomoffWrite mask t s)

/-- DOMAIN_POWER_UP (R472). -/
def execDomainPowerUp (dom : Nat) (ready : Bool) (s : State) : Out :=
  .next (doDomainPowerUp dom ready s)

/-- PADREL_WRITE (R469). -/
def execPadrelWrite (s : State) : Out :=
  .next (doPadrelWrite s)

/-- FB0_LIGHT_TIMER (R38). -/
def execFb0LightTimer (mid : Mid) (s : State) : Out :=
  .next (doFb0LightTimer mid s)

/-- FB_CHECK_TIMER (R403). -/
def execFbCheckTimer (mids : List Mid) (s : State) : Out :=
  .next (doFbCheckTimer mids s)

/-- FB_PULSE_TIMER (R403). -/
def execFbPulseTimer (ch : Nat) (s : State) : Out :=
  .next (doFbPulseTimer ch s)

/-- FB_PULSE_END (R404). -/
def execFbPulseEnd (ch : Nat) (mid : Mid) (s : State) : Out :=
  .next (doFbPulseEnd ch mid s)

/-- FB_OFFREQ_WRITE (R38). -/
def execFbOffreqWrite (s : State) : Out :=
  .next (doFbOffreqWrite s)

/-- PAIR_ACT_CHANGE (R530). -/
def execPairActChange (level : Bool) (s : State) : Out :=
  .next (doPairActChange level s)

/-- THM_SAMPLE (R476). -/
def execThmSample (n : Nat) (meas rise : Int) (stuck : Bool) (t : Nat) (s : State) : Out :=
  .next (doThmSample n meas rise stuck t s)

/-- DAMPER_ESCALATE (R478). -/
def execDamperEscalate (t : Nat) (s : State) : Out :=
  .next (doDamperEscalate t s)

/-- DAMPER_DWELL (R479). -/
def execDamperDwell (t : Nat) (s : State) : Out :=
  .next (doDamperDwell t s)

/-- SENSOR_SELF_TEST (R477). -/
def execSensorSelfTest (failed : Nat) (s : State) : Out :=
  .next (doSensorSelfTest failed s)

end Sys2Proof.Machine
end

