-- ==== Sys2Proof/Machine/RegRules.lean ====
section
/-! DEFINITION. What a write stores in a register field whose table restricts the values it takes. -/

namespace Sys2Proof.Machine

/-- Two fields are the same. -/
def sameFld (f g : Fld) : Bool := f.key == g.key

/-- A field is one of the first `n` of an array. -/
def inArray (n : Nat) (g : Nat → Fld) (f : Fld) : Bool := (List.range n).any (fun i => sameFld f (g i))

/-- Values outside lo..hi are taken as the nearer bound. -/
def nearer (lo hi v : Nat) : Option Nat := some (clampN lo hi v)

/-- Values outside lo..hi leave the field unchanged. -/
def within (lo hi v : Nat) : Option Nat := if lo ≤ v && v ≤ hi then some v else none

/-- The limits of a sensor keep warn ≤ throttle < critical, an on-die critical limit at most 150.0 °C, and those of
sensor 6 do not change (R482). A write of word `w` is judged by every limit that the word carries. -/
def thmLimit (s : State) (f : Fld) (w : Nat) : Option Nat :=
  let n := (f.addr - 0x40010100) / 16
  let lim0 := f.addr % 16 == 0
  let warn := if lim0 then sx 16 (bits w 0 16) else rdi s (Reg.THM_S_LIM0_WARN n)
  let thr := if lim0 then sx 16 (bits w 16 16) else rdi s (Reg.THM_S_LIM0_THROTTLE n)
  let crit := if lim0 then rdi s (Reg.THM_S_LIM1_CRIT n) else sx 16 (bits w 0 16)
  if n = 6 || !(warn ≤ thr && thr < crit) || (n < 5 && 1500 < crit) then none else some (bits w f.lo f.width)

/-- The ranges of GTE, ZNE, COR, SWP and SNS fields. -/
def pipeStores (f : Fld) (v : Nat) : Option (Option Nat) :=
  if sameFld f Reg.GTE_STALE_STALE_MS then some (nearer 10 2000 v)
  else if sameFld f Reg.GTE_ROWDEG_ROWDEG then some (within 1 0xFFFF v)
  else if sameFld f Reg.ZNE_SPEC_HORIZON then some (within 1 24 v)
  else if sameFld f Reg.ZNE_RELEASE_RAMP_MS then some (within 10 200 v)
  else if sameFld f Reg.ZNE_LVL_STALE_MS then some (nearer 10 1000 v)
  else if sameFld f Reg.COR_LIMIT_KMAX then some (some (max 0x4000 v))
  else if sameFld f Reg.COR_FILL_GAIN then some (some (min 0x8000 v))
  else if sameFld f Reg.COR_GATE_CAP_LITCAP then some (within 0x100 0xFFFF v)
  else if sameFld f Reg.COR_GATE_SLROW_RISE then some (within 0 160 v)
  else if sameFld f Reg.COR_GATE_BUDGET_FLUX then some (within 1 0xFFFF v)
  else if sameFld f Reg.SWP_AGELIM_LIMIT then some (some (max 1000 v))
  else if sameFld f Reg.SNS_CALPER_SECONDS then some (nearer 10 3600 v)
  else if sameFld f Reg.SNS_PLAUS_NFR then some (some (max 1 v))
  else if inArray 8 Reg.SNS_GRP_SHUNT_SHUNT f then some (within 1 0xFFFF v)
  else none

/-- The ranges of RAS, TLK, TPR, NTM, HIF and PTN fields. -/
def linkStores (f : Fld) (v : Nat) : Option (Option Nat) :=
  if inArray 4 Reg.RAS_EVT_LINE f then some (within 0 135 v)
  else if inArray 66 Reg.TLK_LN_EQ_DEEMPH f then some (within 0 2 v)
  else if inArray 66 Reg.TLK_LN_FLIGHT_FLIGHT f then some (within 0 640 v)
  else if sameFld f Reg.TPR_CFG_COASTLIM then some (nearer 10 1000 v)
  else if inArray 2 Reg.NTM_D_STATE_STATE f then some (within 0 2 v)
  else if inArray 5 Reg.HIF_MB_DEFTO_MS f then some (nearer 1 600000 v)
  else if inArray 5 Reg.HIF_MB_MOD_TIME f then some (nearer 1 10000 v)
  else if inArray 5 Reg.HIF_MB_MOD_COUNT f then some (nearer 1 64 v)
  else if sameFld f Reg.PTN_LIMIT_XMISLIM then some (some (max 1 v))
  else if sameFld f Reg.PTN_LIMIT_SKEWFR then some (some (max 1 v))
  else if sameFld f Reg.PTN_LIMIT_SKEWMAX then some (nearer 100 2000 v)
  else none

/-- A vector base, or a restart address after power-gated sleep, lies in the target's local RAM; the vector base
of S0 may lie in the boot ROM (R452). -/
def stkAddr (rom : Bool) (t a : Nat) : Bool :=
  if t = 0 then (0x10000000 ≤ a && a < 0x10100000) || (rom && a < 0x20000)
  else 0x10100000 ≤ a && a < 0x10200000

/-- The ranges of PWC, THM, FCL, ITC and CKU fields. -/
def sysStores (s : State) (f : Fld) (w : Nat) : Option (Option Nat) :=
  let v := bits w f.lo f.width
  if sameFld f Reg.PWC_PLREQ_LIT then some (within 1 3 v)
  else if sameFld f Reg.PWC_VREG_SETTLE_US then some (nearer 10 1000 v)
  else if sameFld f Reg.PWC_P_FB_MASK then some (within 1 3 v)
  else if sameFld f Reg.THM_ESC_DWELL_S then some (some (max 1 v))
  else if sameFld f Reg.THM_ESC_ESC_MS then some (nearer 100 60000 v)
  else if inArray 2 Reg.THM_NTC_CFG_RNOM f then some (within 1 0xFFFF v)
  else if inArray 9 Reg.THM_S_LIM0_WARN f || inArray 9 Reg.THM_S_LIM0_THROTTLE f || inArray 9 Reg.THM_S_LIM1_CRIT f
  then some (thmLimit s f w)
  else if 0x40030400 ≤ f.addr && f.addr < 0x40030600 then
    let src := (f.addr - 0x40030400) + f.lo / 8
    some (if (faultRow src).isNone then none else within (severityFloor src) 4 v)
  else if sameFld f Reg.ITC_STRAND_MS then some (nearer 1 1000 v)
  else if inArray 2 Reg.ITC_T_SLEEP_MODE f then some (within 0 1 v)
  else if inArray 2 Reg.ITC_T_VBASE_BASE f then
    some (if stkAddr true ((f.addr - 0x40020104) / 64) (v * 4096) then some v else none)
  else if inArray 2 Reg.ITC_T_WAKEVEC_ADDR f then
    some (if stkAddr false ((f.addr - 0x40020118) / 64) (v * 4) then some v else none)
  else if inArray 2 Reg.CKU_WIDTH_WIDTH f then some (within 1 64 v)
  else none

/-- What a write of register word `w` stores in a field; none where it leaves the field unchanged. -/
def fieldStores (s : State) (f : Fld) (w : Nat) : Option Nat :=
  let v := bits w f.lo f.width
  match pipeStores f v with
  | some r => r
  | none =>
    match linkStores f v with
    | some r => r
    | none =>
      match sysStores s f w with
      | some r => r
      | none => some v

/-- A write of a register word reaches one field of it. -/
def putField (f : Fld) (w : Nat) (s : State) : State :=
  match fieldStores s f w with
  | some v => wr f v s
  | none => s

/-- What the fields of one register make of each other after a write: GTE.STALE takes a LOST_MS below STALE_MS as
STALE_MS, and GTE.SCFGn.EN reads 0 for a format or a size that no stream has (R126). -/
def settleFields (fs : List (Fld × FTy)) (s : State) : State :=
  forEach fs (fun f s =>
    let n := (f.1.addr - 0x40050130) / 4
    if sameFld f.1 Reg.GTE_STALE_LOST_MS then
      wr Reg.GTE_STALE_LOST_MS (max (rd s Reg.GTE_STALE_STALE_MS) (rd s Reg.GTE_STALE_LOST_MS)) s
    else if inArray 4 Reg.GTE_SCFG_EN f.1 then
      when (rd s (Reg.GTE_SCFG_FMT n) == 3 || rd s (Reg.GTE_SCFG_WM1 n) < 63 || rd s (Reg.GTE_SCFG_HM1 n) < 15)
        (wr f.1 0) s
    else s) s

/-- A write of a register word reaches its RWL fields only (R372). -/
def putRwl (fs : List (Fld × FTy)) (w : Nat) (s : State) : State :=
  s |> forEach (fs.filter (fun f => f.2 == .rwl)) (fun f => putField f.1 w) |> settleFields fs

/-! ### LOCK bits (R12, R270) -/

/-- SWP's bands hold VSHORT < VLOW ≤ VHIGH < VOPEN. -/
def bandsOk (s : State) : Bool :=
  rd s Reg.SWP_VBAND0_VSHORT < rd s Reg.SWP_VBAND0_VLOW && rd s Reg.SWP_VBAND0_VLOW ≤ rd s Reg.SWP_VBAND1_VHIGH &&
    rd s Reg.SWP_VBAND1_VHIGH < rd s Reg.SWP_VBAND1_VOPEN

/-- A block's LOCK bit is set. At SWP's, bands out of order fall back to their reset values (R270). -/
def setLock (f : Fld) (s : State) : State :=
  let s := wr f 1 s
  if sameFld f Reg.SWP_CTRL_LOCK && !bandsOk s then
    forEach [Reg.SWP_VBAND0_VSHORT, Reg.SWP_VBAND0_VLOW, Reg.SWP_VBAND1_VHIGH, Reg.SWP_VBAND1_VOPEN]
      (fun g => wr g g.reset) s |> wr Reg.SWP_STATUS_BANDDEF 1
  else s

end Sys2Proof.Machine
end

