-- ==== Sys2Proof/Machine/Boot.lean ====
section
/-! DEFINITION. The boot: the wipe and the boot ROM's steps (R380), and the load of the binding (R373). -/

namespace Sys2Proof.Machine

/-! ### BOOT_ENTRY (R456) -/

/-- BOOT_ENTRY: the hardware wipes the pixel store and the local RAMs; NTC runs where REF does; PAIR_ID is
sampled, and EVR scans the recorder area (R495, R511). -/
def doBootEntry (t : Nat) (pairId : Bool) (s : State) : State :=
  if s.dev.state == .boot && s.dev.bootStep == 0 then
    let s := atTime t s
    let s := { s with
      mem := s.mem.filter (fun c => 0x30000000 ≤ c.1)
      eccBad := s.eccBad.filter (fun w => 0x30000000 ≤ w)
      pilot := { s.pilot with pairId := pairId }
      dev := { s.dev with bootStep := 1 } }
    s |> when s.pilot.refOk startNtc |> evBootScan
  else s

/-! ### The calibration image (R158, R159, R177) -/

/-- The upper halfwords of a run of words. -/
def upperHalves (b : Bytes) : Bytes :=
  match b with
  | _ :: _ :: c :: d :: rest => c :: d :: upperHalves rest
  | _ => []

/-- The calibration image of a lane. -/
def laneImage (s : State) (n : Nat) : Bytes := ldBytes s (0x30400000 + 65536 * n) 65536

/-- A lane carries calibration data (R158). -/
def lanePresent (s : State) (n : Nat) : Bool := bit (ldByte s (0x30F40004 + 8 * n)).toNat 0

/-- The CRC of the check table matches the lane's image. -/
def laneCrcOk (s : State) (n : Nat) : Bool := crc32 (upperHalves (laneImage s n)) == ld32 s (0x30F40000 + 8 * n)

/-- THR(c, k) of the binding stored, by which the boot ROM recomputes AGE (log entry 15). -/
def bootThr (corr : Bytes) (cls k : Nat) : Nat := if k = 0 then 0 else leAt corr (0x1800 + 0x80 * cls + 2 * k) 2

/-- The words from `i` on with AGE recomputed from the wear map; an uncorrectable wear value leaves its AGE. -/
def ageWords (s : State) (corr : Bytes) (i : Nat) (b : Bytes) : Bytes :=
  match b with
  | b0 :: b1 :: b2 :: b3 :: rest =>
    let w := leAt [b0, b1, b2, b3] 0 4
    let w := if corr.isEmpty || eccBadAt s (wearAddr i) then w
      else withAge w (ageStep (bootThr corr (calBin w)) (ld16 s (wearAddr i)))
    leBytes 4 w ++ ageWords s corr (i + 1) rest
  | _ => []

/-- The working copy of one lane. -/
def loadLane (corr : Bytes) (n : Nat) (s : State) : State :=
  if lanePresent s n then psWrite (0x21800000 + 65536 * n) (ageWords s corr (16384 * n) (laneImage s n)) s
  else s |> psWrite (0x21800000 + 65536 * n) (List.replicate 16384 ([0, 0, 0, 0x80] : Bytes)).flatten
    |> wr Reg.COR_STATUS_UNCAL 1

/-- Every uncorrectable word of the image is counted and raises MRAM_ECC (R484). -/
def imageEcc (s : State) : State :=
  forEach (s.eccBad.filter (fun w => 0x30400000 ≤ w && w < 0x30400000 + 65536 * laneCount s))
    (fun w s => s |> satInc Reg.MRC_ECCCNT_HIGH 1 |> raise 0x110 (bits w 6 16)) s

/-! ### BOOT_ROM_CHECKS (R380) -/

/-- The device enters HALT from BOOT (R33). -/
def bootHalt (s : State) : State :=
  { s with dev := { s.dev with bootStep := 0 } } |> setDev .halt |> startRecovery

/-- The boot ROM loads and checks the calibration image and hands over to S0, or enters HALT. -/
def calCheck (s : State) : State :=
  let s := imageEcc s
  let lanes := tileLanes s
  if lanes.any (fun n => lanePresent s n && !laneCrcOk s n) then bootHalt s
  else
    let corr := secD (bindingArea s) 9
    { s with dev := { s.dev with bootStep := 2, fwRuns := true } } |> forEach lanes (loadLane corr) |> setDead

/-- The image in a firmware slot. -/
def fwSlot (s : State) (slot : Nat) : Bytes := ldBytes s (0x30000000 + 0x200000 * slot) 0x200000

/-- Slot `slot` has passed and runs. -/
def fwRun (slot : Nat) (s : State) : State :=
  let b := fwSlot s slot
  { s with sec := { s.sec with fwSvn := leAt b 0x10 4 } }
    |> wr Reg.SEC_BOOT_RUN slot |> wr (if slot = 0 then Reg.SEC_BOOT_AVALID else Reg.SEC_BOOT_BVALID) 1

/-- The boot ROM's checks after the life-cycle record. -/
def fwCheck (s : State) : State :=
  let p := rd s Reg.SEC_BOOT_PREF
  if firmwareOk s (fwSlot s p) then s |> fwRun p |> calCheck
  else if firmwareOk s (fwSlot s (1 - p)) then s |> fwRun (1 - p) |> raise 0x172 0 |> calCheck
  else bootHalt s

/-- BOOT_ROM_CHECKS: a transition marker is resumed first, at the wipes (R383); MRC_BURST_DONE carries them out,
and the row then goes on. -/
def doBootRomChecks (s : State) : State :=
  if s.dev.state == .boot && s.dev.bootStep == 1 then
    match s.sec.marker with
    | some _ =>
      if s.sec.wipes.isEmpty then
        { s with sec := { s.sec with wipes := wipeList (lcCode s) } } |> raise 0x173 0
      else s
    | none => fwCheck s
  else s

/-! ### BINDING_LOAD (R373) -/

/-- The tip-in slots that pass R368. -/
def validTips (s : State) : SMap Bytes :=
  (List.range 7).foldl (fun m i =>
    let b := tipArea s (i + 1)
    let body := (b.drop 0x80).take 32 ++ (b.drop 0xC).take 4 ++ leBytes 4 (crc32 (b.take (leAt b 8 4)))
    if tipOk s b then SMap.put m (i + 1) body else m) []

/-- The sections of an image. -/
def sectionMap (b : Bytes) : SMap Bytes :=
  (directory b).foldl (fun m e => SMap.put m e.1 ((b.drop e.2.2.1).take e.2.2.2)) []

/-- REGINIT is written (R372). -/
def writeRegInit (b : Bytes) (s : State) : State :=
  forEach (regInitPairs b) (fun p s => match fieldsAt p.1 with | some fs => putRwl fs p.2 s | none => s) s

/-- An EQ entry that R203 accepts. -/
def eqOk (e : Bytes) : Bool :=
  bits (byteAt e 0) 2 2 != 3 && bits (byteAt e 0) 6 2 == 0 && bits (byteAt e 1) 3 5 == 0 && leAt e 2 2 ≤ 640 &&
    leAt e 4 4 == 0

/-- One entry of EQ goes to its lane (R203); a lane of the tile map, and a partner lane in pair operation, is
enabled (log entry 16). -/
def writeEq (used : Bool) (n : Nat) (e : Bytes) (s : State) : State :=
  if eqOk e then
    s |> wr (Reg.TLK_LN_EQ_SWING n) (bits (byteAt e 0) 0 2) |> wr (Reg.TLK_LN_EQ_DEEMPH n) (bits (byteAt e 0) 2 2)
      |> wr (Reg.TLK_LN_EQ_TXPOL n) (bits (byteAt e 0) 4 1) |> wr (Reg.TLK_LN_EQ_RXPOL n) (bits (byteAt e 0) 5 1)
      |> wr (Reg.TLK_LN_EQ_CTLE n) (bits (byteAt e 1) 0 3) |> wr (Reg.TLK_LN_FLIGHT_FLIGHT n) (leAt e 2 2)
      |> when used (wr (Reg.TLK_LN_FLIGHT_EN n) 1)
  else s |> wr (Reg.TLK_LN_FLIGHT_EN n) 0 |> raise 0x0B5 n

/-- Lanes with EN = 1 among the tile lanes. -/
def enabledLanes (s : State) : List Nat := (List.range 64).filter (fun n => rdb s (Reg.TLK_LN_FLIGHT_EN n))

/-- Fmax and the delays D(l) (R204). -/
def setDelays (s : State) : State :=
  let ls := enabledLanes s
  let fmax := ls.foldl (fun m n => max m (rd s (Reg.TLK_LN_FLIGHT_FLIGHT n))) 0
  s |> wr Reg.TLK_FLIGHTMAX_FMAX fmax
    |> forEach (List.range 64) (fun n s => wr (Reg.TLK_LN_FLIGHT_DELAY n)
        (if rdb s (Reg.TLK_LN_FLIGHT_EN n) then roundDiv (fmax - rd s (Reg.TLK_LN_FLIGHT_FLIGHT n)) 8 else 0) s)

/-- The EQ table is written (R203). -/
def writeEqTable (pair : Bool) (s : State) : State :=
  let eq := bindSec s 2
  let used := fun (n : Nat) => if n < 64 then (mapLanes s).contains n else pair
  s |> forEach (List.range 66) (fun n => writeEq (used n) n ((eq.drop (8 * n)).take 8)) |> setDelays

/-- Meshes, the default beam, library map 0 and the correction tables are loaded (R112, R185, R370). The pixel
store gives the plate beam no place of its own; it stays in the binding (log entry 17). -/
def loadTables (s : State) : State :=
  let m := bindSec s 4
  s |> forEach (List.range (m.length / 4420)) (fun i => psWrite (0x21E00000 + 0x2000 * i) ((m.drop (4420 * i)).take 4420))
    |> storeMap 0x21E08000 (bindSec s 5) |> loadEnv 0 0 |> storeCorTables (bindSec s 9)

/-- Severities of the binding (R419). -/
def loadSeverities (s : State) : State :=
  let b := bindSec s 0x0B
  forEach (List.range 512) (fun i s =>
    let v := byteAt b i
    if v = 0xFF || (faultRow i).isNone then s else wr (Reg.FCL_SEV i) v s) s

/-- The SAFETY section goes to the fender, which checks its CMAC, and to the last-gate registers (R386). -/
def loadSafety (s : State) : State :=
  let b := bindSec s 0x0A
  let ok := Config.cmac (SMap.getD s.sec.keys 2 []) (b.take 0x2140) == b.drop 0x2140
  let s := s |> wr Reg.COR_GATE_CAP_LITCAP (leAt b 4 2) |> wr Reg.COR_GATE_CAP_SLCAP (leAt b 6 2)
    |> wr Reg.COR_GATE_BUDGET_TILEMEAN (leAt b 8 2) |> wr Reg.COR_GATE_BUDGET_FLUX (leAt b 0xA 2)
    |> wr Reg.COR_GATE_SLROW_ROWLIM (leAt b 0xC 2) |> wr Reg.COR_GATE_SLROW_RISE (leAt b 0xE 2)
    |> wr Reg.PWC_P_FB_MASK (bits (leAt b 0 2) 1 2)
  if ok then
    { s with fender := { s.fender with safety := some b } } |> wr Reg.FST_CFGOK 1 |> wr Reg.FST_RUN 1
  else s |> wr Reg.FST_CFGOK 0 |> raise 0x1A5 0

/-- The DEVICE record (R370): hold-up, recovery timer, pair operation. -/
def loadDevice (s : State) : State :=
  let b := bindSec s 0x0D
  let pair := bit (leAt b 0 2) 1
  { s with pilot := { s.pilot with recovS := leAt b 4 2 } }
    |> wr Reg.MRC_HOLDCFG_CUF (min 65535 (leAt b 8 4)) |> wr Reg.MRC_HOLDCFG_VMIN (leAt b 0xC 2)
    |> wr Reg.ITC_STATUS_PAIR (b2n pair) |> wr Reg.PTN_CTRL_EN (b2n pair)
    |> wr Reg.PWC_DOMLOCK_MAP (if pair then 0 else 0x40)

/-- The LOCK bits that S0 sets at the end of the load (R373, R384). -/
def lockAfterBind (s : State) : State :=
  forEach [Reg.GTE_CTRL_LOCK, Reg.ZNE_CTRL_LOCK, Reg.COR_CTRL_LOCK, Reg.SWP_CTRL_LOCK, Reg.SNS_CTRL_LOCK,
    Reg.TLK_CTRL_LOCK, Reg.TPR_CTRL_LOCK, Reg.ETH_CTRL_LOCK, Reg.NTM_CTRL_LOCK, Reg.HIF_LINKCTRL_LOCK,
    Reg.SEC_CTRL_LOCK] setLock s

/-- A valid binding is loaded. -/
def loadBinding (b : Bytes) (tips : SMap Bytes) (s : State) : State :=
  let pair := bit (leAt (secD b 0x0D) 0 2) 1
  let keys := (unwrapKeys s (secD b 0x0C) pair).getD []
  let img := b.take (leAt b 8 4)
  let s := { s with sec := { s.sec with
    sections := sectionMap b, tips := tips, keys := keys
    bindVer := leAt b 0xC 4, bindCrc := crc32 img, bindSvn := leAt b 0x10 4 } }
  let held := (List.range 7).foldl (fun m i => if (SMap.find keys (i + 1)).isSome then m + 2 ^ i else m) 0
  let vmask := tips.foldl (fun m e => m + 2 ^ (e.1 - 1)) 0
  let s := s |> wr Reg.SEC_BOOT_BIND 1 |> wr Reg.SEC_BOOT_TIPINS vmask |> wr Reg.SEC_KEYST_KID held
    |> writeRegInit (bindSec s 0x0E) |> writeEqTable pair |> loadTables |> loadSeverities |> loadSafety |> loadDevice
  (commitStopped (stageTip (byteAt (bindSec s 0x0D) 2) s)).1 |> lockAfterBind

/-- S0 enters STANDBY: its watchdog runs at 100 ms (R436), the pads are released, the level of STANDBY follows,
a WAKE_FAIL reaches FCL (R457, R459, R465). -/
def bootStandby (s : State) : State :=
  { s with dev := { s.dev with bootStep := 0 }, core0 := { s.core0 with wdogAt := some s.now } }
    |> wr (Reg.ITC_T_WDOG_MS 0) 100 |> wr (Reg.ITC_T_WDOG_EN 0) 1
    |> setDev .standby |> doPadrelWrite |> relevel
    |> when (rdb s Reg.PWC_P_WAKE_WAKE_FAIL) (raise 0x1B1 0)
    |> setEmber |> setFaultN

/-- BINDING_LOAD. A binding that is absent or invalid leaves the device unbound (R374). -/
def doBindingLoad (e : Env) (s : State) : State :=
  if s.dev.state == .boot && s.dev.bootStep == 2 then
    let s := atTime e.t s
    let b := bindingArea s
    let tips := validTips s
    let s := forEach ((List.range 7).filter (fun i => (SMap.find tips (i + 1)).isNone)) (fun i => raise 0x171 (i + 1)) s
    if bindingOk s b && bindingFurtherOk s b tips then
      s |> loadBinding b tips |> bootStandby |> s1Start |> autoLightOn
    else s |> raise 0x170 0 |> wr Reg.SEC_KEYST_KP 1 |> wr Reg.PWC_DOMLOCK_MAP 0x40 |> setLock Reg.SEC_CTRL_LOCK
      |> bootStandby
  else s

/-! ### The meanings of the rows -/

/-- BOOT_ENTRY (R456). -/
def execBootEntry (t : Nat) (pairId : Bool) (s : State) : Out :=
  .next (doBootEntry t pairId s)

/-- BOOT_ROM_CHECKS (R380). -/
def execBootRomChecks (s : State) : Out :=
  .next (doBootRomChecks s)

end Sys2Proof.Machine
end

