-- ==== Sys2Proof/Machine/Lanes.lean ====
section
/-! DEFINITION. Amnas lanes (`06_amnas_lanes.md`): training, sync, sleep, test modes, and the loss of the lane
PLL and of REF. Lanes 64 and 65 are the partner lanes. -/

namespace Sys2Proof.Machine

/-- The lane exists on the part (R187). -/
def laneExists (s : State) (n : Nat) : Bool := n < laneCount s || n == 64 || n == 65

/-- A lane before anything happened on it. -/
def laneInit : Lane := { training := none, slip := 0, felbReq := false }

/-- The state of lane `n` beside its registers. -/
def laneOf (s : State) (n : Nat) : Lane := SMap.getD s.lanes n laneInit

/-- Changes the state of lane `n`. -/
def modLane (n : Nat) (f : Lane → Lane) (s : State) : State :=
  { s with lanes := SMap.put s.lanes n (f (laneOf s n)) }

/-- LINK of a lane: 0 DOWN, 1 TRAINING, 2 UP, 3 FAILED; UPMAP follows. -/
def setLink (n v : Nat) (s : State) : State :=
  s |> wr (Reg.TLK_LN_STATUS_LINK n) v |> setMapBit Reg.TLK_UPMAP_LO_MAP Reg.TLK_UPMAP_HI_MAP n (v == 2)

/-- RXST of a lane: 0 SLEEP, 1 SEARCH, 2 SYNC, 3 TEST; SYNCMAP follows. -/
def setRxst (n v : Nat) (s : State) : State :=
  s |> wr (Reg.TLK_LN_STATUS_RXST n) v |> setMapBit Reg.TLK_SYNCMAP_LO_MAP Reg.TLK_SYNCMAP_HI_MAP n (v == 2)

/-- TXST of a lane: 0 SLEEP, 1 TRAIN, 2 RUN, 3 TEST. -/
def setTxst (n v : Nat) (s : State) : State := wr (Reg.TLK_LN_STATUS_TXST n) v s

/-- LINK of a lane. -/
def linkOf (s : State) (n : Nat) : Nat := rd s (Reg.TLK_LN_STATUS_LINK n)

/-- LANE_CFG for lane `n` (R201, R209, R211, R212). -/
def laneCfg (n : Nat) (s : State) : State := raise 0x0B5 n s

/-- A lane whose loss of sync and errors raise a fault: in service, or a partner lane whose link is up (R196, R516,
log entry 19). -/
def laneBusy (s : State) (n : Nat) : Bool := if n < 64 then inService s n else linkOf s n == 2

/-! ### Training sets (R198) -/

/-- CHK of the bytes 1 to 6. -/
def trainChk (b : Bytes) : Nat := (b.take 6).foldl (fun a x => a ^^^ x.toNat) 0

/-- The bytes 1 to 7 of a training set with byte 1 at `d`: good CHK and no error symbol. -/
def trainSetOk (d : Nat) (b : Bytes) (err : Bool) : Bool :=
  !err && b.length == 7 && byteAt b 0 == d && trainChk b == byteAt b 6

/-- The port that a device sends in TSA: 1 for device 2 of a pair (R511). -/
def tsaPort (s : State) (n : Nat) : Nat := b2n (pairOp s && s.pilot.pairId && n < 64)

/-- TSA leaves on lane `n` with READY and FELB as given. -/
def sendTsa (n : Nat) (ready felb : Bool) (s : State) : State :=
  let b := [0x4A, BitVec.ofNat 8 n,
    BitVec.ofNat 8 (tsaPort s n + 2 * b2n ready + 4 * b2n felb + 8 * b2n (decide (64 ≤ n))), 0x01, 0x4A, 0x4A]
  send (.train n 0x4A (b ++ leBytes 1 (trainChk b))) s

/-! ### Training (R199 to R201) -/

/-- An attempt starts: TX and RX on, TSA with READY = 0. -/
def startAttempt (n k : Nat) (s : State) : State :=
  s |> modLane n (fun l => { l with training := some ⟨k, 0, false, false⟩ })
    |> wr (Reg.TLK_LN_CTRL_TX_ON n) 1 |> wr (Reg.TLK_LN_CTRL_RX_ON n) 1
    |> setTxst n 1 |> when (rd s (Reg.TLK_LN_STATUS_RXST n) != 2) (setRxst n 1)
    |> wrapInc (Reg.TLK_LN_LOSS_TRAINS n) 1 |> setLink n 1 |> sendTsa n false false

/-- TLK_TRAIN_WRITE (R199, R201). -/
def doTlkTrainWrite (n : Nat) (s : State) : State :=
  if !mainOn s.dev.state || !laneExists s n then s
  else if inService s n || linkOf s n == 1 then laneCfg n s
  else startAttempt n 1 s

/-- Training ends with LINK at `v`. -/
def endTraining (n v : Nat) (s : State) : State :=
  s |> modLane n (fun l => { l with training := none }) |> setLink n v

/-- LANE_TRAIN completes: OK with TLK.LNn_ID, or HW_FAULT (R362). -/
def trainDone (n status : Nat) (s : State) : State :=
  let idw := rd s (Reg.TLK_LN_ID_TYPE n) + rd s (Reg.TLK_LN_ID_LANE n) * 2 ^ 16 + rd s (Reg.TLK_LN_ID_REV n) * 2 ^ 24
  finishKind (fun k => k == .laneTrain n) status (if status = 0 then idw else 0) 0 s

/-- A partner lane comes up: CNT counts from 0 where the other lane is not up, and the latency measured is open
(R513, log entry 5). -/
def partnerUp (n : Nat) (s : State) : State :=
  let other := if n = 64 then 65 else 64
  let (lat, s) := freeBelow 65536 s
  let s := wr Reg.PTN_LAT_NS lat s
  if linkOf s other = 2 then s else { s with ptn := { s.ptn with txCnt := 0, rxCnt := none } }

/-- The lane is trained (R199). -/
def trained (n : Nat) (s : State) : State :=
  s |> endTraining n 2 |> setTxst n 2 |> fire 0x20 |> when (64 ≤ n) (partnerUp n) |> trainDone n 0

/-- A valid TSB during training. -/
def tsbTraining (n : Nat) (b : Bytes) (tr : Training) (s : State) : State :=
  let s := s |> wr (Reg.TLK_LN_ID_LANE n) (byteAt b 1) |> wr (Reg.TLK_LN_ID_TYPE n) (leAt b 3 2)
    |> wr (Reg.TLK_LN_ID_REV n) (byteAt b 5)
  if byteAt b 1 != n then s |> endTraining n 3 |> raise 0x0B3 n |> trainDone n 11
  else if tr.ready && bit (byteAt b 2) 1 then trained n s
  else if bits (byteAt b 2) 0 1 != tsaPort s n then modLane n (fun l => { l with training := some { tr with run := 0 } }) s
  else
    let run := tr.run + 1
    if !tr.ready && 16 ≤ run then
      s |> modLane n (fun l => { l with training := some { tr with run := run, ready := true } }) |> sendTsa n true false
    else modLane n (fun l => { l with training := some { tr with run := run } }) s

/-- TSB_RECEIVE (R199, R200, R211). -/
def doTsbReceive (n : Nat) (set : Bytes) (err : Bool) (s : State) : State :=
  if !mainOn s.dev.state || !laneExists s n then s
  else
    let l := laneOf s n
    let ok := trainSetOk 0xB5 set err && bits (byteAt set 2) 3 5 == 0
    match l.training with
    | some tr =>
      if tr.idle then s
      else if ok then tsbTraining n set tr s
      else modLane n (fun l => { l with training := some { tr with run := 0 } }) s
    | none =>
      if ok && l.felbReq && bit (byteAt set 2) 2 then
        s |> modLane n (fun l => { l with felbReq := false }) |> wr (Reg.TLK_LN_STATUS_FELB n) 1
      else s

/-- TRAIN_ATTEMPT_TIMEOUT (R200). -/
def doTrainAttemptTimeout (n : Nat) (s : State) : State :=
  match (laneOf s n).training with
  | some tr =>
    if tr.idle then s
    else if tr.attempt < 3 then modLane n (fun l => { l with training := some { tr with idle := true } }) s
    else s |> endTraining n 3 |> raise 0x0B2 n |> trainDone n 11
  | none => s

/-- TRAIN_IDLE_END (R200): the next attempt. -/
def doTrainIdleEnd (n : Nat) (s : State) : State :=
  match (laneOf s n).training with
  | some tr => if tr.idle then startAttempt n (tr.attempt + 1) s else s
  | none => s

/-! ### Sync (R194 to R196, R213) -/

/-- RX_SYNC_ACQUIRE (R194). -/
def doRxSyncAcquire (n : Nat) (s : State) : State :=
  if mainOn s.dev.state && laneExists s n && rd s (Reg.TLK_LN_STATUS_RXST n) == 1 &&
      rdb s (Reg.TLK_LN_CTRL_AUTOALIGN n) then
    s |> setRxst n 2 |> wr (Reg.TLK_LN_STATUS_SIGDET n) 1
  else s

/-- LANE_RX_LOSS (R196). -/
def doLaneRxLoss (n : Nat) (s : State) : State :=
  if mainOn s.dev.state && laneExists s n && rd s (Reg.TLK_LN_STATUS_RXST n) == 2 then
    s |> setRxst n 1 |> when (n == 64) (wr Reg.PTN_STATUS_LANE64 0) |> when (n == 65) (wr Reg.PTN_STATUS_LANE65 0)
      |> when (laneBusy s n) (fun s => s |> satInc (Reg.TLK_LN_LOSS_SYNCLOSS n) 1 |> raise 0x0B1 n)
  else s

/-- One lane of LANE_ERR_SECOND: the CV and DISP events of the second. -/
def laneErrs (n cv disp : Nat) (s : State) : State :=
  let lim := rd s Reg.TLK_ERRLIM_LIMIT
  s |> satInc (Reg.TLK_LN_ERR_CV n) cv |> satInc (Reg.TLK_LN_ERR_DISP n) disp
    |> when (laneBusy s n && lim != 0 && lim < cv + disp) (raise 0x0B4 n)

/-- LANE_ERR_SECOND: CV and DISP of lane n of this second stand at 2n and 2n + 1 of the list (R193). -/
def doLaneErrSecond (counts : List Nat) (s : State) : State :=
  if mainOn s.dev.state then
    forEach ((List.range 66).filter (laneExists s))
      (fun n => laneErrs n (counts.getD (2 * n) 0) (counts.getD (2 * n + 1) 0)) s
  else s

/-- SLIP_WRITE (R213). -/
def doSlipWrite (n : Nat) (s : State) : State :=
  if mainOn s.dev.state && laneExists s n && !rdb s (Reg.TLK_LN_CTRL_AUTOALIGN n) then
    modLane n (fun l => { l with slip := (l.slip + 1) % 10 }) s
  else s

/-! ### Sleep and test modes (R207 to R212) -/

/-- A loopback or a pattern is selected. -/
def laneTesting (s : State) (n : Nat) : Bool := rdb s (Reg.TLK_LN_CTRL_LB n) || rdb s (Reg.TLK_LN_CTRL_PRBS n)

/-- TXST and RXST where no training runs. -/
def settleDirs (n : Nat) (s : State) : State :=
  if laneTesting s n then s |> setTxst n 3 |> setRxst n 3
  else
    let tx := rdb s (Reg.TLK_LN_CTRL_TX_ON n)
    let rx := rdb s (Reg.TLK_LN_CTRL_RX_ON n)
    s |> setTxst n (if tx then 2 else 0) |> setRxst n (if rx then 1 else 0)

/-- TX_ON_WRITE (R201, R207 to R209). -/
def doTxOnWrite (n : Nat) (on : Bool) (s : State) : State :=
  if !mainOn s.dev.state || !laneExists s n then s
  else if inService s n then when (!on) (laneCfg n) s
  else if on then
    s |> wr (Reg.TLK_LN_CTRL_TX_ON n) 1 |> when (rd s (Reg.TLK_LN_STATUS_TXST n) == 0) (setTxst n 2)
  else s |> wr (Reg.TLK_LN_CTRL_TX_ON n) 0 |> endTraining n 0 |> setTxst n 0

/-- RX_ON_WRITE (R207 to R209). -/
def doRxOnWrite (n : Nat) (on : Bool) (s : State) : State :=
  if !mainOn s.dev.state || !laneExists s n then s
  else if inService s n then when (!on) (laneCfg n) s
  else if on then
    s |> wr (Reg.TLK_LN_CTRL_RX_ON n) 1 |> when (rd s (Reg.TLK_LN_STATUS_RXST n) == 0) (setRxst n 1)
  else s |> wr (Reg.TLK_LN_CTRL_RX_ON n) 0 |> setRxst n 0 |> wr (Reg.TLK_LN_STATUS_SIGDET n) 0

/-- LB of a lane takes a value: leaving far-end loopback sends electrical idle, and the far end awaits
training (R211). -/
def setLoopback (n lb : Nat) (s : State) : State :=
  let old := rd s (Reg.TLK_LN_CTRL_LB n)
  let up := linkOf s n == 2
  s |> wr (Reg.TLK_LN_CTRL_LB n) lb
    |> when (old == 3 && lb != 3) (fun s =>
        s |> modLane n (fun l => { l with felbReq := false }) |> wr (Reg.TLK_LN_STATUS_FELB n) 0 |> setLink n 0)
    |> settleDirs n
    |> when (lb == 3 && old != 3 && up) (fun s =>
        s |> modLane n (fun l => { l with felbReq := true }) |> sendTsa n false true)

/-- LOOPBACK_WRITE (R210 to R212). -/
def doLoopbackWrite (n lb : Nat) (s : State) : State :=
  if !mainOn s.dev.state || !laneExists s n then s
  else if inService s n || (64 ≤ n && lb == 3) then laneCfg n s
  else setLoopback n (lb % 4) s

/-- PRBS_WRITE (R210, R212). -/
def doPrbsWrite (n pat : Nat) (s : State) : State :=
  if !mainOn s.dev.state || !laneExists s n then s
  else if inService s n then laneCfg n s
  else if pat = 3 then s
  else s |> wr (Reg.TLK_LN_CTRL_PRBS n) pat |> settleDirs n

/-- LANE_TEST_END (R362): LB and PRBS return to 0 and LANE_TEST completes. -/
def doLaneTestEnd (n : Nat) (s : State) : State :=
  if s.waits.any (fun w => w.kind == .laneTest n) then
    let e := rd s (Reg.TLK_LN_PRBS_ERRBITS n)
    let c := rd s (Reg.TLK_LN_ERR_CV n) + rd s (Reg.TLK_LN_ERR_DISP n)
    s |> setLoopback n 0 |> wr (Reg.TLK_LN_CTRL_PRBS n) 0 |> settleDirs n
      |> finishKind (fun k => k == .laneTest n) 0 e c
  else s

/-! ### The lane PLL and REF (R188, R214, R461) -/

/-- LANE_PLL_LOCK (R188). -/
def doLanePllLock (s : State) : State :=
  if mainOn s.dev.state && rdb s Reg.TLK_CTRL_PLL_EN && s.pilot.refOk then wr Reg.TLK_STATUS_PLL_LOCK 1 s else s

/-- The PLL loses lock: every lane is down. -/
def pllDown (s : State) : State :=
  let s := s |> wr Reg.TLK_STATUS_PLL_LOCK 0 |> wr Reg.TLK_STATUS_PLL_LOST 1
  forEach ((List.range 66).filter (fun n => linkOf s n != 0 || rd s (Reg.TLK_LN_STATUS_RXST n) != 0))
    (fun n s => s |> endTraining n 0 |> when (rd s (Reg.TLK_LN_STATUS_RXST n) == 2) (setRxst n 1) |> trainDone n 11) s

/-- LANE_PLL_LOSS (R214). -/
def doLanePllLoss (e : Env) (s : State) : State :=
  if mainOn s.dev.state && rdb s Reg.TLK_STATUS_PLL_LOCK then
    s |> atTime e.t |> pllDown |> faultReact [⟨0x0B0, 0x25, 0, none⟩]
  else s

/-- REF_STOP (R461): STK, FAB and HIF run from the RC oscillator, NTC stops, REF_FAIL is raised, and the lane
PLL loses lock. -/
def doRefStop (s : State) : State :=
  if mainOn s.dev.state && s.pilot.refOk then
    let s := { s with
      rawHeld := rawNow s, ntcOn := false
      pilot := { s.pilot with refOk := false }
      dev := { s.dev with rc := true } }
    s |> wr Reg.PWC_STATUS_REF_RC 1 |> raise 0x010 0
      |> when (rdb s Reg.TLK_STATUS_PLL_LOCK) (fun s => s |> pllDown |> raise 0x0B0 0)
  else s

/-! ### The meanings of the rows -/

/-- LANE_PLL_LOCK (R188). -/
def execLanePllLock (s : State) : Out :=
  .next (doLanePllLock s)

/-- REF_STOP (R461). -/
def execRefStop (s : State) : Out :=
  .next (doRefStop s)

/-- TLK_TRAIN_WRITE (R199). -/
def execTlkTrainWrite (n : Nat) (s : State) : Out :=
  .next (doTlkTrainWrite n s)

/-- TSB_RECEIVE (R199). -/
def execTsbReceive (n : Nat) (set : Bytes) (err : Bool) (s : State) : Out :=
  .next (doTsbReceive n set err s)

/-- TRAIN_ATTEMPT_TIMEOUT (R200). -/
def execTrainAttemptTimeout (n : Nat) (s : State) : Out :=
  .next (doTrainAttemptTimeout n s)

/-- TRAIN_IDLE_END (R200). -/
def execTrainIdleEnd (n : Nat) (s : State) : Out :=
  .next (doTrainIdleEnd n s)

/-- RX_SYNC_ACQUIRE (R194). -/
def execRxSyncAcquire (n : Nat) (s : State) : Out :=
  .next (doRxSyncAcquire n s)

/-- LANE_RX_LOSS (R196). -/
def execLaneRxLoss (n : Nat) (s : State) : Out :=
  .next (doLaneRxLoss n s)

/-- LANE_ERR_SECOND (R193). -/
def execLaneErrSecond (counts : List Nat) (s : State) : Out :=
  .next (doLaneErrSecond counts s)

/-- SLIP_WRITE (R213). -/
def execSlipWrite (n : Nat) (s : State) : Out :=
  .next (doSlipWrite n s)

/-- TX_ON_WRITE (R207). -/
def execTxOnWrite (n : Nat) (on : Bool) (s : State) : Out :=
  .next (doTxOnWrite n on s)

/-- RX_ON_WRITE (R207). -/
def execRxOnWrite (n : Nat) (on : Bool) (s : State) : Out :=
  .next (doRxOnWrite n on s)

/-- LOOPBACK_WRITE (R210). -/
def execLoopbackWrite (n lb : Nat) (s : State) : Out :=
  .next (doLoopbackWrite n lb s)

/-- PRBS_WRITE (R210). -/
def execPrbsWrite (n pat : Nat) (s : State) : Out :=
  .next (doPrbsWrite n pat s)

/-- LANE_TEST_END (R362). -/
def execLaneTestEnd (n : Nat) (s : State) : Out :=
  .next (doLaneTestEnd n s)

end Sys2Proof.Machine
end

