-- ==== Sys2Proof/Machine/Tile.lean ====
section
/-! DEFINITION. The tile (`07_tile_protocol.md`): line packets, broadcast and command sets, phase boundaries,
tile states, plates, ports, and the far end's training responder. -/

namespace Sys2Proof.Machine

/-! ### Tiles by lane -/

/-- A far end that is not training. -/
def farInit : FarEnd := { answering := false, ready := false, loopback := false }

/-- The values of R235, wiped and DARK (R234). -/
def tileInit : Tile :=
  { powered := false, state := .dark, cause := 0, sync := false, supply := false, frontSeq := 0, front := [],
    backSeq := [], back := [], lastEvt := 0, lastSeq := 0, sets := { wipe := false, plate := false, coast := false },
    resume := none, plateCap := none, plate := [], plateSeq := 0, plateV := false, plateCrc := 0, sel := [],
    selPend := [], probes := [], results := [], darkRow := none, darkAck := 0xFFFF, coastLim := 250,
    timing := 0x0501, oldTiming := 0x0501, role := 0, port := 0, autoPort := false, ref := 0, refPend := none,
    badSet := 0, lcrc := 0, lcrcAll := 0, xmisCnt := 0, badRun := 0, otherRun := 0, crcA := [], crcB := [], other := none,
    phase := 0, far := farInit }

/-- The tile of lane `n`. -/
def tileOf (s : State) (n : Nat) : Tile := SMap.getD s.tiles n tileInit

/-- Sets the tile of lane `n`. -/
def setTile (n : Nat) (t : Tile) (s : State) : State := { s with tiles := SMap.put s.tiles n t }

/-- Lane `n` has a tile that is powered. -/
def tileOn (s : State) (n : Nat) : Bool := n < laneCount s && (tileOf s n).powered

/-- State codes of R40. -/
def tcode (t : TState) : Nat := match t with | .live => 0 | .coast => 1 | .plate => 2 | .dark => 3

/-- `a` is `b` or comes before it in the count of R57. -/
def seqLe (a b : Nat) : Bool := (b + 2 ^ 32 - a % 2 ^ 32) % 2 ^ 32 < 2 ^ 31

/-! ### Signatures (R238) -/

/-- The values of keys 0 to n − 1 of a table, as little-endian halfwords. -/
def denseCodes (m : SMap Nat) (n : Nat) : Bytes :=
  let put := fun (acc : Bytes × Nat) (e : Nat × Nat) =>
    if e.1 < n then (acc.1 ++ zeroBytes (2 * (e.1 - acc.2)) ++ leBytes 2 e.2, e.1 + 1) else acc
  let r := m.foldl put ([], 0)
  r.1 ++ zeroBytes (2 * (n - r.2))

/-- The display signature of a frame: its SEQ and its 128 rows. -/
def displaySig (sq : Nat) (codes : SMap Nat) : Nat := crc32 (leBytes 4 sq ++ denseCodes codes 16384)

/-! ### Upstream packets (R226) -/

/-- A packet leaves the tile: TYPE and payload. -/
def sendUp (n type : Nat) (payload : Bytes) (s : State) : State := send (.up n (leBytes 1 type ++ payload)) s

/-- TSTATE of FTEL and SNAPR. -/
def tstate (t : Tile) : Nat :=
  tcode t.state + t.port % 2 * 4 + 8 * b2n t.plateV + t.ref % 2 * 16 + 32 * b2n t.autoPort

/-- The temperature and the two references as the tile's sensors read them: free values (log entry 5). -/
def tileSensors (s : State) : Bytes × State :=
  let (a, s) := freeBelow 65536 s
  let (b, s) := freeBelow 65536 s
  let (c, s) := freeBelow 65536 s
  (leBytes 2 a ++ leBytes 2 b ++ leBytes 2 c, s)

/-- The 64 probe results of a displayed frame that ended: those run, then those not run. -/
def probeField (t : Tile) : Bytes :=
  let run := t.results.flatMap (fun r => leBytes 4 (r.pixel + r.mode * 2 ^ 14 + r.value * 2 ^ 16))
  let left := (t.probes.filter (fun p => p.seq == t.lastSeq)).flatMap
    (fun p => leBytes 4 (p.pixel + p.mode * 2 ^ 14 + 0xFFFF * 2 ^ 16))
  let used := run ++ left
  used.take 256 ++ (List.replicate ((256 - used.length) / 4) ([0, 0, 0xFF, 0xFF] : Bytes)).flatten

/-- FTEL leaves with EVENT `ev`, and what it reports since the last FTEL starts again. COASTMS in COAST is open
within the tolerance of R233 (R555, log entry 5). -/
def sendFtel (n ev : Nat) (s : State) : State :=
  let t := tileOf s n
  let (sens, s) := tileSensors s
  let (ms, s) := if t.state == .coast then freeBelow (t.coastLim * 105 / 100 + 1) s else (0, s)
  let b := leBytes 4 t.frontSeq ++ leBytes 4 (displaySig t.frontSeq t.front) ++ leBytes 1 ev ++ leBytes 1 (tstate t) ++
    leBytes 1 t.cause ++ leBytes 1 (min 255 t.badSet) ++ sens ++ leBytes 4 t.plateCrc ++ leBytes 2 t.lcrc ++
    leBytes 2 t.xmisCnt ++ leBytes 2 t.darkAck ++ leBytes 2 ms ++ zeroBytes 2 ++ probeField t
  let t := { t with autoPort := false, badSet := 0, lcrc := 0, xmisCnt := 0 }
  s |> setTile n t |> sendUp n 2 b

/-! ### Tile states (R232, R233, R236) -/

/-- The tile enters a state of its own accord, with a cause. -/
def ownState (st : TState) (cause : Nat) (t : Tile) : Tile := { t with state := st, cause := cause }

/-- The plate fails the tile's check: it is no longer valid. -/
def plateGood (t : Tile) : Bool := t.plateV && displaySig t.plateSeq t.plate == t.plateCrc

/-- The tile marks its plate invalid. -/
def dropPlate (t : Tile) : Tile := { t with plateV := false, plateCrc := 0 }

/-- Entry to PLATE with the check of the plate before it is shown; a plate that fails leads to DARK with
CAUSE 5 (R236). -/
def showPlate (t : Tile) : Tile := if plateGood t then { t with state := .plate } else ownState .dark 5 (dropPlate t)

/-- WIPE (R234). -/
def wipeTile (t : Tile) : Tile :=
  { dropPlate t with
    state := .dark, front := [], back := [], backSeq := [], plate := [], plateSeq := 0, plateCap := none, sel := [],
    selPend := [], probes := [], darkRow := none }

/-- PLATE (R233). -/
def plateTile (t : Tile) : Tile :=
  match t.state with
  | .live => if t.plateV then showPlate t else ownState .dark 5 t
  | .coast => if t.plateV then showPlate t else ownState .dark 5 t
  | .dark => if t.plateV && t.supply then showPlate t else t
  | .plate => t

/-- COAST (R233). -/
def coastTile (t : Tile) : Tile := if t.state == .live then { t with state := .coast } else t

/-- The pending sets of a boundary in the order of R229; a reference selected takes effect. -/
def boundarySets (t : Tile) : Tile :=
  let t := { t with ref := t.refPend.getD t.ref, refPend := none }
  let t := if t.sets.wipe then wipeTile t else t
  let t := if t.sets.plate then plateTile t else t
  let t := if t.sets.coast then coastTile t else t
  { t with sets := { wipe := false, plate := false, coast := false } }

/-! ### FLIP, SEAM and ABORT (R231) -/

/-- SEQ of the frame that the back buffer qualifies as at FLIP `f`. -/
def qualifies (t : Tile) (f : Nat) : Option Nat :=
  let all := fun (q : Nat) => (List.range 128).all (fun r => SMap.find t.backSeq r == some q)
  let prev := (f + 2 ^ 32 - 1) % 2 ^ 32
  if all f then some f else if t.lastEvt = 2 && t.lastSeq = prev && all prev then some prev else none

/-- Selects that a flip to frame `q` brings into effect (R230). -/
def applySel (q : Nat) (t : Tile) : Tile :=
  let put := fun (m : SMap Nat) (w : SelWr) =>
    (w.sels.zipIdx).foldl (fun m e => SMap.put m (w.line * 128 + w.first + e.2) e.1) m
  let due := t.selPend.filter (fun w => seqLe w.seq q)
  { t with sel := due.foldl put t.sel, selPend := t.selPend.filter (fun w => !seqLe w.seq q) }

/-- The buffers swap to frame `q`. -/
def swapBuffers (q : Nat) (t : Tile) : Tile :=
  applySel q { t with front := t.back, frontSeq := q, back := t.front, backSeq := [] }

/-- PLATECAP naming `f` is carried out at FLIP `f` in LIVE, or lapses (R236). -/
def capturePlate (f : Nat) (flip : Bool) (t : Tile) : Tile :=
  match t.plateCap with
  | some g =>
    if flip && g = f && t.state == .live then
      { t with plate := t.front, plateSeq := t.frontSeq, plateV := true, plateCrc := displaySig t.frontSeq t.front,
               plateCap := none }
    else if seqLe g f || t.state != .live then { t with plateCap := none }
    else t
  | none => t

/-- A RESUME that names FLIP `f` or an earlier one lapses (R233). -/
def lapseResume (f : Nat) (t : Tile) : Tile :=
  { t with resume := match t.resume with
      | some g => if seqLe g f then none else some g
      | none => none }

/-- FLIP `f` (R231, R233). -/
def flipTile (f : Nat) (t : Tile) : Tile :=
  let q := qualifies t f
  match t.state with
  | .live =>
    match q with
    | some q => swapBuffers q (lapseResume f t)
    | none => ownState .coast 1 (lapseResume f t)
  | _ =>
    match t.resume with
    | some g =>
      if g = f then
        match q with
        | some q =>
          if t.supply then swapBuffers q { t with state := .live, resume := none } else { t with resume := none }
        | none => { t with resume := none }
      else lapseResume f t
    | none => t

/-- The tile's displayed frame ends: probes of it and of frames before are spent (R248). -/
def endFrame (f : Nat) (t : Tile) : Tile :=
  { t with probes := t.probes.filter (fun p => p.seq != t.lastSeq && (p.seq == f || !seqLe p.seq f)), results := [],
           darkRow := match t.darkRow with
             | some d => if d.2.2 == f || !seqLe d.2.2 f then some d else none
             | none => none }

/-- The tile acts on an event, 1 FLIP, 2 SEAM, 3 ABORT, at its phase boundary: the pending sets first, then the
event, phase 0 again, FTEL. A WIPE, PLATE or COAST at the boundary of a FLIP stops the flip, one that a RESUME names
too (R229, log entry 88). -/
def tileEvent (n kind f timing : Nat) (s : State) : State :=
  let sets := (tileOf s n).sets
  let t := boundarySets (tileOf s n)
  let t := if t.state == .live then t else { t with plateCap := none }
  let t := if kind = 1 then (if sets.wipe || sets.plate || sets.coast then lapseResume f t else flipTile f t)
    else if kind = 2 then { t with oldTiming := t.timing, timing := timing }
    else { t with back := [], backSeq := [] }
  let t := capturePlate f (kind == 1) t
  let t := if kind != 1 then lapseResume f t else t
  let s := s |> setTile n t |> sendFtel n (if kind = 1 then 0 else if kind = 3 then 1 else 2)
  let t := tileOf s n
  let t := { endFrame f t with lastEvt := kind, lastSeq := f, phase := 0, crcA := [], crcB := [], other := none }
  setTile n t s

/-! ### Broadcast sets (R221, R237) -/

/-- CRC-8 of a broadcast set: K octet and A0 to A5. -/
def setChk (k : Nat) (args : Bytes) : Nat :=
  (((leBytes 1 k) ++ args.take 6).foldl (fun c b => crcMsbByte 8 0x2F c b.toNat) 0xFF) ^^^ 0xFF

/-- A set arrives at a port: it counts on the selected port, or where `either` allows; a bad one is counted. -/
def bsetArrives (n port k : Nat) (b : BSet) (either : Bool) (f : Tile → State → State) (s : State) : State :=
  if !tileOn s n then s
  else
    let t := tileOf s n
    if port != t.port && !either then s
    else if b.err || b.chk != setChk k b.args then
      if port = t.port then setTile n { t with badSet := min 255 (t.badSet + 1) } s else s
    else
      let t := if port = t.port then { t with sync := true } else t
      f t (setTile n t s)

/-- FLIP (R231). -/
def doFlip (n port : Nat) (b : BSet) (s : State) : State :=
  bsetArrives n port 0x1C b false (fun _ => tileEvent n 1 (leAt b.args 0 4) 0) s

/-- SEAM (R231). -/
def doSeam (n port : Nat) (b : BSet) (s : State) : State :=
  bsetArrives n port 0xDC b false (fun _ => tileEvent n 2 (leAt b.args 0 4) (leAt b.args 4 2)) s

/-- ABORT (R231). -/
def doAbort (n port : Nat) (b : BSet) (s : State) : State :=
  bsetArrives n port 0xFE b false (fun _ => tileEvent n 3 (leAt b.args 0 4) 0) s

/-- SNAP (R226): the values are latched and SNAPR leaves. -/
def doSnap (n port : Nat) (b : BSet) (s : State) : State :=
  bsetArrives n port 0x5C b false (fun t s =>
    let (sens, s) := tileSensors s
    sendUp n 4 (leBytes 1 (byteAt b.args 0) ++ leBytes 1 (tstate t) ++ leBytes 2 t.phase ++ leBytes 4 t.frontSeq ++
      sens ++ leBytes 2 t.lcrcAll) s) s

/-- PLATE (R233): it applies at the next phase boundary (R229). -/
def doPlate (n port : Nat) (b : BSet) (s : State) : State :=
  bsetArrives n port 0x7C b false (fun t => setTile n { t with sets := { t.sets with plate := true } }) s

/-- COAST (R233): it applies at the next phase boundary (R229). -/
def doCoast (n port : Nat) (b : BSet) (s : State) : State :=
  bsetArrives n port 0x9C b false (fun t => setTile n { t with sets := { t.sets with coast := true } }) s

/-- The tile selects the other port. -/
def changePort (own : Bool) (t : Tile) : Tile :=
  { t with port := 1 - t.port % 2, autoPort := t.autoPort || own, badRun := 0, otherRun := 0, other := none }

/-- SWITCH (R237): naming the other port, on a dual-ported tile. -/
def doSwitch (n port : Nat) (b : BSet) (s : State) : State :=
  bsetArrives n port 0xF7 b (1 == (tileOf s n).role) (fun t s =>
    if t.role = 1 && byteAt b.args 0 % 2 != t.port then setTile n (changePort false t) s else s) s

/-! ### Line packets (R220, R226, R237) -/

/-- R220: the packet's CRC matches, no error symbol, LINE at most 127. -/
def lineGood (p : LinePkt) : Bool :=
  !p.err && p.line ≤ 127 && crc32 (leBytes 4 p.seq ++ leBytes 1 p.line ++ leBytes 1 p.flags ++ p.codes) == p.crc

/-- The row is written. -/
def writeRow (p : LinePkt) (t : Tile) : Tile :=
  let put := fun (m : SMap Nat) (i : Nat) =>
    let k := p.line * 128 + i
    let c := leAt p.codes (2 * i) 2
    if c = 0 then SMap.del m k else SMap.put m k c
  { t with back := (List.range 128).foldl put t.back, backSeq := SMap.put t.backSeq p.line p.seq }

/-- CRC field of a line as a port carried it. -/
def portCrc (t : Tile) (port line : Nat) : Option Nat := SMap.find (if port = 0 then t.crcA else t.crcB) line

/-- LSTAT leaves. -/
def sendLstat (n : Nat) (p : LinePkt) (ok xmis other : Bool) (s : State) : State :=
  let t := tileOf s n
  let x := if t.role = 1 then ((portCrc t (1 - t.port % 2) p.line).getD 0) % 65536 else 0
  sendUp n 1 (leBytes 2 p.seq ++ leBytes 1 p.line ++
    leBytes 1 (b2n ok + 2 * b2n (decide (127 < p.line)) + 4 * b2n xmis + 8 * b2n other) ++
    leBytes 1 (tcode t.state + 4 * (t.port % 2)) ++ leBytes 1 t.lcrcAll ++ leBytes 2 x) s

/-- One more line fails on the selected port; behind a failed line that the other port has not passed the run starts
again (R237). -/
def failedLine (t : Tile) : Tile :=
  if t.otherRun < t.badRun then { t with badRun := 1, otherRun := 0 } else { t with badRun := t.badRun + 1 }

/-- TILE_LINE_PACKET (R220, R237). -/
def doTileLinePacket (n port : Nat) (p : LinePkt) (s : State) : State :=
  if !tileOn s n then s
  else
    let t := tileOf s n
    if port != t.port && t.role != 1 then s
    else
      let ok := lineGood p
      let away := portCrc t (1 - port % 2) p.line
      let xmis := t.role == 1 && (match away with | some c => c != p.crc | none => false)
      let t := if t.role != 1 then t
        else if port = 0 then { t with crcA := SMap.put t.crcA p.line p.crc }
        else { t with crcB := SMap.put t.crcB p.line p.crc }
      let t := { t with xmisCnt := min 65535 (t.xmisCnt + b2n xmis) }
      if port = t.port then
        let t := { t with sync := true }
        if ok then
          let t := writeRow p { t with badRun := 0, otherRun := 0, other := none }
          s |> setTile n t |> sendLstat n p true xmis false
        else
          let t := failedLine { t with lcrc := min 65535 (t.lcrc + 1), lcrcAll := (t.lcrcAll + 1) % 65536 }
          match (match t.other with | some q => if q.line = p.line then some q else none | none => none) with
          | some q => s |> setTile n (writeRow q { t with otherRun := t.otherRun + 1, other := none }) |> sendLstat n p false xmis true
          | none => s |> setTile n t |> sendLstat n p false xmis false
      else
        let failed := 0 < t.badRun && away.isSome && SMap.find t.backSeq p.line != some p.seq
        if ok && failed then s |> setTile n (writeRow p { t with otherRun := t.otherRun + 1 }) |> sendLstat n p ok xmis true
        else
          let t := if ok then { t with other := some p } else t
          s |> setTile n t |> sendLstat n p ok xmis false

/-! ### Command sets (R224, R225) -/

/-- The CRC of a command set. -/
def csetCrc (opc : Nat) (c : CSet) : Nat :=
  crc32 (leBytes 1 opc ++ leBytes 1 c.tag ++ leBytes 2 c.payload.length ++ c.payload)

/-- A command set arrives at a port: a bad one is discarded and counted; an accepted one is acknowledged with the
RESULT that the action answers: 0 OK, 2 BADPARAM, 3 STATE, 4 LATE, 5 FULL. -/
def csetArrives (n port opc : Nat) (c : CSet) (f : Tile → Tile × Nat) (s : State) : State :=
  if !tileOn s n || port != (tileOf s n).port then s
  else
    let t := tileOf s n
    if c.err || c.crc != csetCrc opc c then setTile n { t with badSet := min 255 (t.badSet + 1) } s
    else
      let (t, res) := f { t with sync := true }
      s |> setTile n t |> sendUp n 3 (leBytes 1 opc ++ leBytes 1 c.tag ++ leBytes 1 res ++ zeroBytes 1)

/-- A TIMING value of the register layout (R83). -/
def timingValid (v : Nat) : Bool := timingOk v

/-- CFG (R224). -/
def doCfg (n port : Nat) (c : CSet) (s : State) : State :=
  csetArrives n port 0x01 c (fun t =>
    let lim := leAt c.payload 0 2
    let tim := leAt c.payload 2 2
    let role := byteAt c.payload 4
    if c.payload.length != 8 || lim < 10 || 1000 < lim || !timingValid tim || 1 < role then (t, 2)
    else if t.state == .live && tim != t.timing then (t, 3)
    else ({ t with coastLim := lim, timing := tim, oldTiming := tim, role := role }, 0)) s

/-- WIPE (R234): it applies at the next phase boundary (R229). -/
def doWipe (n port : Nat) (c : CSet) (s : State) : State :=
  csetArrives n port 0x02 c (fun t =>
    if c.payload.length != 0 then (t, 2) else ({ t with sets := { t.sets with wipe := true } }, 0)) s

/-- RESUME (R233). -/
def doResume (n port : Nat) (c : CSet) (s : State) : State :=
  csetArrives n port 0x03 c (fun t =>
    if c.payload.length != 4 then (t, 2) else ({ t with resume := some (leAt c.payload 0 4) }, 0)) s

/-- SELWR (R230): SEQ 0 takes effect at once; at most 16 wait. -/
def doSelwr (n port : Nat) (c : CSet) (s : State) : State :=
  csetArrives n port 0x04 c (fun t =>
    let sq := leAt c.payload 0 4
    let line := byteAt c.payload 4
    let first := byteAt c.payload 5
    let cnt := byteAt c.payload 6
    if cnt = 0 || 128 < cnt || 127 < line || 128 < first + cnt || c.payload.length != 8 + (cnt + 3) / 4 then (t, 2)
    else
      let w : SelWr := ⟨sq, line, first, (List.range cnt).map (fun i => bits (byteAt c.payload (8 + i / 4)) (2 * (i % 4)) 2)⟩
      if sq = 0 then
        ({ t with sel := (w.sels.zipIdx).foldl (fun m e => SMap.put m (line * 128 + first + e.2) e.1) t.sel }, 0)
      else if 16 ≤ t.selPend.length then (t, 5)
      else ({ t with selPend := t.selPend ++ [w] }, 0)) s

/-- The displayed frame of a SEQ has begun (R225). -/
def begun (t : Tile) (sq : Nat) : Bool := t.lastEvt != 0 && seqLe sq t.lastSeq

/-- PROBES (R224, R248): at most 64 entries for one displayed frame. -/
def doProbes (n port : Nat) (c : CSet) (s : State) : State :=
  csetArrives n port 0x05 c (fun t =>
    let sq := leAt c.payload 0 4
    let k := (c.payload.length - 4) / 4
    let es := (List.range k).map (fun i =>
      let w := leAt c.payload (4 + 4 * i) 4
      (⟨sq, bits w 0 14, bits w 14 2, bits w 16 8⟩ : Probe))
    if c.payload.length < 4 || c.payload.length % 4 != 0 || 64 < k then (t, 2)
    else if begun t sq then (t, 4)
    else if 64 < (t.probes.filter (fun p => p.seq == sq)).length + k then (t, 5)
    else ({ t with probes := t.probes ++ es }, 0)) s

/-- DARKROW (R224). -/
def doDarkrow (n port : Nat) (c : CSet) (s : State) : State :=
  csetArrives n port 0x06 c (fun t =>
    let sq := leAt c.payload 0 4
    if c.payload.length != 8 || 127 < byteAt c.payload 4 then (t, 2)
    else if begun t sq then (t, 4)
    else ({ t with darkRow := some (byteAt c.payload 4, byteAt c.payload 5, sq) }, 0)) s

/-- REFSEL (R224). -/
def doRefsel (n port : Nat) (c : CSet) (s : State) : State :=
  csetArrives n port 0x07 c (fun t =>
    if c.payload.length != 4 || 1 < byteAt c.payload 0 then (t, 2)
    else ({ t with refPend := some (byteAt c.payload 0) }, 0)) s

/-- PLATECAP (R236). -/
def doPlatecap (n port : Nat) (c : CSet) (s : State) : State :=
  csetArrives n port 0x08 c (fun t =>
    if c.payload.length != 4 then (t, 2)
    else if t.state != .live then (t, 3)
    else ({ t with plateCap := some (leAt c.payload 0 4) }, 0)) s

/-! ### Phase boundaries (R227, R229, R248) -/

/-- Phases of a displayed frame under the TIMING that the tile holds. -/
def tilePhases (t : Tile) : Nat := phaseCount (bits t.timing 0 2) (bits t.timing 4 1)

/-- TILE_PHASE_BOUNDARY: the phase in progress ends, with the measurements of the probes run in it, in order; the
pending sets apply; the next phase starts. -/
def doTilePhaseBoundary (n : Nat) (meas : List Nat) (s : State) : State :=
  if !tileOn s n then s
  else
    let t := tileOf s n
    let run := fun (p : Probe) => p.seq == t.lastSeq && p.phase == t.phase && t.lastEvt != 0
    let res := ((t.probes.filter run).zipIdx).map (fun e => (⟨e.1.pixel, e.1.mode, meas.getD e.2 0xFFFF % 65536⟩ : ProbeRes))
    let (dr, da) := match t.darkRow with
      | some d => if d.2.2 == t.lastSeq && d.2.1 == t.phase then (none, d.1 + 256 * d.2.1) else (some d, t.darkAck)
      | none => (none, t.darkAck)
    let t := { t with probes := t.probes.filter (fun p => !run p), results := t.results ++ res, darkRow := dr,
                      darkAck := da }
    let t := boundarySets t
    setTile n { t with phase := (t.phase + 1) % tilePhases t } s

/-! ### Events inside the tile (R232 to R237) -/

/-- TILE_POWER_UP (R234, R235). -/
def doTilePowerUp (n : Nat) (s : State) : State :=
  if n < laneCount s then setTile n { tileInit with powered := true, supply := tgenHigh s (groupOf n) } s else s

/-- A tile acts of its own accord. -/
def tileOwn (n : Nat) (f : Tile → Tile) (s : State) : State := if tileOn s n then setTile n (f (tileOf s n)) s else s

/-- TILE_COAST_EXPIRY (R233). -/
def doTileCoastExpiry (n : Nat) (s : State) : State :=
  tileOwn n (fun t =>
    if t.state == .coast then
      if t.plateV then (if plateGood t then ownState .plate 4 t else ownState .dark 5 (dropPlate t))
      else ownState .dark 4 t
    else t) s

/-- TILE_NOBCAST_TIMEOUT (R232). -/
def doTileNobcastTimeout (n : Nat) (s : State) : State :=
  tileOwn n (fun t => if t.state == .live then ownState .coast 3 t else t) s

/-- The other port of a dual-ported tile has carried a line in this frame, so the tile can switch to it (log
entry 21). -/
def otherPortAlive (t : Tile) : Bool := t.role == 1 && !(if t.port = 0 then t.crcB else t.crcA).isEmpty

/-- TILE_SYNC_LOSS (R232, R237). -/
def doTileSyncLoss (n : Nat) (s : State) : State :=
  tileOwn n (fun t =>
    if otherPortAlive t then changePort true t
    else if t.state == .live then ownState .coast 2 { t with sync := false } else { t with sync := false }) s

/-- TILE_PORT_AUTO_SWITCH (R237): the selected port has no sync and the other is alive, or the selected port has failed
2 consecutive lines that the other has passed. -/
def doTilePortAutoSwitch (n : Nat) (s : State) : State :=
  tileOwn n (fun t => if otherPortAlive t && (!t.sync || 2 ≤ t.otherRun) then changePort true t else t) s

/-- TILE_SUPPLY_LOSS (R234). -/
def doTileSupplyLoss (n : Nat) (s : State) : State :=
  tileOwn n (fun t =>
    let t := { t with supply := false }
    if t.state == .dark then t else ownState .dark 6 t) s

/-- TILE_PLATE_CHECK (R236). -/
def doTilePlateCheck (n : Nat) (s : State) : State :=
  tileOwn n (fun t =>
    if !t.plateV || plateGood t then t
    else if t.state == .plate then ownState .dark 5 (dropPlate t) else dropPlate t) s

/-- TILE_FREE_FTEL (R226): without downstream sync. -/
def doTileFreeFtel (n : Nat) (s : State) : State := if tileOn s n && !(tileOf s n).sync then sendFtel n 3 s else s

/-- The emitter supply of the tiles of the groups whose TGEN is high is present. -/
def supplyUp (s : State) : State :=
  forEach ((tileLanes s).filter (fun n => tgenHigh s (groupOf n)))
    (fun n s => if tileOn s n then setTile n { tileOf s n with supply := true } s else s) s

/-! ### The far end's training responder (R199, R211) -/

/-- The responder of lane `n`. -/
def farOf (s : State) (n : Nat) : FarEnd := if n < 64 then (tileOf s n).far else SMap.getD s.far n farInit

/-- Sets the responder of lane `n`. -/
def setFar (n : Nat) (f : FarEnd) (s : State) : State :=
  if n < 64 then setTile n { tileOf s n with far := f } s else { s with far := SMap.put s.far n f }

/-- TSB leaves the far end of lane `n`: LANE and PORT echoed. -/
def sendTsb (n lane port : Nat) (ready felb : Bool) (s : State) : State :=
  let b := [0xB5, BitVec.ofNat 8 lane, BitVec.ofNat 8 (port + 2 * b2n ready + 4 * b2n felb)] ++
    leBytes 2 (Config.tileType n).toNat ++ [0x01]
  send (.train n 0xB5 (b ++ leBytes 1 (trainChk b))) s

/-- Device 2 of a pair has its end of a partner lane up once it has sent TSB with READY = 1 (log entry 19). -/
def farUp (n : Nat) (s : State) : State :=
  if 64 ≤ n && s.pilot.pairId && mainOn s.dev.state then
    s |> setRxst n 2 |> setTxst n 2 |> setLink n 2 |> partnerUp n
  else s

/-- TSA_RECEIVE (R199, R211). -/
def doTsaReceive (n : Nat) (set : Bytes) (err : Bool) (s : State) : State :=
  if !laneExists s n || (n < 64 && !tileOn s n) then s
  else if !(trainSetOk 0x4A set err && bits (byteAt set 2) 4 4 == 0) then s
  else
    let fl := byteAt set 2
    let f := farOf s n
    let s := if n < 64 then setTile n { tileOf s n with sync := true } s else s
    if bit fl 2 && n < 64 then
      s |> setFar n { f with loopback := true } |> sendTsb n (byteAt set 1) (bits fl 0 1) false true
    else if bit fl 1 then
      if f.answering && !f.ready then
        s |> setFar n { f with ready := true } |> sendTsb n (byteAt set 1) (bits fl 0 1) true false |> farUp n
      else s
    else s |> setFar n { f with answering := true, ready := false, loopback := false }
      |> sendTsb n (byteAt set 1) (bits fl 0 1) false false

/-- TILE_LOOPBACK_EXIT (R211). -/
def doTileLoopbackExit (n : Nat) (s : State) : State :=
  if tileOn s n && (farOf s n).loopback then
    setTile n { tileOf s n with sync := false, far := farInit } s
  else s

/-! ### The meanings of the rows -/

/-- TILE_POWER_UP (R234). -/
def execTilePowerUp (n : Nat) (s : State) : Out :=
  .next (doTilePowerUp n s)

/-- TILE_LINE_PACKET (R220). -/
def execTileLinePacket (n port : Nat) (p : LinePkt) (s : State) : Out :=
  .next (doTileLinePacket n port p s)

/-- TILE_PHASE_BOUNDARY (R229). -/
def execTilePhaseBoundary (n : Nat) (meas : List Nat) (s : State) : Out :=
  .next (doTilePhaseBoundary n meas s)

/-- FLIP (R231). -/
def execFlip (n port : Nat) (b : BSet) (s : State) : Out :=
  .next (doFlip n port b s)

/-- SEAM (R231). -/
def execSeam (n port : Nat) (b : BSet) (s : State) : Out :=
  .next (doSeam n port b s)

/-- ABORT (R231). -/
def execAbort (n port : Nat) (b : BSet) (s : State) : Out :=
  .next (doAbort n port b s)

/-- SNAP (R226). -/
def execSnap (n port : Nat) (b : BSet) (s : State) : Out :=
  .next (doSnap n port b s)

/-- PLATE (R233). -/
def execPlate (n port : Nat) (b : BSet) (s : State) : Out :=
  .next (doPlate n port b s)

/-- COAST (R233). -/
def execCoast (n port : Nat) (b : BSet) (s : State) : Out :=
  .next (doCoast n port b s)

/-- SWITCH (R237). -/
def execSwitch (n port : Nat) (b : BSet) (s : State) : Out :=
  .next (doSwitch n port b s)

/-- TILE_PORT_AUTO_SWITCH (R237). -/
def execTilePortAutoSwitch (n : Nat) (s : State) : Out :=
  .next (doTilePortAutoSwitch n s)

/-- CFG (R224). -/
def execCfg (n port : Nat) (c : CSet) (s : State) : Out :=
  .next (doCfg n port c s)

/-- WIPE (R234). -/
def execWipe (n port : Nat) (c : CSet) (s : State) : Out :=
  .next (doWipe n port c s)

/-- RESUME (R233). -/
def execResume (n port : Nat) (c : CSet) (s : State) : Out :=
  .next (doResume n port c s)

/-- SELWR (R230). -/
def execSelwr (n port : Nat) (c : CSet) (s : State) : Out :=
  .next (doSelwr n port c s)

/-- PROBES (R248). -/
def execProbes (n port : Nat) (c : CSet) (s : State) : Out :=
  .next (doProbes n port c s)

/-- DARKROW (R224). -/
def execDarkrow (n port : Nat) (c : CSet) (s : State) : Out :=
  .next (doDarkrow n port c s)

/-- REFSEL (R224). -/
def execRefsel (n port : Nat) (c : CSet) (s : State) : Out :=
  .next (doRefsel n port c s)

/-- PLATECAP (R236). -/
def execPlatecap (n port : Nat) (c : CSet) (s : State) : Out :=
  .next (doPlatecap n port c s)

/-- TILE_COAST_EXPIRY (R233). -/
def execTileCoastExpiry (n : Nat) (s : State) : Out :=
  .next (doTileCoastExpiry n s)

/-- TILE_NOBCAST_TIMEOUT (R232). -/
def execTileNobcastTimeout (n : Nat) (s : State) : Out :=
  .next (doTileNobcastTimeout n s)

/-- TILE_SYNC_LOSS (R232). -/
def execTileSyncLoss (n : Nat) (s : State) : Out :=
  .next (doTileSyncLoss n s)

/-- TILE_SUPPLY_LOSS (R234). -/
def execTileSupplyLoss (n : Nat) (s : State) : Out :=
  .next (doTileSupplyLoss n s)

/-- TILE_PLATE_CHECK (R236). -/
def execTilePlateCheck (n : Nat) (s : State) : Out :=
  .next (doTilePlateCheck n s)

/-- TILE_FREE_FTEL (R226). -/
def execTileFreeFtel (n : Nat) (s : State) : Out :=
  .next (doTileFreeFtel n s)

/-- TSA_RECEIVE (R199). -/
def execTsaReceive (n : Nat) (set : Bytes) (err : Bool) (s : State) : Out :=
  .next (doTsaReceive n set err s)

/-- TILE_LOOPBACK_EXIT (R211). -/
def execTileLoopbackExit (n : Nat) (s : State) : Out :=
  .next (doTileLoopbackExit n s)

end Sys2Proof.Machine
end

