-- ==== Sys2Proof/Machine/Tpr.lean ====
section
/-! DEFINITION. TPR, the device's side of the tile protocol (`07_tile_protocol.md`): line packets, the command
queue and its placement, acknowledgements, line statuses, snapshots, automatic resume, and lanes in service. -/

namespace Sys2Proof.Machine

/-! ### Line packets (R216 to R218, R238) -/

/-- The row of tile line `l` of lane `n` in a content. -/
def rowOf (rows : SMap (List Nat)) (n l : Nat) : List Nat := SMap.getD rows (n * 128 + l) (List.replicate 128 0)

/-- A row in line-packet order. -/
def rowBytes (row : List Nat) : Bytes := row.flatMap (leBytes 2)

/-- Display signature of a content on a lane (R238). -/
def contentSig (sq n : Nat) (rows : SMap (List Nat)) : Nat :=
  crc32 (leBytes 4 sq ++ (List.range 128).flatMap (fun l => rowBytes (rowOf rows n l)))

/-- TPR sends line packets: EN, no silence of the partner's rules, and the content not withdrawn (R124). -/
def linesGo (s : State) : Bool := rdb s Reg.TPR_CTRL_EN && !muted s && !s.ras.withdrawn && s.gte.active

/-- The line packet of tile line `l` leaves on lane `n`. -/
def sendLine (l n : Nat) (s : State) : State :=
  let b := leBytes 4 s.gte.seq ++ leBytes 1 l ++ leBytes 1 (b2n s.cor.slip) ++ rowBytes (rowOf s.gte.codes n l)
  send (.line n l (b ++ leBytes 4 (crc32 b))) s

/-- A content sent in full leaves its signature, the last two of a lane (R238). -/
def keepSig (n : Nat) (s : State) : State :=
  let g := (s.gte.seq, contentSig s.gte.seq n s.gte.codes)
  modTpr n (fun l => { l with sigs := (g :: l.sigs).take 2 }) s

/-- The line packets of raster line `l`, on each lane that was in service when the content began (R239). -/
def sendLines (l : Nat) (s : State) : State :=
  let s := if l = 0 then
      forEach (serviceLanes s) (fun n => modTpr n (fun t => { t with sending := true, lineOk := true, lines := 0 })) s
    else s
  if linesGo s then
    let ns := (serviceLanes s).filter (fun n => (tprLane s n).sending)
    s |> forEach ns (sendLine l) |> when (l == 127) (forEach ns keepSig)
  else s

/-! ### Command sets on the lanes (R217, R223 to R225) -/

/-- Symbols of a raster line after the 80 ns before the next line start (R48, R217). -/
def lineRoom (s : State) (l : Nat) : Nat := period s / 1088 - 10 - (if l ≤ 127 then 268 else 0)

/-- SEQ that a set names (R224); SELWR with SEQ 0 names none. -/
def namedSeq (c : CmdSet) : Option Nat :=
  let q := leAt c.payload 0 4
  if c.opc = 4 && q = 0 then none else if [3, 4, 5, 6, 8].contains c.opc then some q else none

/-- The slot of the SEQ that a set names has passed (R225). -/
def seqPassed (s : State) (c : CmdSet) : Bool :=
  match namedSeq c with
  | some q => seqLe q (rd s Reg.RAS_FCNT_FCNT)
  | none => false

/-- A set leaves on lane `n` for the first time and awaits its acknowledgement. -/
def sendSet (n : Nat) (c : CmdSet) (s : State) : State :=
  s |> send (.cmd n c.tag (setBody c)) |> modTpr n (fun l => { l with sent := l.sent ++ [⟨c, 1, false⟩] })

/-- The sets of a lane that are due again go out, those whose SEQ has passed are dropped (R225). -/
def resendDue (n : Nat) (s : State) : State :=
  let keep := (tprLane s n).sent.filter (fun q => !(q.due && seqPassed s q.set))
  let again := keep.filter Sent.due
  s |> modTpr n (fun l => { l with
        sent := keep.map (fun q => if q.due then { q with sends := q.sends + 1, due := false } else q) })
    |> forEach again (fun q => send (.cmd n q.set.tag (setBody q.set)))

/-- Symbols used on the lanes of a line, with the sets that stay queued. -/
structure Placing where
  used : SMap Nat
  held : List Nat
  left : List Queued

/-- One queued set goes out if it fits on each of its lanes behind the sets before it. -/
def placeSet (room : Nat) (q : Queued) (acc : Placing × State) : Placing × State :=
  let (p, s) := acc
  let n := 9 + q.set.payload.length
  let fits := q.lanes.all (fun k => SMap.getD p.used k 0 + n ≤ room && !p.held.contains k)
  if fits then
    ({ p with used := q.lanes.foldl (fun m k => SMap.put m k (SMap.getD m k 0 + n)) p.used },
      forEach q.lanes (fun k => sendSet k q.set) s)
  else ({ p with held := p.held ++ q.lanes, left := p.left ++ [q] }, s)

/-- Lanes whose tiles take command sets: the part's tile lanes that are up. -/
def upLanes (s : State) : List Nat := (tileLanes s).filter (fun n => linkOf s n == 2)

/-- The TCMD sets of the active for raster line `l` go out on the standby's lanes (R521). -/
def sendTcmds (l : Nat) (s : State) : State :=
  let due := s.ptn.tcmds.filter (fun c => c.1 == l)
  let out := fun (c : Nat × Nat × Bytes) (s : State) =>
    let set : CmdSet := ⟨byteAt c.2.2 0, byteAt c.2.2 1, (c.2.2.drop 4).take (leAt c.2.2 2 2)⟩
    forEach (if c.2.1 = 0xFF then serviceLanes s else [c.2.1]) (fun n => sendSet n set) s
  { s with ptn := { s.ptn with tcmds := s.ptn.tcmds.filter (fun c => c.1 != l) } } |> forEach due out

/-- Command sets of raster line `l`: lines 129 to 134 and active lines after EOL; `used` is what the PROBES sets
of the line take (R217, R247). -/
def drainSets (l : Nat) (used : SMap Nat) (s : State) : State :=
  if !rdb s Reg.TPR_CTRL_EN || muted s then s
  else if l ≤ 127 || (129 ≤ l && l ≤ 134) then
    let s := s |> forEach (upLanes s) resendDue |> sendTcmds l
    let (p, s) := s.tpr.queue.foldl (fun acc q => placeSet (lineRoom s l) q acc) (⟨used, [], []⟩, s)
    setCmdqLevel { s with tpr := { s.tpr with queue := p.left } }
  else s

/-- TILE_NAK (R225). -/
def tileNak (n : Nat) (s : State) : State := s |> satInc Reg.TPR_CMDQSTAT_NAKS 1 |> raise 0x0C5 n

/-- The first set of a list that `p` selects, taken out of it. -/
def takeFirst {α : Type} (p : α → Bool) (l : List α) : Option α × List α :=
  match l with
  | [] => (none, [])
  | a :: rest => if p a then (some a, rest) else
    let r := takeFirst p rest
    (r.1, a :: r.2)

/-- ACK_TIMEOUT (R225, R248): the oldest set of the lane goes out again, or ends after three sends; PROBES and a
set whose slot has passed are not sent again. -/
def doAckTimeout (n : Nat) (s : State) : State :=
  match takeFirst (fun q => !q.due) (tprLane s n).sent with
  | (none, _) => s
  | (some q, rest) =>
    if q.set.opc = 5 || seqPassed s q.set then modTpr n (fun l => { l with sent := rest }) s
    else if 3 ≤ q.sends then s |> modTpr n (fun l => { l with sent := rest }) |> tileNak n
    else modTpr n (fun l => { l with sent := l.sent.map (fun x => if x = q then { x with due := true } else x) }) s

/-- An upstream packet passes the checks of R226 for TYPE `type` with LEN `len`. -/
def upOk (type len : Nat) (p : UpPkt) : Bool :=
  !p.err && p.payload.length == len && p.crc == crc32 (leBytes 1 type ++ leBytes 2 len ++ p.payload)

/-- ACK (R225): RESULT BADOPC, BADPARAM or STATE is TILE_NAK. -/
def doAck (n : Nat) (pkt : UpPkt) (s : State) : State :=
  if !(upOk 3 4 pkt && n < laneCount s) then s
  else
    let hit := fun (q : Sent) => q.set.opc == byteAt pkt.payload 0 && q.set.tag == byteAt pkt.payload 1
    match takeFirst hit (tprLane s n).sent with
    | (none, _) => s
    | (some _, rest) =>
      let r := byteAt pkt.payload 2
      s |> modTpr n (fun l => { l with sent := rest }) |> when (1 ≤ r && r ≤ 3) (tileNak n)

/-! ### Demands and pushes (R223, R224, R239, R398) -/

/-- TPR.BCAST with a demand for one lane or every lane in service; the fields are write-only. -/
def bcastWrite (op : Nat) (all : Bool) (lane cause : Nat) (s : State) : State :=
  if !mainOn s.dev.state then s
  else if all then demand op cause none s
  else if lane < laneCount s && inService s lane then demand op cause (some lane) s
  else s

/-- BCAST_PLATE (R223). -/
def doBcastPlate (all : Bool) (lane cause : Nat) (s : State) : State := bcastWrite 1 all lane cause s

/-- BCAST_COAST (R223). -/
def doBcastCoast (all : Bool) (lane cause : Nat) (s : State) : State := bcastWrite 2 all lane cause s

/-- BCAST_WIPE (R223). -/
def doBcastWipe (all : Bool) (lane cause : Nat) (s : State) : State := bcastWrite 3 all lane cause s

/-- What TPR keeps of a set that firmware queues for a lane: the SEQ of a RESUME (R239) and of a PLATECAP (R236). -/
def noteSet (opc : Nat) (payload : Bytes) (n : Nat) (s : State) : State :=
  if opc = 3 then modTpr n (fun l => { l with resumeSeq := some (leAt payload 0 4), lapses := 0, again := false }) s
  else if opc = 8 then modTpr n (fun l => { l with plateReq := some (leAt payload 0 4) }) s
  else s

/-- CMDQ_PUSH (R224, R242): a LEN above 260 is ignored, a push at 32 is dropped; a standby takes none (R521). -/
def doCmdqPush (all : Bool) (lane opc len : Nat) (s : State) : State :=
  if !mainOn s.dev.state then s
  else
    let s := s |> wr Reg.TPR_CMDQ_ALL (b2n all) |> wr Reg.TPR_CMDQ_LANE lane |> wr Reg.TPR_CMDQ_OPC opc
      |> wr Reg.TPR_CMDQ_LEN len
    let lanes := if all then serviceLanes s else (tileLanes s).filter (· == lane)
    if 260 < len || 32 ≤ s.tpr.queue.length || isStandby s then s
    else
      let p := ldBytes s 0x400B0400 len
      s |> pushLanes lanes (if all then 0xFF else lane) opc p |> forEach lanes (noteSet opc p)

/-- SNAP_REQ (R240, R242): REQ reads 1 until SNAP is sent. -/
def doSnapReq (id : Nat) (s : State) : State :=
  if mainOn s.dev.state then s |> wr Reg.TPR_SNAP_ID id |> wr Reg.TPR_SNAP_REQ 1 else s

/-- SNAP leaves at line 128 (R217). -/
def sendSnap (s : State) : State :=
  if rdb s Reg.TPR_SNAP_REQ && rdb s Reg.TPR_CTRL_EN && !muted s then
    s |> wr Reg.TPR_SNAP_REQ 0 |> wr Reg.TPR_SNAP_DONE 0
      |> forEach (tileLanes s) (fun n => modTpr n (fun l => { l with snapped := false }))
      |> sendBcast 4 (oneArg (rd s Reg.TPR_SNAP_ID)) (serviceLanes s)
  else s

/-- SNAPR (R226): DONE once every lane in service has returned it for ID. -/
def doSnapr (n : Nat) (pkt : UpPkt) (s : State) : State :=
  if upOk 4 16 pkt && n < laneCount s && byteAt pkt.payload 0 == rd s Reg.TPR_SNAP_ID then
    let s := modTpr n (fun l => { l with snapped := true }) s
    when (!rdb s Reg.TPR_SNAP_REQ && (serviceLanes s).all (fun k => (tprLane s k).snapped)) (wr Reg.TPR_SNAP_DONE 1) s
  else s

/-- DARKROW_GO (R398): DARKROW leaves for the next displayed frame; the fender's test on the lane is on its way. -/
def doDarkrowGo (lane phase row : Nat) (s : State) : State :=
  if !mainOn s.dev.state then s
  else
    let s := s |> wr Reg.TPR_DARKROW_LANE lane |> wr Reg.TPR_DARKROW_PHASE phase |> wr Reg.TPR_DARKROW_ROW row
      |> wr Reg.TPR_DARKROW_ACK 0
    if !(rdb s Reg.TPR_CTRL_EN && inService s lane && lane < laneCount s) || muted s then wr Reg.TPR_DARKROW_GO 1 s
    else
      let t := s.tpr.nextTag
      let c : CmdSet := ⟨6, t, leBytes 4 (nextSeq s) ++ leBytes 1 row ++ leBytes 1 phase ++ zeroBytes 2⟩
      let test := match s.fender.test with
        | some q => if q.lane = lane then some { q with row := row, phase := phase, seq := nextSeq s } else some q
        | none => none
      { s with
        tpr := { s.tpr with nextTag := (t + 1) % 256 }
        fender := { s.fender with test := test } }
        |> sendSet lane c |> wr Reg.TPR_DARKROW_GO 0

/-- INSERV_WRITE (R239): firmware puts a lane in service, or takes it out. -/
def doInservWrite (n : Nat) (on : Bool) (s : State) : State :=
  if !mainOn s.dev.state || laneCount s ≤ n then s
  else if on then
    if inService s n then s
    else s |> wr (Reg.TPR_TL_STATUS_INSERV n) 1 |> wr (Reg.TLK_LN_STATUS_INSERV n) 1
      |> modTpr n (fun l => { l with lost := 0, telemUp := false, got := true, sending := false }) |> updFdark n
  else leaveService n s

/-! ### Line statuses and automatic resume (R226, R239, R527) -/

/-- A RESUME leaves behind the EOL of raster line 127, naming the content just sent (R239). -/
def resumeNow (n : Nat) (s : State) : State :=
  let t := s.tpr.nextTag
  let c : CmdSet := ⟨3, t, leBytes 4 s.gte.seq⟩
  { s with tpr := { s.tpr with nextTag := (t + 1) % 256 } } |> sendTcmd 127 n c |> sendSet n c

/-- AUTO_RESUME (R239, R423): at most AUTOMAX per second of raster time, none while DEGMAP holds the lane. -/
def autoResume (n : Nat) (s : State) : State :=
  let l := tprLane s n
  let now := rasterBase s
  let past := l.autoAt.filter (fun t => now < t + 1000000000)
  if l.autoRes && rdb s Reg.TPR_CTRL_AUTORES && !mapBit s Reg.FCL_DEGMAP_LO_MAP Reg.FCL_DEGMAP_HI_MAP n then
    if rd s Reg.TPR_CFG_AUTOMAX ≤ past.length then
      s |> modTpr n (fun l => { l with autoRes := false, autoAt := past }) |> raise 0x0C1 n
    else
      s |> modTpr n (fun l => { l with autoAt := past ++ [now] }) |> satInc (Reg.TPR_TL_ERR_AUTORES n) 1 |> resumeNow n
  else if l.again then
    s |> modTpr n (fun l => { l with again := false, resumeSeq := some s.gte.seq }) |> resumeNow n
  else s

/-- The port that the tile of lane `n` reports (R526). -/
def setPort (n : Nat) (b : Bool) (s : State) : State :=
  s |> wr (Reg.TPR_TL_STATUS_PORT n) (b2n b)
    |> when (pairOp s) (setMapBit Reg.PTN_PORTMAP_LO_MAP Reg.PTN_PORTMAP_HI_MAP n b)

/-- LSTAT (R226, R239, R526, R527). -/
def doLstat (n : Nat) (pkt : UpPkt) (s : State) : State :=
  if !(upOk 1 8 pkt && n < laneCount s && inService s n) then s
  else
    let p := pkt.payload
    let line := byteAt p 2
    let res := byteAt p 3
    let s := setPort n (bit (byteAt p 4) 2) s
    let s := if pairOp s && bit res 2 && !s.ptn.xmisNow.contains n then
        { s with ptn := { s.ptn with xmisNow := s.ptn.xmisNow ++ [n] } }
      else s
    let s := modTpr n (fun l => { l with
        lines := l.lines + 1
        lineOk := l.lineOk && bit res 0 && leAt p 0 2 == s.gte.seq % 65536 }) s
    let l := tprLane s n
    if line = 127 && l.lineOk && l.lines = 128 && l.sending && linesGo s && !isStandby s then autoResume n s else s

/-! ### The meanings of the rows -/

/-- BCAST_PLATE (R223). -/
def execBcastPlate (all : Bool) (lane cause : Nat) (s : State) : Out :=
  .next (doBcastPlate all lane cause s)

/-- BCAST_COAST (R223). -/
def execBcastCoast (all : Bool) (lane cause : Nat) (s : State) : Out :=
  .next (doBcastCoast all lane cause s)

/-- BCAST_WIPE (R223). -/
def execBcastWipe (all : Bool) (lane cause : Nat) (s : State) : Out :=
  .next (doBcastWipe all lane cause s)

/-- SNAP_REQ (R240). -/
def execSnapReq (id : Nat) (s : State) : Out :=
  .next (doSnapReq id s)

/-- CMDQ_PUSH (R224). -/
def execCmdqPush (all : Bool) (lane opc len : Nat) (s : State) : Out :=
  .next (doCmdqPush all lane opc len s)

/-- DARKROW_GO (R398). -/
def execDarkrowGo (lane phase row : Nat) (s : State) : Out :=
  .next (doDarkrowGo lane phase row s)

/-- ACK_TIMEOUT (R225). -/
def execAckTimeout (n : Nat) (s : State) : Out :=
  .next (doAckTimeout n s)

/-- LSTAT (R226). -/
def execLstat (n : Nat) (pkt : UpPkt) (s : State) : Out :=
  .next (doLstat n pkt s)

/-- ACK (R225). -/
def execAck (n : Nat) (pkt : UpPkt) (s : State) : Out :=
  .next (doAck n pkt s)

/-- SNAPR (R226). -/
def execSnapr (n : Nat) (pkt : UpPkt) (s : State) : Out :=
  .next (doSnapr n pkt s)

/-- INSERV_WRITE (R239). -/
def execInservWrite (n : Nat) (on : Bool) (s : State) : Out :=
  .next (doInservWrite n on s)

end Sys2Proof.Machine
end

