-- ==== Sys2Proof/Machine/Geometry.lean ====
section
/-! DEFINITION. Plane geometry of zones and glyphs: sine and cosine of an angle, square roots, convex
quadrilaterals, and the signed distances that `04_shade_zones_and_speculation.md` and the fender use. -/

namespace Sys2Proof.Machine

/-! ### Square roots and angles

Sine and cosine are scaled by 2^40; their error is below 2^-36, far inside the tolerances of R108 and R135. -/

/-- The largest r with r² ≤ n, for n below 4^k. -/
def isqrt (k n : Nat) : Nat :=
  (List.range k).foldr (fun i r => if (r + 2 ^ i) * (r + 2 ^ i) ≤ n then r + 2 ^ i else r) 0

/-- 2π × 2^40. -/
def twoPi40 : Nat := 6908435304715

/-- Terms of the sine series of x (scaled 2^40) from the term t of odd degree d on. -/
def sinTerms (n : Nat) (x t : Int) (d : Nat) : Int :=
  match n with
  | 0 => 0
  | k + 1 => t + sinTerms k x (-(t * x / 2 ^ 40 * x / 2 ^ 40) / ((d + 1) * (d + 2) : Int)) (d + 2)

/-- Sine of a in 1/65,536 turn, scaled 2^40, for 0 ≤ a ≤ 16,384. -/
def sinQuarter (a : Nat) : Int :=
  let x : Int := (twoPi40 * a / 65536 : Nat)
  if a = 0 then 0 else if a = 16384 then 2 ^ 40 else sinTerms 12 x x 1

/-- Sine of an angle in 1/65,536 turn, scaled 2^40. -/
def sin40 (a : Nat) : Int :=
  let a := a % 65536
  if a ≤ 16384 then sinQuarter a
  else if a ≤ 32768 then sinQuarter (32768 - a)
  else if a ≤ 49152 then -sinQuarter (a - 32768)
  else -sinQuarter (65536 - a)

/-- Cosine of an angle in 1/65,536 turn, scaled 2^40. -/
def cos40 (a : Nat) : Int := sin40 (a + 16384)

/-- An offset rotated by the angle a, scaled 2^40 (R108). -/
def rotate (a : Nat) (dx dy : Int) : Int × Int :=
  (cos40 a * dx + sin40 a * dy, cos40 a * dy - sin40 a * dx)

/-! ### Quadrilaterals -/

/-- Edges of a closed polygon. -/
def edges (c : List (Int × Int)) : List ((Int × Int) × (Int × Int)) := c.zip (c.drop 1 ++ c.take 1)

/-- Cross product of the edge P → Q and the offset P → S: positive inside a clockwise polygon (rows downward). -/
def edgeCross (p q : Int × Int) (x y : Int) : Int := (q.1 - p.1) * (y - p.2) - (q.2 - p.2) * (x - p.1)

/-- Squared length of an edge. -/
def edgeLen2 (p q : Int × Int) : Nat := ((q.1 - p.1) * (q.1 - p.1) + (q.2 - p.2) * (q.2 - p.2)).toNat

/-- Strictly convex and clockwise (R129). -/
def convexCw (c : List (Int × Int)) : Bool :=
  (edges c).zip ((edges c).drop 1 ++ (edges c).take 1) |>.all (fun e =>
    decide (0 < edgeCross e.1.1 e.1.2 e.2.2.1 e.2.2.2))

/-- Signed distance of a point from an edge line, positive outward, scaled 2^16. -/
def edgeDist (p q : Int × Int) (x y : Int) : Int :=
  let len := isqrt 60 (edgeLen2 p q * 2 ^ 64)
  if len = 0 then 0 else -(edgeCross p q x y) * 2 ^ 48 / (len : Int)

/-- Largest signed distance of a point from the edge lines, scaled 2^16. -/
def polyDist (c : List (Int × Int)) (x y : Int) : Int :=
  match (edges c).map (fun e => edgeDist e.1 e.2 x y) with
  | [] => 0
  | d :: ds => ds.foldl max d

/-! ### Ellipses -/

/-- r of R135 scaled 2^32: the offset (dx, dy) from the centre against semi-axes a, b turned by an angle. -/
def ellipseR (a b angle : Nat) (dx dy : Int) : Nat :=
  let uv := rotate angle dx dy
  let p := uv.1 * b
  let q := uv.2 * a
  isqrt 100 ((p * p + q * q).toNat) * 2 ^ 32 / (a * b * 2 ^ 40)

/-! ### Zone descriptors (R128) -/

/-- ZID. -/
def dZid (b : Bytes) : Nat := byteAt b 0
/-- FLAGS. -/
def dFlags (b : Bytes) : Nat := leAt b 2 2
/-- PROT flag. -/
def dProt (b : Bytes) : Bool := bit (dFlags b) 1
/-- MOVABLE flag. -/
def dMovable (b : Bytes) : Bool := bit (dFlags b) 2
/-- CLEAR flag. -/
def dClear (b : Bytes) : Bool := bit (dFlags b) 3
/-- Signed 16-bit field. -/
def s16At (b : Bytes) (i : Nat) : Int := sx 16 (leAt b i 2)
/-- Signed 32-bit field. -/
def s32At (b : Bytes) (i : Nat) : Int := sx 32 (leAt b i 4)
/-- MARGIN in 1/16 pixel. -/
def dMargin (b : Bytes) : Int := (4 * byteAt b 0x2D : Nat)

/-- The outline of a descriptor: an ellipse, or corners relative to the centre. -/
def dOutline (b : Bytes) : Outline :=
  if bit (dFlags b) 0 then
    .quad ((List.range 4).map (fun k => (s16At b (0x14 + 4 * k), s16At b (0x16 + 4 * k))))
  else .ellipse (leAt b 0x14 2) (leAt b 0x16 2) (leAt b 0x18 2)

/-- A 32-bit seconds field and nanoseconds, extended to the full network time in ns nearest to `near`. -/
def extendTime (sec nsec near : Nat) : Nat :=
  let era := 2 ^ 32 * 1000000000
  let t := near / era * era + sec * 1000000000 + nsec
  if t + era / 2 < near then t + era else if near + era / 2 < t && era ≤ t then t - era else t

/-- TOBS of a zone or pitch descriptor as extended at network time `near`; the pitch descriptor holds it at 0. -/
def dTobs (b : Bytes) (off near : Nat) : Nat := extendTime (leAt b off 4) (leAt b (off + 4) 4) near

/-- Reserved fields of a descriptor are zero (R128, R129). -/
def dReservedOk (b : Bytes) : Bool :=
  byteAt b 1 == 0 && dFlags b < 16 && leAt b 0x2E 2 == 0 &&
    (dClear b || bit (dFlags b) 0 || allZero ((b.drop 0x1A).take 10))

/-- The shape rules of R129; a CLEAR is not judged by them. -/
def dShapeOk (b : Bytes) : Bool :=
  dClear b || match dOutline b with
    | .ellipse a c _ => a != 0 && c != 0
    | .quad c => convexCw c

/-- The rules of R129 on one descriptor that arrived at network time `near`. -/
def dValid (near : Nat) (b : Bytes) : Bool :=
  dReservedOk b && dZid b < 64 && leAt b 8 4 < 1000000000 && dShapeOk b && dTobs b 4 near ≤ near + 2000000

end Sys2Proof.Machine
end

