-- ==== Sys2Proof/Machine/Zones.lean ====
section
/-! DEFINITION. Shade zones and speculation (`04_shade_zones_and_speculation.md`): publishes, the mask, late
binding, speculation, the release ramp and levelling. -/

namespace Sys2Proof.Machine

/-! ### The mask of a subsample (R135, R136) -/

/-- Numbers that an outline gives the edge slack. -/
def outlineKey (o : Outline) : List Int :=
  match o with
  | .ellipse a b g => [a, b, g]
  | .quad c => c.flatMap (fun p => [p.1, p.2])

/-- A value less the inward error of ZNE, below 2^-12 of it (R135). -/
def inward (slack v : Nat) : Nat := v - v * (slack % 65536) / 2 ^ 28

/-- d of R135 in 1/64 pixel for a point of the road in 1/16 pixel. -/
def shapeDist (h : Shape) (x y : Int) : Nat :=
  let dx := x - h.cx
  let dy := y - h.cy
  let slack := Config.edgeSlack (outlineKey h.outline ++ [h.mg, dx, dy])
  match h.outline with
  | .ellipse a b g =>
    let a := (a + h.mg).toNat
    let b := (b + h.mg).toNat
    let r := inward slack (ellipseR a b g dx dy)
    if r ≤ 2 ^ 32 then 0 else 4 * (r - 2 ^ 32) * min a b / 2 ^ 32
  | .quad c =>
    let e := inward slack (polyDist c dx dy).toNat
    (4 * ((e : Int) - h.mg * 2 ^ 16) / 2 ^ 16).toNat

/-- s12 of a shape at a subsample (R136). -/
def shapeS12 (h : Shape) (x y : Int) : Nat :=
  let d := shapeDist h x y
  if h.w16 = 0 then (if d = 0 then 0 else 4096) else min 4096 (1024 * d / h.w16)

/-- The smallest s12 of the shapes at a subsample. -/
def minS12 (hs : List Shape) (x y : Int) : Nat := hs.foldl (fun m h => min m (shapeS12 h x y)) 4096

/-- Subsamples of pixel (x, y) in 1/16 pixel, rows on the road (R134). -/
def subsamples (d16 : Int) (x y : Nat) : List (Int × Int) :=
  (List.range 4).flatMap (fun j => (List.range 4).map (fun i =>
    ((16 * x + 4 * i + 2 : Nat), ((16 * y + 4 * j + 2 : Nat) : Int) - d16)))

/-- Mz of a pixel (R136, R139): the frame set and every mid-frame publish that applies to its tile line. -/
def maskRaw (d16 : Int) (hs : List Shape) (x y : Nat) : Nat :=
  ((subsamples d16 x y).map (fun p => minS12 hs p.1 p.2)).foldl (· + ·) 0 / 16

/-! ### Release ramp (R146) -/

/-- C(q). -/
def capQ (q : Nat) : Nat := q * 4096 / 15

/-- Q of a pixel of the field; an uncorrectable word reads 0 (R153). -/
def releaseQ (s : State) (x y : Nat) : Nat :=
  let k := y * 2048 + x
  if s.zne.badQ.contains k then 0 else SMap.getD s.zne.q k 15

/-- Q after a content frame at a pixel with mask `mz`. -/
def nextQ (mz q n : Nat) : Nat :=
  let qz := ceilDiv (mz * 15) 4096
  if qz ≤ q then qz else min qz (q + n)

/-- Sets Q of a pixel. -/
def setQ (x y q : Nat) (s : State) : State :=
  let k := y * 2048 + x
  { s with zne := { s.zne with
      q := if q = 15 then SMap.del s.zne.q k else SMap.put s.zne.q k q
      badQ := s.zne.badQ.filter (· != k) } }

/-- A memory error is counted (R153). -/
def zneMemErr (s : State) : State := s |> wr Reg.ZNE_STATUS_MEMERR 1 |> satInc Reg.ZNE_ECCCNT_UNCORR 1

/-- Zones held. -/
def heldZones (s : State) : List (Nat × Zone) := s.zne.zones

/-- ZNE evaluates pixel (x, y) of tile line `l`: M, with the step of the release ramp (R139, R146, R153). -/
def znePixel (l x y : Nat) (s : State) : Nat × State :=
  if s.zne.memDark then (0, s)
  else
    let hs := s.zne.shapes ++ (s.zne.mids.filter (fun m => m.1 ≤ l)).flatMap Prod.snd
    let mz := maskRaw s.gte.d16 hs x y
    let q := nextQ mz (releaseQ s x y) s.zne.frame.steps
    let s := when (s.zne.badQ.contains (y * 2048 + x)) zneMemErr s
    (min mz (capQ q), setQ x y q s)

/-- A zone-table entry in force that is uncorrectable darkens the rest of the content frame (R153). -/
def zneTables (s : State) : State :=
  if !s.zne.memDark && (heldZones s).any (fun z => s.zne.badZones.contains z.1) then
    { s with zne := { s.zne with memDark := true } } |> zneMemErr |> raise 0x084 0
  else s

/-! ### Extrapolation (R141 to R145) -/

/-- Truncation toward zero of a / b. -/
def trunc0 (a : Int) (b : Nat) : Int := Int.tdiv a b

/-- Speculation is in force for a content that starts now (R145, R521). -/
def specInForce (s : State) : Bool :=
  let step := if pairOp s && role s == 1 then max (damper s) (rd s Reg.PTN_STATUS_PSTEP) else damper s
  rdb s Reg.ZNE_CTRL_SPEC_ALLOW && act s Reg.ZNE_SPEC_EN != 0 && step < 2 && !slipState s

/-- t_mid − TOBS in µs, truncated, not below 0. -/
def teFree (f : ZneFrame) (tobs : Nat) : Nat := (f.tMid - tobs) / 1000

/-- te of a zone (R141). -/
def zoneTe (f : ZneFrame) (z : Zone) : Nat :=
  if dMovable z.desc then min (teFree f z.tobs) (f.horizon * 1000) else teFree f z.tobs

/-- A movable zone is stale (R144). -/
def zoneStale (f : ZneFrame) (z : Zone) : Bool :=
  dMovable z.desc && decide (z.tobs + f.horizon * 1000000 < f.tMid)

/-- Confirmed margin of a zone. -/
def confMargin (f : ZneFrame) (z : Zone) : Int := dMargin z.desc + (4 * f.gmargin : Nat)

/-- The confirmed shape (R142). -/
def confShape (f : ZneFrame) (z : Zone) : Shape :=
  { outline := dOutline z.desc, cx := s32At z.desc 0xC, cy := s32At z.desc 0x10, mg := confMargin f z,
    w16 := 4 * byteAt z.desc 0x2C }

/-- The extrapolated shape (R141). -/
def specShape (f : ZneFrame) (z : Zone) : Shape :=
  let te : Int := (zoneTe f z : Nat)
  let vx := s16At z.desc 0x24
  let vy := s16At z.desc 0x26
  let ax := s16At z.desc 0x28
  let ay := s16At z.desc 0x2A
  let dx := trunc0 (2000 * vx * te + ax * te * te) 32000000
  let dy := trunc0 (2000 * vy * te + ay * te * te) 32000000
  let vxt := vx + trunc0 (ax * te) 1000
  let vyt := vy + trunc0 (ay * te) 1000
  let mspec := f.m0 + ceilDiv (f.k * zoneTe f z) 16000 +
    ceilDiv ((vxt.natAbs + vyt.natAbs) * (f.period / 1000)) 32000
  let c := confShape f z
  { c with cx := c.cx + dx, cy := c.cy + dy, mg := c.mg + (mspec : Nat) }

/-- Shapes of a zone (R142). -/
def zoneShapes (f : ZneFrame) (z : Zone) : List Shape :=
  if dMovable z.desc && f.spec then [confShape f z, specShape f z] else [confShape f z]

/-- The zone with te and the extrapolated values of a content frame (ZVIEW0 to ZVIEW2). -/
def zoneView (f : ZneFrame) (z : Zone) : Zone :=
  let h := if dMovable z.desc && f.spec then specShape f z else confShape f z
  { z with te := zoneTe f z, vx := h.cx, vy := h.cy, vm := h.mg }

/-! ### Maps, mirror and views (R133, R554) -/

/-- Two 32-bit maps of the zones that `p` selects. -/
def zoneMap (s : State) (p : Zone → Bool) : Nat :=
  (heldZones s).foldl (fun m z => if p z.2 then setBit m z.1 else m) 0

/-- ACTIVE, STALEMAP, PROTMAP, NZONES and STALE follow the zones held. -/
def setZoneMaps (s : State) : State :=
  let put := fun (lo hi : Fld) (m : Nat) (s : State) => s |> wr lo m |> wr hi (m / 2 ^ 32)
  let st := zoneMap s Zone.stale
  s |> put Reg.ZNE_ACTIVE_LO_MAP Reg.ZNE_ACTIVE_HI_MAP (zoneMap s (fun _ => true))
    |> put Reg.ZNE_STALEMAP_LO_MAP Reg.ZNE_STALEMAP_HI_MAP st
    |> put Reg.ZNE_PROTMAP_LO_MAP Reg.ZNE_PROTMAP_HI_MAP (zoneMap s Zone.prot)
    |> wr Reg.ZNE_STATUS_NZONES (heldZones s).length |> wr Reg.ZNE_STATUS_STALE (b2n (st != 0))

/-- ZVIEW0 to ZVIEW2 show the zone of ZSEL; the values of a zone not held are 0. -/
def setZview (s : State) : State :=
  match SMap.find s.zne.zones (rd s Reg.ZNE_ZSEL_ZID) with
  | some z =>
    s |> wri Reg.ZNE_ZVIEW0_POS z.vx |> wri Reg.ZNE_ZVIEW1_POS z.vy |> wri Reg.ZNE_ZVIEW2_MARGIN z.vm
      |> wr Reg.ZNE_ZVIEW2_AGE (min 65535 z.te)
  | none =>
    s |> wr Reg.ZNE_ZVIEW0_POS 0 |> wr Reg.ZNE_ZVIEW1_POS 0 |> wr Reg.ZNE_ZVIEW2_MARGIN 0 |> wr Reg.ZNE_ZVIEW2_AGE 0

/-- Bytes 0x00 to 0x3B of a mirror entry (R554). -/
def mirrorBody (z : Zone) : Bytes :=
  padTo 48 z.desc ++ leBytes 2 (z.tobs / 1000000000 / 2 ^ 32) ++
    leBytes 1 (1 + 2 * b2n z.stale + 4 * b2n z.prot) ++ [0] ++ leBytes 4 z.setver ++
    leBytes 2 (min 65535 z.te) ++ zeroBytes 2

/-- The mirror entry of zone `n`. -/
def mirrorEntry (s : State) (n : Nat) : Bytes :=
  let b := match SMap.find s.zne.zones n with | some z => mirrorBody z | none => zeroBytes 60
  b ++ leBytes 4 (crc32 b)

/-- ZNE mirrors its zone table (R133). -/
def mirrorZones (s : State) : State :=
  psWrite 0x21E70000 ((List.range 64).flatMap (mirrorEntry s)) s

/-! ### The tap of the fender (R391) -/

/-- ZNE's tap reports a protected descriptor: the fender applies its own copy at the next content start. -/
def fenderTap (zid tobs : Nat) (s : State) : State :=
  let hit := fun (w : Bytes × Nat) => dZid w.1 == zid && leAt w.1 4 4 == tobs / 1000000000 % 2 ^ 32 &&
    leAt w.1 8 4 == tobs % 1000000000
  let now := s.fender.waiting.filter hit
  { s with fender := { s.fender with
      waiting := s.fender.waiting.filter (fun w => !hit w)
      due := s.fender.due ++ now.map Prod.fst
      taps := s.fender.taps ++ [(zid, tobs)] } }

/-! ### Acceptance (R129 to R131, R139) -/

/-- Network time of the active domain, to which observation times are extended. -/
def netNow (s : State) : Nat := timeNow s (activeDom s)

/-- One descriptor of a publish is accepted, or dropped as not newer (R130, R131). -/
def acceptDesc (d : Bytes) (s : State) : State :=
  let zid := dZid d
  let tobs := dTobs d 4 (netNow s)
  let old := SMap.find s.zne.zones zid
  if (match old with | some z => decide (tobs ≤ z.tobs) | none => false) then
    s |> satInc Reg.ZNE_DROPCNT_ZDROP 1 |> raise 0x080 zid
  else
    let prot := dProt d || (match old with | some z => z.prot | none => false)
    let s := when prot (fenderTap zid tobs) s
    if dClear d then { s with zne := { s.zne with zones := SMap.del s.zne.zones zid } }
    else
      let z := zoneView s.zne.frame ⟨padTo 48 d, tobs, prot, false, (rd s Reg.ZNE_SETVER_VER + 1) % 2 ^ 32, 0, 0, 0, 0⟩
      { s with zne := { s.zne with zones := SMap.put s.zne.zones zid z } }

/-- Shapes that a mid-frame publish adds: those of its descriptors as they stand in the table (R139). -/
def publishShapes (s : State) (ds : List Bytes) : List Shape :=
  ds.flatMap (fun d =>
    match SMap.find s.zne.zones (dZid d) with
    | some z => if z.desc = padTo 48 d then zoneShapes s.zne.frame z else []
    | none => [])

/-- ZNE.LAT of a publish from CH1 (R152). -/
def setLat (s : State) : State :=
  match s.zne.arrival with
  | some a =>
    let v := min 65535 ((s.now - a) * 4 / 10)
    { s with zne := { s.zne with arrival := none } }
      |> wr Reg.ZNE_LAT_LAST v |> wr Reg.ZNE_LAT_MAX (max v (rd s Reg.ZNE_LAT_MAX))
  | none => s

/-- The rate of R152: no more than 2 publishes in any 1 ms. -/
def setRate (s : State) : State :=
  let recent := s.zne.pubs.filter (fun t => s.now < t + msTicks 1)
  let fast := 2 ≤ recent.length
  { s with zne := { s.zne with pubs := s.now :: recent.take 2 } }
    |> when fast (fun s => s |> satInc Reg.ZNE_RATECNT_COUNT 1 |> wr Reg.ZNE_STATUS_RATE 1 |> raise 0x081 0)

/-- ZNE accepts a publish (R129, R133, R139); `line` is the first tile line of its mid-frame application. -/
def publish (ds : List Bytes) (line : Nat) (s : State) : State :=
  let s := forEach ds acceptDesc s
  let mids := s.zne.mids ++ [(line, publishShapes s ds)]
  { s with zne := { s.zne with mids := mids } }
    |> wrapInc Reg.ZNE_SETVER_VER 1
    |> setZoneMaps |> setZview |> mirrorZones |> setLat |> setRate

/-- Descriptor `n` of the staging window (R155). -/
def stagedDesc (s : State) (n : Nat) : Bytes := ldBytes s (0x40071000 + 48 * n) 48

/-- ZNE_PUBLISH (R129, R132, R140, R155). -/
def doZnePublish (v : Word) (t : Nat) (s : State) : State :=
  let n := bits v.toNat 0 7
  if !mainOn s.dev.state then s
  else
    let s := atTime t s
    if n = 0 || 64 < n || !rasterOn s || rdb s Reg.ZNE_STATUS_PUB_BUSY then s
    else
      let line := if bit v.toNat 24 then bits v.toNat 16 8 else 0
      publish ((List.range n).map (stagedDesc s)) line s

/-! ### Levelling (R149 to R151) -/

/-- ZNE accepts a newer pitch descriptor, or drops it (R149). -/
def pitchAccept (b : Bytes) (s : State) : State :=
  let tobs := dTobs b 0 (netNow s)
  if (match s.zne.pitch with | some p => decide (tobs ≤ p.tobs) | none => false) then
    satInc Reg.ZNE_DROPCNT_LVLDROP 1 s
  else
    { s with zne := { s.zne with
        pitch := some ⟨tobs, s16At b 8, s16At b 0xA⟩, predOff := false, pitchAt := s.now, lvlUp := false } }
      |> wr Reg.ZNE_STATUS_LVL_STALE 0
      |> wri Reg.ZNE_PITCH_ANGLE (s16At b 8) |> wri Reg.ZNE_PITCH_RATE (s16At b 0xA)

/-- LEVEL_STALE_TIMER (R151). -/
def doLevelStaleTimer (t : Nat) (s : State) : State :=
  let s := atTime t s
  let lim := clampN 10 1000 (rd s Reg.ZNE_LVL_STALE_MS)
  if rasterOn s && !s.zne.lvlUp && s.zne.pitchAt + msTicks lim ≤ s.now then
    { s with zne := { s.zne with predOff := true, lvlUp := true } }
      |> wr Reg.ZNE_STATUS_LVL_STALE 1 |> raise 0x083 0
  else s

/-- GTE.ROWDEG, never 0. -/
def rowDeg (s : State) : Nat := max 1 (rd s Reg.GTE_ROWDEG_ROWDEG)

/-- dc and dp of a content frame (R150, R151); without a prediction dp is dc. -/
def levelling (f : ZneFrame) (s : State) : Int × Int :=
  match s.zne.pitch with
  | none => let d := rdi s Reg.ZNE_LVL_START_D16; (d, d)
  | some p =>
    let dc := roundDivI (p.angle * 128) (rowDeg s)
    if s.zne.predOff then (dc, dc)
    else
      let te := min (teFree f p.tobs) (f.horizon * 1000)
      let ap := p.angle + trunc0 (p.rate * te * 32) 1000000
      (dc, roundDivI (ap * 128) (rowDeg s))

/-- Largest shift, 16 × 3.0° / ROWDEG (R103). -/
def shiftLimit (s : State) : Int := (3145728 / rowDeg s : Nat)

/-! ### The start of a content frame (R138) -/

/-- The frame's times and parameters: t_show and its midpoint, the speculation state, the step count. -/
def zneFrameOf (s : State) : ZneFrame :=
  let p := period s
  let show' := s.ras.slotNs + p
  let r := act s Reg.ZNE_RELEASE_RAMP_MS * 1000000
  let r := if r = 0 then 1 else r
  { tShow := show', tMid := show' + p / 2, period := p, spec := specInForce s,
    horizon := act s Reg.ZNE_SPEC_HORIZON, k := act s Reg.ZNE_SPEC_K, m0 := act s Reg.ZNE_SPEC_M0,
    gmargin := act s Reg.ZNE_GMARGIN_GMARGIN,
    steps := match s.zne.prevShow with | some q => 15 * show' / r - 15 * q / r | none => 0 }

/-- Zones that become stale at this content start raise ZONE_STALE once per episode (R144). -/
def markStale (f : ZneFrame) (s : State) : State :=
  forEach (heldZones s) (fun z s =>
    if zoneStale f z.2 && !z.2.stale then
      { s with zne := { s.zne with zones := SMap.put s.zne.zones z.1 { z.2 with stale := true } } } |> raise 0x082 z.1
    else s) s

/-- ZNE takes the frame set F, the extrapolations, the parameters and Δ16 (R138, R141, R150). -/
def zneStart (s : State) : State :=
  let f := zneFrameOf s
  let s := markStale f s
  let zones := s.zne.zones.map (fun z => (z.1, zoneView f z.2))
  let (dc, dp) := levelling f s
  let d := if f.spec then max dc dp else dc
  let d := clampI (-(shiftLimit s)) (shiftLimit s) d
  { s with
    zne := { s.zne with
      zones := zones, frame := f, shapes := zones.flatMap (fun z => zoneShapes f z.2), mids := [],
      prevShow := some f.tShow, memDark := false }
    gte := { s.gte with d16 := d } }
    |> setZoneMaps |> setZview
    |> wr Reg.ZNE_STATUS_SPEC_ACT (b2n f.spec)
    |> wri Reg.ZNE_LVLSTAT_DC dc |> wri Reg.ZNE_LVLSTAT_DP dp
    |> wri Reg.GTE_LEVEL_DELTA d

/-! ### The meanings of the rows -/

/-- ZNE_PUBLISH (R129). -/
def execZnePublish (v : Word) (t : Nat) (s : State) : Out :=
  .next (doZnePublish v t s)

/-- LEVEL_STALE_TIMER (R151). -/
def execLevelStaleTimer (t : Nat) (s : State) : Out :=
  .next (doLevelStaleTimer t s)

end Sys2Proof.Machine
end

