-- ==== Sys2Proof/Machine/Gather.lean ====
section
/-! DEFINITION. The gathering pipeline (`03_gathering_pipeline.md`): base frames and their selection, the warp, the
blocking layer, the envelope, the governors, the render of tile lines, and what COR and the last gate emit. -/

namespace Sys2Proof.Machine

/-! ### Streams (R87, R88) -/

/-- W of stream `n`. -/
def streamW (s : State) (n : Nat) : Nat := rd s (Reg.GTE_SCFG_WM1 n) + 1
/-- H of stream `n`. -/
def streamH (s : State) (n : Nat) : Nat := rd s (Reg.GTE_SCFG_HM1 n) + 1

/-- Stream `n` is bound. -/
def streamOn (s : State) (n : Nat) : Bool :=
  rdb s (Reg.GTE_SCFG_EN n) && rd s (Reg.GTE_SCFG_FMT n) != 3 && 64 ≤ streamW s n && 16 ≤ streamH s n

/-- The stream that a stream ID is bound to. -/
def streamOf (s : State) (sid : Nat) : Option Nat :=
  (List.range 4).find? (fun n =>
    streamOn s n && rd s (Reg.GTE_SID_LO_SID n) + rd s (Reg.GTE_SID_HI_SID n) * 2 ^ 32 == sid)

/-- Start of buffer `b` of stream `n`. -/
def bufAddr (n b : Nat) : Nat := 0x20000000 + n * 0x600000 + b * 0x200000

/-- A received sample as it is stored. -/
def storedSample (fmt v : Nat) : Nat :=
  if fmt = 1 then v % 4096 * 16 + v % 4096 / 256 else if fmt = 2 then v % 256 * 257 else v % 65536

/-- The frames of stream `n`. -/
def streamSt (s : State) (n : Nat) : StreamSt := SMap.getD s.gte.streams n ⟨none, none⟩

/-- Sets the frames of stream `n`. -/
def setStream (n : Nat) (q : StreamSt) (s : State) : State :=
  { s with gte := { s.gte with streams := SMap.put s.gte.streams n q } }

/-- Sets the frame being written of stream `n`. -/
def setWriting (n : Nat) (w : Option Writing) (s : State) : State := setStream n { streamSt s n with writing := w } s

/-- The frame of stream `n` that is being rendered. -/
def renderedOf (s : State) (n : Nat) : Option Frame :=
  match s.gte.source with
  | .stream k f => if k = n then some f else none
  | _ => none

/-- The buffer that holds neither the frame being rendered nor the one waiting (R92). -/
def freeBuf (s : State) (n : Nat) : Nat :=
  let busy := ((renderedOf s n).toList ++ (streamSt s n).waiting.toList).map Frame.buf
  ((List.range 3).find? (fun b => !busy.contains b)).getD 0

/-- A 32-bit presentation time extended to the network time nearest to `near` (R90). -/
def extendPt (pt near : Nat) : Nat :=
  let t := near / 2 ^ 32 * 2 ^ 32 + pt % 2 ^ 32
  if t + 2 ^ 31 < near then t + 2 ^ 32 else if near + 2 ^ 31 < t && 2 ^ 32 ≤ t then t - 2 ^ 32 else t

/-! ### AVTP packets (R89, R90, R92, R93, R273, R274) -/

/-- Port `p` receives: enabled with its link up, in a state in which ETH is on. -/
def portUp (s : State) (p : Nat) : Bool :=
  p < 2 && mainOn s.dev.state && s.dev.state != .boot && s.dev.state != .halt && bound s && !s.dev.rc &&
    rdb s (if p = 0 then Reg.ETH_CTRL_EN0 else Reg.ETH_CTRL_EN1) &&
    rdb s (Reg.ETH_P_STATUS_LINK p)

/-- R273 discards every frame of the port but gPTP: no SA is installed. -/
def macsecBars (s : State) (p : Nat) : Bool := rdb s Reg.ETH_CTRL_MACSEC_REQ && !rdb s (Reg.ETH_P_STATUS_SA p)

/-- A frame that R273 discards is counted. -/
def macsecDrop (p : Nat) (s : State) : State := satInc (Reg.ETH_P_RXDROP_MACSEC p) 1 s

/-- The frame is discarded: DISC once, and nothing more of it is written (R89, R90). -/
def discard (n : Nat) (w : Writing) (s : State) : State :=
  s |> when (!w.counted) (satInc (Reg.GTE_SSTAT_DISC n) 1)
    |> setWriting n (some { w with bad := true, counted := true })

/-- The first packet of a frame: a frame still incomplete is dropped, and the new one begins. -/
def beginFrame (n : Nat) (p : AvtpPkt) (s : State) : State :=
  let s := match (streamSt s n).writing with
    | some w => when (!w.counted) (satInc (Reg.GTE_SSTAT_DROP n) 1) s
    | none => s
  let now := netNow s
  let pt := extendPt p.pt now
  let w : Writing := ⟨freeBuf s n, pt, [], p.seqNo, false, false, false⟩
  let early := match renderedOf s n with | some f => decide (pt < f.pt) | none => false
  if !p.tv || now + 2000000000 < pt || early then discard n w s else setWriting n (some w) s

/-- A frame whose first packet was lost: it cannot become complete. -/
def headless (p : AvtpPkt) : Writing := ⟨0, 0, [], p.seqNo, true, false, false⟩

/-- A row of the frame being written is stored. -/
def storeRow (n : Nat) (w : Writing) (p : AvtpPkt) (s : State) : State :=
  if w.bad then s
  else
    let fmt := rd s (Reg.GTE_SCFG_FMT n)
    s |> psWrite (bufAddr n w.buf + p.row * 4096) (p.samples.flatMap (fun v => leBytes 2 (storedSample fmt v)))
      |> setWriting n (some { w with rows := if w.rows.contains p.row then w.rows else p.row :: w.rows })

/-- The frame is complete: an older one that waits is superseded. -/
def completeFrame (n : Nat) (w : Writing) (s : State) : State :=
  let older := (streamSt s n).waiting.isSome
  s |> when older (satInc (Reg.GTE_SSTAT_SKIP n) 1)
    |> when w.missed (satInc (Reg.GTE_SSTAT_LATE n) 1)
    |> setStream n ⟨none, some ⟨w.buf, w.pt⟩⟩

/-- A packet of the frame being written is judged and its row stored. -/
def takePacket (n : Nat) (p : AvtpPkt) (s : State) : State :=
  let w0 := ((streamSt s n).writing).getD (headless p)
  let gap := !p.first && p.seqNo != (w0.seqNo + 1) % 256
  let w := { w0 with seqNo := p.seqNo, bad := w0.bad || gap }
  if p.widthCode != rd s (Reg.GTE_SCFG_FMT n) || streamH s n ≤ p.row || p.samples.length != streamW s n then discard n w s
  else
    let s := s |> setWriting n (some w) |> storeRow n w p
    match (streamSt s n).writing with
    | some w => if p.last && !w.bad && w.rows.length == streamH s n then completeFrame n w s else s
    | none => s

/-- AVTP_PACKET (R89, R272 to R274). -/
def doAvtpPacket (port t : Nat) (p : AvtpPkt) (s : State) : State :=
  let s := atTime t s
  if !portUp s port then s
  else if macsecBars s port then macsecDrop port s
  else if p.badFormat then satInc (Reg.ETH_P_RXDROP_FRAME port) 1 s
  else match streamOf s p.sid with
    | none => s
    | some n => s |> when p.first (beginFrame n p) |> takePacket n p

/-! ### Selection (R91, R93, R95 to R99, R521, R523) -/

/-- BASE_AGE in ms (R97). -/
def baseAge (s : State) : Nat := if s.gte.source = .direct then 0 else (s.now - s.gte.ageFrom) / 250000

/-- GTE.BASE_AGE shows the age. -/
def setBaseAge (s : State) : State := wr Reg.GTE_BASE_AGE_AGE (min 65535 (baseAge s)) s

/-- GTE.SEL and SEL_PT show the source; without a stream's frame their other fields read 0. -/
def setSel (s : State) : State :=
  let (n, b, pt) := match s.gte.source with
    | .stream n f => (n, f.buf, f.pt)
    | _ => (0, 0, 0)
  s |> wr Reg.GTE_SEL_DEFAULT (b2n (s.gte.source = .default)) |> wr Reg.GTE_SEL_DIRECT (b2n (s.gte.source = .direct))
    |> wr Reg.GTE_SEL_STREAM n |> wr Reg.GTE_SEL_BUF b |> wr Reg.GTE_SEL_PT_PT pt |> setBaseAge

/-- The rendered source changes, and a new episode of BASE_AGE begins. -/
def newSource (q : Source) (s : State) : State :=
  { s with gte := { s.gte with source := q, ageFrom := s.now, staleUp := false, lostUp := false } }

/-- Direct mode is in force. -/
def directMode (s : State) : Bool := act s Reg.RAS_SH_BASEADDR_DIRECT != 0

/-- t_show of the content that starts at this frame's line 128 (R91). -/
def showTime (s : State) : Nat := s.ras.slotNs + period s

/-- The complete frame of a stream that qualifies at `show'`. -/
def candidate (s : State) (n show' : Nat) : Option Frame :=
  match (streamSt s n).waiting with
  | some f => if f.pt ≤ show' then some f else none
  | none => none

/-- The frame that this selection takes: by its own candidate, or in a pair the one that ADOPT names (R521). -/
def chosen (s : State) (n : Nat) : Option Frame :=
  match (if pairOp s then s.ptn.adopt else none) with
  | some a =>
    if bit (byteAt a 4) 0 then
      match (streamSt s n).waiting with
      | some f => if f.pt % 2 ^ 32 = leAt a 12 4 then some f else none
      | none => none
    else none
  | none => if isStandby s then none else candidate s n (showTime s)

/-- A standby that cannot take the frame that ADOPT names is divergent for this content (R523). -/
def markDiverge (n : Nat) (s : State) : State :=
  if !isStandby s then s
  else
    let named := match s.ptn.adopt with | some a => bit (byteAt a 4) 0 | none => false
    let div := named && (chosen s n).isNone
    let s := wr Reg.PTN_STATUS_DIVERGE (b2n div) s
    if div then
      { s with ptn := { s.ptn with diverged := s.gte.seq :: s.ptn.diverged } } |> satInc Reg.PTN_DIVCNT_DIVERGENT 1
    else s

/-- A frame of the source stream still being written that would have qualified is late (R93). -/
def markMissed (n : Nat) (s : State) : State :=
  match (streamSt s n).writing with
  | some w => if !w.bad && w.pt ≤ showTime s then setWriting n (some { w with missed := true }) s else s
  | none => s

/-- Frames that wait belong to the time before direct mode (R99). -/
def dropWaiting (s : State) : State :=
  forEach (List.range 4) (fun n s => setStream n { streamSt s n with waiting := none } s) s

/-- BASE_FRAME_SELECT (R91). -/
def selectBase (s : State) : State :=
  let n := act s tipStream
  let s :=
    if directMode s then
      if s.gte.source = .direct then s else s |> dropWaiting |> newSource .direct
    else
      let s := if s.gte.source = .direct then newSource .default s else s
      let s := s |> markDiverge n |> markMissed n
      match chosen s n with
      | some f => s |> setStream n { streamSt s n with waiting := none } |> newSource (.stream n f)
      | none => s
  { s with ptn := { s.ptn with adopt := none } } |> setSel

/-- BASE_STALE_TIMER (R97): each fault once an episode, when the age passes its limit. -/
def doBaseStaleTimer (t : Nat) (s : State) : State :=
  let s := atTime t s
  if !rasterOn s || s.gte.source = .direct then s
  else
    let stale := clampN 10 2000 (rd s Reg.GTE_STALE_STALE_MS)
    let lost := max stale (rd s Reg.GTE_STALE_LOST_MS)
    let s := setBaseAge s
    let s := if stale < baseAge s && !s.gte.staleUp then
        raise 0x060 0 { s with gte := { s.gte with staleUp := true } } else s
    if lost < baseAge s && !s.gte.lostUp then raise 0x061 0 { s with gte := { s.gte with lostUp := true } } else s

/-! ### The source image (R96, R99, R100) -/

/-- Width, height, base address and row pitch of the image rendered. -/
def sourceImage (s : State) : Nat × Nat × Nat × Nat :=
  match s.gte.source with
  | .default => (tileCols s * 32, tileRows s * 32, 0x21E08000, 1024)
  | .stream n f => (streamW s n, streamH s n, bufAddr n f.buf, 4096)
  | .direct => (fieldW s, fieldH s, act s Reg.RAS_SH_BASEADDR_ADDR * 64, 4096)

/-- A halfword that an engine reads: 0 in an uncorrectable word and beyond the pixel store. -/
def engine16 (s : State) (a : Nat) : Nat := if 0x22000000 ≤ a + 1 || eccBadAt s a then 0 else ld16 s a

/-- Weighted terms of a bilinear interpolation: address and weight of each sample with a weight. -/
abbrev Terms := List (Nat × Nat)

/-- The four terms at address `a`, with row pitch `pitch`, at fractions fx and fy of n and m. -/
def bilinear (a pitch fx n fy m : Nat) : Terms :=
  [(a, (n - fx) * (m - fy)), (a + 2, fx * (m - fy)), (a + pitch, (n - fx) * fy), (a + pitch + 2, fx * fy)].filter
    (fun t => t.2 != 0)

/-- Sum of the terms. -/
def termSum (s : State) (t : Terms) : Nat := t.foldl (fun a q => a + engine16 s q.1 * q.2) 0

/-! ### Warp and levelling (R101 to R105) -/

/-- Pixels of a mesh cell. -/
def meshS (s : State) : Nat := match s.part with | .mu6410 => 32 | .mu1610 => 16

/-- Stoker address of control point (i, j) of the mesh in force. -/
def meshAddr (s : State) (i j : Nat) : Nat := 0x21E00000 + act s Reg.RAS_SH_MESH_MESH * 0x2000 + 4 * (65 * j + i)

/-- A field of a control point. -/
def meshField (v : Nat) : Int := if v = 0x8000 then 32768 else sx 16 v

/-- Control points of the cell of a pixel with their weights. -/
def meshTerms (s : State) (x y : Nat) : Terms :=
  let k := meshS s
  let (i, j, fx, fy) := (x / k, y / k, x % k, y % k)
  [(meshAddr s i j, (k - fx) * (k - fy)), (meshAddr s (i + 1) j, fx * (k - fy)),
    (meshAddr s i (j + 1), (k - fx) * fy), (meshAddr s (i + 1) (j + 1), fx * fy)].filter (fun t => t.2 != 0)

/-- u16 (`o` = 0) or v16 (`o` = 2) of a pixel, before the levelling shift. -/
def meshPos (s : State) (t : Terms) (o : Nat) : Int :=
  roundDivI (t.foldl (fun a q => a + meshField (ld16 s (q.1 + o)) * q.2) 0) (meshS s * meshS s)

/-- The samples of v1 of a pixel: none where the position lies off the source image. -/
def warpTerms (s : State) (x y : Nat) : Terms :=
  let t := meshTerms s x y
  let (w, h, a, pitch) := sourceImage s
  let ub := meshPos s t 0 * w / (fieldW s : Int)
  let vb := (meshPos s t 2 - s.gte.d16) * h / (fieldH s : Int)
  if ub < 0 || 16 * ((w : Int) - 1) < ub || vb < 0 || 16 * ((h : Int) - 1) < vb then []
  else
    let (ub, vb) := (ub.toNat, vb.toNat)
    bilinear (a + vb / 16 * pitch + ub / 16 * 2) pitch (ub % 16) 16 (vb % 16) 16

/-- v1 (R105); a control point that is uncorrectable makes it 0 (R100). -/
def warp (s : State) (x y : Nat) : Nat :=
  if (meshTerms s x y).any (fun q => eccBadAt s q.1) then 0 else (termSum s (warpTerms s x y) + 8) / 16

/-! ### Blocking layer (R106 to R110) -/

/-- Plate `n` is placed and permitted. -/
def plateOn (s : State) (n : Nat) : Bool := act s (Reg.GTE_PL_CTRL_EN n) != 0 && bit (act s tipGlyphs) n

/-- Texel position of a pixel on plate `n` in 1/16 texel. -/
def texelPos (s : State) (n x y : Nat) : Int × Int :=
  let (px, py) := (sx 16 (act s (Reg.GTE_PL_POS_X n)), sx 16 (act s (Reg.GTE_PL_POS_Y n)))
  let (ang, scale) := (act s (Reg.GTE_PL_XFORM_ANGLE n), act s (Reg.GTE_PL_XFORM_SCALE n))
  let dx := (16 * x : Nat) - px
  let dy := (16 * y : Nat) - (py + s.gte.d16)
  let c := rotate ang dx dy
  let pos := fun (v : Int) (m which : Nat) =>
    let e := Config.texelError [ang, scale, dx, dy, which]
    (v / (scale * 2 ^ 16 : Int) + (m * 32768 : Nat) + clampI (-256) 256 e) / 4096
  (pos c.1 (act s (Reg.GTE_PL_CTRL_WM1 n) + 1) 0, pos c.2 (act s (Reg.GTE_PL_CTRL_HM1 n) + 1) 1)

/-- Texels that the position interpolates from, with their weights; texels outside the plate add nothing. -/
def texelTerms (s : State) (n x y : Nat) : Terms :=
  let (tu, tv) := texelPos s n x y
  let (i, j, fu, fv) := (tu / 16, tv / 16, (tu % 16).toNat, (tv % 16).toNat)
  let (w, h) := (act s (Reg.GTE_PL_CTRL_WM1 n) + 1, act s (Reg.GTE_PL_CTRL_HM1 n) + 1)
  let at' := fun (di dj : Int) (wt : Nat) =>
    let (a, b) := (i + di, j + dj)
    if 0 ≤ a && a < w && 0 ≤ b && b < h && wt != 0 then
      [(0x21C00000 + n * 0x40000 + b.toNat * 1024 + 2 * a.toNat, wt)] else []
  at' 0 0 ((16 - fu) * (16 - fv)) ++ at' 1 0 (fu * (16 - fv)) ++ at' 0 1 ((16 - fu) * fv) ++ at' 1 1 (fu * fv)

/-- Alpha (`k` = 256) or shade (`k` = 1) of a pixel on a plate, rounded half up. -/
def texelValue (s : State) (t : Terms) (k : Nat) : Nat :=
  (t.foldl (fun a q => a + engine16 s q.1 / k % 256 * q.2) 0 + 128) / 256

/-- R109: plate `n` blends onto `v`. -/
def blendPlate (s : State) (n x y v : Nat) : Nat :=
  let t := texelTerms s n x y
  let a := texelValue s t 256
  let sh := texelValue s t 1
  let a' := a + a / 128
  let s' := sh + sh / 128
  let g := 16 * act s (Reg.GTE_PL_INT_IG n) * s' / 256
  let cap := 16 * act s (Reg.GTE_PL_INT_CAP n)
  min 0xFFFFF
    (if act s (Reg.GTE_PL_CTRL_MODE n) = 0 then ((256 - a') * v + a' * min g cap + 128) / 256
     else max v (min cap (v + a' * g / 256)))

/-- Plates in force, in ascending number. -/
def platesOn (s : State) : List Nat := (List.range 8).filter (plateOn s)

/-- v2. -/
def blocking (s : State) (x y v1 : Nat) : Nat := (platesOn s).foldl (fun v n => blendPlate s n x y v) v1

/-! ### Envelope (R112 to R118) -/

/-- The envelope set in force. -/
def envSet (s : State) : Nat := rd s Reg.GTE_ENVSET_SET

/-- Stoker address of the parameter set in force. -/
def paramAddr (s : State) : Nat := 0x21E68000 + 0x4000 * envSet s

/-- Halfword of the parameter set. -/
def param (s : State) (o : Nat) : Nat :=
  let a := paramAddr s + o
  if eccBadAt s a then Config.badParam a % 65536 else ld16 s a

/-- The parameter set reads uncorrectable somewhere (R100). -/
def paramBad (s : State) : Bool := eccBadIn s (paramAddr s) 0x4000

/-- NPTS. -/
def envNpts (s : State) : Nat := param s 2 % 256

/-- The cut-off polyline. -/
def envPoly (s : State) : List (Nat × Int) :=
  (List.range (envNpts s)).map (fun k => (param s (8 + 4 * k), sx 16 (param s (10 + 4 * k))))

/-- x values increase strictly from 0 to N_x. -/
def polyOk (s : State) : Bool :=
  let xs := (envPoly s).map Prod.fst
  (2 ≤ envNpts s && envNpts s ≤ 33) && !paramBad s && xs.head? == some 0 && xs.getLast? == some (fieldW s) &&
    (xs.zip (xs.drop 1)).all (fun q => decide (q.1 < q.2))

/-- The derating curve. -/
def envCurve (s : State) : List (Int × Nat) :=
  (List.range 8).map (fun k => (sx 16 (param s (0x110 + 4 * k)), param s (0x112 + 4 * k)))

/-- T values increase strictly. -/
def curveOk (s : State) : Bool := !paramBad s && tempsRise (envCurve s)

/-- Dt of a lane (R117, R118). -/
def derate (s : State) (lane : Nat) : Nat :=
  let c := envCurve s
  if !curveOk s then c.foldl (fun m q => min m q.2) 0xFFFF
  else match tileTemp s lane with
    | some t => lerpCurve c t
    | none => ((c.getLast?).map Prod.snd).getD 0

/-- yc16 at column x, rounded up (R116). -/
def cutRow (p : List (Nat × Int)) (x : Nat) : Int :=
  match p with
  | a :: b :: rest =>
    if x < b.1 then a.2 - -((b.2 - a.2) * ((x : Int) - a.1)) / ((b.1 : Int) - a.1) else cutRow (b :: rest) x
  | [a] => a.2
  | [] => 0

/-- The pixel counts as above the cut-off. -/
def aboveCut (s : State) (x y : Nat) : Bool :=
  !polyOk s || decide ((16 * y : Nat) < cutRow (envPoly s) x + s.gte.d16)

/-- Samples of the envelope map for a pixel (R115). -/
def mapTerms (s : State) (x y : Nat) : Terms :=
  let h := tileRows s * 32
  let w := tileCols s * 32
  let yr := (clampI 0 (64 * ((h : Int) - 1)) ((16 * y : Nat) - s.gte.d16)).toNat
  let (i, fx) := if 4 * (w - 1) ≤ x then (w - 1, 0) else (x / 4, x % 4)
  bilinear (0x21E28000 + 0x20000 * envSet s + yr / 64 * 1024 + 2 * i) 1024 fx 4 (yr % 64) 64

/-- E of a pixel (R116). -/
def envLimit (s : State) (lane x y : Nat) : Nat :=
  let m := 16 * (termSum s (mapTerms s x y) / 256)
  let raw := if aboveCut s x y then min m (16 * param s 4) else m
  raw * act s Reg.RAS_SH_ENVSCALE_SCALE / 2 ^ 15 * derate s lane / 2 ^ 15

/-- EFF of the cell of a pixel, in µlm (R113). -/
def effOf (s : State) (x y : Nat) : Nat := param s (0x2000 + 2 * (y / 16 * 128 + x / 16))

/-! ### Governors (R119 to R121) -/

/-- Kt of a lane. -/
def ktOf (s : State) (lane : Nat) : Nat := SMap.getD s.gte.kt lane 0x8000

/-- Kc of a lane. -/
def kcOf (s : State) (lane : Nat) : Nat := rd s Reg.GTE_FLUXK_KF * ktOf s lane / 2 ^ 15

/-- GTE.TILEVIEW shows the factors of the lane selected. -/
def setTileview (s : State) : State :=
  let n := rd s Reg.GTE_TILESEL_LANE
  s |> wr Reg.GTE_TILEVIEW_KT (ktOf s n) |> wr Reg.GTE_TILEVIEW_DT (derate s n)

/-- A factor for the next content from the last: falls in one step, rises by at most 0x200 (R120). -/
def nextFactor (k cap sum : Nat) : Nat := min 0x8000 (min (k + 0x200) (if sum = 0 then 0x8000 else cap * 2 ^ 15 / sum))

/-- capf on the 20-bit scale. -/
def fluxCap (s : State) : Nat := param s 0 * 1000000 * 2 ^ 20

/-- What Kf and Kt are computed from: (Kf, Sf) and per lane (Kt, St); in the standby the values of GOV (R521). -/
def govTerms (s : State) (lane : Nat) : (Nat × Nat) × (Nat × Nat) :=
  match (if isStandby s then s.ptn.gov else none) with
  | some g => ((leAt g 0 2, leAt g 130 8), (leAt g (2 + 2 * lane) 2, leAt g (138 + 8 * lane) 8))
  | none => ((rd s Reg.GTE_FLUXK_KF, s.gte.sf), (ktOf s lane, SMap.getD s.gte.st lane 0))

/-- A standby without the active's values keeps the factors that it has (log entry 33). -/
def govSilent (s : State) : Bool := isStandby s && s.ptn.gov.isNone

/-- GOVERNOR_UPDATE (R120, R121). -/
def governors (s : State) : State :=
  let s := s |> wr Reg.GTE_FLUXSUM_SUM (min (2 ^ 32 - 1) (s.gte.so / (2 ^ 20 * 1000)))
    |> when (decide (fluxCap s < s.gte.so)) (satInc Reg.GTE_FLUXOVR_COUNT 1)
  let s :=
    if govSilent s then s
    else
      let kf := nextFactor (govTerms s 0).1.1 (fluxCap s) (govTerms s 0).1.2
      let kt := (tileLanes s).map (fun n =>
        (n, nextFactor (govTerms s n).2.1 (16 * 16384 * param s (0x90 + 2 * n)) (govTerms s n).2.2))
      wr Reg.GTE_FLUXK_KF kf { s with gte := { s.gte with kt := kt } }
  { s with gte := { s.gte with sf := 0, so := 0, st := [] } } |> wr Reg.GTE_FLUXCAP_CAP (param s 0)

/-- The payload of GOV (R513): factors and sums of the content just rendered, temperatures for the next. -/
def govPayload (s : State) : Bytes :=
  let ls := List.range 64
  leBytes 2 (rd s Reg.GTE_FLUXK_KF) ++ ls.flatMap (fun n => leBytes 2 (ktOf s n)) ++ leBytes 8 s.gte.sf ++
    ls.flatMap (fun n => leBytes 8 (SMap.getD s.gte.st n 0)) ++ ls.flatMap (fun n => leBytes 2 (tprLane s n).temp)

/-- The temperatures that the content takes (R117, R521), and COR.STATUS.TEMPHOLD (R165). -/
def takeTemps (s : State) : State :=
  let own := fun n => let l := tprLane s n; if l.temp = 0x8000 then none else some (l.temp + 65536 * l.tempAge)
  let held := fun n => match SMap.find s.gte.dt n with | some v => some (v + 65536) | none => none
  let val := fun n =>
    match (if pairOp s then s.ptn.gov else none) with
    | some g => let v := leAt g (650 + 2 * n) 2; if v = 0x8000 then held n else some v
    | none => if pairOp s then held n else own n
  let s := { s with gte := { s.gte with dt := (tileLanes s).filterMap (fun n => (val n).map (fun v => (n, v))) } }
  wr Reg.COR_STATUS_TEMPHOLD (b2n ((tileLanes s).any (fun n => (tileTemp s n).isNone))) s

/-! ### Render of a tile line (R63, R84, R100, R120, R122, R123) -/

/-- Tile positions of an engine's half: (column, row). -/
def halfTiles (s : State) (east : Bool) : List (Nat × Nat) :=
  let h := tileCols s / 2
  (List.range (tileRows s)).flatMap (fun r => (List.range h).map (fun c => (if east then c + h else c, r)))

/-- Lane of a tile position. -/
def laneAt (s : State) (c r : Nat) : Nat := byteAt (bindSec s 3) (r * tileCols s + c)

/-- Tile position of a lane. -/
def posOf (s : State) (lane : Nat) : Option (Nat × Nat) :=
  ((List.range (laneCount s)).find? (fun i => byteAt (bindSec s 3) i == lane)).map
    (fun i => (i % tileCols s, i / tileCols s))

/-- Addresses that an engine reads for a pixel. -/
def pixelReads (s : State) (x y : Nat) : List Nat :=
  (meshTerms s x y ++ warpTerms s x y ++ (platesOn s).flatMap (fun n => texelTerms s n x y) ++ mapTerms s x y).map Prod.fst

/-- An engine reports an uncorrectable word that it read (R100): 0 GTE, 1 GTW. -/
def engineEcc (e w : Nat) (s : State) : State :=
  s |> wr (Reg.GTX_STATUS_ECCU e) 1 |> satInc (Reg.GTX_ECCCNT_UNCORR e) 1 |> raise (0x062 + 0x10 * e) w

/-- At the content start both engines read the parameter set: each uncorrectable word is reported, and a set that is
malformed raises ENV_TABLE once a commit (R100, R118). -/
def paramSeen (s : State) : State :=
  let a := paramAddr s
  let bad := s.eccBad.filter (fun w => a ≤ w && w < a + 0x4000)
  let s := forEach bad (fun w s => s |> engineEcc 0 w |> engineEcc 1 w) s
  if (polyOk s && curveOk s) || s.gte.envUp then s
  else raise 0x063 0 { s with gte := { s.gte with envUp := true } }

/-- Each uncorrectable word that the engine reads for a tile line is reported (log entry 34). -/
def lineEcc (east : Bool) (l : Nat) (s : State) : State :=
  if s.eccBad.isEmpty then s
  else
    let pix := (halfTiles s east).flatMap (fun q => (List.range 128).map (fun p => (128 * q.1 + p, 128 * q.2 + l)))
    let reads := pix.flatMap (fun q => (pixelReads s q.1 q.2).map (fun a => a / 8 * 8))
    forEach (s.eccBad.filter reads.contains) (engineEcc (if east then 0 else 1)) s

/-- One pixel through the stages 1 to 5 of R84. -/
def renderPixel (lane l x y p : Nat) (s : State) : State :=
  let v2 := blocking s x y (warp s x y)
  let (m, s) := znePixel l x y s
  let e := envLimit s lane x y
  let v4 := min (v2 * m / 4096) e
  let v5 := v4 * kcOf s lane / 2 ^ 15
  let i := pixIdx lane l p
  { s with
    gte := { s.gte with
      sf := s.gte.sf + v4 * effOf s x y
      so := s.gte.so + v5 * effOf s x y
      st := SMap.put s.gte.st lane (SMap.getD s.gte.st lane 0 + v4)
      mask := if m = 0x1000 then SMap.del s.gte.mask i else SMap.put s.gte.mask i m }
    cor := { s.cor with v5 := SMap.put s.cor.v5 i v5, env := SMap.put s.cor.env i e } }

/-- An engine renders tile line `l` of its half. -/
def renderLine (east : Bool) (l : Nat) (s : State) : State :=
  let s := s |> zneTables |> lineEcc east l
  forEach (halfTiles s east) (fun q s =>
    forEach (List.range 128) (fun p => renderPixel (laneAt s q.1 q.2) l (128 * q.1 + p) (128 * q.2 + l) p) s) s

/-! ### Payback and the last gate (R250 to R252, R387 to R390) -/

/-- Phases that drive each pixel in one frame (R244). -/
def phasesPerPixel (s : State) : Nat := phaseCount (modeNow s) (act s Reg.RAS_SH_TIMING_PHLEN) / 4

/-- Balances of a pixel that this content repays, by key. -/
def balancesOf (s : State) (lane px : Nat) : List (Nat × Balance) :=
  s.swp.balances.filter (fun b => b.2.lane == lane && b.2.pixel == px && 0 < b.2.left && b.2.seq != s.gte.seq)

/-- One balance takes its trim from a code. -/
def payOne (np : Nat) (b : Nat × Balance) (acc : Nat × State) : Nat × State :=
  let (c, s) := acc
  let d := min c (ceilDiv b.2.bal np)
  let rest := b.2.bal - d * np
  (c - d, { s with swp := { s.swp with
    balances := SMap.put s.swp.balances b.1 { b.2 with bal := rest, trim := b.2.bal - rest } } })

/-- The payback trim of a code after the dither (R250, R251). -/
def payback (lane px code : Nat) (s : State) : Nat × State :=
  let bs := balancesOf s lane px
  if bs.isEmpty then (code, s)
  else if code = 0 then
    let s := { s with swp := { s.swp with balances := bs.foldl (fun m b => SMap.del m b.1) s.swp.balances } }
    (0, satInc Reg.SWP_PAYBACK_CANCEL bs.length s)
  else bs.foldl (fun acc b => payOne (phasesPerPixel s) b acc) (code, s)

/-- A budget zeroes a code: CLIPB counts it, and GATE_CLIP is raised once a content (R387). -/
def clipBudget (lane : Nat) (s : State) : State :=
  let s := satInc Reg.COR_GATE_CLIP_CLIPB 1 s
  if s.cor.clipped then s else raise 0x095 lane { s with cor := { s.cor with clipped := true } }

/-- The last gate under SLIP. -/
def gateSlip (lane x y code : Nat) (s : State) : Nat × State :=
  let eff := effOf s x y
  let c := if (16 * y : Nat) < s.cor.g16 then 0 else code
  let c := min c (rd s Reg.COR_GATE_CAP_SLCAP)
  let t := SMap.getD s.cor.gLane lane 0
  let (c, s) := if rd s Reg.COR_GATE_BUDGET_TILEMEAN * 16384 < t + c then (0, clipBudget lane s) else (c, s)
  let (c, s) := if rd s Reg.COR_GATE_BUDGET_FLUX * 1000000 * 65535 < s.cor.gFlux + c * eff then
      (0, clipBudget lane s) else (c, s)
  (c, { s with cor := { s.cor with gLane := SMap.put s.cor.gLane lane (t + c), gFlux := s.cor.gFlux + c * eff } })

/-- The last gate outside SLIP. -/
def gateLit (code : Nat) (s : State) : Nat × State :=
  let cap := rd s Reg.COR_GATE_CAP_LITCAP
  if cap < code then (cap, satInc Reg.COR_GATE_CLIP_CLIPC 1 s) else (code, s)

/-- Lane `n` is forced dark (R388). -/
def laneDark (s : State) (n : Nat) : Bool := mapBit s Reg.COR_GATE_FDARK_LO_MAP Reg.COR_GATE_FDARK_HI_MAP n

/-- The last gate (R387). -/
def lastGate (lane x y code : Nat) (s : State) : Nat × State :=
  let c := if laneDark s lane then 0 else code
  if s.cor.slip then gateSlip lane x y c s else gateLit c s

/-- One pixel leaves COR. -/
def emitPixel (lane l x y p : Nat) (acc : List Nat × State) : List Nat × State :=
  let (c, s) := corPixel lane l p acc.2
  let (c, s) := payback lane (l * 128 + p) c s
  let (c, s) := lastGate lane x y c s
  (acc.1 ++ [c], s)

/-- The row of a lane leaves COR. -/
def emitRow (l lane : Nat) (s : State) : State :=
  match posOf s lane with
  | none => s
  | some (c, r) =>
    let (row, s) := (List.range 128).foldl (fun acc p => emitPixel lane l (128 * c + p) (128 * r + l) p acc) ([], s)
    { s with gte := { s.gte with codes := SMap.put s.gte.codes (lane * 128 + l) row } }

/-- Weight w of R262. -/
def sumWeight (s : State) (i : Nat) : Nat := if calSel (calWord s i) = 3 then 0 else 1

/-- S_t of a lane's content (R262). -/
def tileSum (s : State) (lane : Nat) : Nat :=
  (List.range 128).foldl (fun a l =>
    ((rowOf s.gte.codes lane l).zipIdx).foldl (fun a q => a + q.1 * sumWeight s (pixIdx lane l q.2)) a) 0

/-- SWP keeps S_t of the last four contents of a lane. -/
def keepSum (lane : Nat) (s : State) : State :=
  let v := (s.gte.seq, tileSum s lane)
  modTpr lane (fun q => { q with sums := (v :: q.sums).take 4 }) s

/-- COR emits tile line `l` of every lane, lanes ascending. -/
def emitLine (l : Nat) (s : State) : State :=
  let s := forEach (tileLanes s) (emitRow l) s
  let s := { s with cor := { s.cor with line := l + 1 } }
  if l = 127 then
    s |> forEach (tileLanes s) keepSum |> wr Reg.COR_FILLSTAT_UNFILLED (min 65535 s.cor.unfilled)
  else s

/-- COR emits what both engines have completed; a line waits for the line below it (R171). -/
def emitReady (s : State) : State :=
  let m := min s.gte.nextE s.gte.nextW
  let stop := if m = 128 then 128 else m - 1
  forEach (List.range' s.cor.line (stop - s.cor.line)) emitLine s

/-! ### TILE_LINE_RENDER and RENDER_DEADLINE_MISS -/

/-- Render position of the raster: tile line `l` is due from position `l` on (R63). -/
def renderPos (s : State) : Nat := let n := lineNow s; if 128 ≤ n then n - 128 else n + 8

/-- Next tile line of an engine. -/
def nextLine (s : State) (east : Bool) : Nat := if east then s.gte.nextE else s.gte.nextW

/-- An engine has completed tile line `l`, with its clocks and its start's delay in lines. -/
def lineDone (east : Bool) (l clocks backlog : Nat) (s : State) : State :=
  let e := if east then 0 else 1
  let mx := max clocks (SMap.getD s.gte.maxClk e 0)
  let bl := max backlog (SMap.getD s.gte.backlog e 0)
  let s := { s with gte := { s.gte with
      maxClk := SMap.put s.gte.maxClk e mx, backlog := SMap.put s.gte.backlog e bl
      nextE := if east then l + 1 else s.gte.nextE, nextW := if east then s.gte.nextW else l + 1 } }
    |> wr (Reg.GTX_STATUS_LINE e) l
  if l = 127 then
    s |> wr (Reg.GTX_STATUS_RUN e) 0 |> wr (Reg.GTX_LOAD_MAXCLK e) mx |> wr (Reg.GTX_LOAD_BACKLOG e) bl
  else s

/-- TILE_LINE_RENDER (R123). -/
def doTileLineRender (east : Bool) (line clocks backlog : Nat) (s : State) : State :=
  if rasterOn s && s.gte.active && lineNow s != 0xFF && line < 128 && line == nextLine s east && line ≤ renderPos s then
    s |> renderLine east line |> lineDone east line clocks backlog |> emitReady
  else s

/-- The content is withdrawn (R124): counted once. -/
def withdrawContent (s : State) : State :=
  if 128 ≤ lineNow s then
    if s.ras.withdrawnNext then s
    else satInc Reg.GTE_ABORTCNT_COUNT 1 { s with ras := { s.ras with withdrawnNext := true } }
  else if s.ras.withdrawn then s
  else satInc Reg.GTE_ABORTCNT_COUNT 1 { s with ras := { s.ras with withdrawn := true } }

/-- RENDER_DEADLINE_MISS (R123, R124): the start of raster line L − 1 has come and tile line L has not left COR. -/
def doRenderDeadlineMiss (east : Bool) (line : Nat) (s : State) : State :=
  let e := if east then 0 else 1
  if rasterOn s && s.gte.active && lineNow s != 0xFF && line < 128 && s.cor.line ≤ line && line + 7 ≤ renderPos s then
    s |> wr (Reg.GTX_STATUS_LATE e) 1 |> raise (0x064 + 0x10 * e) 0 |> withdrawContent
  else s

/-! ### The meanings of the rows -/

/-- AVTP_PACKET (R89). -/
def execAvtpPacket (port t : Nat) (p : AvtpPkt) (s : State) : Out :=
  .next (doAvtpPacket port t p s)

/-- BASE_STALE_TIMER (R97). -/
def execBaseStaleTimer (t : Nat) (s : State) : Out :=
  .next (doBaseStaleTimer t s)

/-- TILE_LINE_RENDER (R123). -/
def execTileLineRender (east : Bool) (line clocks backlog : Nat) (s : State) : Out :=
  .next (doTileLineRender east line clocks backlog s)

/-- RENDER_DEADLINE_MISS (R124). -/
def execRenderDeadlineMiss (east : Bool) (line : Nat) (s : State) : Out :=
  .next (doRenderDeadlineMiss east line s)

end Sys2Proof.Machine
end

