-- ==== Sys2Proof/Machine/Fender.lean ====
section
/-! DEFINITION. The fender (`13_safety_functions.md`): its copies of protected zones, its verdict on each content, the
dark-path test, and the TGEN test. -/

namespace Sys2Proof.Machine

/-! ### Its configuration (R385) -/

/-- Field of `n` bytes of the SAFETY section that the fender holds. -/
def safetyAt (s : State) (o n : Nat) : Nat := leAt (s.fender.safety.getD []) o n

/-- Signed halfword of the section. -/
def safetyI (s : State) (o : Nat) : Int := sx 16 (safetyAt s o 2)

/-- The fender runs its checks: RUN and CFGOK. -/
def fenderRuns (s : State) : Bool := mainOn s.dev.state && rdb s Reg.FST_RUN && rdb s Reg.FST_CFGOK

/-- FST_DP.AGE shows the time since the last passed test. -/
def setDpAge (s : State) : State := wr Reg.FST_DP_AGE (min 65535 ((s.now - s.fender.passAt) / 250000)) s

/-! ### Protected zones (R391) -/

/-- The 48-byte descriptor of a ZONE_PUT's 44 parameter bytes (R349). -/
def expandZone (p : Bytes) : Bytes :=
  p.take 1 ++ [0] ++ leBytes 2 (byteAt p 1 % 16) ++ padTo 42 (p.drop 2) ++ [0, 0]

/-- The tag of a copy verifies under MBX1. -/
def copyTagOk (s : State) (q : Ingress) : Bool :=
  if q.zpub then Config.zpubTagOk q.body q.atag q.cnt
  else leAt (Config.cmac (SMap.getD s.sec.keys 2 []) (leBytes 4 q.cnt ++ q.body)) 0 8 == q.atag

/-- The newest copy that the fender has accepted for a zone and not yet removed. -/
def fenderCopy (s : State) (zid : Nat) : Option Bytes :=
  let newer := (s.fender.waiting.map Prod.fst ++ s.fender.due).filter (fun b => dZid b == zid)
  match newer.getLast? with
  | some b => some b
  | none => SMap.find s.fender.held zid

/-- The copy names a zone that the fender holds as protected. -/
def fenderHolds (s : State) (zid : Nat) : Bool :=
  match fenderCopy s zid with
  | some b => !dClear b
  | none => false

/-- A copy passes R129 and R130. -/
def copyFresh (s : State) (d : Bytes) : Bool :=
  dValid (netNow s) d &&
    match fenderCopy s (dZid d) with
    | some b => decide (dTobs b 4 (netNow s) < dTobs d 4 (netNow s))
    | none => true

/-- The fender accepts a zone copy. -/
def acceptCopy (d : Bytes) (s : State) : State :=
  let tap := (dZid d, dTobs d 4 (netNow s))
  if dClear d then { s with fender := { s.fender with due := s.fender.due ++ [d] } }
  else if s.fender.taps.contains tap then
    { s with fender := { s.fender with due := s.fender.due ++ [d], taps := s.fender.taps.filter (· != tap) } }
  else { s with fender := { s.fender with waiting := s.fender.waiting ++ [(d, s.now)] } }

/-- A ZONE_CLEAR_ALL of every zone clears each zone held whose TOBS is not later (R130, R351, R391). -/
def clearCopies (p : Bytes) (s : State) : State :=
  let zids := (List.range 64).filter (fenderHolds s)
  let clear := fun z => leBytes 1 z ++ [0] ++ leBytes 2 8 ++ p.take 8 ++ zeroBytes 36
  forEach zids (fun z s => if copyFresh s (clear z) then acceptCopy (clear z) s else s) s

/-- FENDER_INGRESS (R391): the oldest copy of the queue is judged. -/
def doFenderIngress (t : Nat) (s : State) : State :=
  let s := atTime t s
  match s.fender.ingress with
  | [] => s
  | q :: rest =>
    let s := { s with fender := { s.fender with ingress := rest } }
    if !fenderRuns s || !rasterOn s || !copyTagOk s q then s
    else if q.opc = 0x0402 then
      let p := q.body.drop 8
      if byteAt p 8 = 1 then clearCopies p s else s
    else
      let d := if q.zpub then q.body else expandZone (q.body.drop 8)
      if (dProt d || fenderHolds s (dZid d)) && copyFresh s d then acceptCopy d s else s

/-- FENDER_ZONE_APPLY (R391): ZACC_US after its acceptance a copy applies without the tap. -/
def doFenderZoneApply (zid t : Nat) (s : State) : State :=
  let s := atTime t s
  let old := fun (w : Bytes × Nat) => dZid w.1 == zid && decide (w.2 + usTicks (safetyAt s 0x24 2) ≤ s.now)
  { s with fender := { s.fender with
      waiting := s.fender.waiting.filter (fun w => !old w)
      due := s.fender.due ++ (s.fender.waiting.filter old).map Prod.fst } }

/-- One copy takes effect. -/
def applyCopy (d : Bytes) (s : State) : State :=
  { s with fender := { s.fender with
      held := if dClear d then SMap.del s.fender.held (dZid d) else SMap.put s.fender.held (dZid d) d } }

/-- At a content start the fender applies what is due, and its own gate row and mode follow (R391, R395). -/
def fenderStart (s : State) : State :=
  let slip := slipState s
  let t16 := safetyI s 0xC + s.gte.d16
  let g := if slip && s.fender.slip then max t16 (s.fender.g16 - (safetyAt s 0xE 2 : Nat)) else t16
  let s := forEach s.fender.due applyCopy s
  { s with fender := { s.fender with due := [], g16 := g, slip := slip } }
    |> wr Reg.FST_ZONES s.fender.held.length
    |> wr Reg.FST_MODE (if !fenderRuns s then 0 else if slip then 2 else 1)

/-! ### The verdict (R392 to R396) -/

/-- A tile is LIVE as TPR reports it. -/
def tileLive (s : State) (n : Nat) : Bool := inService s n && tileState s n == 0

/-- Code of a field pixel in the content judged. -/
def codeAt (s : State) (x y : Nat) : Nat :=
  (rowOf s.gte.codes (laneAt s (x / 128) (y / 128)) (y % 128)).getD (x % 128) 0

/-- Pixels of cell (c, r). -/
def cellPixels (c r : Nat) : List (Nat × Nat) :=
  (List.range 16).flatMap (fun j => (List.range 16).map (fun i => (16 * c + i, 16 * r + j)))

/-- Codes of a cell. -/
def cellCodes (s : State) (c r : Nat) : List Nat := (cellPixels c r).map (fun p => codeAt s p.1 p.2)

/-- The tile of a cell. -/
def cellLane (s : State) (c r : Nat) : Nat := laneAt s (c / 8) (r / 8)

/-- Cells of the field: (column, row). -/
def cells (s : State) : List (Nat × Nat) :=
  (List.range (fieldH s / 16)).flatMap (fun r => (List.range (fieldW s / 16)).map (fun c => (c, r)))

/-- A point in 1/16 pixel lies inside the confirmed outline of a copy, moved down by Δ16 and shrunk by TBAND. -/
def insideShrunk (s : State) (d : Bytes) (x y : Int) : Bool :=
  let dx := x - s32At d 0xC
  let dy := y - (s32At d 0x10 + s.gte.d16)
  let m := dMargin d
  let band : Int := (safetyAt s 3 1 : Nat)
  match dOutline d with
  | .ellipse a b g =>
    let a := (a : Int) + m - band
    let b := (b : Int) + m - band
    0 < a && 0 < b && ellipseR a.toNat b.toNat g dx dy ≤ 2 ^ 32
  | .quad c => decide (polyDist c dx dy - m * 65536 ≤ -(band * 65536))

/-- The fender judges cell (c, r) against a zone: all four corners lie inside. -/
def cellJudged (s : State) (d : Bytes) (c r : Nat) : Bool :=
  tileLive s (cellLane s c r) &&
    [(0, 0), (256, 0), (0, 256), (256, 256)].all (fun q : Nat × Nat =>
      insideShrunk s d ((256 * c + q.1 : Nat) : Int) ((256 * r + q.2 : Nat) : Int))

/-- A zone's verdict (R392, R393): ZONE_GLARE for the last cell that fails. -/
def judgeZone (z : Nat × Bytes) (s : State) : State :=
  let dark := safetyAt s 2 1
  let bad := (cells s).filter (fun q => cellJudged s z.2 q.1 q.2 && (cellCodes s q.1 q.2).any (fun v => dark < v))
  match bad.getLast? with
  | some (c, r) =>
    s |> wr Reg.FST_CELL_WHAT z.1 |> wr Reg.FST_CELL_TP 0 |> wr Reg.FST_CELL_CELL (r * 128 + c) |> raise 0x1A0 z.1
  | none => s

/-- Σ code × FEFF of a cell. -/
def cellIntensity (s : State) (c r : Nat) : Nat :=
  (cellCodes s c r).foldl (· + ·) 0 * safetyAt s (0x140 + 2 * (r * 128 + c)) 2

/-- A failed test point. -/
def tpFails (src t cell : Nat) (s : State) : State :=
  s |> wr Reg.FST_CELL_WHAT t |> wr Reg.FST_CELL_TP 1 |> wr Reg.FST_CELL_CELL cell |> raise src t

/-- Sets the instant since which a test point is below its minimum. -/
def setTpLow (t : Nat) (v : Option Nat) (s : State) : State :=
  { s with fender := { s.fender with tpLow := match v with
      | some i => SMap.put s.fender.tpLow t i
      | none => SMap.del s.fender.tpLow t } }

/-- The minimum of a test point (R394), over contents in which every tile is LIVE, in LIT. -/
def judgeMin (t cell mn sum : Nat) (s : State) : State :=
  if mn = 0 || s.dev.state != .lit then setTpLow t none s
  else if !(tileLanes s).all (tileLive s) then s
  else if 65535 * 1000 * mn ≤ sum then setTpLow t none s
  else
    let since := SMap.getD s.fender.tpLow t s.now
    if msTicks (safetyAt s 0x20 2) ≤ s.now - since then s |> tpFails 0x1A2 t cell |> setTpLow t (some s.now)
    else setTpLow t (some since) s

/-- Test point `t` (R394). -/
def judgePoint (t : Nat) (s : State) : State :=
  let o := 0x40 + 8 * t
  let cell := safetyAt s o 2
  let (c, r) := (cell % 128, cell / 128)
  let mx := safetyAt s (o + 2) 2
  let sum := cellIntensity s c r
  s |> when (mx != 0 && tileLive s (cellLane s c r) && decide (65535 * 1000 * mx < sum)) (tpFails 0x1A1 t cell)
    |> judgeMin t cell (safetyAt s (o + 4) 2) sum

/-- Tile lanes with their positions. -/
def mappedLanes (s : State) : List (Nat × Nat × Nat) :=
  (tileLanes s).filterMap (fun n => (posOf s n).map (fun q => (n, q.1, q.2)))

/-- Sum over the pixels of a tile of what `f` gives for code, x and y. -/
def tileFold (s : State) (q : Nat × Nat × Nat) (f : Nat → Nat → Nat → Nat) : Nat :=
  (List.range 128).foldl (fun a l => ((rowOf s.gte.codes q.1 l).zipIdx).foldl (fun a v =>
    a + f v.1 (128 * q.2.1 + v.2) (128 * q.2.2 + l)) a) 0

/-- The rules of R387 and R389 hold for the content, and its intensity keeps SL_ISUM (R395). -/
def slipOk (s : State) : Bool :=
  let ms := mappedLanes s
  let bad := fun v (_ y : Nat) =>
    b2n (decide (safetyAt s 6 2 < v) || (decide ((16 * y : Nat) < s.fender.g16) && v != 0))
  ms.all (fun q => tileFold s q bad == 0) &&
    ms.all (fun q => decide (tileFold s q (fun v _ _ => v) ≤ safetyAt s 8 2 * 16384)) &&
    decide ((ms.map (fun q => tileFold s q (fun v x y => v * effOf s x y))).foldl (· + ·) 0
      ≤ safetyAt s 0xA 2 * 1000000 * 65535) &&
    decide (((cells s).map (fun q => cellIntensity s q.1 q.2)).foldl (· + ·) 0 ≤ safetyAt s 0x10 4 * 65535 * 100)

/-- The fender judges the content being sent. -/
def verdict (s : State) : State :=
  let n := s.inbox.length
  let s := s |> forEach s.fender.held judgeZone |> forEach (List.range (safetyAt s 0x23 1)) judgePoint
    |> when (s.fender.slip && !slipOk s) (raise 0x1A3 0)
  { s with fender := { s.fender with passRun := if s.inbox.length = n then s.fender.passRun + 1 else 0 } }
    |> wr Reg.FST_SEQ_SEQ s.gte.seq

/-- FENDER_VERDICT (R396): once for each content, which COR has emitted whole. -/
def doFenderVerdict (t : Nat) (s : State) : State :=
  let s := atTime t s
  if fenderRuns s && rasterOn s && s.gte.active && s.cor.line == 128 && !s.ras.withdrawn && rd s Reg.FST_SEQ_SEQ != s.gte.seq
  then verdict s else s

/-! ### Heartbeat and EMBER (R397, R426) -/

/-- FENDER_HEARTBEAT (R397). -/
def doFenderHeartbeat (t : Nat) (s : State) : State :=
  let s := atTime t s
  if mainOn s.dev.state then setDpAge { s with fender := { s.fender with signalAt := s.now } } else s

/-- FENDER_LOST_TIMER (R397). -/
def doFenderLostTimer (s : State) : State := when (mainOn s.dev.state) (raise 0x041 0) s

/-- FENDER_CLK_CHECK (R397). -/
def doFenderClkCheck (byFender : Bool) (s : State) : State :=
  when (mainOn s.dev.state) (raise (if byFender then 0x1A9 else 0x042) 0) s

/-- EMBER_EDGE (R426). -/
def doEmberEdge (s : State) : State :=
  let s := setEmber s
  if emberHolds s then { s with fender := { s.fender with ember := !s.fender.ember } } else s

/-! ### Dark-path test (R398, R399) -/

/-- Rows of a lane in the content just sent, the largest code sum first; among equal sums the lower row. -/
def rowsBySum (s : State) (lane : Nat) : List Nat :=
  let sum := fun l => (rowOf s.gte.sent lane l).foldl (· + ·) 0
  (List.range 128).mergeSort (fun a b => decide (sum b ≤ sum a))

/-- The next LIVE lane in ascending rotation after `n`. -/
def nextLive (s : State) (n : Nat) : Option Nat :=
  ((List.range (laneCount s)).map (fun k => (n + 1 + k) % laneCount s)).find? (tileLive s)

/-- A test on a lane with the row of rank `k` by sum; it has no phase until DARKROW is sent. -/
def placeTest (lane k fails : Nat) (s : State) : State :=
  { s with fender := { s.fender with
      lastLane := lane
      test := some ⟨lane, (rowsBySum s lane).getD k 0, 0, 0, 0, fails⟩ } }

/-- DARK_PATH_TIMER (R398). -/
def doDarkPathTimer (s : State) : State :=
  if fenderRuns s && rasterOn s && s.fender.test.isNone then
    match nextLive s s.fender.lastLane with
    | some n => placeTest n 0 0 s
    | none => s
  else s

/-- DARKROW of the test has been sent. -/
def darkSent (q : DarkTest) : Bool := q.phase != 0

/-- At a slot: the frame displayed from it may be the test's, whose expected drop is then known. A frame without FLIP
is not judged, and the lane is tested again (R399). -/
def darkSlot (flip : Bool) (s : State) : State :=
  match s.fender.test with
  | some q =>
    if darkSent q && q.seq == rd s Reg.RAS_FCNT_FCNT then
      if flip then
        let sum := (rowOf s.gte.shown q.lane q.row).foldl (· + ·) 0
        let e := 4 * sum * rd s (Reg.SNS_GRP_MODEL_KG (groupOf q.lane)) / 1000000000
        { s with fender := { s.fender with test := some { q with e := e } } }
      else { s with fender := { s.fender with test := some { q with phase := 0 } } }
    else s
  | none => s

/-- DARK_PATH_JUDGE (R398, R399): the FTEL after the test's displayed frame, with DARKACK and the measured drop. -/
def darkJudge (lane ack drop : Nat) (s : State) : State :=
  match s.fender.test with
  | some q =>
    if q.lane != lane || !darkSent q || rd s Reg.RAS_FCNT_FCNT != (q.seq + 1) % 2 ^ 32 then s
    else
      let acked := ack == q.phase * 256 + q.row
      let ackOnly := decide (q.e < safetyAt s 0x17 1)
      let pass := acked && (ackOnly || decide (q.e * safetyAt s 0x16 1 / 256 ≤ drop))
      let s := s |> wr Reg.FST_DP_LANE lane |> wr Reg.FST_DP_RESULT (b2n pass) |> wr Reg.FST_DP_ACKONLY (b2n ackOnly)
        |> wr Reg.FST_DPE_E (min 65535 q.e) |> wr Reg.FST_DPE_D (min 65535 drop) |> wr Reg.TPR_DARKROW_ACK (b2n acked)
      if pass then testDone 10 false (setDpAge { s with fender := { s.fender with test := none, passAt := s.now } })
      else if 1 ≤ q.fails then
        { s with fender := { s.fender with test := none } } |> raise 0x1A4 lane |> testDone 10 true
      else placeTest lane (q.fails + 1) (q.fails + 1) s
  | none => s

/-! ### TGEN test (R401, R404) -/

/-- The next powered group in rotation after the last one tested. -/
def nextGroup (s : State) : Option Nat :=
  let k := groupCount s
  ((List.range k).map (fun i => (s.fender.lastGrp + 1 + i) % k)).find? (tgenHigh s)

/-- TGEN_TEST_TIMER (R401): the off-pulse starts at a line start in lines 129 to 134. -/
def doTgenTestTimer (s : State) : State :=
  if fenderRuns s && rasterOn s && 129 ≤ lineNow s && lineNow s ≤ 134 && s.fender.pulse.isNone then
    match nextGroup s with
    | some g => { s with
        fender := { s.fender with pulse := some g, lastGrp := g }
        sns := { s.sns with skip := setBit s.sns.skip g } }
    | none => s
  else s

/-- The result of a group's test. -/
def tgenResult (g : Nat) (pass : Bool) (s : State) : State :=
  s |> wr Reg.FST_OUT_TGPASS (putBit (rd s Reg.FST_OUT_TGPASS) g pass)
    |> when (!pass) (wr Reg.FST_OUT_TGFAIL (setBit (rd s Reg.FST_OUT_TGFAIL) g))
    |> testDone g (!pass)

/-- TGEN_PULSE_END (R401, R404): an output that a demand holds low is judged by its low reading alone. A SAFE_TEST
goes on with the next group at once (R361). -/
def doTgenPulseEnd (lowOk highOk : Bool) (s : State) : State :=
  match s.fender.pulse with
  | none => s
  | some g =>
    let s := { s with fender := { s.fender with pulse := none } }
    let s := if !lowOk then s |> tgenResult g false |> raise 0x1A6 g
      else if tgenHigh s g && !highOk then s |> tgenResult g false |> raise 0x1A7 g
      else tgenResult g true s
    when (groupsToTest s) doTgenTestTimer s

/-! ### The verification limit (R257) -/

/-- The fender reads SWP.AGEMAX: VERIFY_AGE once an episode. -/
def verifyAge (s : State) : State :=
  if fenderRuns s && max 1000 (rd s Reg.SWP_AGELIM_LIMIT) < rd s Reg.SWP_AGEMAX_AGE then
    if s.fender.ageUp then s
    else raise 0x1A8 (rd s Reg.SWP_AGEMAX_LANE) { s with fender := { s.fender with ageUp := true } }
  else { s with fender := { s.fender with ageUp := false } }

/-! ### The meanings of the rows -/

/-- FENDER_INGRESS (R391). -/
def execFenderIngress (t : Nat) (s : State) : Out :=
  .next (doFenderIngress t s)

/-- FENDER_ZONE_APPLY (R391). -/
def execFenderZoneApply (zid t : Nat) (s : State) : Out :=
  .next (doFenderZoneApply zid t s)

/-- FENDER_VERDICT (R396). -/
def execFenderVerdict (t : Nat) (s : State) : Out :=
  .next (doFenderVerdict t s)

/-- FENDER_HEARTBEAT (R397). -/
def execFenderHeartbeat (t : Nat) (s : State) : Out :=
  .next (doFenderHeartbeat t s)

/-- FENDER_LOST_TIMER (R397). -/
def execFenderLostTimer (s : State) : Out :=
  .next (doFenderLostTimer s)

/-- FENDER_CLK_CHECK (R397). -/
def execFenderClkCheck (byFender : Bool) (s : State) : Out :=
  .next (doFenderClkCheck byFender s)

/-- DARK_PATH_TIMER (R398). -/
def execDarkPathTimer (s : State) : Out :=
  .next (doDarkPathTimer s)

/-- EMBER_EDGE (R426). -/
def execEmberEdge (s : State) : Out :=
  .next (doEmberEdge s)

/-- TGEN_TEST_TIMER (R401). -/
def execTgenTestTimer (s : State) : Out :=
  .next (doTgenTestTimer s)

/-- TGEN_PULSE_END (R401). -/
def execTgenPulseEnd (lowOk highOk : Bool) (s : State) : Out :=
  .next (doTgenPulseEnd lowOk highOk s)

end Sys2Proof.Machine
end

