-- ==== Sys2Proof/Machine/Diag.lean ====
section
/-! DEFINITION. Pixel diagnosis, freeze detection and self-calibration (`08_pixel_diagnosis_and_self_calibration.md`):
probe lists and their results, lit-age, the telemetry of a tile, group plausibility and sense-channel calibration. -/

namespace Sys2Proof.Machine

/-! ### Thresholds (R245) -/

/-- Phase count N of the timing in force. -/
def phaseN (s : State) : Nat := phaseCount (modeNow s) (act s Reg.RAS_SH_TIMING_PHLEN)

/-- c400: the code whose on-time is 400 ns; phase length and blanking count in half ns. -/
def c400 (s : State) : Nat :=
  ceilDiv (800 * 65535) (phaseLen2 (act s Reg.RAS_SH_TIMING_PHLEN) - 200 * act s Reg.RAS_SH_TIMING_PBLANK)

/-- cmin: the lowest code that pays back in 16 frames. -/
def cmin (s : State) : Nat := ceilDiv (c400 s) (4 * phaseN s + 1)

/-- SWP.THRESH follows the timing in force. -/
def setThresh (s : State) : State := s |> wr Reg.SWP_THRESH_C400 (c400 s) |> wr Reg.SWP_THRESH_CMIN (cmin s)

/-! ### Probe lists (R243, R244, R246, R247) -/

/-- D1 spacing is in force. -/
def probeHalf (s : State) : Bool := 1 ≤ damper s

/-- Round position of a displayed frame. -/
def roundPos (s : State) (sq : Nat) : Nat := if probeHalf s then sq / 2 % 256 else sq % 256

/-- SWP assigns slots to the content being sent. -/
def probesGo (s : State) : Bool :=
  rdb s Reg.SWP_CTRL_EN && s.gte.active && !s.ras.withdrawn && !(probeHalf s && s.gte.seq % 2 == 1)

/-- Line, pixel and phase of slot k (R244). -/
def slotPlace (s : State) (k : Nat) : Nat × Nat × Nat :=
  let r := roundPos s s.gte.seq
  let (a, g) := (k / 4, k % 4)
  (4 * (r / 8) + g, 8 * a + r % 8, 4 * (a * phasesPerPixel s / 16) + g)

/-- Mode of a slot by its pixel's code and mask; none where the slot receives no entry (R246). -/
def slotMode (s : State) (c m : Nat) : Option Nat :=
  if c400 s ≤ c then some 0
  else if c < cmin s then some 2
  else if m = 0x1000 && s.dev.state == .lit && rdb s Reg.SWP_CTRL_NEUTRAL_EN then some 1 else none

/-- An entry of a probe list: slot, pixel index, mode, phase, code. -/
structure Entry where
  slot  : Nat
  pixel : Nat
  mode  : Nat
  phase : Nat
  code  : Nat

/-- Slot k of a lane. -/
def slotEntry (s : State) (n k : Nat) : Option Entry :=
  let (l, p, j) := slotPlace s k
  let c := (rowOf s.gte.codes n l).getD p 0
  (slotMode s c (SMap.getD s.gte.mask (pixIdx n l p) 0x1000)).map (fun m => ⟨k, l * 128 + p, m, j, c⟩)

/-- The list of a lane. -/
def probeList (s : State) (n : Nat) : List Entry := (List.range 64).filterMap (slotEntry s n)

/-- SWP opens the balance of a NEUTRAL entry (R250). -/
def openBalance (n : Nat) (e : Entry) (s : State) : State :=
  if e.mode = 1 then
    let b : Balance := ⟨n, e.pixel, c400 s - e.code, 16, 0, s.gte.seq⟩
    let k := (n * 64 + e.slot) * 16 + s.gte.seq % 16
    { s with swp := { s.swp with balances := SMap.put s.swp.balances k b } }
  else s

/-- One PROBES set leaves, with the balances that it opens. -/
def sendProbes (n : Nat) (es : List Entry) (s : State) : State :=
  if es.isEmpty then s
  else
    let t := s.tpr.nextTag
    let p := leBytes 4 s.gte.seq ++ es.flatMap (fun e => leBytes 4 (e.pixel + e.mode * 2 ^ 14 + e.phase * 2 ^ 16))
    { s with tpr := { s.tpr with nextTag := (t + 1) % 256 } } |> sendSet n ⟨5, t, p⟩ |> forEach es (openBalance n)

/-- Lanes that receive probe entries: in service with a LIVE tile. -/
def probedLanes (s : State) : List Nat := (serviceLanes s).filter (fun n => tileState s n == 0)

/-- PROBE_LIST_COMPOSE (R247): two sets after EOL of line 126, two after that of line 127; the symbols that they take. -/
def sendLists (l : Nat) (s : State) : SMap Nat × State :=
  if !(probesGo s && linesGo s && s.cor.line == 128 && (l == 126 || l == 127)) then ([], s)
  else
    (probedLanes s).foldl (fun (acc : SMap Nat × State) n =>
      let es := (probeList s n).drop (if l = 126 then 0 else 32)
      let (a, b) := (es.take 16, (es.drop 16).take 16)
      let size := fun (x : List Entry) => if x.isEmpty then 0 else 13 + 4 * x.length
      (SMap.put acc.1 n (size a + size b), acc.2 |> sendProbes n a |> sendProbes n b)) ([], s)

/-! ### Balances at a slot (R250, R252) -/

/-- One balance after the slot of content `q`: a content withdrawn repays nothing and still counts. -/
def settleBalance (q : Nat) (abort : Bool) (b : Nat × Balance) (s : State) : State :=
  if b.2.seq = q then s
  else
    let bal := if abort then b.2.bal + b.2.trim else b.2.bal
    let left := b.2.left - 1
    if bal = 0 || left = 0 then
      { s with swp := { s.swp with balances := SMap.del s.swp.balances b.1 } }
        |> when (bal != 0) (satInc Reg.SWP_PAYBACK_UNPAID 1)
    else { s with swp := { s.swp with balances := SMap.put s.swp.balances b.1 { b.2 with bal := bal, left := left, trim := 0 } } }

/-- Every balance at the slot of the content with SEQ `q`. -/
def settleBalances (q : Nat) (abort : Bool) (s : State) : State := forEach s.swp.balances (settleBalance q abort) s

/-- A result not run, or run as OFF, sets the pixel's balance to 0 without a count. -/
def dropBalance (n px sq : Nat) (s : State) : State :=
  { s with swp := { s.swp with
      balances := s.swp.balances.filter (fun b => !(b.2.lane == n && b.2.pixel == px && b.2.seq == sq)) } }

/-! ### Lit-age (R256 to R258) -/

/-- The word of a pixel's lit-age or mark reads uncorrectable: it reads as age 0 with no mark. -/
def ageEcc (i : Nat) (s : State) : State :=
  if s.swp.badAge.contains i then
    { s with swp := { s.swp with
        badAge := s.swp.badAge.filter (· != i), age := SMap.del s.swp.age i
        suspects := s.swp.suspects.filter (fun m => m.1 / 4 != i) } }
      |> wr Reg.SWP_STATUS_MEMERR 1 |> satInc Reg.SWP_ECCCNT_UNCORR 1 |> raise 0x0A4 (i / 16384)
  else s

/-- Lit-age of a pixel. -/
def ageOf (s : State) (i : Nat) : Nat := SMap.getD s.swp.age i 0

/-- Sets a lit-age. -/
def setAge (i v : Nat) (s : State) : State :=
  { s with swp := { s.swp with age := if v = 0 then SMap.del s.swp.age i else SMap.put s.swp.age i v } }

/-- Pixels of LIVE tiles that were lit in the content shown, in ascending order of lane and pixel. -/
def litPixels (s : State) : List Nat :=
  let m := cmin s
  ((tileLanes s).filter (tileLive s)).flatMap (fun n => (List.range 128).flatMap (fun l =>
    ((rowOf s.gte.shown n l).zipIdx).filterMap (fun q => if m ≤ q.1 then some (pixIdx n l q.2) else none)))

/-- LIT_AGE_UPDATE (R256, R257): `p` is the period of the frame that the slot ends, in ns. -/
def ageUpdate (p : Nat) (s : State) : State :=
  let lit := litPixels s
  let s := forEach lit (fun i s => let s := ageEcc i s; setAge i (min 4095 (ageOf s i + p / 500000)) s) s
  let best := lit.foldl (fun (b : Option Nat) i =>
    match b with
    | some j => if ageOf s j < ageOf s i then some i else some j
    | none => some i) none
  match best with
  | some i => s |> wr Reg.SWP_AGEMAX_LANE (i / 16384) |> wr Reg.SWP_AGEMAX_PIXEL (i % 16384)
      |> wr Reg.SWP_AGEMAX_AGE (ageOf s i)
  | none => s |> wr Reg.SWP_AGEMAX_LANE 0 |> wr Reg.SWP_AGEMAX_PIXEL 0 |> wr Reg.SWP_AGEMAX_AGE 0

/-! ### Classification (R253 to R255, R168)

Classes are numbered 0 good, 1 OPEN, 2 SHORT, 3 WEAK, 4 GLOW, as CLASSQ numbers them. -/

/-- Class of a forward voltage in mV; `reached` says that the drive current was reached. -/
def voltClass (s : State) (reached : Bool) (mv : Nat) : Nat :=
  if !reached || rd s Reg.SWP_VBAND1_VOPEN < mv then 1
  else if mv < rd s Reg.SWP_VBAND0_VSHORT then 2
  else if mv < rd s Reg.SWP_VBAND0_VLOW || rd s Reg.SWP_VBAND1_VHIGH < mv then 3 else 0

/-- Class of a leakage in 10 nA. -/
def leakClass (s : State) (sel leak : Nat) : Nat :=
  if rd s Reg.SWP_LEAK_LEAK_SHORT ≤ leak then (if sel = 3 then 4 else 2) else 0

/-- Classes of the emitters of a result: (emitter, class), emitter 0 single, 1 primary, 2 spare. -/
def resultClasses (s : State) (sel mode v : Nat) : List (Nat × Nat) :=
  let (hi, lo) := (v / 256, v % 256)
  if mode = 2 then
    if sel = 2 then [(1, leakClass s sel (10 * hi)), (2, leakClass s sel (10 * lo))] else [(0, leakClass s sel v)]
  else if sel = 2 then [(1, voltClass s (hi != 255) (32 * hi)), (2, voltClass s (lo != 255) (32 * lo))]
  else [(0, voltClass s (v != 0xFFFE) v)]

/-- The mark of one emitter after a result of class `c`; true where the class is confirmed (R254). -/
def judgeMark (i em c : Nat) (emission : Bool) (s : State) : Bool × State :=
  let key := i * 4 + em
  let del := fun (s : State) => { s with swp := { s.swp with suspects := SMap.del s.swp.suspects key } }
  if c = 4 then (true, s)
  else match SMap.find s.swp.suspects key with
    | some m =>
      if m.emission != emission then (false, s)
      else if c = 0 then (false, del s)
      else if m.cls = c then (true, del s)
      else (false, { s with swp := { s.swp with suspects := SMap.put s.swp.suspects key ⟨c, emission⟩ } })
    | none =>
      if c = 0 then (false, s)
      else (false, { s with swp := { s.swp with suspects := SMap.put s.swp.suspects key ⟨c, emission⟩ } })

/-- SWP.CLASSQ shows the entry at the head of the queue. -/
def setClassq (s : State) : State :=
  let w := s.swp.classq.headD 0
  s |> wr Reg.SWP_CLASSQ_VALID (bits w 31 1) |> wr Reg.SWP_CLASSQ_CLASS (bits w 28 3)
    |> wr Reg.SWP_CLASSQ_EMIT (bits w 26 2) |> wr Reg.SWP_CLASSQ_LANE (bits w 20 6) |> wr Reg.SWP_CLASSQ_PIXEL (bits w 0 14)

/-- An entry joins CLASSQ, or is dropped and counted. -/
def pushClass (w : Nat) (s : State) : State :=
  if 32 ≤ s.swp.classq.length then satInc Reg.SWP_NOTRUN_QOVF 1 s
  else setClassq { s with swp := { s.swp with classq := s.swp.classq ++ [w] } }

/-- The counter of a class. -/
def classCount (c : Nat) : Fld :=
  if c = 1 then Reg.SWP_COUNTS_OPEN else if c = 2 then Reg.SWP_COUNTS_SHORT
  else if c = 3 then Reg.SWP_COUNTS_WEAK else Reg.SWP_COUNTS_GLOW

/-- SEL after a classification of emitters `em`: bit 0 primary, bit 1 spare, 0 the single emitter (R168). -/
def selAfter (sel c em : Nat) : Nat :=
  if sel = 3 then 3
  else if c = 3 then (if sel = 0 then 2 else sel)
  else if sel = 0 then 1
  else if sel = 1 then 3
  else if em = 1 then 1 else 3

/-- The low halfword of a calibration word after a classification (R168). -/
def wordAfter (w c em : Nat) : Nat :=
  let flags := if c = 1 then 8 else if c = 2 then 4 else 2
  (w - calSel w * 16384 + selAfter (calSel w) c em * 16384) % 65536 ||| flags

/-- Field row of a pixel of a lane. -/
def fieldRow (s : State) (n px : Nat) : Nat := match posOf s n with | some (_, r) => 128 * r + px / 128 | none => 0

/-- GLOWCUT (R408): a glow above SL_ROWLIM makes the plate untrusted. -/
def glowCut (n px : Nat) (s : State) : State :=
  let row16 : Int := (16 * fieldRow s n px : Nat) - s.gte.d16
  if bit (leAt (bindSec s 0x0A) 0 2) 0 && decide (row16 < rdi s Reg.COR_GATE_SLROW_ROWLIM) then
    s |> demand 3 0x3D (some n) |> tgenForce (2 ^ groupOf n)
  else s

/-- What a confirmed class triggers beside the calibration word (R255): the fault carries the lane, and the pixel in its
extended word. -/
def confirmed (n px : Nat) (q : Nat × Nat) (s : State) : State :=
  s |> pushClass (2 ^ 31 + q.2 * 2 ^ 28 + q.1 * 2 ^ 26 + n * 2 ^ 20 + px) |> satInc (classCount q.2) 1
    |> raiseExt (0x0A0 + (q.2 - 1)) n (some px) |> fire 0x28 |> when (q.2 == 4) (glowCut n px)

/-- The calibration word after the classes that one result confirms, in one update (R168). -/
def reword (i : Nat) (l : List (Nat × Nat)) (s : State) : State :=
  let w := comingWord s i
  let l := l.filter (fun q => q.2 != 4)
  if l.isEmpty || calSel w == 3 then s
  else ownUpd ⟨false, i, l.foldl (fun v q => wordAfter v q.2 q.1) w % 65536⟩ s

/-- What a result confirms, (emitter, class); both emitters confirmed in one class act together. -/
def confirmAll (n px : Nat) (l : List (Nat × Nat)) (s : State) : State :=
  let l := match l with
    | (e1, c1) :: (e2, c2) :: rest => if c1 = c2 then [(e1 + e2, c1)] else (e1, c1) :: (e2, c2) :: rest
    | _ => l
  s |> forEach l (confirmed n px) |> reword (n * 16384 + px) l

/-- PROBE_RESULT_CLASSIFY (R253 to R255) of one result word for the displayed frame `sq`. -/
def takeResult (n sq w : Nat) (s : State) : State :=
  let (px, mode, v) := (bits w 0 14, bits w 14 2, bits w 16 16)
  let i := n * 16384 + px
  if v = 0xFFFF then s |> satInc Reg.SWP_NOTRUN_COUNT 1 |> dropBalance n px sq
  else if mode = 3 then s
  else
    let s := s |> ageEcc i |> when (mode == 2) (dropBalance n px sq)
    let cs := resultClasses s (calSel (calWord s i)) mode v
    let s := when (mode != 2 && cs.all (fun q => q.2 == 0)) (setAge i 0) s
    let (hits, s) := cs.foldl (fun (acc : List (Nat × Nat) × State) q =>
      let (hit, s) := judgeMark i q.1 q.2 (mode != 2) acc.2
      (if hit then acc.1 ++ [q] else acc.1, s)) ([], s)
    confirmAll n px hits s

/-- CLASSQ_READ (R255, R270): a read that returns VALID removes the entry. -/
def doClassqRead (s : State) : State :=
  if mainOn s.dev.state then setClassq { s with swp := { s.swp with classq := s.swp.classq.drop 1 } } else s

/-! ### The telemetry of a tile (R226, R232, R236, R238, R259, R260) -/

/-- The signature that TPR holds for a SEQ of a lane. -/
def expSig (s : State) (n sq : Nat) : Option Nat :=
  let l := tprLane s n
  ((l.sigs ++ l.held.toList).find? (fun g => g.1 == sq)).map Prod.snd

/-- TPR.TLn_STATUS as a word. -/
def tlStatus (s : State) (n : Nat) : Nat := regRead s (Reg.TPR_TL_STATUS_INSERV n).addr

/-- Kind code of a source. -/
def kindOf (source : Nat) : Nat := ((faultRow source).map FaultRow.kind).getD 0

/-- A check of R259 has failed: the fault, and COAST, or PLATE while protected zones are held (R260). -/
def freezeFails (n source : Nat) (s : State) : State :=
  let prot := rd s Reg.ZNE_PROTMAP_LO_MAP != 0 || rd s Reg.ZNE_PROTMAP_HI_MAP != 0
  s |> raise source n |> demand (if prot then 1 else 2) (kindOf source) (some n)

/-- The freeze checks of a tile that reports LIVE (R259). -/
def freezeCheck (n sq sig ev : Nat) (s : State) : State :=
  let l := tprLane s n
  let f := rd s Reg.RAS_FCNT_FCNT
  let seqOk := sq == f || (l.afterSeam && (sq + 1) % 2 ^ 32 == f)
  let frozen := ev == 0 && (!seqOk || l.lastSig == some sig)
  if 3 ≤ ev then s
  else if frozen then s |> modTpr n (fun l => { l with held := none }) |> freezeFails n 0x0C6
  else if expSig s n sq != some sig then s |> modTpr n (fun l => { l with held := none }) |> freezeFails n 0x0C7
  else modTpr n (fun l => { l with held := some (sq, sig) }) s

/-- The state that the set of a demand leads to explains the change that a tile reports. -/
def explained (cmd st cause old : Nat) : Bool :=
  (cmd == 1 && st == 2 && cause == old) || (cmd == 2 && st == 1 && cause == old) || (cmd == 3 && st == 3 && cause == old)

/-- A tile has entered state `st` of its own accord (R232): the fault kind of its cause. -/
def ownEntry (n st cause : Nat) (s : State) : State :=
  if cause = 1 then s |> modTpr n (fun l => { l with autoRes := st == 1 }) |> raise 0x0C0 n
  else if cause = 2 || cause = 3 then raise 0x0C1 n s
  else if (cause = 4 || cause = 5) && st = 3 then raise 0x0C2 n s
  else if cause = 6 && tgenHigh s (groupOf n) then raise 0x0C2 n s
  else s

/-- STATE and CAUSE follow the report. -/
def reportState (n st cause : Nat) (s : State) : State :=
  let old := tileState s n
  let l := tprLane s n
  let was := rd s (Reg.TPR_TL_STATUS_CAUSE n)
  let s := s |> setTileState n st |> when (cause != 0) (wr (Reg.TPR_TL_STATUS_CAUSE n) cause)
  if st = old then s
  else
    s |> modTpr n (fun l => { l with changed := true, cmd := 0, autoRes := l.autoRes && st != 0 })
      |> when (st != 0 && cause != 0 && !explained l.cmd st cause was) (ownEntry n st cause)

/-- The signatures that a tile's PLATECRC is compared with: of the SEQ that PLATECAP named, and in the standby of
every content still held (R236, R520). -/
def plateFound (s : State) (n crc : Nat) : Option (Nat × Nat) :=
  let l := tprLane s n
  let known := (l.sigs ++ l.held.toList).filter (fun g => g.2 == crc && (l.plateReq == some g.1 || isStandby s))
  if crc = 0 then none else known.head?

/-- The plate that an FTEL reports (R236). -/
def reportPlate (n : Nat) (valid : Bool) (crc : Nat) (s : State) : State :=
  let l := tprLane s n
  match (if valid then plateFound s n crc else none) with
  | some (f, g) =>
    s |> modTpr n (fun q => { q with
          plateReq := none, plateSig := some g, plateSum := (l.sums.find? (fun v => v.1 == f)).map Prod.snd })
      |> wr (Reg.TPR_TL_STATUS_PLATEV n) 1 |> wr (Reg.TPR_TL_PLATE_VALUE n) f
  | none =>
    if rdb s (Reg.TPR_TL_STATUS_PLATEV n) && (!valid || l.plateSig != some crc) then
      s |> modTpr n (fun q => { q with plateSig := none, plateSum := none })
        |> wr (Reg.TPR_TL_STATUS_PLATEV n) 0 |> wr (Reg.TPR_TL_PLATE_VALUE n) 0 |> raise 0x0C4 n
    else s

/-- A RESUME of firmware has lapsed, or brought the tile to LIVE (R239). -/
def reportResume (n st : Nat) (s : State) : State :=
  let l := tprLane s n
  match l.resumeSeq with
  | none => s
  | some q =>
    if !seqLe q (rd s Reg.RAS_FCNT_FCNT) then s
    else if st = 0 then modTpr n (fun l => { l with resumeSeq := none, lapses := 0 }) s
    else if 3 ≤ l.lapses then s |> leaveService n |> raise 0x0C2 n
    else modTpr n (fun l => { l with resumeSeq := none, lapses := l.lapses + 1, again := true }) s

/-- TILE_SET and TILE_RESUME complete at the FTEL that shows the result (R363, R364). -/
def reportWaiters (n st : Nat) (s : State) : State :=
  let w := tlStatus s n
  let f := rd s Reg.RAS_FCNT_FCNT
  let set := fun (k : WaitKind) => match k with
    | .tileSet m op _ => m == n && ((op == 1 && 2 ≤ st) || (op == 2 && 1 ≤ st) || (op == 3 && st == 3))
    | _ => false
  let res := fun (k : WaitKind) => match k with | .tileResume m q => m == n && seqLe q f | _ => false
  s |> finishKind set 0 w 0
    |> finish (fun q => res q.kind) (if st = 0 then 0 else 8)
        (fun q => (w, match q.kind with | .tileResume _ v => v | _ => 0))

/-- |v − 10,000|. -/
def refOff (v : Nat) : Nat := ((v : Int) - 10000).natAbs

/-- REFSEL leaves for the other reference (R268). -/
def switchRef (n sel : Nat) (s : State) : State :=
  s |> pushSet n 7 (leBytes 4 (1 - sel)) |> satInc Reg.SNS_REFSW_COUNT 1

/-- TILE_REF_SELECT (R268, R364). -/
def reportRefs (n sel a b : Nat) (s : State) : State :=
  let tol := rd s Reg.SNS_REFTOL_TOL
  let (own, other) := if sel = 0 then (a, b) else (b, a)
  let l := tprLane s n
  let run := if tol < refOff own && refOff other ≤ tol then l.refRun + 1 else 0
  let both := if tol < refOff own && tol < refOff other then l.refBoth + 1 else 0
  let s := modTpr n (fun l => { l with refRun := run % 16, refBoth := both % 16 }) s
  if l.refHold then s
  else s |> when (run == 16) (switchRef n sel)
    |> when (both == 16) (fun s => s |> when (decide (refOff other < refOff own)) (switchRef n sel) |> raise 0x143 n)

/-- The registers of a lane take what an FTEL reports. -/
def reportRegs (n : Nat) (p : Bytes) (s : State) : State :=
  let sq := leAt p 0 4
  let ts := byteAt p 9
  let temp := leAt p 0xC 2
  s |> wr (Reg.TPR_TL_SEQ_VALUE n) sq |> wr (Reg.TPR_TL_SIG_VALUE n) (leAt p 4 4)
    |> wr (Reg.TPR_TL_EXPSIG_VALUE n) ((expSig s n sq).getD 0)
    |> wr (Reg.TPR_TL_ENV_TEMP n) temp |> wr (Reg.TPR_TL_REF_REFA n) (leAt p 0xE 2)
    |> wr (Reg.TPR_TL_REF_REFB n) (leAt p 0x10 2) |> satInc (Reg.TPR_TL_ERR_LCRC n) (leAt p 0x16 2)
    |> wr (Reg.TPR_TL_STATUS_REFSEL n) (bits ts 4 1) |> wr (Reg.TPR_TL_STATUS_TELEM n) 1
    |> setPort n (bit ts 2)
    |> modTpr n (fun l => { l with got := true, lost := 0, telemUp := false })
    |> when (temp != 0x8000) (modTpr n (fun l => { l with temp := temp, tempAge := 0 }))

/-- FTEL (R226, R259): `drop` is the drop that SNS measured for a dark-path test of the frame that ended. -/
def doFtel (n t : Nat) (pkt : UpPkt) (drop : Nat) (s : State) : State :=
  let s := atTime t s
  if !(upOk 2 288 pkt && n < laneCount s && mainOn s.dev.state && inService s n) then s
  else
    let p := pkt.payload
    let (sq, sig, ev, ts) := (leAt p 0 4, leAt p 4 4, byteAt p 8, byteAt p 9)
    let st := ts % 4
    let ended := (rd s Reg.RAS_FCNT_FCNT + 2 ^ 32 - 1) % 2 ^ 32
    let s := s |> reportRegs n p |> reportState n st (byteAt p 0xA)
      |> when (st == 0) (freezeCheck n sq sig ev)
      |> when (st != 0) (modTpr n (fun l => { l with held := none }))
      |> reportPlate n (bit ts 3) (leAt p 0x12 4)
      |> reportRefs n (bits ts 4 1) (leAt p 0xE 2) (leAt p 0x10 2)
      |> forEach (List.range 64) (fun k => takeResult n ended (leAt p (0x20 + 4 * k) 4))
      |> darkJudge n (leAt p 0x1A 2) drop
      |> reportWaiters n st |> reportResume n st
    modTpr n (fun l => { l with lastSig := some sig, afterSeam := if ev < 3 then ev == 2 else l.afterSeam }) s

/-! ### At a slot: telemetry loss (R242) and group plausibility (R262 to R264) -/

/-- TELEMETRY_LOSS_CHECK (R242) of one lane. -/
def telemSlot (n : Nat) (s : State) : State :=
  let l := tprLane s n
  if l.got then modTpr n (fun l => { l with got := false, tempAge := min 16 (l.tempAge + 1) }) s
  else
    let up := 3 ≤ l.lost + 1
    s |> modTpr n (fun l => { l with lost := l.lost + 1, telemUp := up, tempAge := min 16 (l.tempAge + 1) })
      |> wr (Reg.TPR_TL_STATUS_TELEM n) 0 |> satInc (Reg.TPR_TL_ERR_TELOST n) 1
      |> when (up && !l.telemUp) (raise 0x0C3 n)

/-- S_t of the content that a tile reports; none where it is not held (R262, R264). -/
def groupTerm (s : State) (n : Nat) : Option Nat :=
  let l := tprLane s n
  if tileState s n = 3 then some 0
  else if tileState s n = 2 then l.plateSum
  else (l.sums.find? (fun v => v.1 == rd s (Reg.TPR_TL_SEQ_VALUE n))).map Prod.snd

/-- Lanes of a group. -/
def groupLanes (g : Nat) : List Nat := (List.range 8).map (fun k => 8 * g + k)

/-- The sum S of a group, none where a tile's S_t is not held. -/
def groupSum (s : State) (g : Nat) : Option Nat :=
  (groupLanes g).foldl (fun a n =>
    match a, groupTerm s n with
    | some x, some y => some (x + y)
    | _, _ => none) (some 0)

/-- The frame that the slot ends contains a dark-path test in a tile of the group. -/
def groupDark (s : State) (g : Nat) : Bool :=
  match s.fender.test with
  | some q => darkSent q && groupOf q.lane == g && q.seq == rd s Reg.RAS_FCNT_FCNT
  | none => false

/-- Judges a group's frame: `im` is Imeas in mA (R263). -/
def judgeGroup (g im sum : Nat) (s : State) : State :=
  let ip := rd s (Reg.SNS_GRP_MODEL_IQ g) + sum * rd s (Reg.SNS_GRP_MODEL_KG g) / 1000000000
  let tol := rd s Reg.SNS_PLAUS_TOLABS + rd s Reg.SNS_PLAUS_TOLREL * ip / 256
  let above := decide (ip < im)
  let s := wr (Reg.SNS_GRP_I_IPRED g) (min 65535 ip) s
  if ((im : Int) - ip).natAbs ≤ tol then { s with sns := { s.sns with runs := SMap.del s.sns.runs g } }
  else
    let run := match SMap.find s.sns.runs g with
      | some (k, a) => if a == above then k + 1 else 1
      | none => 1
    let s := { s with fender := { s.fender with passRun := 0 } }
    if max 1 (rd s Reg.SNS_PLAUS_NFR) ≤ run then
      { s with sns := { s.sns with runs := SMap.del s.sns.runs g } }
        |> (if above then fun s => s |> wr Reg.SNS_STATUS_OVER 1 |> raise 0x140 g
            else fun s => s |> wr Reg.SNS_STATUS_UNDER 1 |> raise 0x141 g)
    else { s with sns := { s.sns with runs := SMap.put s.sns.runs g (run, above) } }

/-- GROUP_PLAUSIBILITY (R263, R264) of one group, before the slot's count. -/
def groupSlot (im : List Nat) (g : Nat) (s : State) : State :=
  let i := im.getD g 0
  let s := wr (Reg.SNS_GRP_I_IMEAS g) (min 65535 i) s
  let skip := bit s.sns.skip g || groupDark s g || s.swp.seamFrame || (groupLanes g).any (fun n => (tprLane s n).changed)
  match (if skip then none else groupSum s g) with
  | some sum => judgeGroup g i sum s
  | none => s

/-- Every group at a slot; `changed` and the groups skipped begin anew. -/
def groupsSlot (im : List Nat) (s : State) : State :=
  let s := when (rdb s Reg.SNS_CTRL_EN) (forEach (List.range (groupCount s)) (groupSlot im)) s
  { s with sns := { s.sns with skip := 0 } }
    |> forEach (tileLanes s) (fun n => modTpr n (fun l => { l with changed := false }))

/-- TILE_SET and TILE_RESUME at a slot: their time runs out (R363, R364). -/
def waitersSlot (s : State) : State :=
  let f := rd s Reg.RAS_FCNT_FCNT
  let late := fun (k : WaitKind) => match k with
    | .tileSet _ _ left => left == 0
    | .tileResume _ q => seqLe q f
    | _ => false
  let s := finish (fun w => late w.kind) 8 (fun w => match w.kind with
    | .tileSet n _ _ => (tlStatus s n, 0)
    | .tileResume n q => (tlStatus s n, q)
    | _ => (0, 0)) s
  { s with waits := s.waits.map (fun w => match w.kind with
      | .tileSet n op left => { w with kind := .tileSet n op (left - 1) }
      | _ => w) }

/-! ### Sense-channel calibration (R265 to R267, R356) -/

/-- Channels that a round takes: the groups of the part, then the spare. -/
def calChannels (s : State) : List Nat := List.range (groupCount s) ++ [8]

/-- The round stands at channel `c`; DUTY names a channel whose duty the spare carries. -/
def calAt (r : CalRound) (s : State) : State :=
  { s with sns := { s.sns with round := some r } }
    |> wr Reg.SNS_STATUS_CALBUSY 1 |> wr Reg.SNS_STATUS_DUTY (if r.paused || r.ch = 8 then 0xF else r.ch)

/-- A calibration round starts, where none runs. -/
def calStart (s : State) : State :=
  if s.sns.round.isSome || !rdb s Reg.SNS_CTRL_CAL_EN then s else calAt ⟨0, 0, false⟩ s

/-- SNS_CAL_TIMER (R266). -/
def doSnsCalTimer (s : State) : State := if mainOn s.dev.state && rdb s Reg.SNS_CTRL_EN then calStart s else s

/-- The round goes on with its next channel, or ends; at D1 a pause stands between channels (R267, R478). -/
def calNext (r : CalRound) (s : State) : State :=
  match (calChannels s).find? (fun c => r.ch < c) with
  | some c =>
    let s := startPause 1 s
    calAt { r with ch := c, paused := s.thm.paused.contains 1 } s
  | none =>
    { s with sns := { s.sns with round := none } }
      |> wr Reg.SNS_STATUS_CALBUSY 0 |> wr Reg.SNS_STATUS_DUTY 0xF
      |> finishKind (fun k => k == .calRound) 0 (rd s Reg.SNS_CALTOTAL_COUNT) r.kept

/-- The pause between channels ends. -/
def calResume (s : State) : State :=
  match s.sns.round with
  | some r => if r.paused then calAt { r with paused := false } s else s
  | none => s

/-- A seam period holds the round (R267). -/
def calHeld (s : State) : Bool := rasterOn s && lineNow s == 0xFF

/-- SNS_CAL_STEP_DONE (R266). -/
def doSnsCalStepDone (elem : Nat) (corr : Word) (s : State) : State :=
  match s.sns.round with
  | some r =>
    if r.paused || calHeld s then s
    else
      let sec := rd s Reg.PWC_P_OPSEC_SEC
      s |> wr (Reg.SNS_CH_CAL_ELEM r.ch) elem |> wr (Reg.SNS_CH_CAL_GAINCORR r.ch) corr.toNat
        |> wrapInc (Reg.SNS_CH_CALCNT_COUNT r.ch) 1 |> wrapInc Reg.SNS_CALTOTAL_COUNT 1
        |> wr (Reg.SNS_CH_CALSEC_SEC r.ch) sec |> wr Reg.SNS_CALLAST_SEC sec
        |> calNext r
  | none => s

/-- SNS_CAL_STEP_TIMEOUT (R267). -/
def doSnsCalStepTimeout (s : State) : State :=
  match s.sns.round with
  | some r => if r.paused then s else s |> raise 0x142 r.ch |> calNext { r with kept := setBit r.kept r.ch }
  | none => s

/-! ### The meanings of the rows -/

/-- FTEL (R259). -/
def execFtel (n t : Nat) (pkt : UpPkt) (drop : Nat) (s : State) : Out :=
  .next (doFtel n t pkt drop s)

/-- SNS_CAL_TIMER (R266). -/
def execSnsCalTimer (s : State) : Out :=
  .next (doSnsCalTimer s)

/-- SNS_CAL_STEP_DONE (R266). -/
def execSnsCalStepDone (elem : Nat) (corr : Word) (s : State) : Out :=
  .next (doSnsCalStepDone elem corr s)

/-- SNS_CAL_STEP_TIMEOUT (R267). -/
def execSnsCalStepTimeout (s : State) : Out :=
  .next (doSnsCalStepTimeout s)

/-- CLASSQ_READ (R255). -/
def execClassqRead (s : State) : Out :=
  .next (doClassqRead s)

end Sys2Proof.Machine
end

