-- ==== Sys2Proof/Machine/CmdTable.lean ====
section
/-! DEFINITION. The commands of `11_command_reference.md` as its tables give them: legality by state (R338), channels,
the marks B, D and S, and LEN. -/

namespace Sys2Proof.Machine

/-- One row of the legality matrix with the LEN of the command's table. `legal` holds STANDBY, PRELIT, LIT, SERVICE,
FALLBACK and HALT: 0 illegal, 1 legal, 2 completes OK with no side effect. -/
structure CmdRow where
  opc   : Nat
  legal : List Nat
  chans : List Nat
  beam  : Bool
  defer : Bool
  sc    : Bool
  len   : Nat
  deriving DecidableEq, Repr

/-- Classes 0x01 to 0x04. -/
def cmdRows0 : List CmdRow :=
  [⟨0x0101, [1, 1, 1, 1, 1, 1], [0, 1, 3], false, false, false, 0⟩,
   ⟨0x0102, [1, 1, 1, 1, 1, 0], [0, 1], false, true, true, 4⟩,
   ⟨0x0103, [1, 0, 1, 2, 0, 0], [0, 1], true, true, true, 0⟩,
   ⟨0x0104, [2, 2, 2, 1, 0, 0], [0, 1], true, true, true, 0⟩,
   ⟨0x0105, [1, 1, 1, 1, 1, 0], [0, 1, 2], true, false, true, 4⟩,
   ⟨0x0106, [1, 0, 2, 0, 0, 0], [0, 1, 2], true, true, true, 0⟩,
   ⟨0x0107, [2, 1, 1, 0, 0, 0], [0, 1, 2], true, true, true, 0⟩,
   ⟨0x0108, [0, 0, 0, 0, 1, 1], [0, 1], true, false, true, 0⟩,
   ⟨0x0109, [1, 0, 0, 0, 0, 0], [0, 1], false, true, true, 4⟩,
   ⟨0x0201, [1, 1, 1, 1, 1, 0], [0, 1, 3], false, false, false, 4⟩,
   ⟨0x0202, [1, 1, 1, 1, 0, 0], [0, 1, 2, 3], true, true, false, 4⟩,
   ⟨0x0203, [1, 0, 0, 0, 0, 1], [0, 1], true, false, false, 16⟩,
   ⟨0x0204, [1, 0, 0, 0, 0, 1], [0, 1], false, false, false, 36⟩,
   ⟨0x0205, [1, 0, 0, 0, 0, 1], [0, 1], true, false, false, 0⟩,
   ⟨0x0301, [1, 1, 1, 1, 1, 0], [0, 1, 3], false, false, false, 4⟩,
   ⟨0x0302, [1, 1, 1, 1, 0, 0], [0, 1, 3], true, true, false, 8⟩,
   ⟨0x0401, [0, 1, 1, 1, 0, 0], [0, 1, 3], true, false, false, 44⟩,
   ⟨0x0402, [0, 1, 1, 1, 0, 0], [0, 1, 3], true, false, false, 12⟩,
   ⟨0x0403, [1, 1, 1, 1, 1, 0], [0, 1, 3], false, false, false, 4⟩]

/-- Classes 0x05 to 0x08. -/
def cmdRows1 : List CmdRow :=
  [⟨0x0501, [1, 1, 1, 1, 0, 0], [0, 1, 3], true, true, false, 12⟩,
   ⟨0x0502, [1, 1, 1, 1, 0, 0], [0, 1, 3], true, true, false, 17⟩,
   ⟨0x0503, [1, 1, 1, 1, 0, 0], [0, 1, 3], true, true, false, 2⟩,
   ⟨0x0601, [1, 1, 1, 1, 0, 0], [0, 1, 2, 3], true, true, false, 3⟩,
   ⟨0x0602, [1, 1, 1, 1, 0, 0], [0, 1, 3], true, true, false, 2⟩,
   ⟨0x0603, [0, 1, 1, 1, 0, 0], [0, 1, 2, 3], true, false, false, 16⟩,
   ⟨0x0604, [1, 1, 1, 1, 1, 0], [0, 1, 3], false, false, false, 0⟩,
   ⟨0x0701, [1, 1, 1, 1, 1, 0], [0, 1, 3], true, true, false, 0⟩,
   ⟨0x0702, [1, 1, 1, 1, 0, 0], [0, 1], true, true, false, 4⟩,
   ⟨0x0703, [1, 1, 1, 1, 1, 0], [0, 1], false, false, false, 4⟩,
   ⟨0x0704, [1, 1, 1, 1, 1, 0], [0, 1, 3], false, false, false, 0⟩,
   ⟨0x0801, [1, 1, 1, 1, 1, 0], [0, 1, 3], false, false, false, 4⟩,
   ⟨0x0802, [1, 1, 1, 1, 1, 0], [0, 1], false, true, false, 0⟩,
   ⟨0x0803, [1, 0, 0, 0, 0, 0], [0, 1], true, true, false, 4⟩,
   ⟨0x0804, [1, 1, 1, 1, 1, 0], [0, 1], false, true, false, 0⟩]

/-- Classes 0x09 to 0x0B. -/
def cmdRows2 : List CmdRow :=
  [⟨0x0901, [1, 1, 1, 1, 1, 0], [0, 1, 3], false, false, false, 0⟩,
   ⟨0x0902, [1, 1, 1, 1, 1, 0], [0, 1, 3], false, false, false, 4⟩,
   ⟨0x0903, [1, 1, 1, 1, 1, 0], [0, 1, 3], false, false, false, 4⟩,
   ⟨0x0A01, [1, 1, 1, 1, 1, 1], [0, 1], false, false, false, 8⟩,
   ⟨0x0A02, [1, 1, 1, 1, 1, 1], [0, 1, 3], false, false, false, 0⟩,
   ⟨0x0A03, [1, 0, 0, 0, 1, 1], [0, 1], false, true, false, 0⟩,
   ⟨0x0A04, [1, 1, 1, 1, 1, 1], [0, 1, 3], false, false, false, 8⟩,
   ⟨0x0B01, [1, 1, 1, 1, 1, 0], [0, 1, 3], false, false, false, 4⟩,
   ⟨0x0B02, [1, 1, 1, 1, 1, 0], [0, 1], false, false, false, 4⟩,
   ⟨0x0B03, [1, 1, 1, 1, 1, 0], [0, 1, 3], false, false, false, 20⟩,
   ⟨0x0B04, [1, 1, 1, 1, 1, 0], [0, 1], false, false, false, 4⟩]

/-- Classes 0x0C to 0x0F. -/
def cmdRows3 : List CmdRow :=
  [⟨0x0C01, [1, 1, 1, 1, 1, 1], [0, 1, 3], false, false, false, 0⟩,
   ⟨0x0C02, [1, 1, 1, 1, 1, 0], [0, 1], true, true, true, 0⟩,
   ⟨0x0C03, [1, 0, 0, 0, 0, 0], [0, 1], false, true, false, 4⟩,
   ⟨0x0C04, [1, 1, 1, 1, 1, 0], [0, 1, 3], false, false, false, 0⟩,
   ⟨0x0C05, [1, 0, 0, 0, 0, 0], [0, 1], true, true, false, 0⟩,
   ⟨0x0C06, [0, 0, 0, 1, 0, 0], [0, 1], false, true, false, 0⟩,
   ⟨0x0D01, [1, 1, 1, 1, 1, 0], [0, 1, 3], false, false, false, 4⟩,
   ⟨0x0D02, [1, 0, 0, 1, 0, 0], [0, 1], false, true, false, 4⟩,
   ⟨0x0D03, [1, 0, 0, 1, 0, 0], [0, 1], false, true, false, 8⟩,
   ⟨0x0D04, [0, 1, 1, 1, 0, 0], [0, 1], true, false, false, 4⟩,
   ⟨0x0D05, [0, 1, 1, 0, 0, 0], [0, 1], true, true, false, 4⟩,
   ⟨0x0D06, [0, 1, 1, 1, 0, 0], [0, 1], true, true, false, 4⟩,
   ⟨0x0E01, [1, 1, 1, 1, 1, 0], [0, 1, 3], false, false, false, 0⟩,
   ⟨0x0E02, [0, 1, 1, 1, 0, 0], [0, 1], true, false, false, 0⟩,
   ⟨0x0E10, [0, 1, 1, 1, 0, 0], [4], false, false, false, 24⟩,
   ⟨0x0E11, [0, 1, 1, 1, 0, 0], [4], false, false, false, 16⟩,
   ⟨0x0E12, [0, 1, 1, 1, 0, 0], [4], false, false, false, 8⟩,
   ⟨0x0F01, [1, 1, 1, 1, 1, 1], [0, 1, 3], false, false, false, 0⟩,
   ⟨0x0F02, [1, 0, 0, 0, 0, 0], [0, 1], true, false, true, 4⟩,
   ⟨0x0F03, [1, 0, 0, 0, 0, 1], [0, 1], true, false, false, 4⟩,
   ⟨0x0F04, [1, 1, 1, 1, 1, 0], [0, 1], false, false, false, 4⟩]

/-- The legality matrix. -/
def cmdRows : List CmdRow := cmdRows0 ++ cmdRows1 ++ cmdRows2 ++ cmdRows3

/-- The row of an opcode. -/
def cmdRow (opc : Nat) : Option CmdRow := cmdRows.find? (fun r => r.opc == opc)

/-- The LEN that the chapter states for an opcode; an opcode with no entry takes all 16 bytes of a beam frame
(R335, log entry 39). -/
def canLen (opc : Nat) : Nat := ((cmdRow opc).map CmdRow.len).getD 16

end Sys2Proof.Machine
end

