-- ==== Sys2Proof/Machine/Links.lean ====
section
/-! DEFINITION. Host links (`09_host_links_and_network_time.md`): the host window over SPI and the hatch protocol, the
CAN FD port, and what else the Ethernet ports answer. -/

namespace Sys2Proof.Machine

/-! ### The host window (R29 to R32, R304, R305, R328, R358) -/

/-- Stoker address of the HIF register at a host-window address. -/
def winReg (a : Nat) : Option Nat :=
  if 0x1000 ≤ a && a < 0x1140 then some (0x400E0200 + (a - 0x1000))
  else if (0x2000 ≤ a && a < 0x2050) || a == 0x2080 || a == 0x2084 then some (0x400E0400 + (a - 0x2000))
  else none

/-- Base and size of an area that WINDOW_MAP names. -/
def recArea (area : Nat) : Nat × Nat :=
  if area = 0 then (0x30A80000, 0x8000) else if area = 1 then (0x30A88000, 0x40000) else (0x30B00000, 0x100000)

/-- A word of memory as a host read fetches it; what an uncorrectable word returns is open (log entry 5). -/
def hostMem (a : Nat) (s : State) : Nat × State := if eccBadAt s a then freeBelow (2 ^ 32) s else (ld32 s a, s)

/-- A ring-memory offset that R304 reserves. -/
def ringReserved (o : Nat) : Bool := 0xA000 ≤ o || 0x1800 ≤ o % 0x2000

/-- A word of the recorder read window: 0 beyond the area. -/
def recWord (o : Nat) (s : State) : Nat × State :=
  let (base, size) := recArea s.mbx.window.1
  let p := s.mbx.window.2 + o
  if p < size then hostMem (base + p) s else (0, s)

/-- One word of the host window: value, whether the address is in error, and the state after the fetch. In PILOT only
the ranges of R31 answer. -/
def hostFetch (a : Nat) (s : State) : Nat × Bool × State :=
  if a = 0 then (deviceId s, false, s)
  else if a = 4 then (0x101, false, s)
  else if a = 8 then (stateWord s, false, s)
  else if a = 0xC then (firmwareWord s, false, s)
  else if 0x800 ≤ a && a < 0x900 then (leAt (shadowBytes s) (a - 0x800) 4, false, s)
  else if !mainOn s.dev.state then (0, true, s)
  else match winReg a with
    | some r => if (fieldsAt r).isSome then (regRead s r, false, s) else (0, true, s)
    | none =>
      if 0x3000 ≤ a && a < 0x10000 then let (v, s) := recWord (a - 0x3000) s; (v, false, s)
      else if 0x10000 ≤ a && a < 0x20000 then
        if ringReserved (a - 0x10000) then (0, false, s)
        else let (v, s) := hostMem (a + 0x21EF0000) s; (v, false, s)
      else (0, true, s)

/-- `n` words from `a`, each at its own fetch: values, whether any address is in error, and the state. -/
def hostFetches (a n : Nat) (s : State) : List Nat × Bool × State :=
  (List.range n).foldl (fun acc i =>
    let (v, e, s) := hostFetch ((a + 4 * i) % 2 ^ 32) acc.2.2
    (acc.1 ++ [v], acc.2.1 || e, s)) ([], false, s)

/-- Registers that the host may write through its window (R328). -/
def hostRegs : List Nat :=
  [0x1000, 0x100C, 0x104C, 0x1018, 0x1058, 0x2080] ++
    (List.range 5).flatMap (fun c => [0x2000 + 0x10 * c, 0x101C + 0x40 * c])

/-- A host-window address that the host may write (R305, R328). -/
def hostWritable (a : Nat) : Bool := (0x10000 ≤ a && a < 0x11000) || hostRegs.contains a

/-- MB_IRQ is written by the host: EN takes the value, PEND bits written 1 clear (R325). -/
def hostIrqWrite (v : Nat) (s : State) : State :=
  s |> wr Reg.HIF_MB_IRQ_EN (bits v 16 3) |> doPendClear .host (bits v 0 5)

/-- A host write of one writable word; false where it ends with the address-error status (R553). -/
def hostStore (a v : Nat) (s : State) : Bool × State :=
  if 0x10000 ≤ a then
    let p := a + 0x21EF0000
    (!psRefused s p 4, psWrite p (leBytes 4 v) s)
  else if a = 0x1000 then (true, doDoorbell .host 0 (v % 65536) s)
  else if a = 0x100C then (true, doCplrpWrite .host 0 (v % 65536) s)
  else if a = 0x104C then (true, doCplrpWrite .host 1 (v % 65536) s)
  else if a = 0x1018 then (true, when (bit v 0) (doChannelReset .host 0) s)
  else if a = 0x1058 then (true, when (bit v 0) (doChannelReset .host 1) s)
  else if a = 0x2080 then (true, hostIrqWrite v s)
  else if a < 0x2000 then (true, putField (Reg.HIF_MB_DEFTO_MS ((a - 0x101C) / 0x40)) v s)
  else
    let c := (a - 0x2000) / 0x10
    (true, s |> putField (Reg.HIF_MB_MOD_TIME c) v |> putField (Reg.HIF_MB_MOD_COUNT c) v)

/-- Words stored from `a` on; a range with a word that is not writable is refused whole (R279, log entry 40). -/
def hostStores (a : Nat) (ws : List Nat) (s : State) : Bool × State :=
  if !(List.range ws.length).all (fun i => hostWritable (a + 4 * i)) then (false, s)
  else ws.zipIdx.foldl (fun acc q => if acc.1 then hostStore (a + 4 * q.2) q.1 acc.2 else acc) (true, s)

/-! ### SPI (R281 to R283) -/

/-- CRC-8 of the SPI port. -/
def crc8 (b : Bytes) : Nat := (b.foldl (fun c x => crcMsbByte 8 0x2F c x.toNat) 0xFF) ^^^ 0xFF

/-- An answer's status is counted; the pilot counts nothing. -/
def spiCount (st : Nat) (s : State) : State :=
  if !mainOn s.dev.state then s
  else if st = 1 then satInc Reg.HIF_SPI_STAT_HCRC 1 s
  else if st = 2 then satInc Reg.HIF_SPI_STAT_DCRC 1 s
  else if st = 3 || st = 4 then satInc Reg.HIF_SPI_STAT_ADDR 1 s
  else s

/-- A transaction cut short (R282). -/
def spiShort (s : State) : State := when (mainOn s.dev.state) (satInc Reg.HIF_SPI_STAT_SHORT 1) s

/-- The answer to a READ: STATUS, data words most significant byte first, CRC-8. -/
def spiReadAnswer (st : Nat) (ws : List Nat) (s : State) : State :=
  let b := leBytes 1 st ++ ws.flatMap (beBytes 4)
  s |> spiCount st |> send (.spi (b ++ leBytes 1 (crc8 b)))

/-- The data words of an answer that carries nothing out are open (log entry 41). -/
def freeWords (n : Nat) (s : State) : List Nat × State :=
  (List.range n).foldl (fun acc _ => let (v, s) := freeBelow (2 ^ 32) acc.2; (acc.1 ++ [v], s)) ([], s)

/-- SPI_READ (R281 to R283); a header of a WRITE is none of its. -/
def doSpiRead (hdr : Bytes) (cut : Bool) (s : State) : State :=
  let n := byteAt hdr 0 % 64 + 1
  let op := byteAt hdr 0 / 64
  let a := beAt hdr 1 4
  if s.dev.state == .off then s
  else if cut then spiShort s
  else if byteAt hdr 5 != crc8 (hdr.take 5) then spiReadAnswer 1 (List.replicate n 0xFFFFFFFF) s
  else if op = 2 then s
  else if op != 1 then let (ws, s) := freeWords n s; spiReadAnswer 5 ws s
  else if a % 4 != 0 then let (ws, s) := freeWords n s; spiReadAnswer 4 ws s
  else
    let (ws, e, s) := hostFetches a n s
    spiReadAnswer (if e then 3 else 0) ws s

/-- The data of a transaction as words, most significant byte first. -/
def spiWords (b : Bytes) : List Nat := (List.range (b.length / 4)).map (fun i => beAt b (4 * i) 4)

/-- SPI_WRITE (R281 to R283): the device ignores it in PILOT. -/
def doSpiWrite (hdr data : Bytes) (dcrc : Nat) (cut : Bool) (s : State) : State :=
  let n := byteAt hdr 0 % 64 + 1
  let op := byteAt hdr 0 / 64
  let a := beAt hdr 1 4
  let answer := fun (st : Nat) (s : State) => s |> spiCount st |> send (.spi (leBytes 1 st))
  if !mainOn s.dev.state then s
  else if cut then spiShort s
  else if byteAt hdr 5 != crc8 (hdr.take 5) then answer 1 s
  else if op = 1 then s
  else if op != 2 then answer 5 s
  else if data.length != 4 * n then spiShort s
  else if dcrc != crc8 data then answer 2 s
  else if a % 4 != 0 then answer 4 s
  else
    let (ok, s) := hostStores a (spiWords data) s
    answer (if ok then 0 else 3) s

/-! ### The hatch protocol (R276 to R279) -/

/-- The port takes frames: ETH runs, or the device is in BOOT, where the host window is not yet served. -/
def hatchHears (s : State) (p : Nat) : Bool :=
  portUp s p || (s.dev.state == .boot && p < 2 && rdb s (if p = 0 then Reg.ETH_CTRL_EN0 else Reg.ETH_CTRL_EN1) &&
    rdb s (Reg.ETH_P_STATUS_LINK p))

/-- The source address is one of the port's peers. -/
def hatchPeer (s : State) (h : HatchHdr) : Bool :=
  h.srcIp != 0 && (h.srcIp == rd s (Reg.ETH_P_PEER0_ADDR h.port) || h.srcIp == rd s (Reg.ETH_P_PEER1_ADDR h.port))

/-- The response to a request of TYPE `type`. -/
def hatchAnswer (h : HatchHdr) (type st : Nat) (pay : Bytes) (s : State) : State :=
  let hdr := leBytes 2 0x4854 ++ leBytes 1 1 ++ leBytes 1 (0x80 + type) ++ leBytes 4 h.seq ++ leBytes 2 pay.length ++
    leBytes 1 st ++ leBytes 1 0 ++ leBytes 4 h.addr
  s |> (if st = 0 then wrapInc (Reg.ETH_P_HATCH_ACCEPTED h.port) 1 else satInc (Reg.ETH_P_HATCH_REJECT h.port) 1)
    |> send (.hatch h.port h.srcIp h.srcPort (hdr ++ pay))

/-- What every hatch frame passes before `serve` answers it with a status and a payload (R273, R276, R277). -/
def hatchServe (h : HatchHdr) (type : Nat) (serve : State → Nat × Bytes × State) (s : State) : State :=
  if !hatchHears s h.port then s
  else if macsecBars s h.port then macsecDrop h.port s
  else if !hatchPeer s h then satInc (Reg.ETH_P_HATCH_PEER h.port) 1 s
  else if h.udpLen != 16 + h.len || h.magic != 0x4854 || h.ver != 1 then s
  else if s.dev.state == .boot then hatchAnswer h type 5 [] s
  else if h.status != 0 || h.resv != 0 then hatchAnswer h type 1 [] s
  else
    let (st, pay, s) := serve s
    hatchAnswer h type st pay s

/-- Descriptors of CH1 with AUTH = 1 that S0 has not taken. -/
def authAhead (s : State) : Nat :=
  let rp := rd s (Reg.HIF_MB_CMDRP_COUNT 1)
  ((List.range (diff16 (rd s (Reg.HIF_MB_CMDWP_WP 1)) rp)).filter
    (fun i => bit (ld16 s (cmdSlotAddr 1 (rp + i) + 4)) 3)).length

/-- The copies of a frame's class 0x04 descriptors for the fender (R278, R315, log entry 35). -/
def fenderCopies (s : State) (ds : List Bytes) : List Ingress :=
  let c0 := rd s (Reg.HIF_MB_AUTHCNT_COUNT 1) + 1 + authAhead s
  let go := fun (acc : List Ingress × Nat) (d : Bytes) =>
    let q : Ingress := ⟨leAt d 0 2, false, d.take 0x38, leAt d 0x38 8, acc.2 % 2 ^ 32⟩
    (if byteAt d 1 = 4 then acc.1 ++ [q] else acc.1, if bit (leAt d 4 2) 3 then acc.2 + 1 else acc.2)
  (ds.foldl go ([], c0)).1

/-- A CMD frame's descriptors go into the CH1 ring (R278). -/
def hatchPlace (ds : List Bytes) (s : State) : State :=
  let wp := rd s (Reg.HIF_MB_CMDWP_WP 1)
  let qs := fenderCopies s ds
  let at' := if qs.isEmpty then s.zne.arrival else some s.now
  { s with
    fender := { s.fender with ingress := s.fender.ingress ++ qs }
    zne := { s.zne with arrival := at' } }
    |> forEach ds.zipIdx (fun q => psWrite (cmdSlotAddr 1 (wp + q.2)) (padTo 64 q.1))
    |> doorbellWrite 1 ((wp + ds.length) % 65536)

/-- HATCH_CMD (R276 to R278). -/
def doHatchCmd (h : HatchHdr) (descs : List Bytes) (s : State) : State :=
  hatchServe h 1 (fun s =>
    let n := descs.length
    let used := diff16 (rd s (Reg.HIF_MB_CMDWP_WP 1)) (rd s (Reg.HIF_MB_CMDRP_COUNT 1))
    if h.addr != 0 || n = 0 || 22 < n || h.len != 64 * n || !descs.all (fun d => d.length == 64) then (1, [], s)
    else if 64 < used + n then (4, [], s)
    else (0, [], hatchPlace descs s)) s

/-- Region of the host-window map (R29) that holds an address. -/
def winRegion (a : Nat) : Nat := if a < 0x1000 then 0 else if a < 0x2000 then 1 else if a < 0x3000 then 2
  else if a < 0x10000 then 3 else if a < 0x20000 then 4 else 5

/-- HATCH_READ (R276, R279). -/
def doHatchRead (h : HatchHdr) (count resv : Nat) (s : State) : State :=
  hatchServe h 2 (fun s =>
    if h.len != 4 || count = 0 || 256 < count || resv != 0 then (1, [], s)
    else if h.addr % 4 != 0 then (3, [], s)
    else
      let (ws, e, s') := hostFetches h.addr count s
      if e || winRegion h.addr != winRegion (h.addr + 4 * count - 4) then (2, [], s)
      else (0, ws.flatMap (leBytes 4), s')) s

/-- HATCH_WRITE (R276, R279). -/
def doHatchWrite (h : HatchHdr) (data : Bytes) (s : State) : State :=
  hatchServe h 3 (fun s =>
    let n := data.length / 4
    if data.length % 4 != 0 || n = 0 || 256 < n || h.len != data.length then (1, [], s)
    else if h.addr % 4 != 0 then (3, [], s)
    else if winRegion h.addr != winRegion (h.addr + 4 * n - 4) then (2, [], s)
    else
      let (ok, s) := hostStores h.addr ((List.range n).map (fun i => leAt data (4 * i) 4)) s
      (if ok then 0 else 2, [], s)) s

/-! ### CAN FD (R284 to R289) -/

/-- The port is on the bus. -/
def canOn (s : State) : Bool := mainOn s.dev.state && rdb s Reg.HIF_CAN_CTRL_EN && rd s Reg.HIF_CAN_STAT_BUS != 2

/-- Some enabled filter matches an identifier. -/
def canMatch (s : State) (id : Nat) (ext : Bool) : Bool :=
  (List.range 16).any (fun n =>
    let w := if ext then 29 else 11
    rdb s (Reg.HIF_CAN_FILT_ID_EN n) && rdb s (Reg.HIF_CAN_FILT_ID_EXT n) == ext &&
      ((id ^^^ rd s (Reg.HIF_CAN_FILT_ID_ID n)) &&& rd s (Reg.HIF_CAN_FILT_MASK_MASK n)) % 2 ^ w == 0)

/-- The MAC of a beam frame verifies (R286). -/
def canMacOk (s : State) (id : Nat) (ext : Bool) (data : Bytes) : Bool :=
  padTo 8 (Config.cmac (SMap.getD s.sec.keys 3 []) (leBytes 4 (id + b2n ext * 2 ^ 31) ++ data.take 24)) ==
    (data.drop 24).take 8

/-- LAST takes a counter value; at the reservation a new one is written (R288). -/
def setFresh (v : Nat) (s : State) : State :=
  let s := wr Reg.HIF_CAN_FRESH_LAST v s
  if s.links.canRes ≤ v then { s with links := { s.links with canRes := v + 4096 } } else s

/-- The CH2 descriptor of an accepted beam frame (R287, R335). Where the ring has no room the doorbell rule refuses it
(R312). -/
def canPlace (data : Bytes) (s : State) : State :=
  let wp := rd s (Reg.HIF_MB_CMDWP_WP 2)
  let opc := leAt data 0 2
  let d := leBytes 2 opc ++ leBytes 2 (byteAt data 2) ++ leBytes 2 (byteAt data 3) ++ leBytes 2 (canLen opc) ++
    (data.drop 4).take 16 ++ zeroBytes 40
  let room := diff16 wp (rd s (Reg.HIF_MB_CMDRP_COUNT 2)) < 64
  let s := if room then
      { s with links := { s.links with canFresh := SMap.put s.links.canFresh (wp % 64) (leAt data 20 4) } }
        |> psWrite (cmdSlotAddr 2 wp) d
    else s
  doorbellWrite 2 ((wp + 1) % 65536) s

/-- CAN_BEAM_FRAME (R284 to R288). A frame of another length than 32 bytes is no beam frame (log entry 42). -/
def doCanBeamFrame (id : Nat) (ext : Bool) (data : Bytes) (s : State) : State :=
  let fresh := leAt data 20 4
  if !canOn s || !canMatch s id ext || data.length != 32 then s
  else if !canMacOk s id ext data || fresh ≤ rd s Reg.HIF_CAN_FRESH_LAST then
    s |> satInc Reg.HIF_CAN_STAT_AUTH 1 |> raise 0x0F1 0 |> canResponse (leAt data 0 2) (byteAt data 2) 4 fresh
  else
    let s := setFresh fresh s
    if 4 ≤ byteAt data 3 then canResponse (leAt data 0 2) (byteAt data 2) 3 fresh s else canPlace data s

/-- CAN_STATUS_FRAME (R289). -/
def doCanStatusFrame (s : State) : State :=
  if canOn s && rdb s Reg.HIF_CAN_STID_EN && rdb s Reg.HIF_CAN_CTRL_STPER then
    let dark := ((tileLanes s).filter (fun n => tileState s n != 0)).length
    let b := leBytes 4 (stateWord s) ++ leBytes 2 dark ++ leBytes 1 s.links.canHigh ++ leBytes 1 s.links.canCount
    let idw := rd s Reg.HIF_CAN_STID_ID + rd s Reg.HIF_CAN_STID_EXT * 2 ^ 31
    { s with links := { s.links with canCount := (s.links.canCount + 1) % 256, canHigh := 0 } } |> send (.can idw b)
  else s

/-- CAN_BUSOFF (R284). -/
def doCanBusoff (s : State) : State :=
  if canOn s then s |> wr Reg.HIF_CAN_STAT_BUS 2 |> raise 0x0F0 0 else s

/-- CAN_BUSOFF_RECOVERY (R284): the port is error-active again with its counters at 0 (log entry 43). -/
def doCanBusoffRecovery (s : State) : State :=
  if mainOn s.dev.state && rd s Reg.HIF_CAN_STAT_BUS == 2 then
    s |> wr Reg.HIF_CAN_STAT_BUS 0 |> wr Reg.HIF_CAN_STAT_TEC 0 |> wr Reg.HIF_CAN_STAT_REC 0
  else s

/-! ### Ethernet (R272, R273, R275, R293) -/

/-- ETH_LINK (R275): RATE 0 is down; LINKCHG and ETH_LINK report a fall. -/
def doEthLink (port rate : Nat) (s : State) : State :=
  if 1 < port || !mainOn s.dev.state || s.dev.state == .boot || s.dev.state == .halt || !bound s then s
  else
    let was := rdb s (Reg.ETH_P_STATUS_LINK port)
    let up := rate % 4 != 0
    let s := s |> wr (Reg.ETH_P_STATUS_RATE port) (rate % 4) |> wr (Reg.ETH_P_STATUS_LINK port) (b2n up)
    if was == up then s
    else s |> wr (Reg.ETH_P_STATUS_LINKCHG port) 1 |> when (!up) (raise 0x0D0 port)

/-- GPTP_FRAME (R273, R293): the stamp of an event message, corrected by the port's latency. gPTP frames pass in the
clear. -/
def doGptpFrame (port t : Nat) (tx : Bool) (s : State) : State :=
  let s := atTime t s
  if !portUp s port then s
  else
    let raw : Int := 4 * rawNow s
    let v : Int := if tx then raw + (rd s (Reg.ETH_P_TSLAT_EGRESS port) : Int) else raw - (rd s (Reg.ETH_P_TSLAT_INGRESS port) : Int)
    { s with links := { s.links with stamps := SMap.put s.links.stamps (2 * port + b2n tx) v } }

/-- ARP_REQUEST (R272): the sender is held in the 16-entry cache, and a request for the port's address is answered. -/
def doArpRequest (port senderIp senderMac targetIp : Nat) (s : State) : State :=
  if !portUp s port then s
  else if macsecBars s port then macsecDrop port s
  else if targetIp = 0 || targetIp != rd s (Reg.ETH_P_IPADDR_ADDR port) then s
  else
    let old := (SMap.getD s.links.arp port []).filter (fun q => q.1 != senderIp)
    { s with links := { s.links with arp := SMap.put s.links.arp port (((senderIp, senderMac) :: old).take 16) } }
      |> send (.arp port senderIp senderMac)

/-- ICMP_ECHO (R272): payloads of up to 1,472 bytes are answered. -/
def doIcmpEcho (port srcIp dstIp : Nat) (payload : Bytes) (s : State) : State :=
  if !portUp s port then s
  else if macsecBars s port then macsecDrop port s
  else if dstIp = 0 || dstIp != rd s (Reg.ETH_P_IPADDR_ADDR port) then s
  else if 1472 < payload.length then satInc (Reg.ETH_P_RXDROP_IP port) 1 s
  else send (.icmp port srcIp payload) s

/-- The SAs of a port with one more installed: one transmit SC, 4 receive SCs, 2 SAs per SC (R272, log entry 44). -/
def addSa (k : MkaSak) (l : List MkaSak) : List MkaSak :=
  let l := l.filter (fun q => !(q.rx == k.rx && q.sci == k.sci && q.an == k.an) && (k.rx || q.rx || q.sci == k.sci))
  let mine := l.filter (fun q => q.rx == k.rx && q.sci == k.sci)
  let others := l.filter (fun q => !(q.rx == k.rx && q.sci == k.sci))
  let scis := ((others.filter MkaSak.rx).map MkaSak.sci).dedup
  if k.rx && 4 ≤ scis.length then l else k :: mine.take 1 ++ others

/-- MKA_FRAME (R273): stoker firmware runs MKA, and an exchange that ends installs a SAK. -/
def doMkaFrame (port : Nat) (sak : Option MkaSak) (s : State) : State :=
  if !portUp s port then s
  else match sak with
    | none => s
    | some k =>
      { s with links := { s.links with sas := SMap.put s.links.sas port (addSa k (SMap.getD s.links.sas port [])) } }
        |> wr (Reg.ETH_P_STATUS_SA port) 1

/-- ETH_FRAME_DISCARD (R272, R273). -/
def doEthFrameDiscard (port : Nat) (why : RxDrop) (s : State) : State :=
  if !portUp s port then s
  else match why with
    | .macsec => satInc (Reg.ETH_P_RXDROP_MACSEC port) 1 s
    | .frame => satInc (Reg.ETH_P_RXDROP_FRAME port) 1 s
    | .ip => satInc (Reg.ETH_P_RXDROP_IP port) 1 s
    | .udp => satInc (Reg.ETH_P_RXDROP_UDP port) 1 s

/-! ### The meanings of the rows -/

/-- HATCH_CMD (R278). -/
def execHatchCmd (h : HatchHdr) (descs : List Bytes) (s : State) : Out :=
  .next (doHatchCmd h descs s)

/-- HATCH_READ (R276). -/
def execHatchRead (h : HatchHdr) (count resv : Nat) (s : State) : Out :=
  .next (doHatchRead h count resv s)

/-- HATCH_WRITE (R276). -/
def execHatchWrite (h : HatchHdr) (data : Bytes) (s : State) : Out :=
  .next (doHatchWrite h data s)

/-- SPI_READ (R281). -/
def execSpiRead (hdr : Bytes) (cut : Bool) (s : State) : Out :=
  .next (doSpiRead hdr cut s)

/-- SPI_WRITE (R282). -/
def execSpiWrite (hdr data : Bytes) (dcrc : Nat) (cut : Bool) (s : State) : Out :=
  .next (doSpiWrite hdr data dcrc cut s)

/-- CAN_BEAM_FRAME (R287). -/
def execCanBeamFrame (id : Nat) (ext : Bool) (data : Bytes) (s : State) : Out :=
  .next (doCanBeamFrame id ext data s)

/-- CAN_STATUS_FRAME (R289). -/
def execCanStatusFrame (s : State) : Out :=
  .next (doCanStatusFrame s)

/-- CAN_BUSOFF (R284). -/
def execCanBusoff (s : State) : Out :=
  .next (doCanBusoff s)

/-- CAN_BUSOFF_RECOVERY (R284). -/
def execCanBusoffRecovery (s : State) : Out :=
  .next (doCanBusoffRecovery s)

/-- ETH_LINK (R275). -/
def execEthLink (port rate : Nat) (s : State) : Out :=
  .next (doEthLink port rate s)

/-- GPTP_FRAME (R293). -/
def execGptpFrame (port t : Nat) (tx : Bool) (s : State) : Out :=
  .next (doGptpFrame port t tx s)

/-- ARP_REQUEST (R272). -/
def execArpRequest (port senderIp senderMac targetIp : Nat) (s : State) : Out :=
  .next (doArpRequest port senderIp senderMac targetIp s)

/-- ICMP_ECHO (R272). -/
def execIcmpEcho (port srcIp dstIp : Nat) (payload : Bytes) (s : State) : Out :=
  .next (doIcmpEcho port srcIp dstIp payload s)

/-- MKA_FRAME (R273). -/
def execMkaFrame (port : Nat) (sak : Option MkaSak) (s : State) : Out :=
  .next (doMkaFrame port sak s)

/-- ETH_FRAME_DISCARD (R272). -/
def execEthFrameDiscard (port : Nat) (why : RxDrop) (s : State) : Out :=
  .next (doEthFrameDiscard port why s)

end Sys2Proof.Machine
end

