-- ==== Sys2Proof/Machine/Ntm.lean ====
section
/-! DEFINITION. Network time (`09_host_links_and_network_time.md`, R290 to R299): the domain views, the active domain,
snapshots, time-triggered outputs and PPS capture. -/

namespace Sys2Proof.Machine

/-! ### Steering a view (R291, R298) -/

/-- Seconds and nanoseconds as nanoseconds. -/
def secNs (sec ns : Nat) : Nat := sec * 10 ^ 9 + ns

/-- START of output `n` in ns. -/
def ttoStart (s : State) (n : Nat) : Nat :=
  secNs (rd s (Reg.NTM_TTO_START_SH_SEC n) * 2 ^ 32 + rd s (Reg.NTM_TTO_START_SL_VALUE n))
    (rd s (Reg.NTM_TTO_START_NS_VALUE n) % 2 ^ 30)

/-- The output's state beside its registers. -/
def ttoOf (s : State) (n : Nat) : Tto := SMap.getD s.ntm.ttos n ⟨0, false⟩

/-- Sets it. -/
def setTto (n : Nat) (o : Tto) (s : State) : State :=
  { s with ntm := { s.ntm with ttos := SMap.put s.ntm.ttos n o } }

/-- Edge e_k of output `n`: none for k > 0 with PERIOD = 0. -/
def ttoEdgeAt (s : State) (n k : Nat) : Option Nat :=
  if rdb s (Reg.NTM_TTO_PERIOD_VALUE n) then some (ttoStart s n + k * rd s (Reg.NTM_TTO_PERIOD_VALUE n))
  else if k = 0 then some (ttoStart s n) else none

/-- Unfired edges of output `n` before the time `t`. -/
def ttoPassed (s : State) (n t : Nat) : Nat :=
  let k := (ttoOf s n).k
  match ttoEdgeAt s n k with
  | none => 0
  | some e =>
    if t ≤ e then 0
    else if rdb s (Reg.NTM_TTO_PERIOD_VALUE n) then (t - e - 1) / rd s (Reg.NTM_TTO_PERIOD_VALUE n) + 1 else 1

/-- A step or set to the time `t` has passed unfired edges of an armed output: they are missed (R298). -/
def ttoMiss (dom t n : Nat) (s : State) : State :=
  let m := ttoPassed s n t
  if rdb s (Reg.NTM_TTO_CTRL_EN n) && rd s (Reg.NTM_TTO_CTRL_DOM n) == dom && m != 0 then
    let o := ttoOf s n
    s |> setTto n { o with k := o.k + m } |> satInc (Reg.NTM_TTO_MISSED_VALUE n) m |> raise 0x0E1 n
  else s

/-- What the raster follows changes: the raster error takes the difference (R54). -/
def followBase (f : State → State) (s : State) : State :=
  let s' := f s
  shiftErr ((rasterBase s' : Int) - (rasterBase s : Int)) s'

/-- The staged INC of domain `n` in 2^-32 ns. -/
def stagedInc (s : State) (n : Nat) : Nat := rd s (Reg.NTM_D_INC_INT_VALUE n) * 2 ^ 32 + rd s (Reg.NTM_D_INC_FRAC_VALUE n)

/-- INC lies in 3.998 to 4.002 ns per tick. -/
def incOk (inc : Nat) : Bool := 3998 * 2 ^ 32 ≤ inc * 1000 && inc * 1000 ≤ 4002 * 2 ^ 32

/-- An apply moves view `n` to a time with the staged INC, or sets ERR. -/
def applyView (n : Nat) (newT : Int) (s : State) : State :=
  let inc := stagedInc s n
  if !mainOn s.dev.state || 1 < n then s
  else if incOk inc then
    let t := (newT % (2 ^ 48 * 10 ^ 9 : Int)).toNat
    let v : DomView := ⟨rawNow s, t, inc⟩
    let old := timeNow s n
    s |> followBase (fun s => { s with ntm := { s.ntm with views := SMap.put s.ntm.views n v } })
      |> when (decide (old < t)) (forEach (List.range 4) (ttoMiss n t))
  else wr (Reg.NTM_D_APPLY_ERR n) 1 s

/-- NTM_APPLY_STEP (R291). -/
def doNtmApplyStep (n t : Nat) (s : State) : State :=
  let s := atTime t s
  applyView n ((timeNow s n : Int) + sx 32 (rd s (Reg.NTM_D_STEP_VALUE n))) s

/-- NTM_APPLY_SET (R291). -/
def doNtmApplySet (n t : Nat) (s : State) : State :=
  let s := atTime t s
  let v := secNs (rd s (Reg.NTM_D_SET_SH_VALUE n) * 2 ^ 32 + rd s (Reg.NTM_D_SET_SL_VALUE n))
    (rd s (Reg.NTM_D_SET_NS_VALUE n) % 2 ^ 30)
  applyView n (v : Int) s

/-! ### Domains (R292, R294) -/

/-- NTM.CTRL.ACTIVE takes `n`, and the raster slews to that domain. -/
def setActive (n : Nat) (s : State) : State := followBase (wr Reg.NTM_CTRL_ACTIVE n) s

/-- ACTIVE_DOMAIN_WRITE (R294). -/
def doActiveDomainWrite (n t : Nat) (s : State) : State :=
  let s := atTime t s
  if !mainOn s.dev.state || 1 < n then s else setActive n s

/-- DOMAIN_STATE_WRITE (R292): 0b11 leaves the field unchanged. -/
def doDomainStateWrite (n st t : Nat) (s : State) : State :=
  let s := atTime t s
  if !mainOn s.dev.state || 1 < n || 2 < st then s
  else
    let lost := n == activeDom s && rd s (Reg.NTM_D_STATE_STATE n) == 1 && st != 1
    s |> followBase (wr (Reg.NTM_D_STATE_STATE n) st) |> when lost (raise 0x0E0 n)

/-! ### Snapshots and PPS (R295, R299) -/

/-- NTM_SNAP (R295): one tick's raw count and domain times; GO reads 0 again. -/
def doNtmSnap (t : Nat) (s : State) : State :=
  let s := atTime t s
  if !mainOn s.dev.state then s
  else
    let k := rawNow s
    let d0 := timeAt s 0 k
    let d1 := timeAt s 1 k
    s |> wr Reg.NTM_SNAP_RAW_LO_VALUE k |> wr Reg.NTM_SNAP_RAW_HI_VALUE (k / 2 ^ 32)
      |> wr Reg.NTM_SNAP_D0_SL_VALUE (d0 / 10 ^ 9) |> wr Reg.NTM_SNAP_D0_SH_SEC (d0 / 10 ^ 9 / 2 ^ 32)
      |> wr Reg.NTM_SNAP_D0_NS_NSEC (d0 % 10 ^ 9)
      |> wr Reg.NTM_SNAP_D1_SL_VALUE (d1 / 10 ^ 9) |> wr Reg.NTM_SNAP_D1_SH_SEC (d1 / 10 ^ 9 / 2 ^ 32)
      |> wr Reg.NTM_SNAP_D1_NS_NSEC (d1 % 10 ^ 9) |> wr Reg.NTM_SNAP_GO 0

/-- PPS_CAPTURE (R299). -/
def doPpsCapture (t : Nat) (s : State) : State :=
  let s := atTime t s
  if !mainOn s.dev.state then s
  else
    let k := rawNow s
    let d0 := timeAt s 0 k
    let d1 := timeAt s 1 k
    s |> when (rdb s Reg.NTM_PPS_STAT_FULL) (wr Reg.NTM_PPS_STAT_OVR 1) |> wr Reg.NTM_PPS_STAT_FULL 1
      |> wr Reg.NTM_PPS_RAW_LO_VALUE k |> wr Reg.NTM_PPS_RAW_HI_VALUE (k / 2 ^ 32)
      |> wr Reg.NTM_PPS_D0_SL_VALUE (d0 / 10 ^ 9) |> wr Reg.NTM_PPS_D0_SH_SEC (d0 / 10 ^ 9 / 2 ^ 32)
      |> wr Reg.NTM_PPS_D0_NS_NSEC (d0 % 10 ^ 9)
      |> wr Reg.NTM_PPS_D1_SL_VALUE (d1 / 10 ^ 9) |> wr Reg.NTM_PPS_D1_SH_SEC (d1 / 10 ^ 9 / 2 ^ 32)
      |> wr Reg.NTM_PPS_D1_NS_NSEC (d1 % 10 ^ 9)
      |> fire 0x30

/-- PPS_RAW_LO_READ (R299). -/
def doPpsRawLoRead (s : State) : State := if mainOn s.dev.state then wr Reg.NTM_PPS_STAT_FULL 0 s else s

/-! ### Time-triggered outputs (R296 to R298) -/

/-- The device is in a state in which outputs are not held at their inactive level. -/
def ttoFree (s : State) : Bool := mainOn s.dev.state && s.dev.state != .boot && s.dev.state != .halt

/-- Why an arm of output `n` is refused: 0 accepted, 1 PAST, 2 DOM, 3 BAD (R297). -/
def ttoRefusal (s : State) (n : Nat) : Nat :=
  let dom := rd s (Reg.NTM_TTO_CTRL_DOM n)
  let per := rd s (Reg.NTM_TTO_PERIOD_VALUE n)
  if ttoStart s n ≤ timeNow s dom then 1
  else if !domValid s dom then 2
  else if per != 0 && per ≤ rd s (Reg.NTM_TTO_WIDTH_VALUE n) then 3
  else 0

/-- The output is armed, or the arm refused. -/
def ttoArmNow (n : Nat) (s : State) : State :=
  let err := ttoRefusal s n
  let s := s |> wr (Reg.NTM_TTO_CTRL_EN n) (b2n (err == 0)) |> wr (Reg.NTM_TTO_CTRL_ERR n) err
  when (err == 0) (setTto n { ttoOf s n with k := 0 }) s

/-- A write of TTOn_CTRL (R297, R298). -/
def ttoCtrl (n : Nat) (en : Bool) (pol dom : Nat) (s : State) : State :=
  let s := s |> wr (Reg.NTM_TTO_CTRL_POL n) pol |> wr (Reg.NTM_TTO_CTRL_DOM n) dom
  if en then ttoArmNow n s else wr (Reg.NTM_TTO_CTRL_EN n) 0 s

/-- TTO_ARM_WRITE (R297). -/
def doTtoArmWrite (n : Nat) (v : Word) (t : Nat) (s : State) : State :=
  let s := atTime t s
  if !mainOn s.dev.state || 3 < n then s
  else ttoCtrl n (bit v.toNat 31) (bits v.toNat 30 1) (bits v.toNat 29 1) s

/-- TTO_EDGE (R296): the time of the output's domain has reached its next edge. -/
def doTtoEdge (n t : Nat) (s : State) : State :=
  let s := atTime t s
  let o := ttoOf s n
  match ttoEdgeAt s n o.k with
  | none => s
  | some e =>
    if n ≤ 3 && ttoFree s && rdb s (Reg.NTM_TTO_CTRL_EN n) && e ≤ timeNow s (rd s (Reg.NTM_TTO_CTRL_DOM n)) then
      s |> setTto n ⟨o.k + 1, true⟩
        |> when (!rdb s (Reg.NTM_TTO_PERIOD_VALUE n)) (wr (Reg.NTM_TTO_CTRL_EN n) 0)
        |> when (!o.pulse) (send (.tto n true))
    else s

/-- TTO_PULSE_END (R296). -/
def doTtoPulseEnd (n : Nat) (s : State) : State :=
  let o := ttoOf s n
  if n ≤ 3 && ttoFree s && o.pulse then s |> setTto n { o with pulse := false } |> send (.tto n false) else s

/-! ### The meanings of the rows -/

/-- NTM_APPLY_STEP (R291). -/
def execNtmApplyStep (n t : Nat) (s : State) : Out :=
  .next (doNtmApplyStep n t s)

/-- NTM_APPLY_SET (R291). -/
def execNtmApplySet (n t : Nat) (s : State) : Out :=
  .next (doNtmApplySet n t s)

/-- ACTIVE_DOMAIN_WRITE (R294). -/
def execActiveDomainWrite (n t : Nat) (s : State) : Out :=
  .next (doActiveDomainWrite n t s)

/-- DOMAIN_STATE_WRITE (R292). -/
def execDomainStateWrite (n st t : Nat) (s : State) : Out :=
  .next (doDomainStateWrite n st t s)

/-- NTM_SNAP (R295). -/
def execNtmSnap (t : Nat) (s : State) : Out :=
  .next (doNtmSnap t s)

/-- TTO_ARM_WRITE (R297). -/
def execTtoArmWrite (n : Nat) (v : Word) (t : Nat) (s : State) : Out :=
  .next (doTtoArmWrite n v t s)

/-- TTO_EDGE (R296). -/
def execTtoEdge (n t : Nat) (s : State) : Out :=
  .next (doTtoEdge n t s)

/-- TTO_PULSE_END (R296). -/
def execTtoPulseEnd (n : Nat) (s : State) : Out :=
  .next (doTtoPulseEnd n s)

/-- PPS_CAPTURE (R299). -/
def execPpsCapture (t : Nat) (s : State) : Out :=
  .next (doPpsCapture t s)

/-- PPS_RAW_LO_READ (R299). -/
def execPpsRawLoRead (s : State) : Out :=
  .next (doPpsRawLoRead s)

end Sys2Proof.Machine
end

