-- ==== Sys2Proof/Machine/Pair.lean ====
section
/-! DEFINITION. The partner link and redundant pair operation (`18_redundant_pair.md`): partner frames, formation,
the standby that follows its active, the exchange of one frame, and handover. -/

namespace Sys2Proof.Machine

/-! ### Receiving (R513, R516) -/

/-- What TAG covers: CNT, TYPE, LEN and the payload. -/
def tagMsg (type : Nat) (f : PtnFrame) : Bytes :=
  leBytes 4 f.cnt ++ leBytes 1 type ++ leBytes 2 f.payload.length ++ f.payload

/-- TAG is right under key PTN (R379, R513). -/
def ptnTagOk (s : State) (type : Nat) (f : PtnFrame) : Bool :=
  leAt (Config.cmac (SMap.getD s.sec.keys 7 []) (tagMsg type f)) 0 8 == f.tag

/-- PTN accepts frames on a partner lane that is up. -/
def ptnHears (s : State) (lane : Nat) : Bool :=
  pairOp s && mainOn s.dev.state && rdb s Reg.PTN_CTRL_EN && (lane == 64 || lane == 65) && linkOf s lane == 2

/-- A frame of R513 arrives: the first good copy acts as `k` says, and every other is discarded and counted. -/
def acceptFrame (lane type : Nat) (f : PtnFrame) (k : State → State) (s : State) : State :=
  if !ptnHears s lane then s
  else if !(f.crcOk && ptnTagOk s type f) then satInc Reg.PTN_AUTHERR_COUNT 1 s
  else
    let s := wr (if lane = 64 then Reg.PTN_STATUS_LANE64 else Reg.PTN_STATUS_LANE65) 1 s
    if (match s.ptn.rxCnt with | some c => decide (f.cnt ≤ c) | none => false) then satInc Reg.PTN_AUTHERR_COUNT 1 s
    else k (wr Reg.PTN_STATUS_LINK 1 { s with ptn := { s.ptn with rxCnt := some f.cnt } })

/-- What only a standby acts on. -/
def asStandby (k : State → State) (s : State) : State := when (role s == 2) k s

/-- PTN hands a frame to S0 as a CH4 descriptor, TAG the low half of CNT and CPL set (R515). -/
def toCh4 (opc cnt : Nat) (params : Bytes) (s : State) : State :=
  let wp := rd s (Reg.HIF_MB_CMDWP_WP 4)
  let d := leBytes 2 opc ++ leBytes 2 cnt ++ leBytes 2 2 ++ leBytes 2 params.length ++ padTo 44 params ++ zeroBytes 12
  let room := diff16 wp (rd s (Reg.HIF_MB_CMDRP_COUNT 4)) < 64
  s |> when room (psWrite (cmdSlotAddr 4 wp) d) |> doorbellWrite 4 ((wp + 1) % 65536)

/-! ### HELLO (R513, R519, R525) -/

/-- CRC-32 over the binding sections that R512 names. -/
def bindCrcOf (s : State) : Nat := crc32 (((List.range' 1 11) ++ [0x0F]).flatMap (bindSec s))

/-- CRC-32 over the calibration check table. -/
def calCrcOf (s : State) : Nat := crc32 (ldBytes s 0x30F40000 512)

/-- The payload of HELLO. -/
def helloPayload (s : State) : Bytes :=
  leBytes 4 (stateWord s) ++ leBytes 1 (role s) ++ leBytes 1 (damper s) ++ leBytes 1 (activeDom s) ++
    leBytes 1 (rd s Reg.PTN_STATUS_READY) ++ leBytes 4 (bindCrcOf s) ++ leBytes 4 (calCrcOf s)

/-- HELLO_TIMER. -/
def doHelloTimer (s : State) : State := if mainOn s.dev.state then sendPtn 1 (helloPayload s) s else s

/-- HELLO as received. -/
def helloOf (b : Bytes) : Hello :=
  { stateW := leAt b 0 4, role := byteAt b 4, step := byteAt b 5, domain := byteAt b 6,
    ready := bit (byteAt b 7) 0, bindCrc := leAt b 8 4, calCrc := leAt b 12 4 }

/-- A device takes the standby role and joins its active (R517, R520). -/
def becomeStandby (s : State) : State :=
  { s with ptn := { s.ptn with joining := some 0 } } |> wr Reg.PTN_STATUS_ROLE 2 |> wr Reg.PTN_STATUS_READY 0

/-- The pair forms in STANDBY, or does not where a CRC differs (R512, R517). `fresh` says that the mismatch is new. -/
def form (p : Hello) (fresh : Bool) (s : State) : State :=
  if s.dev.state != .standby || role s != 0 then s
  else if p.bindCrc != bindCrcOf s || p.calCrc != calCrcOf s then
    s |> when fresh (raise 0x152 4) |> when (!s.pilot.pairId) (wr Reg.PTN_STATUS_ROLE 1)
  else if p.role = 1 then becomeStandby s
  else if !s.pilot.pairId then wr Reg.PTN_STATUS_ROLE 1 s
  else s

/-- The active holds its standby for healthy (R518). -/
def healthyNow (p : Hello) (s : State) : Bool :=
  role s == 1 && p.role == 2 && p.ready && rdb s Reg.PTN_STATUS_LINK && p.stateW % 16 != 7 && p.stateW % 16 != 8 &&
    !bit p.stateW 6 && decide (max 1 (rd s Reg.PTN_LIMIT_SKEWFR) ≤ s.ptn.skewOk) &&
    s.ptn.xmisRun.all (fun r => decide (r.2 < max 1 (rd s Reg.PTN_LIMIT_XMISLIM)))

/-- HEALTHY follows. -/
def setHealthy (s : State) : State :=
  match s.ptn.peer with
  | some p => wr Reg.PTN_STATUS_HEALTHY (b2n (if role s == 2 then selfHealthy s else healthyNow p s)) s
  | none => wr Reg.PTN_STATUS_HEALTHY 0 s

/-- The standby follows the device state that its active reports (R519). -/
def followActive (p : Hello) (s : State) : State :=
  let d := p.stateW % 16
  if role s != 2 || p.role != 1 || s.dev.entering.isSome || s.dev.raising.isSome || bit p.stateW 6 || s.dev.sPlate then s
  else match s.dev.state with
    | .standby => if d = 4 || d = 5 then leaveStandby .prelit s else if d = 6 then leaveStandby .service s else s
    | .prelit =>
      if d = 3 then enterStandby s else if d = 6 then enterRunning .service s
      else if d = 5 && !s.dev.tests then enterLit s else s
    | .lit => if d = 3 then enterStandby s else if d = 6 then enterRunning .service s else s
    | .service => if d = 4 || d = 5 then enterRunning .prelit s else s
    | _ => s

/-- A muted standby rejoins the active that it hears again (R520, R527). -/
def rejoin (p : Hello) (s : State) : State :=
  if role s == 2 && s.ptn.mute && p.role == 1 && s.ptn.joining.isNone then
    becomeStandby { s with ptn := { s.ptn with mute := false, xmisRun := [] } }
  else s

/-- PAIR_HANDOVER completes when the partner reports itself active (R365). -/
def handoverDone (s : State) : State :=
  finish (fun w => match w.kind with | .handover => true | _ => false) 0 (fun _ => (stateWord s, 0)) s

/-- HELLO. -/
def doHello (lane t : Nat) (f : PtnFrame) (s : State) : State :=
  acceptFrame lane 1 f (fun s =>
    let p := helloOf f.payload
    let fresh := match s.ptn.peer with | some q => q.bindCrc != p.bindCrc || q.calCrc != p.calCrc | none => true
    { s with ptn := { s.ptn with peer := some p } }
      |> wr Reg.PTN_STATUS_PSTATE (p.stateW % 16) |> wr Reg.PTN_STATUS_PSTEP p.step
      |> form p fresh
      |> when (role s == 2 && p.role == 1 && p.domain != activeDom s) (setActive (p.domain % 2))
      |> rejoin p
      |> followActive p
      |> when (p.role == 1) handoverDone
      |> setHealthy) (atTime t s)

/-! ### DIGEST (R515, R523, R524) -/

/-- The device's own DIGEST (R365, R513). -/
def ownDigest (s : State) : Bytes :=
  leBytes 4 (rd s Reg.RAS_FCNT_FCNT) ++ leBytes 4 (rd s Reg.GTE_SEL_PT_PT) ++
    leBytes 1 (rd s Reg.GTE_SEL_STREAM * 16 + rd s Reg.GTE_SEL_BUF) ++ leBytes 1 (act s Reg.RAS_SH_TIPIN_TIPIN) ++
    zeroBytes 2 ++ leBytes 4 (rd s Reg.ZNE_SETVER_VER) ++
    leBytes 4 (match s.zne.pitch with | some p => p.tobs % 1000000000 | none => 0) ++ leBytes 4 (rd s Reg.COR_UPD_AT_FCNT)

/-- Offset and length of the fields of DIGEST, in table order. -/
def digestFields : List (Nat × Nat) := [(0, 4), (4, 4), (8, 1), (9, 1), (12, 4), (16, 4), (20, 4)]

/-- Bit n set for each field n that differs. -/
def digestDiff (a b : Bytes) : Nat :=
  (digestFields.zipIdx).foldl (fun m q => if leAt a q.1.1 q.1.2 = leAt b q.1.1 q.1.2 then m else setBit m q.2) 0

/-- The two DIGESTs of a frame are compared when both are there; a differing base frame suppresses TILE_XMIS for
the content's SEQ (R523). -/
def compareDigests (s : State) : State :=
  match s.ptn.own, s.ptn.theirs with
  | some a, some b =>
    let m := digestDiff a b
    let sq := (leAt a 0 4 + 1) % 2 ^ 32
    let s := if bit m 1 || bit m 2 then { s with ptn := { s.ptn with diverged := sq :: s.ptn.diverged.take 3 } } else s
    { s with ptn := { s.ptn with own := none } }
      |> when (m != 0) (fun s => s |> satInc Reg.PTN_DIGCNT_COUNT 1 |> raise 0x151 m)
  | _, _ => s

/-- Lines from the start of the nearest own line 127 to the start of the line in progress. -/
def linesFrom127 (l : Nat) : Int := if l < 59 then (l : Int) + 9 else (l : Int) - 127

/-- SKEW in ns of a DIGEST that arrives now (R524). -/
def skewNow (s : State) : Int :=
  ((s.now : Int) - s.ras.lineAt) * 4 + linesFrom127 (lineNow s) * period s / 136 - (rd s Reg.PTN_LAT_NS : Nat)

/-- SKEW is measured and judged (R518). -/
def takeSkew (s : State) : State :=
  if !rasterOn s || 135 < lineNow s then s
  else
    let k := skewNow s
    let ok := k.natAbs ≤ clampN 100 2000 (rd s Reg.PTN_LIMIT_SKEWMAX)
    wri Reg.PTN_SKEW_SKEW k { s with ptn := { s.ptn with skewOk := if ok then s.ptn.skewOk + 1 else 0 } }

/-- DIGEST. -/
def doDigest (lane t : Nat) (f : PtnFrame) (s : State) : State :=
  acceptFrame lane 2 f (fun s =>
    let s := takeSkew s
    { s with ptn := { s.ptn with theirs := some f.payload } }
      |> compareDigests |> setHealthy |> toCh4 0x0E10 f.cnt f.payload) (atTime t s)

/-- Own DIGEST at line 127, offset 0 (R513). -/
def sendDigest (s : State) : State :=
  if !pairOp s then s
  else { s with ptn := { s.ptn with own := some (ownDigest s) } } |> sendPtn 2 (ownDigest s) |> compareDigests

/-! ### ADOPT, STAGE, GOV, TCMD, PITCH, UPDQ (R513, R521) -/

/-- ADOPT. -/
def doAdopt (lane : Nat) (f : PtnFrame) (s : State) : State :=
  acceptFrame lane 3 f (asStandby (fun s =>
    { s with ptn := { s.ptn with adopt := some f.payload } } |> toCh4 0x0E11 f.cnt f.payload)) s

/-- The active decides the base frame of the next content and sends ADOPT at line 127, offset 0. -/
def sendAdopt (s : State) : State :=
  if !(pairOp s && role s == 1) then s
  else
    let n := act s tipStream
    let c := if directMode s then none else candidate s n (showTime s)
    let b := leBytes 4 (rd s Reg.RAS_FCNT_FCNT) ++ leBytes 1 (b2n c.isSome) ++ zeroBytes 3 ++
      leBytes 4 (rd s Reg.ZNE_SETVER_VER) ++ leBytes 4 (match c with | some f => f.pt | none => 0)
    { s with ptn := { s.ptn with adopt := some b } } |> sendPtn 3 b

/-- STAGE: before its own sample the standby keeps the set for it; in line 127 it stages the set at once. -/
def doStage (lane : Nat) (f : PtnFrame) (s : State) : State :=
  acceptFrame lane 5 f (asStandby (fun s =>
    if rasterOn s && lineNow s == 127 && s.ras.sampled then
      let m := stageSet s f.payload
      s |> sampleSet m (setGet m Reg.RAS_SH_TIMING_MODE) |> setPending
    else { s with ptn := { s.ptn with stage := some f.payload } })) s

/-- GOV. -/
def doGov (lane : Nat) (f : PtnFrame) (s : State) : State :=
  acceptFrame lane 9 f (asStandby (fun s => { s with ptn := { s.ptn with gov := some f.payload } })) s

/-- The active sends GOV at line 126, offset 0, and takes its temperatures itself. -/
def sendGov (s : State) : State :=
  if !(pairOp s && role s == 1) then s
  else { s with ptn := { s.ptn with gov := some (govPayload s) } } |> sendPtn 9 (govPayload s)

/-- TCMD. -/
def doTcmd (lane : Nat) (f : PtnFrame) (s : State) : State :=
  acceptFrame lane 0x0A f (asStandby (fun s =>
    let c := (byteAt f.payload 0, byteAt f.payload 1, f.payload.drop 2)
    { s with ptn := { s.ptn with tcmds := s.ptn.tcmds ++ [c] } })) s

/-- PITCH. -/
def doPitch (lane t : Nat) (f : PtnFrame) (s : State) : State :=
  acceptFrame lane 7 f (asStandby (fun s => if rasterOn s then pitchAccept f.payload s else s)) (atTime t s)

/-- The entries of an UPDQ frame. -/
def updqEntries (b : Bytes) : List Upd :=
  let n := leAt b 4 2
  (List.range n).map (fun i =>
    let w := leAt b (8 + 4 * i) 4
    ⟨bit w 20, bits w 0 20, leAt b (8 + 4 * n + 2 * i) 2⟩)

/-- UPDQ: the entries join the queue, to apply at UPD_AT. -/
def doUpdq (lane : Nat) (f : PtnFrame) (s : State) : State :=
  acceptFrame lane 8 f (asStandby (fun s =>
    s |> wr Reg.COR_UPD_AT_FCNT (leAt f.payload 0 4) |> wr Reg.COR_UPD_CTRL_AT_EN 1
      |> forEach (updqEntries f.payload) pushUpd)) s

/-! ### BARRIER (R365, R515, R521, R522) -/

/-- A BARRIER of KIND 0 or 2: the partner has reached it. A command that waits for it completes, and S0 takes the
frame as a CH4 command (R365, R515). -/
def barrierReached (kind id fcnt cnt : Nat) (s : State) : State :=
  { s with ptn := { s.ptn with peerAt := s.ptn.peerAt ++ [(kind, id, fcnt)] } }
    |> finish (fun w => w.kind == .barrier kind id) 0 (fun _ => (fcnt, 0))
    |> toCh4 0x0E12 cnt (leBytes 1 kind ++ leBytes 1 id ++ zeroBytes 2 ++ leBytes 4 fcnt)

/-- This device reaches a barrier: BARRIER goes out once, and the command completes with the partner's RAS.FCNT where
the partner has reached it too (R365). -/
def ownBarrier (kind id : Nat) (q : Cpl) (s : State) : State :=
  let sent := s.ptn.reached.contains (kind, id)
  let s := when (!sent) (sendPtn 4 (leBytes 1 kind ++ leBytes 1 id ++ zeroBytes 6 ++ leBytes 4 (rd s Reg.RAS_FCNT_FCNT))) s
  match s.ptn.peerAt.find? (fun e => e.1 == kind && e.2.1 == id) with
  | some e =>
    { s with ptn := { s.ptn with
        reached := s.ptn.reached.filter (· != (kind, id))
        peerAt := s.ptn.peerAt.filter (fun x => !(x.1 == kind && x.2.1 == id)) } }
      |> complete q 0 e.2.2 0
  | none =>
    { s with
      ptn := { s.ptn with reached := if sent then s.ptn.reached else (kind, id) :: s.ptn.reached }
      waits := s.waits ++ [⟨q, false, .barrier kind id⟩] }

/-- A BARRIER of KIND 1: the same demand goes out here, or the slot carries ABORT. -/
def barrierBcast (op lane cause : Nat) (s : State) : State :=
  if op = 4 then { s with ptn := { s.ptn with abort := true } }
  else
    let lanes := if lane = 0xFF then serviceLanes s else (serviceLanes s).filter (· == lane)
    demandSets op cause lanes s

/-- BARRIER. -/
def doBarrier (lane : Nat) (f : PtnFrame) (s : State) : State :=
  acceptFrame lane 4 f (fun s =>
    let b := f.payload
    if byteAt b 0 = 1 then barrierBcast (byteAt b 2) (byteAt b 3) (byteAt b 4) s
    else barrierReached (byteAt b 0) (byteAt b 1) (leAt b 8 4) f.cnt s) s

/-- The content in flight is withdrawn with the partner: its slot carries ABORT on both devices (R521, R522). -/
def agreeAbort (s : State) : State :=
  { s with ptn := { s.ptn with abort := true } } |> sendBarrier 1 4 0xFF 0

/-! ### ZPUB (R140, R514, R515, R522) -/

/-- The entries of a ZPUB part. -/
def zpubEntries (b : Bytes) : List Bytes := (List.range (byteAt b 5)).map (fun i => (b.drop (8 + 64 * i)).take 64)

/-- PTN copies an entry of a protected zone to the fender's ingress queue (R515). -/
def zpubCopy (e : Bytes) (s : State) : State :=
  let d := e.take 48
  if dProt d || (match SMap.find s.zne.zones (dZid d) with | some z => z.prot | none => false) || fenderHolds s (dZid d) then
    { s with fender := { s.fender with ingress := s.fender.ingress ++ [⟨0x0401, true, d, leAt e 48 8, leAt e 56 4⟩] } }
  else s

/-- A publish that came after its line had started to render here (R522). -/
def lateZpub (ver : Nat) (ds : List Bytes) (s : State) : State :=
  { s with ptn := { s.ptn with late := s.ptn.late ++ [(ver, ds)] } }
    |> withdrawContent |> agreeAbort |> satInc Reg.PTN_DIVCNT_DIVERGENT 1 |> raise 0x151 0x10

/-- A complete publish applies from its line, or is late. -/
def applyZpub (ver line : Nat) (ds : List Bytes) (s : State) : State :=
  if !rasterOn s then s
  else if s.gte.active && line < max s.gte.nextE s.gte.nextW then lateZpub ver ds s
  else publish ds line { s with zne := { s.zne with arrival := none } }

/-- The parts so far belong to the publish of this part. -/
def sameZpub (b : Bytes) (q : Nat × Bytes) : Bool := leAt q.2 0 5 == leAt b 0 5 && byteAt q.2 6 / 16 == byteAt b 6 / 16

/-- One part arrives; the publish applies once every part has. -/
def takeZpub (b : Bytes) (s : State) : State :=
  let k := byteAt b 6 % 16
  let total := byteAt b 6 / 16
  let old := s.ptn.parts.filter (fun q => sameZpub b q && q.1 != k)
  let parts := old ++ [(k, b)]
  if total ≤ parts.length then
    let ds := (List.range total).flatMap (fun i =>
      (parts.filter (fun q => q.1 == i)).flatMap (fun q => (zpubEntries q.2).map (fun e => e.take 48)))
    { s with ptn := { s.ptn with parts := [] } } |> applyZpub (leAt b 0 4) (byteAt b 4) ds
  else { s with ptn := { s.ptn with parts := parts } }

/-- ZPUB. -/
def doZpub (lane t : Nat) (f : PtnFrame) (s : State) : State :=
  acceptFrame lane 6 f (asStandby (fun s =>
    s |> forEach (zpubEntries f.payload) zpubCopy |> takeZpub f.payload)) (atTime t s)

/-- Late publishes apply at the content start (R522). -/
def applyLate (s : State) : State :=
  let l := s.ptn.late
  { s with ptn := { s.ptn with late := [] } }
    |> forEach l (fun q s => publish q.2 0 { s with zne := { s.zne with arrival := none } })

/-- D_pair of R140 in ns. -/
def dPair (s : State) (parts : Nat) : Nat := max (2 * period s / 136) (rd s Reg.PTN_LAT_NS + 4400 * parts + 1000)

/-- First tile line whose render starts at least D_pair from now (R63, R140); 128 where none of this content does. -/
def pairLine (s : State) (parts : Nat) : Nat :=
  let n := lineNow s
  if 135 < n then 0
  else
    let into := (s.now - s.ras.lineAt) * 4
    let k := ceilDiv ((into + dPair s parts) * 136) (period s)
    let pos := if 128 ≤ n then n - 128 + k else n + 8 + k
    min 128 pos

/-- Entries of a publish for ZPUB: descriptor, ATAG, AUTHCNT + 1, channel. -/
def zpubEntry (d : Bytes) (atag cnt ch : Nat) : Bytes :=
  padTo 48 d ++ leBytes 8 atag ++ leBytes 4 cnt ++ leBytes 1 ch ++ zeroBytes 3

/-- The active sends its publish as ZPUB parts of at most 16 entries. -/
def sendZpub (ver line : Nat) (es : List Bytes) (s : State) : State :=
  let parts := ceilDiv es.length 16
  forEach (List.range parts) (fun i s =>
    let part := (es.drop (16 * i)).take 16
    sendPtn 6 (leBytes 4 ver ++ leBytes 1 line ++ leBytes 1 part.length ++ leBytes 1 (i + 16 * parts) ++ zeroBytes 1 ++
      part.flatten) s) s

/-- A publish of this device's own: in solo operation with ATLINE = 0; by the active of a pair from the line of R140,
with ZPUB; a standby publishes none (R521). -/
def ownPublish (ds es : List Bytes) (s : State) : State :=
  if !pairOp s then publish ds 0 s
  else if role s != 1 then s
  else
    let line := pairLine s (ceilDiv es.length 16)
    let ver := (rd s Reg.ZNE_SETVER_VER + 1) % 2 ^ 32
    s |> publish ds line |> sendZpub ver line es

/-- A pitch descriptor of this device's own: a standby's ZNE takes none (R521). -/
def ownPitch (b : Bytes) (s : State) : State :=
  if isStandby s then s else s |> pitchAccept b |> when (role s == 1) (sendPtn 7 (padTo 16 b))

/-! ### Joining and XMIS at the slot (R518, R520, R527) -/

/-- A standby joins at this start frame and knows the active's count (R520). -/
def joinKnown (s : State) : Bool := role s == 2 && s.ras.startFrame && s.ptn.joining.isSome && s.ptn.theirs.isSome

/-- It takes the active's count of this frame as its own; the start frame's slot counts on from it (R520). -/
def joinCount (s : State) : State :=
  match s.ptn.theirs with
  | some b => when (joinKnown s) (wr Reg.RAS_FCNT_FCNT (leAt b 0 4)) s
  | none => s

/-- A lane has reported XMIS in XMISLIM consecutive frames (R527). -/
def xmisLane (n : Nat) (s : State) : State :=
  s |> raise 0x153 n
    |> when (role s == 2) (fun s =>
        wr Reg.PTN_STATUS_READY 0 { s with ptn := { s.ptn with mute := true, joining := none } })

/-- XMIS counts at the slot of a frame; the content's SEQ may be one whose XMIS is suppressed (R523). -/
def xmisSlot (s : State) : State :=
  if !pairOp s then s
  else
    let hidden := s.ptn.diverged.contains s.gte.shownSeq
    let now := if hidden then [] else s.ptn.xmisNow
    let run := now.map (fun n => (n, SMap.getD s.ptn.xmisRun n 0 + 1))
    let runs := if hidden then s.ptn.xmisRun else run.foldl (fun m q => SMap.put m q.1 q.2) []
    let lim := max 1 (rd s Reg.PTN_LIMIT_XMISLIM)
    let full := run.filter (fun q => q.2 == lim)
    let s := { s with ptn := { s.ptn with xmisRun := runs, xmisNow := [] } } |> forEach (full.map Prod.fst) xmisLane
    match s.ptn.joining with
    | some k =>
      if role s != 2 || s.ras.startFrame then s
      else if !now.isEmpty then { s with ptn := { s.ptn with joining := some 0 } }
      else if 15 ≤ k then wr Reg.PTN_STATUS_READY 1 { s with ptn := { s.ptn with joining := none } }
      else { s with ptn := { s.ptn with joining := some (k + 1) } }
    | none => s

/-- What the pair does at a slot, behind everything else. -/
def pairSlot (s : State) : State :=
  if !pairOp s then s
  else
    let s := xmisSlot s
    setHealthy { s with ptn := { s.ptn with own := none, theirs := none, abort := false } }

/-! ### Handover (R528 to R530) -/

/-- Own tile port: A (0) on device 1, B (1) on device 2 (R511). -/
def ownPort (s : State) : Nat := b2n s.pilot.pairId

/-- Tiles that coast for their lane (CAUSE 2 or 3). -/
def coasting (s : State) : List Nat :=
  (serviceLanes s).filter (fun n => tileState s n == 1 &&
    (rd s (Reg.TPR_TL_STATUS_CAUSE n) == 2 || rd s (Reg.TPR_TL_STATUS_CAUSE n) == 3))

/-- A standby takes the active role (R529). -/
def takeRole (s : State) : State :=
  let s := { s with ptn := { s.ptn with joining := none, mute := false, muteNext := false } }
    |> wr Reg.PTN_STATUS_ROLE 1 |> satInc Reg.PTN_DIVCNT_HANDOVERS 1
  s |> sendBcast 7 (oneArg (ownPort s)) (serviceLanes s)
    |> forEach (coasting s) (fun n => pushResume n (nextSeq s))

/-- TAKEN leaves with a RESULT. -/
def sendTaken (r : Nat) (s : State) : State := sendPtn 0x0C (leBytes 1 r ++ zeroBytes 3) s

/-- HANDOVER. -/
def doHandover (lane t : Nat) (f : PtnFrame) (s : State) : State :=
  acceptFrame lane 0x0B f (fun s =>
    if role s == 2 && selfHealthy s then s |> takeRole |> sendTaken 0 |> raise 0x152 2
    else sendTaken 1 s) (atTime t s)

/-- A withdrawing device carries out R405 in full: nothing took the role over (R530). -/
def withdrawAlone (s : State) : State :=
  let s := { s with ptn := { s.ptn with asked := none } }
  if s.dev.sPlate then
    s |> wr Reg.PTN_STATUS_ROLE 1 |> demandSets 1 (bits (rd s Reg.FCL_SAFEKIND_VALUE) 16 7) (serviceLanes s)
  else s

/-- TAKEN RESULT 0: the former active becomes standby, or withdraws. -/
def takenOver (s : State) : State :=
  let s := { s with ptn := { s.ptn with asked := none } }
  if role s == 3 then { s with ptn := { s.ptn with muteNext := true } }
  else if role s == 1 then s |> becomeStandby |> satInc Reg.PTN_DIVCNT_HANDOVERS 1 |> handoverDone
  else s

/-- TAKEN. -/
def doTaken (lane t : Nat) (f : PtnFrame) (s : State) : State :=
  acceptFrame lane 0x0C f (fun s =>
    if s.ptn.asked.isNone then s
    else if byteAt f.payload 0 = 0 then takenOver s
    else if role s == 3 then withdrawAlone s
    else { s with ptn := { s.ptn with asked := none } }) (atTime t s)

/-- WITHDRAW_TIMEOUT (R530). -/
def doWithdrawTimeout (t : Nat) (s : State) : State :=
  if role s == 3 && s.ptn.asked == some 2 then withdrawAlone (atTime t s) else s

/-- Tile evidence that the partner is gone (R528). -/
def tileEvidence (s : State) : Bool :=
  !(coasting s).isEmpty || (serviceLanes s).any (fun n =>
    mapBit s Reg.PTN_PORTMAP_LO_MAP Reg.PTN_PORTMAP_HI_MAP n == s.pilot.pairId)

/-- PARTNER_LINK_LOSS (R516, R528, R529). -/
def doPartnerLinkLoss (t : Nat) (s : State) : State :=
  if !(pairOp s && mainOn s.dev.state && rdb s Reg.PTN_STATUS_LINK) then s
  else
    let s := atTime t s |> wr Reg.PTN_STATUS_LINK 0 |> wr Reg.PTN_STATUS_LANE64 0 |> wr Reg.PTN_STATUS_LANE65 0
      |> wr Reg.PTN_STATUS_HEALTHY 0 |> raise 0x150 0
    if role s != 2 || !rasterState s.dev.state then s
    else if tileEvidence s then s |> takeRole |> raise 0x152 3
    else wr Reg.PTN_STATUS_READY 0 { s with ptn := { s.ptn with mute := true, joining := none } }

/-! ### The barrier and handover commands' time limits (R365) -/

/-- PTN_BARRIER_TIMEOUT: 10 µs. -/
def doPtnBarrierTimeout (s : State) : State :=
  { s with ptn := { s.ptn with reached := [] } }
    |> finishKind (fun k => match k with | .barrier _ _ => true | _ => false) 8 0 0

/-- PAIR_HANDOVER_TIMEOUT: 10 ms. -/
def doPairHandoverTimeout (s : State) : State := finishKind (fun k => k == .handover) 8 0 0 s

/-! ### The meanings of the rows -/

/-- HELLO_TIMER (R513). -/
def execHelloTimer (s : State) : Out :=
  .next (doHelloTimer s)

/-- DIGEST (R523). -/
def execDigest (lane t : Nat) (f : PtnFrame) (s : State) : Out :=
  .next (doDigest lane t f s)

/-- ADOPT (R521). -/
def execAdopt (lane : Nat) (f : PtnFrame) (s : State) : Out :=
  .next (doAdopt lane f s)

/-- BARRIER (R521). -/
def execBarrier (lane : Nat) (f : PtnFrame) (s : State) : Out :=
  .next (doBarrier lane f s)

/-- STAGE (R521). -/
def execStage (lane : Nat) (f : PtnFrame) (s : State) : Out :=
  .next (doStage lane f s)

/-- ZPUB (R514). -/
def execZpub (lane t : Nat) (f : PtnFrame) (s : State) : Out :=
  .next (doZpub lane t f s)

/-- PITCH (R521). -/
def execPitch (lane t : Nat) (f : PtnFrame) (s : State) : Out :=
  .next (doPitch lane t f s)

/-- UPDQ (R521). -/
def execUpdq (lane : Nat) (f : PtnFrame) (s : State) : Out :=
  .next (doUpdq lane f s)

/-- GOV (R521). -/
def execGov (lane : Nat) (f : PtnFrame) (s : State) : Out :=
  .next (doGov lane f s)

/-- TCMD (R521). -/
def execTcmd (lane : Nat) (f : PtnFrame) (s : State) : Out :=
  .next (doTcmd lane f s)

/-- PTN_BARRIER_TIMEOUT (R365). -/
def execPtnBarrierTimeout (s : State) : Out :=
  .next (doPtnBarrierTimeout s)

/-- PAIR_HANDOVER_TIMEOUT (R365). -/
def execPairHandoverTimeout (s : State) : Out :=
  .next (doPairHandoverTimeout s)

end Sys2Proof.Machine
end

