-- ==== Sys2Proof/Machine/Frame.lean ====
section
/-! DEFINITION. One raster frame (`02_raster_and_frame_timing.md`): line starts, the start of a content frame, the
broadcast slot, and the end of a damper pause. -/

namespace Sys2Proof.Machine

/-! ### LINE_START (R49, R61, R217, R247) -/

/-- The line that starts next: line 128 at the raster's start and behind the seam period. -/
def lineAfter (l : Nat) : Nat := if 135 < l then 128 else if l = 135 then 0 else l + 1

/-- RAS compares the tile lines that the engines have completed (R61). -/
def halfSkew (s : State) : State := when (s.gte.active && s.gte.nextE != s.gte.nextW) (raise 0x050 0) s

/-- The withdrawal of the content rendered passes to the content sent at line 0 (R124). -/
def beginSending (s : State) : State :=
  { s with ras := { s.ras with withdrawn := s.ras.withdrawnNext, withdrawnNext := false } }

/-- A DARKROW that the fender asked for outside the lines of command sets, or for a lane not in service, goes (R398). -/
def darkrowRetry (l : Nat) (s : State) : State :=
  if 129 ≤ l && l ≤ 134 && rdb s Reg.TPR_DARKROW_GO then
    doDarkrowGo (rd s Reg.TPR_DARKROW_LANE) (rd s Reg.TPR_DARKROW_PHASE) (rd s Reg.TPR_DARKROW_ROW) s
  else s

/-- What TPR sends in a line: the line packets, the probe lists and command sets behind them. -/
def sendInLine (l : Nat) (s : State) : State :=
  let s := when (l ≤ 127) (sendLines l) s
  let (used, s) := sendLists l s
  s |> drainSets l used |> darkrowRetry l

/-- The exchange of a pair at its lines (R513, R521): GOV at 126; ADOPT, DIGEST and the barrier of the slot at 127. -/
def pairLines (l : Nat) (s : State) : State :=
  if !pairOp s then s
  else
    let s := if s.ptn.muteNext then { s with ptn := { s.ptn with mute := true, muteNext := false } } else s
    if l = 126 then sendGov s
    else if l = 127 then
      let s := s |> sendAdopt |> sendDigest
      if s.ras.withdrawn then agreeAbort s else sendBarrier 1 0 0xFF 0 s
    else s

/-- The state of line `l` of RAS. -/
def enterLine (l : Nat) (s : State) : State :=
  let s := { s with ras := { s.ras with lineAt := s.now, sampled := s.ras.sampled && l != 127,
                                        csDone := s.ras.csDone && l != 128, slotDone := s.ras.slotDone && l != 128 } }
    |> wr Reg.RAS_POS_LINE l |> wr Reg.RAS_POS_OFFSET 0
  let s := if l = 128 then wr Reg.RAS_STATUS_SEAM_ACT 0 s else s
  if l = 0 then beginSending s else s

/-- LINE_START. -/
def doLineStart (t : Nat) (s : State) : State :=
  if !rasterOn s then s
  else
    let l := lineAfter (lineNow s)
    s |> atTime t |> enterLine l |> halfSkew |> pairLines l |> sendInLine l |> settleWithdraw

/-! ### CONTENT_START (R66, R76, R138) -/

/-- The content rendered so far is the one sent, which the next FLIP shows. -/
def contentSent (s : State) : State :=
  if s.gte.active then
    { s with gte := { s.gte with sent := s.gte.codes, sentSeq := s.gte.seq, codes := [], mask := [], active := false } }
  else s

/-- COR and the last gate at a content start (R387 to R390). -/
def gateStart (s : State) : State :=
  let slip := slipState s
  let t16 := rdi s Reg.COR_GATE_SLROW_ROWLIM + s.gte.d16
  let g := if slip && s.cor.slip then max t16 (s.cor.g16 - (rd s Reg.COR_GATE_SLROW_RISE : Nat)) else t16
  { s with cor := { s.cor with
      g16 := g, slip := slip, clipped := false, gFlux := 0, gLane := [], unfilled := 0, tblUp := false, line := 0,
      v5 := [], env := [] } }
    |> wri Reg.COR_GATE_STATUS_G16 g |> wr Reg.COR_GATE_STATUS_SLIP (b2n slip)

/-- WEAR_SAMPLE (R175): the content that starts first in a whole second of raster time is the one sampled. -/
def wearSecond (s : State) : State :=
  let sec := (s.ras.slotNs - 2400) / 1000000000
  { s with cor := { s.cor with wearNow := rdb s Reg.COR_CTRL_WEAR_EN && sec != s.cor.wearSec, wearSec := sec } }

/-- The content frame that starts now takes its SEQ, and the engines start (R57, R63). -/
def contentNew (s : State) : State :=
  let ahead := if s.ras.startFrame && !joinKnown s then 1 else 2
  let s := joinCount s
  { s with gte := { s.gte with
      seq := (rd s Reg.RAS_FCNT_FCNT + ahead) % 2 ^ 32, active := true, nextE := 0, nextW := 0, maxClk := [],
      backlog := [], codes := [], mask := [] } }
    |> wr (Reg.GTX_STATUS_RUN 0) 1 |> wr (Reg.GTX_STATUS_RUN 1) 1

/-- GOV serves one content. -/
def dropGov (s : State) : State := { s with ptn := { s.ptn with gov := none } }

/-- A content frame starts: base frame, governors, updates, temperatures, zones, gate, wear, fender. -/
def contentBegin (s : State) : State :=
  s |> contentNew |> selectBase |> governors |> applyQueue |> takeTemps |> dropGov |> applyLate |> zneStart
    |> gateStart |> wearSecond |> paramSeen |> fenderStart

/-- COMMIT_TRANSFER with what rides on it: the entry of a state and the level of the mode (R464, R556). -/
def transferAll (s : State) : State :=
  if s.ras.stag.isSome && !rdb s Reg.RAS_STATUS_SEAM_WAIT then s |> transferNow |> relevel |> entryTransfer else s

/-- CONTENT_START. At a seam the staging set transfers and the engines do not start (R76). -/
def doContentStart (e : Env) (s : State) : State :=
  if !(rasterOn s && lineNow s == 128 && !s.ras.csDone) then s
  else
    let s := { atTime e.t s with ras := { s.ras with csDone := true } }
    let seam := s.ras.seam
    let s := s |> contentSent |> transferAll
    if seam || !rasterOn s then s else contentBegin s

/-! ### BROADCAST_SLOT (R52, R57, R58, R76, R124, R125) -/

/-- What the slot carries: 1 FLIP, 2 SEAM, 3 ABORT. -/
def slotKind (s : State) : Nat := if s.ras.seam then 2 else if s.ras.withdrawn || s.ptn.abort then 3 else 1

/-- Period of the frame that the slot ends, in ns. -/
def endedPeriod (s : State) (kind : Nat) : Nat :=
  if kind = 2 || s.swp.seamFrame then modePeriod s.ras.oldMode else period s

/-- The content sent is shown from a FLIP on. -/
def showSent (s : State) : State := { s with gte := { s.gte with shown := s.gte.sent, shownSeq := s.gte.sentSeq } }

/-- The set of the slot leaves on every lane that is up. -/
def slotSet (kind : Nat) (s : State) : State :=
  let timing := if kind = 2 then setWord (activeSet s) Reg.RAS_SH_TIMING_MODE.addr % 65536 else 0
  if muted s then s else sendBcast kind (seqArgs (rd s Reg.RAS_FCNT_FCNT) timing) (upLanes s) s

/-- A SEAM slot: the seam period starts (R76). -/
def seamSlot (s : State) : State :=
  { s with ras := { s.ras with seam := false } }
    |> wr Reg.RAS_SEAM_FCNT_FCNT (rd s Reg.RAS_FCNT_FCNT) |> wr Reg.RAS_STATUS_SEAM_ACT 1
    |> wr Reg.RAS_POS_LINE 0xFF |> wr Reg.RAS_POS_OFFSET 0

/-- Slots with ABORT in a row: the second raises RENDER_OVERRUN (R125). -/
def countAbort (kind : Nat) (s : State) : State :=
  if kind = 3 then
    { s with ras := { s.ras with abortRun := s.ras.abortRun + 1, withdrawn := false } }
      |> when (1 ≤ s.ras.abortRun) (raise 0x065 0)
  else { s with ras := { s.ras with abortRun := 0 } }

/-- SWP at a slot: balances, lit-age, thresholds, status (R243, R250, R256). -/
def sweeperSlot (kind p : Nat) (s : State) : State :=
  s |> settleBalances (rd s Reg.RAS_FCNT_FCNT) (kind == 3) |> ageUpdate p |> setThresh
    |> (fun s => s |> wr Reg.SWP_STATUS_RUN (rd s Reg.SWP_CTRL_EN) |> wr Reg.SWP_STATUS_HALF (b2n (probeHalf s))
      |> wr Reg.SWP_STATUS_ROUND (roundPos s (rd s Reg.RAS_FCNT_FCNT)))

/-- A slot that counts. -/
def countedSlot (imeas : List Nat) (s : State) : State :=
  let kind := slotKind s
  let p := endedPeriod s kind
  let step := if kind = 2 then modePeriod s.ras.oldMode else period s
  let s := s |> sendSnap |> groupsSlot imeas |> wrapInc Reg.RAS_FCNT_FCNT 1 |> slotSet kind |> captureSlot
    |> wr Reg.RAS_STATUS_SEAM_LAST (b2n (kind == 2)) |> wr Reg.RAS_STATUS_ABORT_LAST (b2n (kind == 3))
    |> when (kind == 1) showSent
  let s := s |> darkSlot (kind == 1) |> sweeperSlot kind p |> verifyAge |> forEach (serviceLanes s) telemSlot
    |> waitersSlot |> countAbort kind |> pairSlot |> slew |> when (kind == 2) seamSlot
  { s with
    ras := { s.ras with slotNs := s.ras.slotNs + step }
    swp := { s.swp with seamFrame := kind == 2 } }

/-- The start frame's slot carries no broadcast and is not counted (R56); a joining standby counts from the active's
frame (R520). -/
def startSlot (s : State) : State :=
  let joined := joinKnown s
  let s := s |> joinCount |> when joined (wrapInc Reg.RAS_FCNT_FCNT 1)
  let sq := if joined then (rd s Reg.RAS_FCNT_FCNT + 1) % 2 ^ 32 else s.gte.seq
  let s := pairSlot { s with gte := { s.gte with seq := sq } }
  slew { s with ras := { s.ras with startFrame := false, slotNs := s.ras.slotNs + period s } }

/-- BROADCAST_SLOT. -/
def doBroadcastSlot (t : Nat) (imeas : List Nat) (s : State) : State :=
  if !(rasterOn s && lineNow s == 128 && !s.ras.slotDone) then s
  else
    let s := { atTime t s with ras := { s.ras with slotDone := true } }
    if s.ras.startFrame then startSlot s else countedSlot imeas s

/-! ### DPAUSE_EXPIRY (R478) -/

/-- DPAUSE_EXPIRY: the pauses end and the next parts start: wear-pass lane, sense channel, eMRAM writes. -/
def doDpauseExpiry (e : Env) (s : State) : State :=
  let was := s.thm.paused
  let s := { atTime e.t s with thm := { s.thm with paused := [] } }
  s |> when (was.contains 0) (wearNext e) |> when (was.contains 1) calResume
    |> (fun s => if was.contains 4 then drainWait e s.mrc.wait s else s)

/-! ### The meanings of the rows -/

/-- LINE_START (R49). -/
def execLineStart (t : Nat) (s : State) : Out :=
  .next (doLineStart t s)

/-- BROADCAST_SLOT (R52). -/
def execBroadcastSlot (t : Nat) (imeas : List Nat) (s : State) : Out :=
  .next (doBroadcastSlot t imeas s)

/-- DPAUSE_EXPIRY (R478). -/
def execDpauseExpiry (e : Env) (s : State) : Out :=
  .next (doDpauseExpiry e s)

end Sys2Proof.Machine
end

