-- ==== Sys2Proof/Machine/Serve.lean ====
section
/-! DEFINITION. How S0 serves a descriptor: the checks of R318, deferral (R320 to R322), and the ways a command ends
(`10_mailboxes.md`, `11_command_reference.md`). -/

namespace Sys2Proof.Machine

/-! ### A command -/

/-- What one command adds to the common checks: the parameter bytes that have a meaning, as (offset, size); the
parameter ranges of step 4; the reason for which it is not legal now (step 5); and what it does when it runs. -/
structure Cmd where
  opc  : Nat
  used : List (Nat × Nat)
  ok   : State → Desc → Bool
  bar  : State → Desc → Option Nat
  run  : Cpl → Desc → Env → State → State

/-- Parameter byte at an offset. -/
def p8 (d : Desc) (o : Nat) : Nat := byteAt d.params o
/-- Little-endian parameter of 2 bytes. -/
def p16 (d : Desc) (o : Nat) : Nat := leAt d.params o 2
/-- Little-endian parameter of 4 bytes. -/
def p32 (d : Desc) (o : Nat) : Nat := leAt d.params o 4

/-- DEFER = 1. -/
def dDefer (d : Desc) : Bool := bit d.flags 0
/-- AUTH = 1. -/
def dAuth (d : Desc) : Bool := bit d.flags 3

/-- What the completion of a descriptor echoes. -/
def cplOf (opc : Nat) (d : Desc) (wasDef : Bool) : Cpl :=
  { opc := opc, ch := d.ch, slot := d.slot, tag := d.tag, cpl := bit d.flags 1, wake := bit d.flags 2, wasDef := wasDef }

/-- A command with no parameter that is legal wherever the matrix says so. -/
def plainCmd (opc : Nat) (run : Cpl → Desc → Env → State → State) : Cmd :=
  { opc := opc, used := [], ok := fun _ _ => true, bar := fun _ _ => none, run := run }

/-! ### Checks 1 to 3 (R318) -/

/-- Bytes 0x00 to 0x37 of a descriptor (R307). -/
def descHead (opc : Nat) (d : Desc) : Bytes :=
  leBytes 2 opc ++ leBytes 2 d.tag ++ leBytes 2 d.flags ++ leBytes 2 d.len ++ d.params ++ leBytes 4 d.deadline

/-- The whole descriptor. -/
def descBytes (opc : Nat) (d : Desc) : Bytes := descHead opc d ++ leBytes 8 d.atag

/-- Check 1: LEN, the reserved fields, and DEADLINE. -/
def soundDesc (used : List (Nat × Nat)) (d : Desc) : Bool :=
  let named := fun i => used.any (fun u => u.1 ≤ i && decide (i < u.1 + u.2))
  d.len ≤ 44 && d.flags < 16 &&
    (List.range 44).all (fun i => byteAt d.params i == 0 || (decide (i < d.len) && named i)) &&
    (if dDefer d then d.deadline ≤ 600000 else d.deadline == 0)

/-- Check 2: the channel may carry the opcode (R43, R335 to R337). -/
def channelOk (r : CmdRow) (s : State) (ch : Nat) : Bool :=
  r.chans.contains ch && !(ch == 3 && s1Withdrawn s r.opc) && !(ch == 4 && !pairOp s)

/-- The tag key of a channel (R374, R379). -/
def tagKey (s : State) (ch : Nat) : Bytes :=
  if ch = 0 && !bound s then pageKp s (lcCode s) else SMap.getD s.sec.keys (ch + 1) []

/-- The tag verifies over the next counter value (R315). -/
def tagOk (opc : Nat) (d : Desc) (s : State) : Bool :=
  let cnt := (rd s (Reg.HIF_MB_AUTHCNT_COUNT d.ch) + 1) % 2 ^ 32
  leAt (Config.cmac (tagKey s d.ch) (leBytes 4 cnt ++ descHead opc d)) 0 8 == d.atag

/-- Check 3 applies: CH0 or CH1, a beam-affecting command or a tag present (R316). -/
def authAsked (r : CmdRow) (d : Desc) : Bool := d.ch ≤ 1 && (r.beam || dAuth d)

/-- AUTHCNT counts a tag that has verified, and the reservation moves on when it is reached (R315, R317). -/
def countAuth (ch : Nat) (s : State) : State :=
  let s := wrapInc (Reg.HIF_MB_AUTHCNT_COUNT ch) 1 s
  let c := rd s (Reg.HIF_MB_AUTHCNT_COUNT ch)
  if SMap.getD s.mbx.authRes ch 0 ≤ c then
    { s with mbx := { s.mbx with authRes := SMap.put s.mbx.authRes ch (c + 4096) } }
  else s

/-! ### Checks 4 to 6 -/

/-- What checks 4 to 6 find: BAD_PARAM; a status with which the command waits or ends, and its reason; OK with no
side effect (○); or it runs. -/
inductive Judged where
  | bad
  | held (status reason : Nat)
  | done
  | run
  deriving DecidableEq, Repr

/-- Column of the legality matrix for a device state. -/
def legalAt (r : CmdRow) (d : DevState) : Nat :=
  match d with
  | .standby => r.legal.getD 0 0
  | .prelit => r.legal.getD 1 0
  | .lit => r.legal.getD 2 0
  | .service => r.legal.getD 3 0
  | .fallback => r.legal.getD 4 0
  | .halt => r.legal.getD 5 0
  | _ => 0

/-- Reason of a matrix entry ·: 0x06 for the commands that need the raster, in STANDBY and FALLBACK (R338). -/
def matrixReason (opc : Nat) (d : DevState) : Nat :=
  if (opc == 0x0401 || opc == 0x0402 || opc == 0x0603) && (d == .standby || d == .fallback) then 6 else 0

/-- The command acts on the active device of a pair only (R519). -/
def activeOnly (opc : Nat) : Bool :=
  [0x0103, 0x0104, 0x0106, 0x0107, 0x0202, 0x0501, 0x0502, 0x0503, 0x0601, 0x0602, 0x0701, 0x0702].contains opc

/-- The command is state-changing as it stands (R36, R331). -/
def changesState (r : CmdRow) (d : Desc) (s : State) : Bool :=
  if r.opc = 0x0105 then p8 d 0 == 0 && s.dev.state == .service
  else if r.opc = 0x0C02 then s.dev.state == .prelit && s.dev.sPlate
  else r.sc

/-- Checks 4 to 6 of R318, with R329, R330, R331 and R519. -/
def judge (c : Cmd) (r : CmdRow) (d : Desc) (s : State) : Judged :=
  if d.len != r.len || (dDefer d && !r.defer) || !c.ok s d then .bad
  else if legalAt r s.dev.state = 0 then .held 5 (matrixReason r.opc s.dev.state)
  else if pairOp s && role s != 1 && activeOnly r.opc then .held 5 8
  else if legalAt r s.dev.state = 2 then .done
  else match c.bar s d with
    | some reason => .held 5 reason
    | none => if changesState r d s && r.opc != 0x0105 && scBusy s then .held 1 0 else .run

/-- An unbound device completes these with LOCKED when they run (R374). -/
def needsBinding (opc : Nat) : Bool :=
  [0x0106, 0x0103, 0x0202, 0x0802, 0x0803, 0x0D04, 0x0D05, 0x0D06].contains opc ||
    (3 ≤ opc / 256 && opc / 256 ≤ 7)

/-- Check 7: the command runs. The result says whether it was a state-changing one. -/
def runCmd (c : Cmd) (r : CmdRow) (q : Cpl) (d : Desc) (e : Env) (s : State) : Bool × State :=
  if !bound s && needsBinding r.opc then (false, complete q 10 0 0 s)
  else (changesState r d s, c.run q d e s)

/-! ### Serving -/

/-- S0 takes descriptors of a channel: not in OFF, PILOT and BOOT; in HALT and unbound from CH0 only (R332, R374). -/
def serves (s : State) (ch : Nat) : Bool :=
  match s.dev.state with
  | .standby | .prelit | .lit | .service | .fallback => ch < 5 && (bound s || ch == 0)
  | .halt => ch == 0
  | _ => false

/-- DETAIL1 of a completion that check 5 or 6 gives. -/
def heldDetail (status reason : Nat) : Nat := if status = 5 then reason else 0

/-- The deadline of a deferred command in ms (R307, R320). -/
def deadlineMs (s : State) (d : Desc) : Nat := if d.deadline = 0 then rd s (Reg.HIF_MB_DEFTO_MS d.ch) else d.deadline

/-- The command is deferred (R320). -/
def deferCmd (opc : Nat) (d : Desc) (status reason : Nat) (s : State) : State :=
  let ms := deadlineMs s d
  let entry : Deferred :=
    { opc := opc, d := d, taken := s.now, deadline := s.now + msTicks ms, reason := heldDetail status reason }
  { s with mbx := { s.mbx with deferred := s.mbx.deferred ++ [entry] } }
    |> setDefq |> complete (cplOf opc d false) 6 0 ms

/-- Steps 4 to 7 for a descriptor just taken. -/
def serveJudged (c : Cmd) (r : CmdRow) (d : Desc) (e : Env) (s : State) : Bool × State :=
  let q := cplOf r.opc d false
  match judge c r d s with
  | .bad => (false, complete q 3 0 0 s)
  | .held st reason =>
    if dDefer d && (deferredOf s d.ch).length < 4 && s.dev.state != .halt then (false, deferCmd r.opc d st reason s)
    else (false, complete q st 0 (heldDetail st reason) s)
  | .done => (false, complete q 0 (stateWord s) 0 s)
  | .run => runCmd c r q d e s

/-- R318 for a descriptor of a known opcode. -/
def serveCmd (c : Cmd) (r : CmdRow) (d : Desc) (e : Env) (s : State) : Bool × State :=
  let s := atTime e.t s
  let q := cplOf r.opc d false
  if !serves s d.ch then (false, s)
  else if !soundDesc c.used d then (false, complete q 3 0 0 s)
  else if !channelOk r s d.ch then (false, complete q 2 0 0 s)
  else if authAsked r d then
    if dAuth d && tagOk r.opc d s then serveJudged c r d e (countAuth d.ch s)
    else (false, s |> raise 0x0F2 d.ch |> complete q 4 0 0)
  else serveJudged c r d e s

/-- A descriptor of no known opcode: checks 1 and 2. -/
def serveUnknown (opc : Nat) (d : Desc) (e : Env) (s : State) : State :=
  let s := atTime e.t s
  if !serves s d.ch then s
  else complete (cplOf opc d false) (if soundDesc [(0, 44)] d then 2 else 3) 0 0 s

/-! ### Ways to end -/

/-- The command ends OK with its details. -/
def okWith (q : Cpl) (d0 d1 : Nat) (s : State) : State := complete q 0 d0 d1 s

/-- The command waits for a later event. -/
def waitFor (q : Cpl) (sc : Bool) (kind : WaitKind) (s : State) : State :=
  { s with waits := s.waits ++ [{ cpl := q, sc := sc, kind := kind }] }

/-- COMMIT, and any command with COMMIT = 1: it sets GO and completes at the transfer; with the raster stopped at
once (R72, R334, R354). -/
def commitCmd (q : Cpl) (s : State) : State :=
  if rasterOn s then
    let s := doCommitSample s
    let late := goLate s
    s |> goRunning |> waitFor q false (.commit late false)
  else
    let (s, r) := commitStopped s
    complete q r.1 r.2.1 r.2.2 s

/-- The shadow writes are done: the command commits, or ends OK (R334). -/
def shadowsDone (q : Cpl) (commit : Nat) (s : State) : State := if commit = 1 then commitCmd q s else okWith q 0 0 s

end Sys2Proof.Machine
end

