-- ==== Sys2Proof/Machine/CmdDevice.lean ====
section
/-! DEFINITION. Commands of classes 0x01 and 0x02: the device state, the performance level, standstill, the binding,
the tip-ins and the images (`11_command_reference.md`). -/

namespace Sys2Proof.Machine

/-! ### Class 0x01 -/

/-- STATE_GET. -/
def cmdStateGet : Cmd := plainCmd 0x0101 (fun q _ _ s => okWith q (stateWord s) (rd s Reg.RAS_FCNT_FCNT) s)

/-- The reason for which PERF_SET fails (R339). -/
def perfBar (s : State) (d : Desc) : Option Nat :=
  let pl := p8 d 0
  if rasterState s.dev.state && (pl == 0 || decide (pl < modeMinPl (modeNow s))) then some 0x0A
  else if rd s Reg.PWC_STATUS_PL < pl && 2 ≤ damper s then some 4
  else none

/-- PERF_SET (R339). -/
def cmdPerfSet : Cmd where
  opc := 0x0102
  used := [(0, 1)]
  ok _ d := p8 d 0 ≤ 3
  bar := perfBar
  run q d _ s := s
    |> wr (if rasterState s.dev.state then Reg.PWC_PLREQ_LIT else Reg.PWC_PLREQ_SB) (p8 d 0)
    |> waitFor q true (.perf (p8 d 0)) |> relevel

/-- An entry to SERVICE or PRELIT that a command asks for: from STANDBY, or while the raster runs (R340, R556). -/
def commandEntry (to' : DevState) (q : Cpl) (kind : WaitKind) (s : State) : State :=
  let s := waitFor q true kind s
  if s.dev.state == .standby then leaveStandby to' s else enterRunning to' s

/-- SERVICE_ENTER (R340). -/
def cmdServiceEnter : Cmd where
  opc := 0x0103
  used := []
  ok _ _ := true
  bar s _ := if s.mbx.standstill.isNone then some 1 else if rdb s Reg.PWC_STATUS_REF_RC then some 2 else none
  run q _ _ s := commandEntry .service q .toService s

/-- SERVICE_EXIT (R340). -/
def cmdServiceExit : Cmd := plainCmd 0x0104 (fun q _ _ s => commandEntry .prelit q .toPrelit s)

/-- STANDSTILL_SET (R331, R341). -/
def cmdStandstillSet : Cmd where
  opc := 0x0105
  used := [(0, 1), (2, 2)]
  ok _ d := p8 d 0 ≤ 1 && 100 ≤ p16 d 2 && p16 d 2 ≤ 10000
  bar _ _ := none
  run q d _ s :=
    if p8 d 0 = 1 then
      { s with mbx := { s.mbx with standstill := some (s.now + msTicks (p16 d 2)), withdraw := false } }
        |> okWith q (stateWord s) (p16 d 2)
    else
      let w := stateWord s
      s |> withdrawStandstill |> okWith q w 0

/-- LIGHT_ON (R342). -/
def cmdLightOn : Cmd where
  opc := 0x0106
  used := []
  ok _ _ := true
  bar s _ := if rdb s Reg.PWC_STATUS_REF_RC then some 2 else none
  run q _ _ s := commandEntry .prelit q (.lightOn s.now) s

/-- LIGHT_OFF (R343): the wear pass at entry to STANDBY follows (R176). -/
def cmdLightOff : Cmd := plainCmd 0x0107 (fun q _ e s =>
  let s := enterStandby { s with dev := { s.dev with autoHold := s.dev.autoHold || autoLight s } }
  s |> okWith q (stateWord s) 0 |> wearStart e)

/-- RESET (R344): BOOT follows 1 ms later, at RESET_DELAY. -/
def cmdReset : Cmd := plainCmd 0x0108 (fun q _ _ s =>
  okWith q (stateWord s) 0 { s with dev := { s.dev with resetDue := some 4 } })

/-- SLEEP (R344, R466). -/
def cmdSleep : Cmd where
  opc := 0x0109
  used := [(0, 4)]
  ok _ _ := true
  bar s _ := if s.pilot.lightReq then some 3 else none
  run q d _ s := s |> waitFor q true (.sleep (p32 d 0)) |> sleepStart

/-! ### Class 0x02: binding and tip-ins -/

/-- Version and CRC-32 of the binding or of a tip-in slot as the last BOOT found them. -/
def imageInfo (s : State) (what : Nat) : Nat × Nat :=
  if what = 0 then (if bound s then (s.sec.bindVer, s.sec.bindCrc) else (0, 0))
  else match SMap.find s.sec.tips what with
    | some b => (leAt b 32 4, leAt b 36 4)
    | none => (0, 0)

/-- BINDING_INFO. -/
def cmdBindingInfo : Cmd where
  opc := 0x0201
  used := [(0, 1)]
  ok _ d := p8 d 0 ≤ 7
  bar _ _ := none
  run q d _ s := okWith q (imageInfo s (p8 d 0)).1 (imageInfo s (p8 d 0)).2 s

/-- The tip-in slot holds a valid image; slot 0 is BASEMODE. -/
def tipValid (s : State) (slot : Nat) : Bool := slot == 0 || (SMap.find s.sec.tips slot).isSome

/-- TIPIN_SELECT runs: a staging set not yet transferred comes first (R376). -/
def tipRun (q : Cpl) (slot commit : Nat) (s : State) : State :=
  if s.ras.stag.isSome then waitFor q false (.tipWait slot (commit == 1)) s
  else s |> stageTip slot |> shadowsDone q commit

/-- TIPIN_SELECT (R345, R376). -/
def cmdTipinSelect : Cmd where
  opc := 0x0202
  used := [(0, 1), (1, 1)]
  ok s d := p8 d 0 ≤ 7 && p8 d 1 ≤ 1 && (!bound s || tipValid s (p8 d 0))
  bar s d := if bound s && !tipPermits s (p8 d 0) s.dev.state then some 9 else none
  run q d _ s := tipRun q (p8 d 0) (p8 d 1) s

/-- The TIPIN_SELECTs that waited for a transfer go on after it (R345, R376). -/
def serveTipWaits (s : State) : State :=
  if s.ras.stag.isSome then s else
    let isTip := fun (w : Waiter) => match w.kind with | .tipWait _ _ => true | _ => false
    let ws := s.waits.filter isTip
    forEach ws (fun w s => match w.kind with
      | .tipWait slot c =>
        if tipPermits s slot s.dev.state then tipRun w.cpl slot (b2n c) s else complete w.cpl 5 0 9 s
      | _ => s) { s with waits := s.waits.filter (fun w => !isTip w) }

/-! ### Class 0x02: images (R346, R347) -/

/-- Bytes of the staging region. -/
def stagingBytes : Nat := 0x1800000

/-- The life-cycle state or the running firmware bars a target. -/
def targetLocked (s : State) (t : Nat) : Bool :=
  (t == 1 || t == 2) && s.dev.fwRuns && rd s Reg.SEC_BOOT_RUN == t - 1

/-- Largest SIZE of a target; target 0x20 takes exactly 65,536. -/
def targetSize (t off : Nat) : Nat :=
  if t = 1 || t = 2 then 0x200000 else if t = 0x10 then 0x70000 else if t = 0x30 then 0x300000 - off
  else if t = 0x20 then 65536 else 0x1000

/-- IMAGE_BEGIN (R346). -/
def cmdImageBegin : Cmd where
  opc := 0x0203
  used := [(0, 2), (4, 12)]
  ok s d :=
    let t := p8 d 0
    let off := p32 d 12
    ([1, 2, 0x10, 0x20, 0x30].contains t || (0x11 ≤ t && t ≤ 0x17)) &&
      (if t = 0x30 then off % 64 == 0 && decide (off ≤ 0x300000) else off == 0) &&
      p32 d 4 ≤ targetSize t off && (t != 0x20 || (p32 d 4 == 65536 && decide (p8 d 1 < laneCount s)))
  bar s d := if s.dev.state == .halt && 2 < p8 d 0 then some 0 else none
  run q d _ s :=
    if (match s.image with | some i => i.ch != d.ch | none => false) then complete q 7 0 0 s
    else if targetLocked s (p8 d 0) then complete q 10 0 0 s
    else okWith q stagingBytes 0 { s with
      image := some ⟨d.ch, p8 d 0, p8 d 1, p32 d 4, p32 d 8, p32 d 12, []⟩ }

/-- The channel has a transfer open. -/
def openImage (s : State) (ch : Nat) : Option Transfer :=
  match s.image with | some i => if i.ch = ch then some i else none | none => none

/-- Bytes received: those of the distinct blocks below SIZE. -/
def imageGot (i : Transfer) : Nat := i.blocks.foldl (fun n o => n + min 32 (i.size - o)) 0

/-- IMAGE_DATA (R346). -/
def cmdImageData : Cmd where
  opc := 0x0204
  used := [(0, 36)]
  ok s d := p32 d 0 % 32 == 0 &&
    match openImage s d.ch with | some i => decide (p32 d 0 < i.size) | none => false
  bar _ _ := none
  run q d _ s := match openImage s d.ch with
    | some i =>
      let o := p32 d 0
      let i := { i with blocks := if i.blocks.contains o then i.blocks else i.blocks ++ [o] }
      s |> psWrite (0x20000000 + o) (((d.params.drop 4).take 32).take (i.size - o))
        |> (fun s => okWith q (imageGot i) 0 { s with image := some i })
    | none => complete q 3 0 0 s

/-- The image passes the checks of R368 for its target, LENGTH against SIZE included. -/
def imageChecked (s : State) (i : Transfer) (b : Bytes) : Bool :=
  if i.target = 0x20 || i.target = 0x30 then true
  else leAt b 8 4 == i.size &&
    (if i.target ≤ 2 then firmwareOk s b else if i.target = 0x10 then bindingOk s b else tipOk s b)

/-- eMRAM offset of a target's area. -/
def targetOffset (i : Transfer) : Nat :=
  if i.target ≤ 2 then 0x200000 * (i.target - 1) else if i.target = 0x10 then 0xA00000
  else if i.target = 0x20 then 0x400000 + 65536 * i.lane else if i.target = 0x30 then 0xC00000 + i.offset
  else 0xA70000 + (i.target - 0x11) * 0x1000

/-- Bytes made up to whole lines with what the eMRAM holds behind them. -/
def wholeLines (s : State) (off : Nat) (b : Bytes) : Bytes :=
  let n := (b.length + 63) / 64 * 64
  b ++ ldBytes s (0x30000000 + off + b.length) (n - b.length)

/-- The calibration words of a lane: bits [31:16] and bit 0 of the image, the rest as it stands (R347). -/
def mergeWords (img old : Bytes) : Bytes :=
  match img, old with
  | a0 :: _ :: a2 :: a3 :: img, b0 :: b1 :: _ :: _ :: old =>
    [(b0 &&& 0xFE) ||| (a0 &&& 1), b1, a2, a3] ++ mergeWords img old
  | _, _ => []

/-- The eMRAM line that holds a lane's check-table entry, with the entry made anew (R158). -/
def checkLine (s : State) (n : Nat) (words : Bytes) : Nat × Bytes :=
  let line := ldBytes s (0x30F40000 + 8 * n / 64 * 64) 64
  let o := 8 * n % 64
  (0xF40000 + 8 * n / 64 * 64, line.take o ++ leBytes 4 (crc32 (upperHalves words)) ++ [1, 0, 0, 0] ++ line.drop (o + 8))

/-- The lines that IMAGE_END writes. -/
def imageParts (s : State) (i : Transfer) (b : Bytes) : List (Nat × Bytes) :=
  let off := targetOffset i
  if i.target = 0x20 then
    let ws := mergeWords b (laneImage s i.lane)
    [(off, ws), checkLine s i.lane ws]
  else [(off, wholeLines s off b)]

/-- Lines of a burst. -/
def partLines (ps : List (Nat × Bytes)) : Nat := ps.foldl (fun n p => n + p.2.length / 64) 0

/-- A command's burst to the eMRAM starts under the hold-up check (R347): the command waits for its end. -/
def commandBurst (q : Cpl) (why : BurstWhy) (ps : List (Nat × Bytes)) (d0 d1 : Nat) (e : Env) (s : State) : State :=
  let id := burstId s
  s |> takeBurstId |> waitFor q false (.burst id d0 d1) |> requestBurst e ⟨id, 0, ps, partLines ps, why⟩

/-- IMAGE_END (R347). -/
def cmdImageEnd : Cmd where
  opc := 0x0205
  used := []
  ok s d := (openImage s d.ch).isSome
  bar _ _ := none
  run q d e s := match openImage s d.ch with
    | none => complete q 3 0 0 s
    | some i =>
      match ((List.range ((i.size + 31) / 32)).map (32 * ·)).find? (fun o => !i.blocks.contains o) with
      | some o => complete q 3 0 o s
      | none =>
        let b := ldBytes s 0x20000000 i.size
        let crc := crc32 b
        if crc != i.crc then complete q 3 0 0 s
        else if !imageChecked s i b then complete q 4 0 0 s
        else
          let ps := imageParts s i b
          let id := burstId s
          let s := commandBurst q (if i.target = 0x20 then .lane i.lane else .cmd) ps crc (partLines ps) e s
          if s.waits.any (fun w => w.kind == .burst id crc (partLines ps)) then { s with image := none } else s

end Sys2Proof.Machine
end

