-- ==== Sys2Proof/Machine/CmdZones.lean ====
section
/-! DEFINITION. Commands of classes 0x03 to 0x07: base streams, shade zones, glyphs, envelope and levelling, timing
and commit (`11_command_reference.md`). -/

namespace Sys2Proof.Machine

/-! ### Class 0x03 -/

/-- STREAM_STATUS. -/
def cmdStreamStatus : Cmd where
  opc := 0x0301
  used := [(0, 1)]
  ok _ d := p8 d 0 ≤ 3
  bar _ _ := none
  run q d _ s :=
    let s := setBaseAge s
    let sel := regRead s Reg.GTE_SEL_DEFAULT.addr
    okWith q (regRead s (Reg.GTE_SSTAT_DROP (p8 d 0)).addr) (bits sel 26 6 * 2 ^ 26 + rd s Reg.GTE_BASE_AGE_AGE) s

/-- DIRECT_SET (R348). -/
def cmdDirectSet : Cmd where
  opc := 0x0302
  used := [(0, 6)]
  ok s d :=
    let a := p32 d 0
    a % 64 == 0 && p8 d 4 ≤ 1 && p8 d 5 ≤ 1 &&
      (p8 d 4 == 0 || ((0x20000000 ≤ a && a < 0x22000000) && (d.ch != 3 || s1Range s 0 a 0x200000)))
  bar _ _ := none
  run q d _ s := s
    |> wr Reg.RAS_SH_BASEADDR_ADDR (p32 d 0 / 2 ^ Reg.RAS_SH_BASEADDR_ADDR.lo) |> wr Reg.RAS_SH_BASEADDR_DIRECT (p8 d 4)
    |> shadowsDone q (p8 d 5)

/-! ### Class 0x04: shade zones (R349 to R351) -/

/-- The zone sets gathered on a channel. -/
def gathered (s : State) (ch : Nat) : List (Cpl × Bytes) := SMap.getD s.mbx.gathers ch []

/-- Sets what a channel has gathered. -/
def setGather (ch : Nat) (l : List (Cpl × Bytes)) (s : State) : State :=
  { s with mbx := { s.mbx with gathers := if l.isEmpty then SMap.del s.mbx.gathers ch else SMap.put s.mbx.gathers ch l } }

/-- A set of a channel is published; every command of it completes with the same details (R349). ZNE.LAT counts from
the arrival of a CH1 frame only. -/
def publishSet (ch : Nat) (l : List (Cpl × Bytes)) (s : State) : State :=
  let s := setGather ch [] s
  if l.isEmpty then s
  else
    let at' := lineNow s % 256 + min 4095 (s.now - s.ras.lineAt) * 2 ^ 16
    let s := if ch = 1 then s else { s with zne := { s.zne with arrival := none } }
    let s := ownPublish (l.map (fun g => g.2.take 48)) (l.map Prod.snd) s
    forEach l (fun g s => okWith g.1 (rd s Reg.ZNE_SETVER_VER) at' s) s

/-- A ZONE_PUT's descriptor is valid on its channel (R129, R131, R350). -/
def zonePutValid (s : State) (ch : Nat) (desc : Bytes) : Bool :=
  let held := match SMap.find s.zne.zones (dZid desc) with | some z => z.prot | none => false
  dValid (netNow s) desc && !((dProt desc || held) && ch != 1) &&
    !(gathered s ch).any (fun g => dZid g.2 == dZid desc)

/-- ZONE_PUT runs. -/
def zonePutRun (q : Cpl) (d : Desc) (s : State) : State :=
  let desc := expandZone d.params
  let pub := bit (p8 d 1) 7
  let g := gathered s d.ch
  let close := fun (l : List (Cpl × Bytes)) (s : State) => if pub then publishSet d.ch l s else setGather d.ch l s
  if !zonePutValid s d.ch desc then s |> complete q 3 0 0 |> close g
  else if 64 ≤ g.length then s |> complete q 7 0 0 |> close g
  else
    let cnt := if d.ch = 1 then rd s (Reg.HIF_MB_AUTHCNT_COUNT 1) else 0
    close (g ++ [(q, zpubEntry desc d.atag cnt d.ch)]) s

/-- ZONE_PUT (R336, R349, R350). -/
def cmdZonePut : Cmd where
  opc := 0x0401
  used := [(0, 44)]
  ok _ d := bits (p8 d 1) 4 3 == 0 && !(d.ch == 3 && dProt (expandZone d.params))
  bar _ _ := none
  run q d _ s := zonePutRun q d s

/-- ZONE_GATHER_TIMEOUT (R349): none of the set applies. -/
def doZoneGatherTimeout (ch : Nat) (s : State) : State :=
  forEach (gathered s ch) (fun g s => complete g.1 8 0 0 s) (setGather ch [] s)

/-- ZONE_CLEAR_ALL runs: the gathered set first, then the CLEARs (R351). -/
def clearAllRun (q : Cpl) (d : Desc) (s : State) : State :=
  let s := publishSet d.ch (gathered s d.ch) s
  let clear := fun z => leBytes 1 z ++ [0] ++ leBytes 2 8 ++ d.params.take 8 ++ zeroBytes 36
  let zids := (s.zne.zones.filter (fun z => p8 d 8 == 1 || !z.2.prot)).map Prod.fst
  if !dValid (netNow s) (clear 0) then complete q 3 0 0 s
  else
    let cnt := if d.ch = 1 then rd s (Reg.HIF_MB_AUTHCNT_COUNT 1) else 0
    let es := zids.map (fun z => zpubEntry (clear z) d.atag cnt d.ch)
    let held := s.zne.zones.length
    let s := { s with zne := { s.zne with arrival := if d.ch = 1 then s.zne.arrival else none } }
    let s := if zids.isEmpty then s else ownPublish (zids.map clear) es s
    okWith q (rd s Reg.ZNE_SETVER_VER) (held - s.zne.zones.length) s

/-- ZONE_CLEAR_ALL (R336, R351): SCOPE = 1 from CH1 only. -/
def cmdZoneClearAll : Cmd where
  opc := 0x0402
  used := [(0, 9)]
  ok _ d := p8 d 8 ≤ 1 && (p8 d 8 == 0 || d.ch == 1)
  bar _ _ := none
  run q d _ s := clearAllRun q d s

/-- The status word of a zone. -/
def zoneWord (s : State) (zid : Nat) : Nat :=
  match SMap.find s.zne.zones zid with
  | some z => 2 ^ 31 + b2n z.stale * 2 ^ 30 + b2n z.prot * 2 ^ 29 + min 65535 z.te
  | none => 0

/-- ZONE_STATUS. -/
def cmdZoneStatus : Cmd where
  opc := 0x0403
  used := [(0, 1)]
  ok _ d := p8 d 0 ≤ 63
  bar _ _ := none
  run q d _ s := okWith q (zoneWord s (p8 d 0)) (rd s Reg.ZNE_SETVER_VER) s

/-! ### Class 0x05: glyphs (R352) -/

/-- Where GLYPH_LOAD takes its texels from, if the range and the sizes allow it: the bytes W × H × 2. -/
def glyphSource (s : State) (d : Desc) : Option Bytes :=
  let n := 2 * p16 d 8 * p16 d 10
  let o := p32 d 4
  if p8 d 1 = 0 then
    let sec := bindSec s 0x10
    let e := (sec.drop (4 + 8 * o)).take 8
    let off := leAt e 4 4
    if o < leAt sec 0 4 && e.length == 8 && leAt e 0 2 == p16 d 8 && leAt e 2 2 == p16 d 10 && off + n ≤ sec.length
    then some ((sec.drop off).take n) else none
  else if p8 d 1 = 1 then (if o + n ≤ 0x300000 then some (ldBytes s (0x30C00000 + o) n) else none)
  else if o + n ≤ 0x80000 && (d.ch != 3 || s1Range s 0 (0x21F80000 + o) n) then
    some (ldBytes s (0x21F80000 + o) n)
  else none

/-- The texels go into a plate, row after row at a pitch of 1,024 bytes (R106). -/
def storePlate (n w h : Nat) (b : Bytes) (s : State) : State :=
  forEach (List.range h) (fun y => psWrite (0x21C00000 + 0x40000 * n + 1024 * y) ((b.drop (2 * w * y)).take (2 * w))) s

/-- GLYPH_LOAD. -/
def cmdGlyphLoad : Cmd where
  opc := 0x0501
  used := [(0, 2), (4, 8)]
  ok s d :=
    let n := p8 d 0
    n ≤ 7 && p8 d 1 ≤ 2 && (1 ≤ p16 d 8 && p16 d 8 ≤ 512) && (1 ≤ p16 d 10 && p16 d 10 ≤ 256) &&
      !(rdb s (Reg.GTE_PL_CTRL_EN n) || act s (Reg.GTE_PL_CTRL_EN n) != 0) &&
      (!bound s || (glyphSource s d).isSome)
  bar _ _ := none
  run q d _ s :=
    let b := (glyphSource s d).getD []
    s |> storePlate (p8 d 0) (p16 d 8) (p16 d 10) b
      |> wr (Reg.GTE_PL_CTRL_WM1 (p8 d 0)) (p16 d 8 - 1) |> wr (Reg.GTE_PL_CTRL_HM1 (p8 d 0)) (p16 d 10 - 1)
      |> okWith q (crc32 b) 0

/-- GLYPH_PLACE. -/
def cmdGlyphPlace : Cmd where
  opc := 0x0502
  used := [(0, 2), (4, 13)]
  ok _ d := p8 d 0 ≤ 7 && p8 d 1 < 4 && (0x100 ≤ p16 d 8 && p16 d 8 ≤ 0x8000) && p8 d 16 ≤ 1
  bar _ _ := none
  run q d _ s :=
    let n := p8 d 0
    s |> wr (Reg.GTE_PL_CTRL_EN n) (bits (p8 d 1) 0 1) |> wr (Reg.GTE_PL_CTRL_MODE n) (bits (p8 d 1) 1 1)
      |> wr (Reg.GTE_PL_POS_X n) (p16 d 4) |> wr (Reg.GTE_PL_POS_Y n) (p16 d 6)
      |> wr (Reg.GTE_PL_XFORM_SCALE n) (p16 d 8) |> wr (Reg.GTE_PL_XFORM_ANGLE n) (p16 d 10)
      |> wr (Reg.GTE_PL_INT_IG n) (p16 d 12) |> wr (Reg.GTE_PL_INT_CAP n) (p16 d 14)
      |> shadowsDone q (p8 d 16)

/-- GLYPH_HIDE. -/
def cmdGlyphHide : Cmd where
  opc := 0x0503
  used := [(0, 2)]
  ok _ d := p8 d 1 ≤ 1
  bar _ _ := none
  run q d _ s := s
    |> forEach ((List.range 8).filter (bit (p8 d 0))) (fun n => wr (Reg.GTE_PL_CTRL_EN n) 0)
    |> shadowsDone q (p8 d 1)

/-! ### Class 0x06: envelope and levelling -/

/-- ENVSCALE_SET. -/
def cmdEnvscaleSet : Cmd where
  opc := 0x0601
  used := [(0, 3)]
  ok _ d := p16 d 0 ≤ 0x8000 && p8 d 2 ≤ 1
  bar _ _ := none
  run q d _ s := s |> wr Reg.RAS_SH_ENVSCALE_SCALE (p16 d 0) |> shadowsDone q (p8 d 2)

/-- MESH_SELECT: the mesh stands in the binding. -/
def cmdMeshSelect : Cmd where
  opc := 0x0602
  used := [(0, 2)]
  ok s d := p8 d 0 ≤ 3 && p8 d 1 ≤ 1 && (!bound s || decide (p8 d 0 < (bindSec s 4).length / 4420))
  bar _ _ := none
  run q d _ s := s |> wr Reg.RAS_SH_MESH_MESH (p8 d 0) |> shadowsDone q (p8 d 1)

/-- PITCH_UPDATE (R353): DETAIL0 bit 0 says that ZNE dropped the descriptor as older. -/
def cmdPitchUpdate : Cmd where
  opc := 0x0603
  used := [(0, 12)]
  ok _ d := p32 d 4 < 1000000000
  bar _ _ := none
  run q d _ s :=
    let t := ownPitch (d.params.take 16) s
    okWith q (b2n (!isStandby s && t.zne.pitch == s.zne.pitch)) (rd t Reg.ZNE_SETVER_VER) t

/-- LEVEL_STATUS. -/
def cmdLevelStatus : Cmd := plainCmd 0x0604 (fun q _ _ s =>
  okWith q (regRead s Reg.ZNE_LVLSTAT_DP.addr) (regRead s Reg.ZNE_PITCH_ANGLE.addr) s)

/-! ### Class 0x07: timing and commit -/

/-- COMMIT (R354). -/
def cmdCommit : Cmd := plainCmd 0x0701 (fun q _ _ s => commitCmd q s)

/-- TIMING_SET (R355). -/
def cmdTimingSet : Cmd where
  opc := 0x0702
  used := [(0, 4)]
  ok _ d := p8 d 0 ≤ 2 && p8 d 1 ≤ 1 && (2 ≤ p8 d 2 && p8 d 2 ≤ 20) && p8 d 3 ≤ 1
  bar s d := if rasterOn s && !levelCovers s (p8 d 0) then some 0x0A else none
  run q d _ s := s
    |> wr Reg.RAS_SH_TIMING_MODE (p8 d 0) |> wr Reg.RAS_SH_TIMING_PHLEN (p8 d 1) |> wr Reg.RAS_SH_TIMING_PBLANK (p8 d 2)
    |> shadowsDone q (p8 d 3)

/-- PHASE_SET (R355). -/
def cmdPhaseSet : Cmd where
  opc := 0x0703
  used := [(0, 4)]
  ok _ d := p32 d 0 < 2 ^ 21
  bar _ _ := none
  run q d _ s :=
    let s := doPhaseWrite (BitVec.ofNat 32 (p32 d 0)) s
    okWith q (regRead s Reg.RAS_ERR_ERR.addr) 0 s

/-- FRAME_GET (R59). -/
def cmdFrameGet : Cmd := plainCmd 0x0704 (fun q _ _ s =>
  s |> copyCaptures |> okWith q (rd s Reg.RAS_FCNT_FCNT) (if activeDom s = 0 then s.ras.caps.d0n else s.ras.caps.d1n))

end Sys2Proof.Machine
end

