-- ==== Sys2Proof/Machine/CmdDiag.lean ====
section
/-! DEFINITION. Commands of classes 0x08 to 0x0B: calibration, diagnosis, recorder and dump, time
(`11_command_reference.md`). -/

namespace Sys2Proof.Machine

/-! ### Class 0x08 -/

/-- CAL_STATUS. -/
def cmdCalStatus : Cmd where
  opc := 0x0801
  used := [(0, 1)]
  ok _ d := p8 d 0 ≤ 8 || p8 d 0 == 0xFF
  bar _ _ := none
  run q d _ s :=
    if p8 d 0 = 0xFF then okWith q (rd s Reg.SNS_CALTOTAL_COUNT) (rd s Reg.SNS_CALLAST_SEC) s
    else okWith q (rd s (Reg.SNS_CH_CALCNT_COUNT (p8 d 0))) (rd s (Reg.SNS_CH_CALSEC_SEC (p8 d 0))) s

/-- CAL_ROUND (R356). -/
def cmdCalRound : Cmd := plainCmd 0x0802 (fun q _ _ s =>
  if !rdb s Reg.SNS_CTRL_CAL_EN then complete q 10 0 0 s else s |> waitFor q false .calRound |> calStart)

/-- The calibration words of a lane with the device-maintained fields reset (R169). -/
def resetWords (b : Bytes) : Bytes :=
  match b with
  | b0 :: _ :: b2 :: b3 :: rest => [b0 &&& 1, 0, b2, b3] ++ resetWords rest
  | _ => []

/-- CAL_RESET_LANE (R357). -/
def cmdCalResetLane : Cmd where
  opc := 0x0803
  used := [(0, 1)]
  ok s d := p8 d 0 < laneCount s
  bar _ _ := none
  run q d e s :=
    let n := p8 d 0
    let ps := [(0x400000 + 65536 * n, resetWords (laneImage s n)), (0x800000 + 32768 * n, zeroBytes 32768)]
    commandBurst q (.lane n) ps (partLines ps) 0 e s

/-- WEAR_PASS (R176, R356): with WEAR_EN = 0 no pass runs and the command ends at once. -/
def cmdWearPass : Cmd := plainCmd 0x0804 (fun q _ e s =>
  if s.cor.pass.isNone && !rdb s Reg.COR_CTRL_WEAR_EN then okWith q (rd s Reg.COR_WEAR_LASTSEC) 0 s
  else s |> waitFor q false .wearPass |> wearStart e)

/-! ### Class 0x09 -/

/-- DIAG_SUMMARY. -/
def cmdDiagSummary : Cmd := plainCmd 0x0901 (fun q _ _ s =>
  okWith q (regRead s Reg.SWP_COUNTS_GLOW.addr) (regRead s Reg.SWP_AGEMAX_LANE.addr) s)

/-- A pixel has a suspect mark on some emitter. -/
def pixelSuspect (s : State) (i : Nat) : Bool := (List.range 3).any (fun m => (SMap.find s.swp.suspects (4 * i + m)).isSome)

/-- PIXEL_QUERY. -/
def cmdPixelQuery : Cmd where
  opc := 0x0902
  used := [(0, 1), (2, 2)]
  ok s d := decide (p8 d 0 < laneCount s) && decide (p16 d 2 < 16384)
  bar _ _ := none
  run q d _ s :=
    let i := p8 d 0 * 16384 + p16 d 2
    okWith q (calWord s i) (ageOf s i % 4096 + 4096 * b2n (pixelSuspect s i)) s

/-- GROUP_STATUS. -/
def cmdGroupStatus : Cmd where
  opc := 0x0903
  used := [(0, 1)]
  ok s d := p8 d 0 < groupCount s
  bar _ _ := none
  run q d _ s :=
    let r := match SMap.find s.sns.runs (p8 d 0) with | some r => r.1 | none => 0
    okWith q (regRead s (Reg.SNS_GRP_I_IPRED (p8 d 0)).addr) (r % 256) s

/-! ### Class 0x0A -/

/-- WINDOW_MAP (R358). -/
def cmdWindowMap : Cmd where
  opc := 0x0A01
  used := [(0, 1), (4, 4)]
  ok _ d := p8 d 0 ≤ 2 && p32 d 4 % 32 == 0 && decide (p32 d 4 < (recArea (p8 d 0)).2)
  bar _ _ := none
  run q d _ s :=
    okWith q (recArea (p8 d 0)).2 (rd s Reg.EVR_NEWEST_SEQ)
      { s with mbx := { s.mbx with window := (p8 d 0, p32 d 4) } }

/-- REC_STATUS. -/
def cmdRecStatus : Cmd := plainCmd 0x0A02 (fun q _ _ s =>
  okWith q (rd s Reg.EVR_NEWEST_SEQ) (rd s Reg.EVR_LOST_COUNT) s)

/-- A dump header with STATE clear (R505). -/
def clearedHeader (h : Bytes) : Bytes :=
  let b := h.take 4 ++ [0] ++ (h.drop 5).take 55
  b ++ leBytes 4 (crc32 b)

/-- DUMP_CLEAR (R358, R505). -/
def cmdDumpClear : Cmd := plainCmd 0x0A03 (fun q _ e s =>
  match dumpHeld s with
  | none => okWith q 0 0 s
  | some h => commandBurst q .cmd [(0xB00000, clearedHeader h)] 0 0 e s)

/-- CKU1 set up for the CRC-32 of R219 over a range. -/
def setCrc32Scan (a len : Nat) (s : State) : State := s
  |> wr (Reg.CKU_WIDTH_WIDTH 1) 32 |> wr (Reg.CKU_POLY_LO_VALUE 1) 0x04C11DB7 |> wr (Reg.CKU_POLY_HI_VALUE 1) 0
  |> wr (Reg.CKU_INIT_LO_VALUE 1) 0xFFFFFFFF |> wr (Reg.CKU_INIT_HI_VALUE 1) 0
  |> wr (Reg.CKU_XOROUT_LO_VALUE 1) 0xFFFFFFFF |> wr (Reg.CKU_XOROUT_HI_VALUE 1) 0
  |> wr (Reg.CKU_CTRL_REFIN 1) 1 |> wr (Reg.CKU_CTRL_REFOUT 1) 1
  |> wr (Reg.CKU_ADDR_VALUE 1) a |> wr (Reg.CKU_LEN_VALUE 1) len
  |> doCkuInitWrite 1 |> ckuStart .s0 1

/-- CKU_SCAN (R336, R358); a scan already in progress on CKU1 leaves no unit for it. -/
def cmdCkuScan : Cmd where
  opc := 0x0A04
  used := [(0, 8)]
  ok s d := scanRange (p32 d 0) (p32 d 4) && (d.ch != 3 || scanRight s .s1 (p32 d 0) (p32 d 4))
  bar _ _ := none
  run q d _ s :=
    if ckuBusy s 1 then complete q 7 0 0 s
    else s |> setCrc32Scan (p32 d 0) (p32 d 4) |> waitFor q false .ckuScan

/-! ### Class 0x0B -/

/-- TIME_GET. -/
def cmdTimeGet : Cmd where
  opc := 0x0B01
  used := [(0, 1)]
  ok _ d := p8 d 0 ≤ 1
  bar _ _ := none
  run q d _ s :=
    let t := timeNow s (p8 d 0)
    okWith q (t / 10 ^ 9 % 2 ^ 32) (t % 10 ^ 9 + rd s (Reg.NTM_D_STATE_STATE (p8 d 0)) * 2 ^ 30) s

/-- DOMAIN_SELECT (R359). -/
def cmdDomainSelect : Cmd where
  opc := 0x0B02
  used := [(0, 1)]
  ok s d := p8 d 0 ≤ 1 && rd s (Reg.NTM_D_STATE_STATE (p8 d 0)) != 0
  bar _ _ := none
  run q d _ s :=
    let s := setActive (p8 d 0) s
    okWith q (regRead s Reg.RAS_ERR_ERR.addr) 0 s

/-- TTO_ARM (R297, R359). -/
def cmdTtoArm : Cmd where
  opc := 0x0B03
  used := [(0, 20)]
  ok _ d := p8 d 0 ≤ 3 && p8 d 1 < 8
  bar _ _ := none
  run q d _ s :=
    let n := p8 d 0
    let en := bit (p8 d 1) 0
    let s := s
      |> wr (Reg.NTM_TTO_START_SH_SEC n) (p16 d 2) |> wr (Reg.NTM_TTO_START_SL_VALUE n) (p32 d 4)
      |> wr (Reg.NTM_TTO_START_NS_VALUE n) (p32 d 8) |> wr (Reg.NTM_TTO_PERIOD_VALUE n) (p32 d 12)
      |> wr (Reg.NTM_TTO_WIDTH_VALUE n) (p32 d 16)
      |> ttoCtrl n en (bits (p8 d 1) 1 1) (bits (p8 d 1) 2 1)
    if en && rd s (Reg.NTM_TTO_CTRL_ERR n) != 0 then complete q 3 0 (rd s (Reg.NTM_TTO_CTRL_ERR n)) s
    else okWith q 0 0 s

/-- RTC_ALARM: the alarm lies SECONDS from now; DETAIL0 gives the same instant in operating seconds. -/
def cmdRtcAlarm : Cmd where
  opc := 0x0B04
  used := [(0, 4)]
  ok _ _ := true
  bar _ _ := none
  run q d _ s :=
    let n := p32 d 0
    if n = 0 then s |> wr Reg.PWC_P_ALARM_SEC 0 |> wr Reg.PWC_P_WAKE_ALARM_EN 0 |> okWith q 0 0
    else s |> wr Reg.PWC_P_ALARM_SEC (rd s Reg.PWC_P_RTC_SEC + n) |> wr Reg.PWC_P_WAKE_ALARM_EN 1
      |> okWith q ((rd s Reg.PWC_P_OPSEC_SEC + n) % 2 ^ 32) 0

end Sys2Proof.Machine
end

