-- ==== Sys2Proof/Machine/CmdSafety.lean ====
section
/-! DEFINITION. Commands of classes 0x0C to 0x0F: safety, lanes and tiles, the pair, life-cycle and test
(`11_command_reference.md`). -/

namespace Sys2Proof.Machine

/-! ### Class 0x0C -/

/-- FAULT_GET. -/
def cmdFaultGet : Cmd := plainCmd 0x0C01 (fun q _ _ s =>
  okWith q (rd s Reg.FCL_FIRST_VALUE) (rd s Reg.FCL_FIRST_EXT_VALUE) s)

/-- FAULT_CLEAR (R360): firmware clears P_WAKE.WAKE_FAIL with the latch (R459); with S_PLATE = 1 in PRELIT the start
tests rerun (R34). -/
def cmdFaultClear : Cmd := plainCmd 0x0C02 (fun q _ _ s =>
  let s := s |> wr Reg.PWC_P_WAKE_WAKE_FAIL 0 |> fclClear
  if s.dev.state == .prelit && s.dev.sPlate then
    { s with dev := { s.dev with tests := true, rerun := true }, fender := { s.fender with passRun := 0 } }
      |> waitFor q true .faultClear
  else okWith q (stateWord s) (rd s Reg.FCL_FIRST_VALUE) s)

/-- SEVERITY_SET (R361): a source that FCL does not know has no severity to set. -/
def cmdSeveritySet : Cmd where
  opc := 0x0C03
  used := [(0, 3)]
  ok _ d := p16 d 0 ≤ 511 && p8 d 2 ≤ 4 && (faultRow (p16 d 0)).isSome && severityFloor (p16 d 0) ≤ p8 d 2
  bar _ _ := none
  run q d _ s :=
    if rdb s Reg.FCL_CTRL_LOCK then complete q 10 0 0 s
    else
      let old := severity s (p16 d 0)
      s |> wr (Reg.FCL_SEV (p16 d 0)) (p8 d 2) |> okWith q old 0

/-- FENDER_STATUS. -/
def cmdFenderStatus : Cmd := plainCmd 0x0C04 (fun q _ _ s =>
  okWith q (regRead s Reg.FST_RUN.addr) (regRead s Reg.FST_SEQ_SEQ.addr) s)

/-- FALLBACK_OFF (R38, R361). -/
def cmdFallbackOff : Cmd where
  opc := 0x0C05
  used := []
  ok _ _ := true
  bar s _ := if s.pilot.lightReq then some 3 else none
  run q _ _ s :=
    let s := fbDark s
    okWith q (stateWord s) 0 s

/-- The output tests that SAFE_TEST runs: the powered groups, both fallback channels, and the dark path where a tile
is LIVE. -/
def safeTests (s : State) : Nat :=
  let groups := if fenderRuns s then (List.range (groupCount s)).filter (tgenHigh s) else []
  groups.foldl setBit (0x300 + (if fenderRuns s && (tileLanes s).any (tileLive s) then 0x400 else 0))

/-- SAFE_TEST (R361). -/
def cmdSafeTest : Cmd := plainCmd 0x0C06 (fun q _ _ s =>
  s |> waitFor q false (.safeTest (safeTests s) 0) |> when (groupsToTest s) doTgenTestTimer |> doDarkPathTimer)

/-! ### Class 0x0D -/

/-- LANE_STATUS. -/
def cmdLaneStatus : Cmd where
  opc := 0x0D01
  used := [(0, 1)]
  ok _ d := p8 d 0 ≤ 65
  bar _ _ := none
  run q d _ s :=
    let n := p8 d 0
    okWith q (regRead s (Reg.TLK_LN_STATUS_INSERV n).addr) (if n < 64 then tlStatus s n else 0) s

/-- LANE_TRAIN (R362). -/
def cmdLaneTrain : Cmd where
  opc := 0x0D02
  used := [(0, 1)]
  ok s d := laneExists s (p8 d 0)
  bar s d := if laneBusy s (p8 d 0) then some 7 else none
  run q d _ s := s |> waitFor q false (.laneTrain (p8 d 0)) |> doTlkTrainWrite (p8 d 0)

/-- LANE_TEST (R362). -/
def cmdLaneTest : Cmd where
  opc := 0x0D03
  used := [(0, 3), (4, 4)]
  ok s d := laneExists s (p8 d 0) && p8 d 1 ≤ 3 && p8 d 2 ≤ 2 && (1 ≤ p32 d 4 && p32 d 4 ≤ 60000)
  bar s d := if laneBusy s (p8 d 0) then some 7 else none
  run q d _ s :=
    let n := p8 d 0
    s |> doLoopbackWrite n (p8 d 1) |> doPrbsWrite n (p8 d 2)
      |> wr (Reg.TLK_LN_ERR_CV n) 0 |> wr (Reg.TLK_LN_ERR_DISP n) 0 |> wr (Reg.TLK_LN_PRBS_ERRBITS n) 0
      |> waitFor q false (.laneTest n)

/-- The set of TILE_SET leaves the tile where it is (R363). -/
def tileStays (s : State) (n op : Nat) : Bool :=
  let st := tileState s n
  (op == 2 && st != 0) || (op == 1 && st == 2) ||
    (op == 1 && st == 3 && !(rdb s (Reg.TPR_TL_STATUS_PLATEV n) && tgenHigh s (groupOf n)))

/-- TILE_SET (R363); A0 of the set is 0. -/
def cmdTileSet : Cmd where
  opc := 0x0D04
  used := [(0, 2)]
  ok _ d := p8 d 0 ≤ 63 && (1 ≤ p8 d 1 && p8 d 1 ≤ 3)
  bar s d := if bound s && !inService s (p8 d 0) then some 7 else none
  run q d _ s :=
    let n := p8 d 0
    let op := p8 d 1
    let stays := tileStays s n op
    s |> demand op 0 (some n)
      |> (if stays then okWith q (tlStatus s n) 0 else waitFor q false (.tileSet n op 3))

/-- TILE_RESUME (R364): the lane's DEGMAP bit is cleared (R423). -/
def cmdTileResume : Cmd where
  opc := 0x0D05
  used := [(0, 1)]
  ok s d := p8 d 0 < laneCount s
  bar s d := if s.dev.sPlate then some 5 else if bound s && !inService s (p8 d 0) then some 7 else none
  run q d _ s :=
    let n := p8 d 0
    let sq := nextSeq s
    s |> setMapBit Reg.FCL_DEGMAP_LO_MAP Reg.FCL_DEGMAP_HI_MAP n false |> pushResume n sq
      |> waitFor q false (.tileResume n sq)

/-- TILE_REFSEL (R364). -/
def cmdTileRefsel : Cmd where
  opc := 0x0D06
  used := [(0, 3)]
  ok s d := decide (p8 d 0 < laneCount s) && p8 d 1 ≤ 1 && p8 d 2 ≤ 1
  bar s d := if bound s && !inService s (p8 d 0) then some 7 else none
  run q d _ s :=
    let n := p8 d 0
    s |> pushSet n 7 (leBytes 4 (p8 d 1)) |> when (p8 d 2 == 1) (modTpr n (fun l => { l with refHold := true }))
      |> (fun s => okWith q (tlStatus s n) 0 s)

/-! ### Class 0x0E (R365, R515) -/

/-- PAIR_STATUS. -/
def cmdPairStatus : Cmd := plainCmd 0x0E01 (fun q _ _ s =>
  okWith q (b2n (pairOp s) + 2 * b2n (pairOp s && role s == 1) + 4 * rd s Reg.PTN_STATUS_LINK +
    256 * rd s Reg.PTN_STATUS_PSTATE) (rd s Reg.PTN_DIGCNT_COUNT) s)

/-- PAIR_HANDOVER. -/
def cmdPairHandover : Cmd where
  opc := 0x0E02
  used := []
  ok _ _ := true
  bar s _ := if pairOp s && role s == 1 then none else some 8
  run q _ _ s := s |> waitFor q false .handover |> sendHandover 1

/-- PTN_DIGEST. -/
def cmdPtnDigest : Cmd where
  opc := 0x0E10
  used := [(0, 10), (12, 12)]
  ok _ _ := true
  bar _ _ := none
  run q d _ s := okWith q (b2n (digestDiff d.params (ownDigest s) == 0)) 0 s

/-- PTN_ADOPT: PTN has acted on the frame already. -/
def cmdPtnAdopt : Cmd where
  opc := 0x0E11
  used := [(0, 5), (8, 8)]
  ok _ d := p8 d 4 < 16
  bar _ _ := none
  run q _ _ s := okWith q 0 0 s

/-- PTN_BARRIER. -/
def cmdPtnBarrier : Cmd where
  opc := 0x0E12
  used := [(0, 2), (4, 4)]
  ok _ d := p8 d 0 ≤ 2
  bar _ _ := none
  run q d _ s := ownBarrier (p8 d 0) (p8 d 1) q s

/-! ### Class 0x0F -/

/-- LC_GET. -/
def cmdLcGet : Cmd := plainCmd 0x0F01 (fun q _ _ s =>
  okWith q (lcCode s % 16 + 256 * rd s Reg.SEC_BOOT_RUN + 512 * rd s Reg.SEC_BOOT_AVALID +
    1024 * rd s Reg.SEC_BOOT_BVALID) 0 s)

/-- The life-cycle transitions that R382 accepts. -/
def lcAllowed (code target : Nat) : Bool :=
  [(0, 1), (0, 2), (1, 2), (2, 3), (1, 3)].contains (code, target)

/-- LC_ADVANCE (R366, R382, R383): the completion, the marker, then the wipes. -/
def cmdLcAdvance : Cmd where
  opc := 0x0F02
  used := [(0, 1)]
  ok _ d := 1 ≤ p8 d 0 && p8 d 0 ≤ 3
  bar _ _ := none
  run q d e s :=
    let c := lcCode s
    if !lcAllowed c (p8 d 0) then complete q 10 0 0 s
    else
      let s := okWith q c 0 s
      wipeNext e { s with sec := { s.sec with marker := some (p8 d 0), wipes := wipeList c } }

/-- FW_SELECT (R366, R381). -/
def cmdFwSelect : Cmd where
  opc := 0x0F03
  used := [(0, 1)]
  ok _ d := p8 d 0 ≤ 1
  bar _ _ := none
  run q d _ s :=
    let b := fwSlot s (p8 d 0)
    if !firmwareOk s b then complete q 4 0 0 s
    else s |> wr Reg.SEC_BOOT_PREF (p8 d 0)
      |> wr (if p8 d 0 = 0 then Reg.SEC_BOOT_AVALID else Reg.SEC_BOOT_BVALID) 1 |> okWith q (leAt b 0xC 4) 0

/-- TMX_SELECT (R366, R551). -/
def cmdTmxSelect : Cmd where
  opc := 0x0F04
  used := [(0, 2)]
  ok _ d := p8 d 0 ≤ 1 && p8 d 1 ≤ 63
  bar _ _ := none
  run q d _ s :=
    if tmxWithheld s (p8 d 1) then s |> wr Reg.TMX_STATUS_DENIED 1 |> complete q 10 0 0
    else
      let (en, sig) := if p8 d 0 = 0 then (Reg.TMX_SEL0_EN, Reg.TMX_SEL0_SIGNAL) else (Reg.TMX_SEL1_EN, Reg.TMX_SEL1_SIGNAL)
      s |> wr en 1 |> wr sig (p8 d 1) |> okWith q 0 0

end Sys2Proof.Machine
end

