-- ==== Sys2Proof/Machine/Commands.lean ====
section
/-! DEFINITION. Taking descriptors (R314), the rerun of deferred commands (R321), and the meanings of the mailbox
commands and of the rows after which deferred commands rerun. -/

namespace Sys2Proof.Machine

/-! ### The commands by opcode -/

/-- Every command of `11_command_reference.md`. -/
def allCmds : List Cmd :=
  [cmdStateGet, cmdPerfSet, cmdServiceEnter, cmdServiceExit, cmdStandstillSet, cmdLightOn, cmdLightOff, cmdReset,
   cmdSleep, cmdBindingInfo, cmdTipinSelect, cmdImageBegin, cmdImageData, cmdImageEnd] ++
  [cmdStreamStatus, cmdDirectSet, cmdZonePut, cmdZoneClearAll, cmdZoneStatus, cmdGlyphLoad, cmdGlyphPlace,
   cmdGlyphHide, cmdEnvscaleSet, cmdMeshSelect, cmdPitchUpdate, cmdLevelStatus, cmdCommit, cmdTimingSet, cmdPhaseSet,
   cmdFrameGet] ++
  [cmdCalStatus, cmdCalRound, cmdCalResetLane, cmdWearPass, cmdDiagSummary, cmdPixelQuery, cmdGroupStatus,
   cmdWindowMap, cmdRecStatus, cmdDumpClear, cmdCkuScan, cmdTimeGet, cmdDomainSelect, cmdTtoArm, cmdRtcAlarm] ++
  [cmdFaultGet, cmdFaultClear, cmdSeveritySet, cmdFenderStatus, cmdFallbackOff, cmdSafeTest, cmdLaneStatus,
   cmdLaneTrain, cmdLaneTest, cmdTileSet, cmdTileResume, cmdTileRefsel, cmdPairStatus, cmdPairHandover, cmdPtnDigest,
   cmdPtnAdopt, cmdPtnBarrier, cmdLcGet, cmdLcAdvance, cmdFwSelect, cmdTmxSelect]

/-- The command of an opcode with its row of the matrix. -/
def cmdOf (opc : Nat) : Option (Cmd × CmdRow) :=
  match allCmds.find? (fun c => c.opc == opc), cmdRow opc with
  | some c, some r => some (c, r)
  | _, _ => none

/-! ### Deferred commands (R320 to R322) -/

/-- What checks 4 to 6 find for a deferred command now. -/
def judgeDeferred (s : State) (q : Deferred) : Judged :=
  match cmdOf q.opc with
  | some (c, r) => judge c r q.d s
  | none => .held 5 0

/-- A deferred command would not stay deferred. -/
def goesOn (s : State) (q : Deferred) : Bool := match judgeDeferred s q with | .held _ _ => false | _ => true

/-- A deferred command leaves the list. -/
def dropDeferred (q : Deferred) (s : State) : State :=
  setDefq { s with mbx := { s.mbx with deferred := s.mbx.deferred.erase q } }

/-- A LIGHT_ON that has been deferred counts its time from the take (R342). -/
def fromTake (opc t0 : Nat) (s : State) : State :=
  if opc = 0x0106 then
    { s with waits := s.waits.map (fun w =>
        match w.kind with | .lightOn _ => { w with kind := .lightOn t0 } | _ => w) }
  else s

/-- Steps 4 to 7 for a deferred command that goes on; its completion carries WASDEF. -/
def rerunOne (e : Env) (q : Deferred) (s : State) : State :=
  match cmdOf q.opc with
  | none => s
  | some (c, r) =>
    let cpl := cplOf q.opc q.d true
    let t := dropDeferred q s
    match judge c r q.d s with
    | .bad => complete cpl 3 0 0 t
    | .done => complete cpl 0 (stateWord t) 0 t
    | .held _ _ => s
    | .run => fromTake q.opc q.taken (runCmd c r cpl q.d e t).2

/-- The reason of the last failed check stands for EXPIRED (R333). -/
def noteReasons (p : Deferred → Bool) (s : State) : State :=
  { s with mbx := { s.mbx with deferred := s.mbx.deferred.map (fun q =>
      if p q then (match judgeDeferred s q with | .held st v => { q with reason := heldDetail st v } | _ => q) else q) } }

/-- The deferred commands that `p` selects rerun in order of their take, until every one of them stays deferred (R321). -/
def rerun (p : Deferred → Bool) (e : Env) (n : Nat) (s : State) : State :=
  match n with
  | 0 => s
  | n + 1 =>
    match s.mbx.deferred.find? (fun q => p q && goesOn s q) with
    | some q => rerun p e n (rerunOne e q s)
    | none => noteReasons p s

/-- The device state has changed, or a state-changing command has ended. -/
def stateMoved (s t : State) : Bool := s.dev.state != t.dev.state || (scBusy s && !scBusy t)

/-- What follows a row: a withdrawal of standstill that waited starts (R341), and the deferred commands rerun, after a
change of the device state or the end of a state-changing command (R321); `ran` says that such a command has just run. -/
def settle (e : Env) (ran : Bool) (s t : State) : State :=
  if stateMoved s t || (ran && !scBusy t) then
    rerun (fun _ => true) e (t.mbx.deferred.length + 1) (settleWithdraw t)
  else t

/-- A row with its surroundings, and what follows it. -/
def settled (e : Env) (f : State → State) (s : State) : State := settle e false s (f s)

/-- A row that names no VHOLD: the surroundings of what follows are open (log entry 5). -/
def settledFree (f : State → State) (s : State) : State :=
  let t := f s
  if stateMoved s t then
    let (v, t) := freeBelow 65536 t
    settle ⟨t.now, v⟩ false s t
  else t

/-! ### Mailbox rows -/

/-- A command whose descriptor S0 has taken (R318), and what follows it. -/
def serveRow (c : Cmd) (d : Desc) (e : Env) (s : State) : State :=
  match cmdRow c.opc with
  | some r =>
    let (ran, t) := serveCmd c r d e s
    settle e ran s t
  | none => s

/-- A deferred SERVICE_ENTER rechecks its reason at each assertion of standstill (R341). -/
def standstillRow (d : Desc) (e : Env) (s : State) : State :=
  let t := serveRow cmdStandstillSet d e s
  if t.mbx.standstill != s.mbx.standstill && t.mbx.standstill.isSome then
    rerun (fun q => q.opc == 0x0103) e (t.mbx.deferred.length + 1) t
  else t

/-- STANDSTILL_HOLD_EXPIRY (R341). -/
def doStandstillHoldExpiry (e : Env) (s : State) : State :=
  let s := atTime e.t s
  match s.mbx.standstill with
  | some t => if t ≤ s.now then settled e withdrawStandstill s else s
  | none => s

/-- DEFER_EXPIRED (R322, R333): DETAIL1 is the reason of the last failed check. -/
def doDeferExpired (ch tag t : Nat) (s : State) : State :=
  let s := atTime t s
  match s.mbx.deferred.find? (fun q => q.d.ch == ch && q.d.tag == tag && decide (q.deadline ≤ s.now)) with
  | some q => s |> dropDeferred q |> complete (cplOf q.opc q.d true) 12 0 q.reason
  | none => s

/-! ### Taking a descriptor (R314) -/

/-- S0 may take a descriptor of the channel: one stands there, the channel does not wait (R313), and no reset of it is
in progress (R323). -/
def mayTake (s : State) (c : Nat) : Bool :=
  serves s c && rd s (Reg.HIF_MB_CMDRP_COUNT c) != rd s (Reg.HIF_MB_CMDWP_WP c) && !channelWaits s c &&
    !rdb s (Reg.HIF_MB_CTRL_RESET c)

/-- The descriptor at the head of a channel. -/
def headOf (s : State) (c : Nat) : Bytes := ldBytes s (cmdSlotAddr c (rd s (Reg.HIF_MB_CMDRP_COUNT c))) 64

/-- The round-robin order, starting after the channel served last. -/
def robin (last : Nat) : List Nat :=
  let order := [4, 1, 0, 2, 3]
  match order.findIdx? (· == last) with
  | some i => order.drop (i + 1) ++ order.take (i + 1)
  | none => order

/-- The channel that S0 takes from next: class 0x04 or 0x06 at a head first, lowest channel first. -/
def nextChannel (s : State) : Option Nat :=
  match (List.range 5).find? (fun c => mayTake s c && (byteAt (headOf s c) 1 == 4 || byteAt (headOf s c) 1 == 6)) with
  | some c => some c
  | none => (robin s.mbx.last).find? (mayTake s)

/-- The descriptor of R307 in 64 bytes. -/
def parseDesc (ch slot : Nat) (b : Bytes) : Desc :=
  { ch := ch, slot := slot, tag := leAt b 2 2, flags := leAt b 4 2, len := leAt b 6 2,
    params := padTo 44 (b.drop 8), deadline := leAt b 0x34 4, atag := leAt b 0x38 8 }

/-- Status that the checks give a descriptor, 0 where it runs: what the dump's log of descriptors holds (R503). -/
def checkStatus (opc : Nat) (d : Desc) (s : State) : Nat :=
  match cmdOf opc with
  | none => if soundDesc [(0, 44)] d then 2 else 3
  | some (c, r) =>
    if !soundDesc c.used d then 3
    else if !channelOk r s d.ch then 2
    else if authAsked r d && !(dAuth d && tagOk r.opc d s) then 4
    else match judge c r d s with
      | .bad => 3
      | .held st _ => if dDefer d && (deferredOf s d.ch).length < 4 && s.dev.state != .halt then 6 else st
      | .done => 0
      | .run => 0

/-- The log entry of a descriptor taken. -/
def logTake (b : Bytes) (ch status : Nat) (s : State) : State :=
  let e := padTo 0x38 b ++ leBytes 1 ch ++ leBytes 1 status ++ [0, 0] ++ leBytes 4 (rd s Reg.RAS_FCNT_FCNT)
  let l := s.dump.log ++ [e]
  { s with dump := { s.dump with log := l.drop (l.length - 64) } }

/-- DESCRIPTOR_TAKE (R314). -/
def doDescriptorTake (e : Env) (s : State) : State :=
  let s := atTime e.t s
  match nextChannel s with
  | none => s
  | some c =>
    let b := headOf s c
    let k := rd s (Reg.HIF_MB_CMDRP_COUNT c)
    let d := parseDesc c (k % 64) b
    let opc := leAt b 0 2
    let s := { s with mbx := { s.mbx with last := c } } |> wr (Reg.HIF_MB_CMDRP_COUNT c) (k + 1)
      |> logTake b c (checkStatus opc d s)
    match cmdOf opc with
    | some (cmd, _) => if cmd.opc = 0x0105 then standstillRow d e s else serveRow cmd d e s
    | none => serveUnknown opc d e s

/-! ### The meanings of the rows -/

/-- BINDING_LOAD (R373). -/
def execBindingLoad (e : Env) (s : State) : Out :=
  .next (settled e (doBindingLoad e) s)

/-- LIGHT_REQ_RISE (R38). -/
def execLightReqRise (e : Env) (s : State) : Out :=
  .next (settled e (doLightReqRise e) s)

/-- LIGHT_REQ_FALL (R38). -/
def execLightReqFall (e : Env) (s : State) : Out :=
  .next (settled e (doLightReqFall e) s)

/-- SAFE_IN_N_FALL (R428). -/
def execSafeInNFall (e : Env) (s : State) : Out :=
  .next (settled e (doSafeInNFall e) s)

/-- START_TESTS_DONE (R410). -/
def execStartTestsDone (e : Env) (failStep : Nat) (s : State) : Out :=
  .next (settled e (doStartTestsDone e failStep) s)

/-- CONTENT_START (R138). -/
def execContentStart (e : Env) (s : State) : Out :=
  .next (settled e (fun s => serveTipWaits (doContentStart e s)) s)

/-- DESCRIPTOR_TAKE (R314). -/
def execDescriptorTake (e : Env) (s : State) : Out :=
  .next (doDescriptorTake e s)

/-- DEFER_EXPIRED (R322). -/
def execDeferExpired (ch tag t : Nat) (s : State) : Out :=
  .next (doDeferExpired ch tag t s)

/-- STATE_GET (R338). -/
def execStateGet (d : Desc) (e : Env) (s : State) : Out :=
  .next (serveRow cmdStateGet d e s)

/-- PERF_SET (R339). -/
def execPerfSet (d : Desc) (e : Env) (s : State) : Out :=
  .next (serveRow cmdPerfSet d e s)

/-- SERVICE_ENTER (R340). -/
def execServiceEnter (d : Desc) (e : Env) (s : State) : Out :=
  .next (serveRow cmdServiceEnter d e s)

/-- SERVICE_EXIT (R340). -/
def execServiceExit (d : Desc) (e : Env) (s : State) : Out :=
  .next (serveRow cmdServiceExit d e s)

/-- STANDSTILL_SET (R341). -/
def execStandstillSet (d : Desc) (e : Env) (s : State) : Out :=
  .next (standstillRow d e s)

/-- STANDSTILL_HOLD_EXPIRY (R341). -/
def execStandstillHoldExpiry (e : Env) (s : State) : Out :=
  .next (doStandstillHoldExpiry e s)

/-- LIGHT_ON (R342). -/
def execLightOn (d : Desc) (e : Env) (s : State) : Out :=
  .next (serveRow cmdLightOn d e s)

/-- LIGHT_OFF (R343). -/
def execLightOff (d : Desc) (e : Env) (s : State) : Out :=
  .next (serveRow cmdLightOff d e s)

/-- RESET (R344). -/
def execReset (d : Desc) (e : Env) (s : State) : Out :=
  .next (serveRow cmdReset d e s)

/-- SLEEP (R344). -/
def execSleep (d : Desc) (e : Env) (s : State) : Out :=
  .next (serveRow cmdSleep d e s)

/-- HANDSHAKE_ANSWER (R466). -/
def execHandshakeAnswer (block ans code t : Nat) (s : State) : Out :=
  .next (settledFree (doHandshakeAnswer block ans code t) s)

/-- HANDSHAKE_DELAY_EXPIRY (R466). -/
def execHandshakeDelayExpiry (block t : Nat) (s : State) : Out :=
  .next (settledFree (doHandshakeDelayExpiry block t) s)

/-- BINDING_INFO (R338). -/
def execBindingInfo (d : Desc) (e : Env) (s : State) : Out :=
  .next (serveRow cmdBindingInfo d e s)

/-- TIPIN_SELECT (R376). -/
def execTipinSelect (d : Desc) (e : Env) (s : State) : Out :=
  .next (serveRow cmdTipinSelect d e s)

/-- IMAGE_BEGIN (R346). -/
def execImageBegin (d : Desc) (e : Env) (s : State) : Out :=
  .next (serveRow cmdImageBegin d e s)

/-- IMAGE_DATA (R346). -/
def execImageData (d : Desc) (e : Env) (s : State) : Out :=
  .next (serveRow cmdImageData d e s)

/-- IMAGE_END (R347). -/
def execImageEnd (d : Desc) (e : Env) (s : State) : Out :=
  .next (serveRow cmdImageEnd d e s)

/-- STREAM_STATUS (R338). -/
def execStreamStatus (d : Desc) (e : Env) (s : State) : Out :=
  .next (serveRow cmdStreamStatus d e s)

/-- DIRECT_SET (R348). -/
def execDirectSet (d : Desc) (e : Env) (s : State) : Out :=
  .next (serveRow cmdDirectSet d e s)

/-- ZONE_PUT (R349). -/
def execZonePut (d : Desc) (e : Env) (s : State) : Out :=
  .next (serveRow cmdZonePut d e s)

/-- ZONE_GATHER_TIMEOUT (R349). -/
def execZoneGatherTimeout (ch : Nat) (s : State) : Out :=
  .next (doZoneGatherTimeout ch s)

/-- ZONE_CLEAR_ALL (R351). -/
def execZoneClearAll (d : Desc) (e : Env) (s : State) : Out :=
  .next (serveRow cmdZoneClearAll d e s)

/-- ZONE_STATUS (R338). -/
def execZoneStatus (d : Desc) (e : Env) (s : State) : Out :=
  .next (serveRow cmdZoneStatus d e s)

/-- GLYPH_LOAD (R352). -/
def execGlyphLoad (d : Desc) (e : Env) (s : State) : Out :=
  .next (serveRow cmdGlyphLoad d e s)

/-- GLYPH_PLACE (R352). -/
def execGlyphPlace (d : Desc) (e : Env) (s : State) : Out :=
  .next (serveRow cmdGlyphPlace d e s)

/-- GLYPH_HIDE (R352). -/
def execGlyphHide (d : Desc) (e : Env) (s : State) : Out :=
  .next (serveRow cmdGlyphHide d e s)

/-- ENVSCALE_SET (R334). -/
def execEnvscaleSet (d : Desc) (e : Env) (s : State) : Out :=
  .next (serveRow cmdEnvscaleSet d e s)

/-- MESH_SELECT (R334). -/
def execMeshSelect (d : Desc) (e : Env) (s : State) : Out :=
  .next (serveRow cmdMeshSelect d e s)

/-- PITCH_UPDATE (R353). -/
def execPitchUpdate (d : Desc) (e : Env) (s : State) : Out :=
  .next (serveRow cmdPitchUpdate d e s)

/-- LEVEL_STATUS (R338). -/
def execLevelStatus (d : Desc) (e : Env) (s : State) : Out :=
  .next (serveRow cmdLevelStatus d e s)

/-- COMMIT (R354). -/
def execCommit (d : Desc) (e : Env) (s : State) : Out :=
  .next (serveRow cmdCommit d e s)

/-- TIMING_SET (R355). -/
def execTimingSet (d : Desc) (e : Env) (s : State) : Out :=
  .next (serveRow cmdTimingSet d e s)

/-- PHASE_SET (R355). -/
def execPhaseSet (d : Desc) (e : Env) (s : State) : Out :=
  .next (serveRow cmdPhaseSet d e s)

/-- FRAME_GET (R338). -/
def execFrameGet (d : Desc) (e : Env) (s : State) : Out :=
  .next (serveRow cmdFrameGet d e s)

/-- CAL_STATUS (R338). -/
def execCalStatus (d : Desc) (e : Env) (s : State) : Out :=
  .next (serveRow cmdCalStatus d e s)

/-- CAL_ROUND (R356). -/
def execCalRound (d : Desc) (e : Env) (s : State) : Out :=
  .next (serveRow cmdCalRound d e s)

/-- CAL_RESET_LANE (R357). -/
def execCalResetLane (d : Desc) (e : Env) (s : State) : Out :=
  .next (serveRow cmdCalResetLane d e s)

/-- WEAR_PASS (R356). -/
def execWearPass (d : Desc) (e : Env) (s : State) : Out :=
  .next (serveRow cmdWearPass d e s)

/-- DIAG_SUMMARY (R338). -/
def execDiagSummary (d : Desc) (e : Env) (s : State) : Out :=
  .next (serveRow cmdDiagSummary d e s)

/-- PIXEL_QUERY (R338). -/
def execPixelQuery (d : Desc) (e : Env) (s : State) : Out :=
  .next (serveRow cmdPixelQuery d e s)

/-- GROUP_STATUS (R338). -/
def execGroupStatus (d : Desc) (e : Env) (s : State) : Out :=
  .next (serveRow cmdGroupStatus d e s)

/-- WINDOW_MAP (R358). -/
def execWindowMap (d : Desc) (e : Env) (s : State) : Out :=
  .next (serveRow cmdWindowMap d e s)

/-- REC_STATUS (R338). -/
def execRecStatus (d : Desc) (e : Env) (s : State) : Out :=
  .next (serveRow cmdRecStatus d e s)

/-- DUMP_CLEAR (R505). -/
def execDumpClear (d : Desc) (e : Env) (s : State) : Out :=
  .next (serveRow cmdDumpClear d e s)

/-- CKU_SCAN (R358). -/
def execCkuScan (d : Desc) (e : Env) (s : State) : Out :=
  .next (serveRow cmdCkuScan d e s)

/-- TIME_GET (R338). -/
def execTimeGet (d : Desc) (e : Env) (s : State) : Out :=
  .next (serveRow cmdTimeGet d e s)

/-- DOMAIN_SELECT (R359). -/
def execDomainSelect (d : Desc) (e : Env) (s : State) : Out :=
  .next (serveRow cmdDomainSelect d e s)

/-- TTO_ARM (R359). -/
def execTtoArm (d : Desc) (e : Env) (s : State) : Out :=
  .next (serveRow cmdTtoArm d e s)

/-- RTC_ALARM (R338). -/
def execRtcAlarm (d : Desc) (e : Env) (s : State) : Out :=
  .next (serveRow cmdRtcAlarm d e s)

/-- FAULT_GET (R338). -/
def execFaultGet (d : Desc) (e : Env) (s : State) : Out :=
  .next (serveRow cmdFaultGet d e s)

/-- FAULT_CLEAR (R360). -/
def execFaultClear (d : Desc) (e : Env) (s : State) : Out :=
  .next (serveRow cmdFaultClear d e s)

/-- SEVERITY_SET (R361). -/
def execSeveritySet (d : Desc) (e : Env) (s : State) : Out :=
  .next (serveRow cmdSeveritySet d e s)

/-- FENDER_STATUS (R338). -/
def execFenderStatus (d : Desc) (e : Env) (s : State) : Out :=
  .next (serveRow cmdFenderStatus d e s)

/-- FALLBACK_OFF (R361). -/
def execFallbackOff (d : Desc) (e : Env) (s : State) : Out :=
  .next (serveRow cmdFallbackOff d e s)

/-- SAFE_TEST (R361). -/
def execSafeTest (d : Desc) (e : Env) (s : State) : Out :=
  .next (serveRow cmdSafeTest d e s)

/-- LANE_STATUS (R338). -/
def execLaneStatus (d : Desc) (e : Env) (s : State) : Out :=
  .next (serveRow cmdLaneStatus d e s)

/-- LANE_TRAIN (R362). -/
def execLaneTrain (d : Desc) (e : Env) (s : State) : Out :=
  .next (serveRow cmdLaneTrain d e s)

/-- LANE_TEST (R362). -/
def execLaneTest (d : Desc) (e : Env) (s : State) : Out :=
  .next (serveRow cmdLaneTest d e s)

/-- TILE_SET (R363). -/
def execTileSet (d : Desc) (e : Env) (s : State) : Out :=
  .next (serveRow cmdTileSet d e s)

/-- TILE_RESUME (R364). -/
def execTileResume (d : Desc) (e : Env) (s : State) : Out :=
  .next (serveRow cmdTileResume d e s)

/-- TILE_REFSEL (R364). -/
def execTileRefsel (d : Desc) (e : Env) (s : State) : Out :=
  .next (serveRow cmdTileRefsel d e s)

/-- PAIR_STATUS (R338). -/
def execPairStatus (d : Desc) (e : Env) (s : State) : Out :=
  .next (serveRow cmdPairStatus d e s)

/-- PAIR_HANDOVER (R365). -/
def execPairHandover (d : Desc) (e : Env) (s : State) : Out :=
  .next (serveRow cmdPairHandover d e s)

/-- PTN_DIGEST (R515). -/
def execPtnDigest (d : Desc) (e : Env) (s : State) : Out :=
  .next (serveRow cmdPtnDigest d e s)

/-- PTN_ADOPT (R515). -/
def execPtnAdopt (d : Desc) (e : Env) (s : State) : Out :=
  .next (serveRow cmdPtnAdopt d e s)

/-- PTN_BARRIER (R365). -/
def execPtnBarrier (d : Desc) (e : Env) (s : State) : Out :=
  .next (serveRow cmdPtnBarrier d e s)

/-- LC_GET (R338). -/
def execLcGet (d : Desc) (e : Env) (s : State) : Out :=
  .next (serveRow cmdLcGet d e s)

/-- LC_ADVANCE (R383). -/
def execLcAdvance (d : Desc) (e : Env) (s : State) : Out :=
  .next (serveRow cmdLcAdvance d e s)

/-- FW_SELECT (R366). -/
def execFwSelect (d : Desc) (e : Env) (s : State) : Out :=
  .next (serveRow cmdFwSelect d e s)

/-- TMX_SELECT (R551). -/
def execTmxSelect (d : Desc) (e : Env) (s : State) : Out :=
  .next (serveRow cmdTmxSelect d e s)

/-- LANE_PLL_LOSS (R214). -/
def execLanePllLoss (e : Env) (s : State) : Out :=
  .next (settled e (doLanePllLoss e) s)

/-- FAULT_MESSAGE (R417). -/
def execFaultMessage (e : Env) (m : FMsg) (more : List FMsg) (s : State) : Out :=
  .next (settled e (doFaultMessage e m more) s)

/-- PL_CHANGE_DONE (R465). -/
def execPlChangeDone (s : State) : Out :=
  .next (settledFree (doPlChangeDone) s)

/-- HELLO (R513). -/
def execHello (lane t : Nat) (f : PtnFrame) (s : State) : Out :=
  .next (settledFree (doHello lane t f) s)

/-- HANDOVER (R529). -/
def execHandover (lane t : Nat) (f : PtnFrame) (s : State) : Out :=
  .next (settledFree (doHandover lane t f) s)

/-- TAKEN (R529). -/
def execTaken (lane t : Nat) (f : PtnFrame) (s : State) : Out :=
  .next (settledFree (doTaken lane t f) s)

/-- PARTNER_LINK_LOSS (R516). -/
def execPartnerLinkLoss (t : Nat) (s : State) : Out :=
  .next (settledFree (doPartnerLinkLoss t) s)

/-- WITHDRAW_TIMEOUT (R530). -/
def execWithdrawTimeout (t : Nat) (s : State) : Out :=
  .next (settledFree (doWithdrawTimeout t) s)

/-- HANDSHAKE_NOANSWER (R467). -/
def execHandshakeNoanswer (block t : Nat) (s : State) : Out :=
  .next (settledFree (doHandshakeNoanswer block t) s)

end Sys2Proof.Machine
end

