-- ==== Sys2Proof/Machine/RegWrite.lean ====
section
/-! DEFINITION. Writes by S0 and S1 to the stoker address map: who may write where (R16 to R18, R26 to R28, R178, R437
to R439), and what a register write does by field type and LOCK bit (R11 to R13). -/

namespace Sys2Proof.Machine

/-- The LOCK bit that covers the register at a peripheral address; none where its block holds none. -/
def lockOf (a : Nat) : Option Fld :=
  match blockOf a with
  | 0x00 => some Reg.PWC_CTRL_LOCK
  | 0x01 => some Reg.THM_CTRL_LOCK
  | 0x02 => some Reg.ITC_CTRL_LOCK
  | 0x03 => some Reg.FCL_CTRL_LOCK
  | 0x05 => some Reg.GTE_CTRL_LOCK
  | 0x07 => some Reg.ZNE_CTRL_LOCK
  | 0x08 => some Reg.COR_CTRL_LOCK
  | 0x09 => some Reg.SWP_CTRL_LOCK
  | 0x0A => some Reg.TLK_CTRL_LOCK
  | 0x0B => some Reg.TPR_CTRL_LOCK
  | 0x0C => some Reg.ETH_CTRL_LOCK
  | 0x0D => some Reg.NTM_CTRL_LOCK
  | 0x0E => if a % 0x10000 < 0x200 then some Reg.HIF_LINKCTRL_LOCK else none
  | 0x0F => some Reg.EVR_CTRL_LOCK
  | 0x10 => some Reg.MRC_CTRL_LOCK
  | 0x13 => some Reg.SNS_CTRL_LOCK
  | 0x14 => some Reg.PTN_CTRL_LOCK
  | 0x16 => some Reg.SEC_CTRL_LOCK
  | _ => none

/-- The RWL fields at an address are read-only. -/
def lockedAt (s : State) (a : Nat) : Bool := match lockOf a with | some f => rdb s f | none => false

/-- The owning block reports a write to a locked field (R13, R416). -/
def lockedWrite (a : Nat) (s : State) : State := raise ((blockOf a + 1) * 16 + 15) (a % 65536) s

/-- Number of a field in an array of `n`. -/
def fldIndex (n : Nat) (g : Nat → Fld) (f : Fld) : Option Nat := (List.range n).find? (fun i => sameFld f (g i))

/-! ### Fields whose write is an event of its own row -/

/-- Fields of RAS, ZNE, COR, TLK and TPR. DARKROW is the fender's. -/
def pipeEvent (f : Fld) (w : Nat) (s : State) : Option State :=
  let v := bits w f.lo f.width
  let go := fun (g : State → State) => some (when (v != 0) g s)
  if sameFld f Reg.RAS_COMMIT_GO then go doCommitGoWrite
  else if sameFld f Reg.RAS_COMMIT_CANCEL then go doCommitCancel
  else if sameFld f Reg.RAS_PHASE_PHASE_NS then some (doPhaseWrite (BitVec.ofNat 32 w) s)
  else if sameFld f Reg.ZNE_PUBLISH_COUNT then some (doZnePublish (BitVec.ofNat 32 w) s.now s)
  else if sameFld f Reg.COR_UPD_DATA_DATA then some (doUpdDataWrite v s)
  else if sameFld f Reg.COR_UPD_CTRL_AT_EN then some (doAtEnWrite (v != 0) s)
  else if sameFld f Reg.TPR_SNAP_REQ then go (doSnapReq (bits w 0 8))
  else if sameFld f Reg.TPR_CMDQ_PUSH then go (doCmdqPush (bit w 30) (bits w 24 6) (bits w 16 8) (bits w 0 9))
  else if sameFld f Reg.TPR_BCAST_OP then
    let (all, lane, cause) := (bit w 8, bits w 0 6, bits w 24 8)
    some (if v = 1 then doBcastPlate all lane cause s else if v = 2 then doBcastCoast all lane cause s
      else if v = 3 then doBcastWipe all lane cause s else s)
  else if f.addr == Reg.TPR_DARKROW_GO.addr then some s
  else (fldIndex 64 Reg.TPR_TL_STATUS_INSERV f).map (fun n =>
    when (v != rd s f) (doInservWrite n (v != 0)) s)

/-- Fields of TLK.LNn_CTRL: what a write changes acts; a value that the field holds changes nothing (log entry 45). -/
def laneEvent (f : Fld) (w : Nat) (s : State) : Option State :=
  if f.addr < 0x400A0100 || 0x400A0940 ≤ f.addr then none
  else
    let n := (f.addr - 0x400A0100) / 0x20
    let v := bits w f.lo f.width
    let set := fun (g : State → State) => some (when (v != rd s f) g s)
    if sameFld f (Reg.TLK_LN_CTRL_TX_ON n) then set (doTxOnWrite n (v != 0))
    else if sameFld f (Reg.TLK_LN_CTRL_RX_ON n) then set (doRxOnWrite n (v != 0))
    else if sameFld f (Reg.TLK_LN_CTRL_LB n) then set (doLoopbackWrite n v)
    else if sameFld f (Reg.TLK_LN_CTRL_PRBS n) then set (doPrbsWrite n v)
    else if sameFld f (Reg.TLK_LN_CTRL_TRAIN n) then some (when (v != 0) (doTlkTrainWrite n) s)
    else if sameFld f (Reg.TLK_LN_CTRL_SLIP n) then some (when (v != 0) (doSlipWrite n) s)
    else none

/-- Fields of NTM and HIF. -/
def linkEvent (who : Master) (f : Fld) (w : Nat) (s : State) : Option State :=
  let v := bits w f.lo f.width
  let go := fun (g : State → State) => some (when (v != 0) g s)
  let n := (f.addr - 0x400D0100) / 0x80
  let o := (f.addr - 0x400D0200) / 0x20
  let c := (f.addr - 0x400E0200) / 0x40
  if f.addr < 0x400D0000 || 0x400F0000 ≤ f.addr then none
  else if sameFld f Reg.NTM_CTRL_ACTIVE then some (when (v != rd s f) (doActiveDomainWrite v s.now) s)
  else if sameFld f Reg.NTM_SNAP_GO then go (doNtmSnap s.now)
  else if sameFld f (Reg.NTM_D_STATE_STATE n) then some (doDomainStateWrite n v s.now s)
  else if sameFld f (Reg.NTM_D_APPLY_SET n) then go (doNtmApplySet n s.now)
  else if sameFld f (Reg.NTM_D_APPLY_STEP n) then go (doNtmApplyStep n s.now)
  else if sameFld f (Reg.NTM_TTO_CTRL_EN o) then some (doTtoArmWrite o (BitVec.ofNat 32 w) s.now s)
  else if sameFld f (Reg.HIF_MB_CMDWP_WP c) then some (doDoorbell who c v s)
  else if sameFld f (Reg.HIF_MB_CPLRP_RP c) then some (doCplrpWrite who c v s)
  else if sameFld f (Reg.HIF_MB_CTRL_RESET c) then go (doChannelReset who c)
  else if sameFld f Reg.HIF_MB_IRQ_PEND then some (doPendClear who v s)
  else none

/-- Fields of ITC. S1 writes the registers of T1 but RUN, and the bits of sources that POLICY.SRC grants (R447, R452);
its other writes do nothing. -/
def itcEvent (who : Master) (f : Fld) (w : Nat) (s : State) : Option State :=
  if f.addr < 0x40020000 || 0x40030000 ≤ f.addr then none
  else
    let b : Word := BitVec.ofNat 32 w
    let v := bits w f.lo f.width
    let t := (f.addr - 0x40020100) / 0x40
    let i := (f.addr % 0x20) / 4
    if sameFld f (Reg.ITC_SETP_MAP i) then some (doSetpWrite who i b s)
    else if sameFld f (Reg.ITC_CLRP_MAP i) then some (doClrpWrite who i b s)
    else if sameFld f (Reg.ITC_EN_MAP i) then some (enWrite who i w s)
    else if 0x40020400 ≤ f.addr && f.addr < 0x40020800 then
      some (if f.lo = 0 then doSrcTargetWrite who ((f.addr - 0x40020400) / 4) b s else s)
    else if who == .s1 && t != 1 then some s
    else if sameFld f (Reg.ITC_T_CTRL_RUN t) then some (when (t == 1 && v != rd s f) (doS1RunWrite who (v != 0)) s)
    else if sameFld f (Reg.ITC_T_WDOG_MS t) then some (doWdogEnWrite t b s.now s)
    else if sameFld f (Reg.ITC_T_WDOG_EN t) then some s
    else if sameFld f (Reg.ITC_T_WDKICK_KICK t) then some (doWdkick t v s.now s)
    else none

/-- The hold-up that a burst from MRC.WGO measures is open (log entry 5). -/
def wgoWrite (s : State) : State :=
  let (v, s) := freeBelow 65536 s
  doMrcWgoWrite ⟨s.now, v⟩ s

/-- A test-multiplexer selection (R551). -/
def tmxWrite (f : Fld) (v : Nat) (s : State) : State :=
  if tmxWithheld s v then wr Reg.TMX_STATUS_DENIED 1 s else wr f v s

/-- Fields of FCL, PWC, MRC, CKU and TMX. -/
def sysEvent (who : Master) (f : Fld) (w : Nat) (s : State) : Option State :=
  let v := bits w f.lo f.width
  let go := fun (g : State → State) => some (when (v != 0) g s)
  let n := (f.addr - 0x40110000) / 0x10000
  if sameFld f Reg.FCL_CTRL_CLEAR then go doFclClearWrite
  else if sameFld f Reg.PWC_DOMOFF_MAP then some (doDomoffWrite v s.now s)
  else if sameFld f Reg.PWC_SLEEP_GO then go (doSleepGo s.now)
  else if sameFld f Reg.PWC_PADREL_REL then go doPadrelWrite
  else if sameFld f Reg.PWC_P_FB_OFFREQ then go doFbOffreqWrite
  else if sameFld f Reg.MRC_WGO_GO then go wgoWrite
  else if sameFld f Reg.TMX_SEL0_SIGNAL || sameFld f Reg.TMX_SEL1_SIGNAL then some (tmxWrite f v s)
  else if sameFld f (Reg.CKU_CTRL_GO n) then go (doCkuGo who n)
  else if sameFld f (Reg.CKU_CTRL_INIT n) then go (doCkuInitWrite n)
  else if sameFld f (Reg.CKU_DATA_VALUE n) then some (doCkuDataWrite n (BitVec.ofNat 32 w) s)
  else none

/-- What a write to a field with an event of its own does. -/
def fieldEvent (who : Master) (f : Fld) (w : Nat) (s : State) : Option State :=
  match pipeEvent f w s with
  | some t => some t
  | none =>
    match laneEvent f w s with
    | some t => some t
    | none =>
      match linkEvent who f w s with
      | some t => some t
      | none =>
        match itcEvent who f w s with
        | some t => some t
        | none => sysEvent who f w s

/-! ### By field type (R11 to R13) -/

/-- A field that holds a value takes its part of the word by its type. -/
def valueWrite (locked : Bool) (who : Master) (w : Nat) (f : Fld × FTy) (s : State) : State :=
  match f.2 with
  | .rw => (fieldEvent who f.1 w s).getD (putField f.1 w s)
  | .rwl => if locked then s else putField f.1 w s
  | .w1c => (fieldEvent who f.1 w s).getD (wr f.1 (andNot (rd s f.1) (bits w f.1.lo f.1.width) f.1.width) s)
  | .ro | .wo | .w1s => s

/-- A field whose write asks for something; the LOCK bit is set after all the others (R12). -/
def strobeWrite (who : Master) (w : Nat) (f : Fld × FTy) (s : State) : State :=
  match f.2 with
  | .wo => (fieldEvent who f.1 w s).getD s
  | .w1s =>
    if lockOf f.1.addr == some f.1 then s
    else (fieldEvent who f.1 w s).getD (wr f.1 (rd s f.1 ||| bits w f.1.lo f.1.width) s)
  | .rw | .rwl | .w1c | .ro => s

/-- An RWL field of the register would receive another value than it holds. -/
def rwlDiffers (s : State) (w : Nat) (fs : List (Fld × FTy)) : Bool :=
  fs.any (fun f => f.2 == .rwl && bits w f.1.lo f.1.width != rd s f.1)

/-- What follows a register's new value at once. -/
def afterWrite (a : Nat) (s : State) : State :=
  if a = Reg.PWC_TGEN_EN.addr then supplyUp s
  else if a = Reg.PWC_PLREQ_LIT.addr then relevel s
  else if a = Reg.HIF_MB_IRQ_EN.addr then setIrqPin s
  else if a = Reg.ZNE_ZSEL_ZID.addr then setZview s
  else if a = Reg.GTE_TILESEL_LANE.addr then setTileview s
  else if blockOf a = 0x11 then setCkuResult 0 s
  else if blockOf a = 0x12 then setCkuResult 1 s
  else s

/-- A write of word `w` to the register at `a`, whose fields are `fs`. -/
def fieldsWrite (who : Master) (a w : Nat) (fs : List (Fld × FTy)) (s : State) : State :=
  let locked := lockedAt s a
  s |> when (locked && rwlDiffers s w fs) (lockedWrite a)
    |> forEach fs (valueWrite locked who w)
    |> settleFields fs
    |> forEach fs (strobeWrite who w)
    |> (match lockOf a with
        | some f => when (f.addr == a && bit w f.lo) (setLock f)
        | none => id)
    |> afterWrite a

/-! ### Table windows (R155, R186, R242) -/

/-- A write to COR's table windows: unlocked, the used halfwords take it. -/
def corTableWrite (a w : Nat) (s : State) : State :=
  let o := a - 0x40080000
  let half := fun (k : Nat) (s : State) =>
    when (corUsed (o + k)) (stBytes (a + k) (leBytes 2 (bits w (8 * k) 16))) s
  let differs := (corUsed o && ld16 s a != bits w 0 16) || (corUsed (o + 2) && ld16 s (a + 2) != bits w 16 16)
  if lockedAt s a then when differs (lockedWrite a) s
  else s |> half 0 |> half 2

/-- A write to a peripheral address; at an offset that holds no register it is ignored (R26). GTW holds GTE's
placement shadows, and shows GTE's other field-wide registers read-only (R126). TPR's payload window lies over the registers of lanes 24 to 39:
a write goes to both (R242, log entry 81). -/
def blockWrite (who : Master) (a w : Nat) (s : State) : State :=
  let b := if 0x40060200 ≤ a && a < 0x40060280 then a - 0x10000 else a
  if 0x40081000 ≤ b && b < 0x40083020 then corTableWrite b w s
  else if 0x40071000 ≤ b && b < 0x40071C00 then stBytes b (leBytes 4 w) s
  else
    let s := when (0x400B0400 ≤ b && b < 0x400B0600) (stBytes b (leBytes 4 w)) s
    match fieldsAt b with
    | some fs => fieldsWrite who b w fs s
    | none => s

/-! ### The stoker map (R16 to R18, R26 to R28, R178, R473, R474) -/

/-- The bus answers an error, and the fabric reports it with the low half of the address. -/
def busError (source a : Nat) (s : State) : State := raise source (a % 65536) s

/-- What S1 may write whatever POLICY holds: the registers of R328. -/
def s1Fixed (a : Nat) : Bool :=
  a == (Reg.HIF_MB_CMDWP_WP 3).addr || a == (Reg.HIF_MB_CPLRP_RP 3).addr || a == (Reg.HIF_MB_CTRL_RESET 3).addr ||
    a == Reg.HIF_MB_IRQ_PEND.addr

/-- An access reaches an on-demand domain: locked it fails, off it is woken, asked to power down it refuses. -/
def reachDomain (a : Nat) (write : State → State) (s : State) : State :=
  match domOfBlock (blockOf a + 1) with
  | some d =>
    let s' := doDomainPowerUp d true s
    if bit (rd s Reg.PWC_DOMLOCK_MAP) d then s' else write s'
  | none => write s

/-- A write to a peripheral block. Through the fixed grant S1 reaches PEND bit 3 of MB_IRQ, not EN. -/
def peripheralWrite (who : Master) (a w : Nat) (s : State) : State :=
  if who == .s1 && s1Right s (blockOf a) != 2 then
    if a = Reg.HIF_MB_IRQ_PEND.addr then doPendClear .s1 (bits w 0 5) s
    else if s1Fixed a then blockWrite who a w s
    else busError 0x001 a s
  else reachDomain a (blockWrite who a w) s

/-- S1 may write an address of the pixel store: a granted window, or a CH3 ring (R305, R437, R439). -/
def s1Store (s : State) (a : Nat) : Bool :=
  s1Page s 1 (a / 65536) || (0x21F06000 ≤ a && a < 0x21F07000)

/-- A write to the pixel store. -/
def storeWrite (who : Master) (a w : Nat) (s : State) : State :=
  if 0x21800000 ≤ a && a < 0x21C00000 && rasterOn s then busError 0x091 a s
  else if who == .s1 && !s1Store s a then busError 0x001 a s
  else psWrite a (leBytes 4 w) s

/-- A write by S0 or S1 of the word at `addr`. -/
def busWrite (who : Master) (addr w : Nat) (s : State) : State :=
  let a := addr / 4 * 4
  let own := fun (write : State → State) => if who == .s1 then busError 0x001 a s else write s
  if a < 0x20000 then own id
  else if 0x10000000 ≤ a && a < 0x10100000 then own (stBytes a (leBytes 4 w))
  else if 0x10100000 ≤ a && a < 0x10200000 then stBytes a (leBytes 4 w) s
  else if 0x20000000 ≤ a && a < 0x22000000 then storeWrite who a w s
  else if 0x40000000 ≤ a && a < 0x40170000 then peripheralWrite who a w s
  else if 0x50000000 ≤ a && a < 0x50010000 then own id
  else busError 0x000 a s

/-- REGISTER_WRITE (R13, R16 to R18, R26, R27, R178): the host and the fender reach nothing of the stoker map this
way. -/
def doRegisterWrite (who : Master) (addr : Nat) (v : Word) (s : State) : State :=
  if !mainOn s.dev.state then s
  else match who with
    | .s0 | .s1 => busWrite who addr v.toNat s
    | .fender | .host => s

/-- LOCK_SET (R12): a write whose word sets a block's LOCK bit. -/
def doLockSet (who : Master) (addr : Nat) (v : Word) (s : State) : State :=
  match lockOf (addr / 4 * 4) with
  | some f => if f.addr == addr / 4 * 4 && bit v.toNat f.lo then doRegisterWrite who addr v s else s
  | none => s

/-! ### The meanings of the rows -/

/-- REGISTER_WRITE (R13). -/
def execRegisterWrite (who : Master) (addr : Nat) (v : Word) (s : State) : Out :=
  .next (doRegisterWrite who addr v s)

/-- LOCK_SET (R12). -/
def execLockSet (who : Master) (addr : Nat) (v : Word) (s : State) : Out :=
  .next (doLockSet who addr v s)

end Sys2Proof.Machine
end

