-- ==== Sys2Proof/Machine/Dispatch.lean ====
section
/-! DEFINITION. The dispatch of a command to its meaning: one arm per row of spec/opcode_table.json. -/

namespace Sys2Proof.Machine

/-- The effect of a command on everything but the queue. -/
def exec (i : Instr) (s : State) : Host.Outcome State Fault Refusal :=
  match i with
  | .vpilotEnterRange pairId => Sys2Proof.Machine.execVpilotEnterRange pairId s
  | .vpilotLeaveRange => Sys2Proof.Machine.execVpilotLeaveRange s
  | .porstNLow => Sys2Proof.Machine.execPorstNLow s
  | .porstNRise lowForMs => Sys2Proof.Machine.execPorstNRise lowForMs s
  | .pgCoreRise => Sys2Proof.Machine.execPgCoreRise s
  | .pgCoreFall => Sys2Proof.Machine.execPgCoreFall s
  | .pgCoreTimeout => Sys2Proof.Machine.execPgCoreTimeout s
  | .wakeRetryDelay => Sys2Proof.Machine.execWakeRetryDelay s
  | .refStable => Sys2Proof.Machine.execRefStable s
  | .refTimeout => Sys2Proof.Machine.execRefTimeout s
  | .refRetry runs => Sys2Proof.Machine.execRefRetry runs s
  | .refStop => Sys2Proof.Machine.execRefStop s
  | .bootEntry t pairId => Sys2Proof.Machine.execBootEntry t pairId s
  | .bootRomChecks => Sys2Proof.Machine.execBootRomChecks s
  | .bindingLoad e => Sys2Proof.Machine.execBindingLoad e s
  | .lightReqRise e => Sys2Proof.Machine.execLightReqRise e s
  | .lightReqFall e => Sys2Proof.Machine.execLightReqFall e s
  | .fb0LightTimer mid => Sys2Proof.Machine.execFb0LightTimer mid s
  | .wakeInput => Sys2Proof.Machine.execWakeInput s
  | .rtcAlarmMatch => Sys2Proof.Machine.execRtcAlarmMatch s
  | .rtcTick => Sys2Proof.Machine.execRtcTick s
  | .recoveryTimer => Sys2Proof.Machine.execRecoveryTimer s
  | .safeInNFall e => Sys2Proof.Machine.execSafeInNFall e s
  | .safeInNRise => Sys2Proof.Machine.execSafeInNRise s
  | .hostAwakeFall => Sys2Proof.Machine.execHostAwakeFall s
  | .hostAwakeRise => Sys2Proof.Machine.execHostAwakeRise s
  | .hostAwakeRelease => Sys2Proof.Machine.execHostAwakeRelease s
  | .startTestsDone e failStep => Sys2Proof.Machine.execStartTestsDone e failStep s
  | .lineStart t => Sys2Proof.Machine.execLineStart t s
  | .commitSample => Sys2Proof.Machine.execCommitSample s
  | .contentStart e => Sys2Proof.Machine.execContentStart e s
  | .tileLineRender east line clocks backlog => Sys2Proof.Machine.execTileLineRender east line clocks backlog s
  | .renderDeadlineMiss east line => Sys2Proof.Machine.execRenderDeadlineMiss east line s
  | .broadcastSlot t imeas => Sys2Proof.Machine.execBroadcastSlot t imeas s
  | .rasEvtFire n => Sys2Proof.Machine.execRasEvtFire n s
  | .commitGoWrite => Sys2Proof.Machine.execCommitGoWrite s
  | .commitCancel => Sys2Proof.Machine.execCommitCancel s
  | .phaseWrite v => Sys2Proof.Machine.execPhaseWrite v s
  | .fcntRead => Sys2Proof.Machine.execFcntRead s
  | .avtpPacket port t p => Sys2Proof.Machine.execAvtpPacket port t p s
  | .baseStaleTimer t => Sys2Proof.Machine.execBaseStaleTimer t s
  | .hatchCmd h descs => Sys2Proof.Machine.execHatchCmd h descs s
  | .hatchRead h count resv => Sys2Proof.Machine.execHatchRead h count resv s
  | .hatchWrite h data => Sys2Proof.Machine.execHatchWrite h data s
  | .spiRead hdr cut => Sys2Proof.Machine.execSpiRead hdr cut s
  | .spiWrite hdr data dcrc cut => Sys2Proof.Machine.execSpiWrite hdr data dcrc cut s
  | .canBeamFrame id ext data => Sys2Proof.Machine.execCanBeamFrame id ext data s
  | .canStatusFrame => Sys2Proof.Machine.execCanStatusFrame s
  | .canBusoff => Sys2Proof.Machine.execCanBusoff s
  | .canBusoffRecovery => Sys2Proof.Machine.execCanBusoffRecovery s
  | .ethLink port rate => Sys2Proof.Machine.execEthLink port rate s
  | .gptpFrame port t tx => Sys2Proof.Machine.execGptpFrame port t tx s
  | .arpRequest port senderIp senderMac targetIp => Sys2Proof.Machine.execArpRequest port senderIp senderMac targetIp s
  | .icmpEcho port srcIp dstIp payload => Sys2Proof.Machine.execIcmpEcho port srcIp dstIp payload s
  | .ntmApplyStep n t => Sys2Proof.Machine.execNtmApplyStep n t s
  | .ntmApplySet n t => Sys2Proof.Machine.execNtmApplySet n t s
  | .activeDomainWrite n t => Sys2Proof.Machine.execActiveDomainWrite n t s
  | .domainStateWrite n st t => Sys2Proof.Machine.execDomainStateWrite n st t s
  | .ntmSnap t => Sys2Proof.Machine.execNtmSnap t s
  | .ttoArmWrite n v t => Sys2Proof.Machine.execTtoArmWrite n v t s
  | .ttoEdge n t => Sys2Proof.Machine.execTtoEdge n t s
  | .ppsCapture t => Sys2Proof.Machine.execPpsCapture t s
  | .ppsRawLoRead => Sys2Proof.Machine.execPpsRawLoRead s
  | .doorbell who ch v => Sys2Proof.Machine.execDoorbell who ch v s
  | .cplrpWrite who ch v => Sys2Proof.Machine.execCplrpWrite who ch v s
  | .descriptorTake e => Sys2Proof.Machine.execDescriptorTake e s
  | .moderationTimer ch => Sys2Proof.Machine.execModerationTimer ch s
  | .deferExpired ch tag t => Sys2Proof.Machine.execDeferExpired ch tag t s
  | .mbxChannelReset who ch => Sys2Proof.Machine.execMbxChannelReset who ch s
  | .pendClear who mask => Sys2Proof.Machine.execPendClear who mask s
  | .stateGet d e => Sys2Proof.Machine.execStateGet d e s
  | .perfSet d e => Sys2Proof.Machine.execPerfSet d e s
  | .serviceEnter d e => Sys2Proof.Machine.execServiceEnter d e s
  | .serviceExit d e => Sys2Proof.Machine.execServiceExit d e s
  | .standstillSet d e => Sys2Proof.Machine.execStandstillSet d e s
  | .standstillHoldExpiry e => Sys2Proof.Machine.execStandstillHoldExpiry e s
  | .lightOn d e => Sys2Proof.Machine.execLightOn d e s
  | .lightOff d e => Sys2Proof.Machine.execLightOff d e s
  | .reset d e => Sys2Proof.Machine.execReset d e s
  | .resetDelay => Sys2Proof.Machine.execResetDelay s
  | .sleep d e => Sys2Proof.Machine.execSleep d e s
  | .sleepGo t => Sys2Proof.Machine.execSleepGo t s
  | .handshakeAnswer block ans code t => Sys2Proof.Machine.execHandshakeAnswer block ans code t s
  | .handshakeDelayExpiry block t => Sys2Proof.Machine.execHandshakeDelayExpiry block t s
  | .sleepEntry => Sys2Proof.Machine.execSleepEntry s
  | .bindingInfo d e => Sys2Proof.Machine.execBindingInfo d e s
  | .tipinSelect d e => Sys2Proof.Machine.execTipinSelect d e s
  | .imageBegin d e => Sys2Proof.Machine.execImageBegin d e s
  | .imageData d e => Sys2Proof.Machine.execImageData d e s
  | .imageEnd d e => Sys2Proof.Machine.execImageEnd d e s
  | .streamStatus d e => Sys2Proof.Machine.execStreamStatus d e s
  | .directSet d e => Sys2Proof.Machine.execDirectSet d e s
  | .zonePut d e => Sys2Proof.Machine.execZonePut d e s
  | .zoneGatherTimeout ch => Sys2Proof.Machine.execZoneGatherTimeout ch s
  | .zoneClearAll d e => Sys2Proof.Machine.execZoneClearAll d e s
  | .zoneStatus d e => Sys2Proof.Machine.execZoneStatus d e s
  | .znePublish v t => Sys2Proof.Machine.execZnePublish v t s
  | .levelStaleTimer t => Sys2Proof.Machine.execLevelStaleTimer t s
  | .glyphLoad d e => Sys2Proof.Machine.execGlyphLoad d e s
  | .glyphPlace d e => Sys2Proof.Machine.execGlyphPlace d e s
  | .glyphHide d e => Sys2Proof.Machine.execGlyphHide d e s
  | .envscaleSet d e => Sys2Proof.Machine.execEnvscaleSet d e s
  | .meshSelect d e => Sys2Proof.Machine.execMeshSelect d e s
  | .pitchUpdate d e => Sys2Proof.Machine.execPitchUpdate d e s
  | .levelStatus d e => Sys2Proof.Machine.execLevelStatus d e s
  | .commit d e => Sys2Proof.Machine.execCommit d e s
  | .timingSet d e => Sys2Proof.Machine.execTimingSet d e s
  | .phaseSet d e => Sys2Proof.Machine.execPhaseSet d e s
  | .frameGet d e => Sys2Proof.Machine.execFrameGet d e s
  | .calStatus d e => Sys2Proof.Machine.execCalStatus d e s
  | .calRound d e => Sys2Proof.Machine.execCalRound d e s
  | .calResetLane d e => Sys2Proof.Machine.execCalResetLane d e s
  | .wearPass d e => Sys2Proof.Machine.execWearPass d e s
  | .diagSummary d e => Sys2Proof.Machine.execDiagSummary d e s
  | .pixelQuery d e => Sys2Proof.Machine.execPixelQuery d e s
  | .groupStatus d e => Sys2Proof.Machine.execGroupStatus d e s
  | .windowMap d e => Sys2Proof.Machine.execWindowMap d e s
  | .recStatus d e => Sys2Proof.Machine.execRecStatus d e s
  | .dumpClear d e => Sys2Proof.Machine.execDumpClear d e s
  | .ckuScan d e => Sys2Proof.Machine.execCkuScan d e s
  | .timeGet d e => Sys2Proof.Machine.execTimeGet d e s
  | .domainSelect d e => Sys2Proof.Machine.execDomainSelect d e s
  | .ttoArm d e => Sys2Proof.Machine.execTtoArm d e s
  | .rtcAlarm d e => Sys2Proof.Machine.execRtcAlarm d e s
  | .faultGet d e => Sys2Proof.Machine.execFaultGet d e s
  | .faultClear d e => Sys2Proof.Machine.execFaultClear d e s
  | .severitySet d e => Sys2Proof.Machine.execSeveritySet d e s
  | .fenderStatus d e => Sys2Proof.Machine.execFenderStatus d e s
  | .fallbackOff d e => Sys2Proof.Machine.execFallbackOff d e s
  | .safeTest d e => Sys2Proof.Machine.execSafeTest d e s
  | .laneStatus d e => Sys2Proof.Machine.execLaneStatus d e s
  | .laneTrain d e => Sys2Proof.Machine.execLaneTrain d e s
  | .laneTest d e => Sys2Proof.Machine.execLaneTest d e s
  | .laneTestEnd n => Sys2Proof.Machine.execLaneTestEnd n s
  | .tileSet d e => Sys2Proof.Machine.execTileSet d e s
  | .tileResume d e => Sys2Proof.Machine.execTileResume d e s
  | .tileRefsel d e => Sys2Proof.Machine.execTileRefsel d e s
  | .pairStatus d e => Sys2Proof.Machine.execPairStatus d e s
  | .pairHandover d e => Sys2Proof.Machine.execPairHandover d e s
  | .ptnDigest d e => Sys2Proof.Machine.execPtnDigest d e s
  | .ptnAdopt d e => Sys2Proof.Machine.execPtnAdopt d e s
  | .ptnBarrier d e => Sys2Proof.Machine.execPtnBarrier d e s
  | .lcGet d e => Sys2Proof.Machine.execLcGet d e s
  | .lcAdvance d e => Sys2Proof.Machine.execLcAdvance d e s
  | .fwSelect d e => Sys2Proof.Machine.execFwSelect d e s
  | .tmxSelect d e => Sys2Proof.Machine.execTmxSelect d e s
  | .lanePllLock => Sys2Proof.Machine.execLanePllLock s
  | .lanePllLoss e => Sys2Proof.Machine.execLanePllLoss e s
  | .tlkTrainWrite n => Sys2Proof.Machine.execTlkTrainWrite n s
  | .tsbReceive n set err => Sys2Proof.Machine.execTsbReceive n set err s
  | .trainAttemptTimeout n => Sys2Proof.Machine.execTrainAttemptTimeout n s
  | .trainIdleEnd n => Sys2Proof.Machine.execTrainIdleEnd n s
  | .rxSyncAcquire n => Sys2Proof.Machine.execRxSyncAcquire n s
  | .laneRxLoss n => Sys2Proof.Machine.execLaneRxLoss n s
  | .laneErrSecond counts => Sys2Proof.Machine.execLaneErrSecond counts s
  | .slipWrite n => Sys2Proof.Machine.execSlipWrite n s
  | .txOnWrite n on => Sys2Proof.Machine.execTxOnWrite n on s
  | .rxOnWrite n on => Sys2Proof.Machine.execRxOnWrite n on s
  | .loopbackWrite n lb => Sys2Proof.Machine.execLoopbackWrite n lb s
  | .prbsWrite n pat => Sys2Proof.Machine.execPrbsWrite n pat s
  | .inservWrite n on => Sys2Proof.Machine.execInservWrite n on s
  | .bcastPlate all lane cause => Sys2Proof.Machine.execBcastPlate all lane cause s
  | .bcastCoast all lane cause => Sys2Proof.Machine.execBcastCoast all lane cause s
  | .bcastWipe all lane cause => Sys2Proof.Machine.execBcastWipe all lane cause s
  | .snapReq id => Sys2Proof.Machine.execSnapReq id s
  | .cmdqPush all lane opc len => Sys2Proof.Machine.execCmdqPush all lane opc len s
  | .darkrowGo lane phase row => Sys2Proof.Machine.execDarkrowGo lane phase row s
  | .ackTimeout n => Sys2Proof.Machine.execAckTimeout n s
  | .lstat n pkt => Sys2Proof.Machine.execLstat n pkt s
  | .ftel n t pkt drop => Sys2Proof.Machine.execFtel n t pkt drop s
  | .ack n pkt => Sys2Proof.Machine.execAck n pkt s
  | .snapr n pkt => Sys2Proof.Machine.execSnapr n pkt s
  | .classqRead => Sys2Proof.Machine.execClassqRead s
  | .updDataWrite data => Sys2Proof.Machine.execUpdDataWrite data s
  | .atEnWrite on => Sys2Proof.Machine.execAtEnWrite on s
  | .wearPassTimer e => Sys2Proof.Machine.execWearPassTimer e s
  | .snsCalTimer => Sys2Proof.Machine.execSnsCalTimer s
  | .snsCalStepDone elem corr => Sys2Proof.Machine.execSnsCalStepDone elem corr s
  | .snsCalStepTimeout => Sys2Proof.Machine.execSnsCalStepTimeout s
  | .fenderIngress t => Sys2Proof.Machine.execFenderIngress t s
  | .fenderZoneApply zid t => Sys2Proof.Machine.execFenderZoneApply zid t s
  | .fenderVerdict t => Sys2Proof.Machine.execFenderVerdict t s
  | .fenderHeartbeat t => Sys2Proof.Machine.execFenderHeartbeat t s
  | .fenderLostTimer => Sys2Proof.Machine.execFenderLostTimer s
  | .fenderClkCheck byFender => Sys2Proof.Machine.execFenderClkCheck byFender s
  | .darkPathTimer => Sys2Proof.Machine.execDarkPathTimer s
  | .emberEdge => Sys2Proof.Machine.execEmberEdge s
  | .tgenTestTimer => Sys2Proof.Machine.execTgenTestTimer s
  | .tgenPulseEnd lowOk highOk => Sys2Proof.Machine.execTgenPulseEnd lowOk highOk s
  | .fbCheckTimer mids => Sys2Proof.Machine.execFbCheckTimer mids s
  | .fbPulseTimer ch => Sys2Proof.Machine.execFbPulseTimer ch s
  | .fbPulseEnd ch mid => Sys2Proof.Machine.execFbPulseEnd ch mid s
  | .faultMessage e m more => Sys2Proof.Machine.execFaultMessage e m more s
  | .fclClearWrite => Sys2Proof.Machine.execFclClearWrite s
  | .ashDump e => Sys2Proof.Machine.execAshDump e s
  | .lockstepMismatch part => Sys2Proof.Machine.execLockstepMismatch part s
  | .watchdogExpiry tgt => Sys2Proof.Machine.execWatchdogExpiry tgt s
  | .wdkickWrite tgt v t => Sys2Proof.Machine.execWdkickWrite tgt v t s
  | .wdogEnWrite tgt v t => Sys2Proof.Machine.execWdogEnWrite tgt v t s
  | .s1RunWrite who run => Sys2Proof.Machine.execS1RunWrite who run s
  | .irqAccept tgt => Sys2Proof.Machine.execIrqAccept tgt s
  | .mret tgt => Sys2Proof.Machine.execMret tgt s
  | .fret tgt => Sys2Proof.Machine.execFret tgt s
  | .setpWrite who w v => Sys2Proof.Machine.execSetpWrite who w v s
  | .clrpWrite who w v => Sys2Proof.Machine.execClrpWrite who w v s
  | .srcTargetWrite who src v => Sys2Proof.Machine.execSrcTargetWrite who src v s
  | .wfi tgt => Sys2Proof.Machine.execWfi tgt s
  | .coreWake tgt src => Sys2Proof.Machine.execCoreWake tgt src s
  | .strandedTimer src => Sys2Proof.Machine.execStrandedTimer src s
  | .plChangeDone => Sys2Proof.Machine.execPlChangeDone s
  | .domainPowerUp dom ready => Sys2Proof.Machine.execDomainPowerUp dom ready s
  | .domoffWrite mask t => Sys2Proof.Machine.execDomoffWrite mask t s
  | .padrelWrite => Sys2Proof.Machine.execPadrelWrite s
  | .fbOffreqWrite => Sys2Proof.Machine.execFbOffreqWrite s
  | .thmSample n meas rise stuck t => Sys2Proof.Machine.execThmSample n meas rise stuck t s
  | .damperEscalate t => Sys2Proof.Machine.execDamperEscalate t s
  | .damperDwell t => Sys2Proof.Machine.execDamperDwell t s
  | .sensorSelfTest failed => Sys2Proof.Machine.execSensorSelfTest failed s
  | .mrcWgoWrite e => Sys2Proof.Machine.execMrcWgoWrite e s
  | .mrcBurstDone e failAt => Sys2Proof.Machine.execMrcBurstDone e failAt s
  | .evrWrite e fails => Sys2Proof.Machine.execEvrWrite e fails s
  | .evrRetry e fails => Sys2Proof.Machine.execEvrRetry e fails s
  | .ckuGo who n => Sys2Proof.Machine.execCkuGo who n s
  | .ckuScanDone n => Sys2Proof.Machine.execCkuScanDone n s
  | .ckuInitWrite n => Sys2Proof.Machine.execCkuInitWrite n s
  | .ckuDataWrite n v => Sys2Proof.Machine.execCkuDataWrite n v s
  | .lockSet who addr v => Sys2Proof.Machine.execLockSet who addr v s
  | .registerWrite who addr v => Sys2Proof.Machine.execRegisterWrite who addr v s
  | .hello lane t f => Sys2Proof.Machine.execHello lane t f s
  | .helloTimer => Sys2Proof.Machine.execHelloTimer s
  | .digest lane t f => Sys2Proof.Machine.execDigest lane t f s
  | .adopt lane f => Sys2Proof.Machine.execAdopt lane f s
  | .barrier lane f => Sys2Proof.Machine.execBarrier lane f s
  | .stage lane f => Sys2Proof.Machine.execStage lane f s
  | .zpub lane t f => Sys2Proof.Machine.execZpub lane t f s
  | .pitch lane t f => Sys2Proof.Machine.execPitch lane t f s
  | .updq lane f => Sys2Proof.Machine.execUpdq lane f s
  | .gov lane f => Sys2Proof.Machine.execGov lane f s
  | .tcmd lane f => Sys2Proof.Machine.execTcmd lane f s
  | .handover lane t f => Sys2Proof.Machine.execHandover lane t f s
  | .taken lane t f => Sys2Proof.Machine.execTaken lane t f s
  | .partnerLinkLoss t => Sys2Proof.Machine.execPartnerLinkLoss t s
  | .withdrawTimeout t => Sys2Proof.Machine.execWithdrawTimeout t s
  | .tilePowerUp n => Sys2Proof.Machine.execTilePowerUp n s
  | .tileLinePacket n port p => Sys2Proof.Machine.execTileLinePacket n port p s
  | .tilePhaseBoundary n meas => Sys2Proof.Machine.execTilePhaseBoundary n meas s
  | .flip n port b => Sys2Proof.Machine.execFlip n port b s
  | .seam n port b => Sys2Proof.Machine.execSeam n port b s
  | .abort n port b => Sys2Proof.Machine.execAbort n port b s
  | .snap n port b => Sys2Proof.Machine.execSnap n port b s
  | .plate n port b => Sys2Proof.Machine.execPlate n port b s
  | .coast n port b => Sys2Proof.Machine.execCoast n port b s
  | .switch n port b => Sys2Proof.Machine.execSwitch n port b s
  | .tilePortAutoSwitch n => Sys2Proof.Machine.execTilePortAutoSwitch n s
  | .cfg n port c => Sys2Proof.Machine.execCfg n port c s
  | .wipe n port c => Sys2Proof.Machine.execWipe n port c s
  | .resume n port c => Sys2Proof.Machine.execResume n port c s
  | .selwr n port c => Sys2Proof.Machine.execSelwr n port c s
  | .probes n port c => Sys2Proof.Machine.execProbes n port c s
  | .darkrow n port c => Sys2Proof.Machine.execDarkrow n port c s
  | .refsel n port c => Sys2Proof.Machine.execRefsel n port c s
  | .platecap n port c => Sys2Proof.Machine.execPlatecap n port c s
  | .tileCoastExpiry n => Sys2Proof.Machine.execTileCoastExpiry n s
  | .tileNobcastTimeout n => Sys2Proof.Machine.execTileNobcastTimeout n s
  | .tileSyncLoss n => Sys2Proof.Machine.execTileSyncLoss n s
  | .tileSupplyLoss n => Sys2Proof.Machine.execTileSupplyLoss n s
  | .tilePlateCheck n => Sys2Proof.Machine.execTilePlateCheck n s
  | .tileFreeFtel n => Sys2Proof.Machine.execTileFreeFtel n s
  | .pairActChange level => Sys2Proof.Machine.execPairActChange level s
  | .ptnBarrierTimeout => Sys2Proof.Machine.execPtnBarrierTimeout s
  | .pairHandoverTimeout => Sys2Proof.Machine.execPairHandoverTimeout s
  | .handshakeNoanswer block t => Sys2Proof.Machine.execHandshakeNoanswer block t s
  | .pmicEnLowWait => Sys2Proof.Machine.execPmicEnLowWait s
  | .ttoPulseEnd n => Sys2Proof.Machine.execTtoPulseEnd n s
  | .dpauseExpiry e => Sys2Proof.Machine.execDpauseExpiry e s
  | .tsaReceive n set err => Sys2Proof.Machine.execTsaReceive n set err s
  | .tileLoopbackExit n => Sys2Proof.Machine.execTileLoopbackExit n s
  | .mkaFrame port sak => Sys2Proof.Machine.execMkaFrame port sak s
  | .ethFrameDiscard port why => Sys2Proof.Machine.execEthFrameDiscard port why s

end Sys2Proof.Machine
end

