-- ==== Sys2Proof/Safety.lean ====
section
/-! DEFINITION. What a safe run is, and what "unchanged" means, in the terms that statements use. -/

namespace Sys2Proof.Machine

/-- The state takes one step and goes on: neither a fault nor a refusal. -/
def StepsOn (s : State) : Prop := ∃ t, step s = .next t

/-- The state goes on for `n` steps. -/
def RunsOn (n : Nat) (s : State) : Prop :=
  match n with
  | 0 => True
  | k + 1 => ∃ t, step s = .next t ∧ RunsOn k t

/-! ### What a command leaves unchanged -/

/-- Every register field outside `fs` reads in `t` as it reads in `s`. -/
def RegsBut (fs : List Fld) (s t : State) : Prop :=
  ∀ f : Fld, (∀ g ∈ fs, f.key ≠ g.key) → rd t f = rd s f

/-- Only register fields of `fs` differ; every other part of the state is the same. -/
def OnlyRegs (fs : List Fld) (s t : State) : Prop := t = { s with regs := t.regs } ∧ RegsBut fs s t

/-- Every byte of memory reads in `t` as it reads in `s`. -/
def SameMem (s t : State) : Prop := ∀ a, ldByte t a = ldByte s a

/-- Every byte of memory outside the `n` bytes from `a` reads in `t` as it reads in `s`. -/
def MemBut (a n : Nat) (s t : State) : Prop := ∀ x, (x < a ∨ a + n ≤ x) → ldByte t x = ldByte s x

/-- Nothing leaves on a wire and no fault message is raised. -/
def Quiet (s t : State) : Prop := t.tx = s.tx ∧ t.inbox = s.inbox

/-- The saturating counter field `f` counts one. -/
def Counts (f : Fld) (s t : State) : Prop := rd t f = min (2 ^ f.width - 1) (rd s f + 1)

/-- A hatch response, as against a NOTIFY: bit 7 of TYPE (R276). -/
def isResponse (x : Tx) : Bool := match x with | .hatch _ _ _ b => 128 ≤ byteAt b 3 | _ => false

/-- Nothing of a hatch frame stops it before its form is judged: the port takes frames, MACsec passes it and the source is a
peer (R273, R276). -/
def HatchReaches (h : HatchHdr) (s : State) : Prop :=
  hatchHears s h.port = true ∧ macsecBars s h.port = false ∧ hatchPeer s h = true

/-- A hatch request that the host window serves: it arrives in form outside BOOT. -/
def HatchServed (h : HatchHdr) (s : State) : Prop :=
  HatchReaches h s ∧ h.udpLen = 16 + h.len ∧ h.magic = 0x4854 ∧ h.ver = 1 ∧ h.status = 0 ∧ h.resv = 0 ∧
    s.dev.state ≠ .boot

/-- The pilot has asserted PMIC_EN for attempt `n` of the way up on behalf of wake source `src`; only the pilot's own
state and P_WAKE.SRC differ. -/
def WayUpBegun (n src : Nat) (s t : State) : Prop :=
  t = { s with regs := t.regs, pilot := t.pilot } ∧ t.pilot.pmicEn = true ∧ t.pilot.wayUp = .waitPg ∧
    t.pilot.attempt = n ∧ rd t Reg.PWC_P_WAKE_SRC = src ∧ RegsBut [Reg.PWC_P_WAKE_SRC] s t

/-- No command is deferred and no withdrawal of standstill waits, so a change of the device state brings nothing else
with it (R321, R341). -/
def NothingWaits (s : State) : Prop := s.mbx.deferred = [] ∧ s.mbx.withdraw = false

/-- No command taken waits for a later event, and no channel reset waits for one (R323). -/
def NoneRuns (s : State) : Prop := s.waits = [] ∧ ∀ c, c < 5 → rd s (Reg.HIF_MB_CTRL_RESET c) = 0

/-- The lanes whose errors of a second exceed ERRLIM: existing ones in service, and partner lanes that are up. -/
def errLanes (s : State) (c : List Nat) : List Nat :=
  (List.range 66).filter (fun k => laneExists s k && laneBusy s k && rd s Reg.TLK_ERRLIM_LIMIT != 0 &&
    decide (rd s Reg.TLK_ERRLIM_LIMIT < c.getD (2 * k) 0 + c.getD (2 * k + 1) 0))

/-! ### Mailbox commands -/

/-- The command of a descriptor whose OPC is `opc`. -/
def mailboxInstr (opc : Nat) (d : Desc) (e : Env) : Option Instr :=
  match opc with
  | 0x0101 => some (.stateGet d e)
  | 0x0102 => some (.perfSet d e)
  | 0x0103 => some (.serviceEnter d e)
  | 0x0104 => some (.serviceExit d e)
  | 0x0105 => some (.standstillSet d e)
  | 0x0106 => some (.lightOn d e)
  | 0x0107 => some (.lightOff d e)
  | 0x0108 => some (.reset d e)
  | 0x0109 => some (.sleep d e)
  | 0x0201 => some (.bindingInfo d e)
  | 0x0202 => some (.tipinSelect d e)
  | 0x0203 => some (.imageBegin d e)
  | 0x0204 => some (.imageData d e)
  | 0x0205 => some (.imageEnd d e)
  | 0x0301 => some (.streamStatus d e)
  | 0x0302 => some (.directSet d e)
  | 0x0401 => some (.zonePut d e)
  | 0x0402 => some (.zoneClearAll d e)
  | 0x0403 => some (.zoneStatus d e)
  | 0x0501 => some (.glyphLoad d e)
  | 0x0502 => some (.glyphPlace d e)
  | 0x0503 => some (.glyphHide d e)
  | 0x0601 => some (.envscaleSet d e)
  | 0x0602 => some (.meshSelect d e)
  | 0x0603 => some (.pitchUpdate d e)
  | 0x0604 => some (.levelStatus d e)
  | 0x0701 => some (.commit d e)
  | 0x0702 => some (.timingSet d e)
  | 0x0703 => some (.phaseSet d e)
  | 0x0704 => some (.frameGet d e)
  | 0x0801 => some (.calStatus d e)
  | 0x0802 => some (.calRound d e)
  | 0x0803 => some (.calResetLane d e)
  | 0x0804 => some (.wearPass d e)
  | 0x0901 => some (.diagSummary d e)
  | 0x0902 => some (.pixelQuery d e)
  | 0x0903 => some (.groupStatus d e)
  | 0x0A01 => some (.windowMap d e)
  | 0x0A02 => some (.recStatus d e)
  | 0x0A03 => some (.dumpClear d e)
  | 0x0A04 => some (.ckuScan d e)
  | 0x0B01 => some (.timeGet d e)
  | 0x0B02 => some (.domainSelect d e)
  | 0x0B03 => some (.ttoArm d e)
  | 0x0B04 => some (.rtcAlarm d e)
  | 0x0C01 => some (.faultGet d e)
  | 0x0C02 => some (.faultClear d e)
  | 0x0C03 => some (.severitySet d e)
  | 0x0C04 => some (.fenderStatus d e)
  | 0x0C05 => some (.fallbackOff d e)
  | 0x0C06 => some (.safeTest d e)
  | 0x0D01 => some (.laneStatus d e)
  | 0x0D02 => some (.laneTrain d e)
  | 0x0D03 => some (.laneTest d e)
  | 0x0D04 => some (.tileSet d e)
  | 0x0D05 => some (.tileResume d e)
  | 0x0D06 => some (.tileRefsel d e)
  | 0x0E01 => some (.pairStatus d e)
  | 0x0E02 => some (.pairHandover d e)
  | 0x0E10 => some (.ptnDigest d e)
  | 0x0E11 => some (.ptnAdopt d e)
  | 0x0E12 => some (.ptnBarrier d e)
  | 0x0F01 => some (.lcGet d e)
  | 0x0F02 => some (.lcAdvance d e)
  | 0x0F03 => some (.fwSelect d e)
  | 0x0F04 => some (.tmxSelect d e)
  | _ => none

/-- The state in which a descriptor is judged by checks 4 to 6 and runs: the instant of its take, and AUTHCNT counted where
check 3 applies (R315, R318). -/
def taken (opc : Nat) (d : Desc) (e : Env) (s : State) : State :=
  match cmdRow opc with
  | some r => if authAsked r d then countAuth d.ch (atTime e.t s) else atTime e.t s
  | none => atTime e.t s

/-- A descriptor of opcode `opc` passes every check of R318 when S0 takes it from `s` with the surroundings `e`, and the
command runs. -/
def Runs (opc : Nat) (d : Desc) (e : Env) (s : State) : Prop :=
  ∃ c r, cmdOf opc = some (c, r) ∧ serves s d.ch = true ∧ soundDesc c.used d = true ∧
    channelOk r (atTime e.t s) d.ch = true ∧
    (authAsked r d = true → dAuth d = true ∧ tagOk r.opc d (atTime e.t s) = true) ∧
    judge c r d (taken opc d e s) = .run ∧ (bound s = true ∨ needsBinding opc = false)

/-- The command ends at once: `exec` answers the state in which `f` has acted on the state taken, and S0 has then written the
completion of the descriptor with STATUS and the two detail words. -/
def EndsAtOnce (opc : Nat) (d : Desc) (e : Env) (s : State) (i : Instr) (status : Nat) (d0 d1 : State → Nat)
    (f : State → State) : Prop :=
  exec i s = .next (complete (cplOf opc d false) status (d0 (f (taken opc d e s))) (d1 (f (taken opc d e s)))
    (f (taken opc d e s)))

/-- The command goes on: its waiter stands behind those that wait, and no completion is written yet. -/
def Waits (opc : Nat) (d : Desc) (sc : Bool) (kind : WaitKind) (s t : State) : Prop :=
  t.waits = s.waits ++ [⟨cplOf opc d false, sc, kind⟩]

/-- The commands that write shadows, each with its descriptor, its writes and its COMMIT parameter. -/
def shadowCommands (d : Desc) (e : Env) : List (Nat × Instr × (State → State) × Nat) :=
  [(0x0302, .directSet d e, fun u => u |> wr Reg.RAS_SH_BASEADDR_ADDR (p32 d 0 / 64) |>
      wr Reg.RAS_SH_BASEADDR_DIRECT (p8 d 4), p8 d 5),
   (0x0502, .glyphPlace d e, fun u =>
      let n := p8 d 0
      u |> wr (Reg.GTE_PL_CTRL_EN n) (p8 d 1 % 2) |> wr (Reg.GTE_PL_CTRL_MODE n) (p8 d 1 / 2 % 2)
        |> wr (Reg.GTE_PL_POS_X n) (p16 d 4) |> wr (Reg.GTE_PL_POS_Y n) (p16 d 6)
        |> wr (Reg.GTE_PL_XFORM_SCALE n) (p16 d 8) |> wr (Reg.GTE_PL_XFORM_ANGLE n) (p16 d 10)
        |> wr (Reg.GTE_PL_INT_IG n) (p16 d 12) |> wr (Reg.GTE_PL_INT_CAP n) (p16 d 14), p8 d 16),
   (0x0503, .glyphHide d e, fun u =>
      forEach ((List.range 8).filter (bit (p8 d 0))) (fun n => wr (Reg.GTE_PL_CTRL_EN n) 0) u, p8 d 1),
   (0x0601, .envscaleSet d e, wr Reg.RAS_SH_ENVSCALE_SCALE (p16 d 0), p8 d 2),
   (0x0602, .meshSelect d e, wr Reg.RAS_SH_MESH_MESH (p8 d 0), p8 d 1),
   (0x0702, .timingSet d e, fun u => u |> wr Reg.RAS_SH_TIMING_MODE (p8 d 0) |> wr Reg.RAS_SH_TIMING_PHLEN (p8 d 1)
      |> wr Reg.RAS_SH_TIMING_PBLANK (p8 d 2), p8 d 3),
   (0x0701, .commit d e, id, 1)]

/-! ### The canonical forms -/

/-- The memory and the register table stand in their canonical form: the cells of memory by rising address with no
unlisted value, the register fields by rising key. -/
def Canonical (s : State) : Prop := Memory.wf s.mem = true ∧ SMap.Sorted s.regs

end Sys2Proof.Machine
end

