-- ==== Sys2Proof/Certificates/Slice0/Obligations.lean ====
section
/-! DEFINITION. The statements for the provers, family by family in the order of the spec's chapters. A docstring names in
parentheses the rules of spec/ that the statement follows. -/

open Sys2Proof Sys2Proof.Machine

/-! ### The block -/

/-- A step takes the command at the front of the queue and runs it on the state with the rest of the queue; on an empty queue
the block idles (the model's choice, log entry 4). -/
def Obligations.StepRunsFrontCommand : Prop :=
  ∀ s : State, (∀ c rest, s.pending = c :: rest → step s = exec c { s with pending := rest }) ∧
    (s.pending = [] → step s = .next s)

/-- Every step keeps the canonical form of the memory and of the register table. -/
def Obligations.StepKeepsCanonical : Prop :=
  ∀ s t : State, Canonical s → step s = .next t → Canonical t

/-- The state after reset is canonical and stands in PILOT with no command waiting, no fault raised, nothing sent, no
fallback channel lit and RSTCAUSE reading COLD (R33, R456). -/
def Obligations.ResetIsColdPilot : Prop :=
  Canonical State.reset ∧ State.reset.dev.state = .pilot ∧ State.reset.pending = [] ∧ State.reset.inbox = [] ∧
    State.reset.tx = [] ∧ rd State.reset Reg.PWC_P_FB_ON = 0 ∧ rd State.reset Reg.PWC_RSTCAUSE_CAUSE = 1

/-- No command changes the part it runs on, and none touches the commands that wait behind it. -/
def Obligations.CommandsLeaveQueueAndPart : Prop :=
  ∀ (c : Instr) (s t : State), exec c s = .next t → t.pending = s.pending ∧ t.part = s.part

/-! ### The way up (chapter 16) -/

/-- Each wake source that becomes active in PILOT, and each event that lets a wait of the way up end, asserts PMIC_EN,
waits for PG_CORE and records the source by the precedence of R470; nothing else changes (R457, R459, R468, R470).
Model's choices in it: log entry 9. -/
def Obligations.WakeSourcesStartTheWayUp : Prop :=
  ∀ s : State, s.dev.state = .pilot → s.pilot.barred = false →
    (∀ ms src, s.pilot.porst = false → s.pilot.wayUp = .idle → wakeSource s = some src →
      ∃ t, exec (.porstNRise ms) s = .next t ∧ WayUpBegun 1 src s t ∧ t.pilot.porst = true) ∧
    (∀ src, s.pilot.porst = true → s.pilot.wayUp = .retryWait → wakeSource s = some src →
      ∃ t, exec .wakeRetryDelay s = .next t ∧ WayUpBegun (s.pilot.attempt + 1) src s t) ∧
    (∀ src, s.pilot.porst = true → s.pilot.wayUp = .lowWait → wakeSource s = some src →
      ∃ t, exec .pmicEnLowWait s = .next t ∧ WayUpBegun 1 src s t) ∧
    (s.pilot.porst = true → s.pilot.wayUp = .idle → s.pilot.lightReq = false → rd s Reg.PWC_P_WAKE_WAKE_EN = 1 →
      ∃ t, exec .wakeInput s = .next t ∧ WayUpBegun 1 2 s t) ∧
    (s.pilot.porst = true → s.pilot.wayUp = .idle → s.pilot.lightReq = false → s.pilot.wakePin = false →
      rd s Reg.PWC_P_WAKE_ALARM_EN = 1 → rd s Reg.PWC_P_ALARM_SEC ≠ 0 →
      rd s Reg.PWC_P_RTC_SEC = rd s Reg.PWC_P_ALARM_SEC →
      ∃ t, exec .rtcAlarmMatch s = .next t ∧ WayUpBegun 1 1 s t) ∧
    (∀ e, s.pilot.porst = true → s.pilot.wayUp = .idle → s.pilot.lightReq = false → s.pilot.sFallback = false →
      s.pwc.hs = none →
      ∃ t, exec (.lightReqRise e) s = .next t ∧ WayUpBegun 1 3 (atTime e.t s) t ∧ t.pilot.lightReq = true ∧
        t.pilot.fbTimer = true)

/-- The way up goes on or gives up: PG_CORE starts the crystal and counts a power cycle; a first attempt without PG_CORE
waits for its retry, a second latches WAKE_FAIL and bars further attempts; REF, stable or not, leads to BOOT, without a
stable REF as REF_RC with REF_FAIL on its way to FCL (R457, R459, R460). -/
def Obligations.WayUpGoesOn : Prop :=
  ∀ s : State, s.dev.state = .pilot →
    (s.pilot.wayUp = .waitPg →
      ∃ t, exec .pgCoreRise s = .next t ∧ t = { s with regs := t.regs, pilot := t.pilot } ∧ t.pilot.pgCore = true ∧
        t.pilot.wayUp = .waitRef ∧ rd t Reg.PWC_P_PWRCYC_COUNT = min (2 ^ 24 - 1) (rd s Reg.PWC_P_PWRCYC_COUNT + 1) ∧
        RegsBut [Reg.PWC_P_PWRCYC_COUNT] s t) ∧
    (s.pilot.wayUp = .waitPg → s.pilot.attempt < 2 →
      ∃ t, exec .pgCoreTimeout s = .next t ∧ t = { s with pilot := t.pilot } ∧ t.pilot.pmicEn = false ∧
        t.pilot.wayUp = .retryWait) ∧
    (s.pilot.wayUp = .waitPg → 2 ≤ s.pilot.attempt →
      ∃ t, exec .pgCoreTimeout s = .next t ∧ t = { s with regs := t.regs, pilot := t.pilot } ∧ t.pilot.pmicEn = false ∧
        t.pilot.barred = true ∧ t.pilot.faultN = true ∧ rd t Reg.PWC_P_WAKE_WAKE_FAIL = 1 ∧
        RegsBut [Reg.PWC_P_WAKE_WAKE_FAIL, Reg.PWC_P_FB_ON] s t) ∧
    (s.pilot.wayUp = .waitRef →
      ∃ t, exec .refStable s = .next t ∧ t.dev.state = .boot ∧ t.pilot.refOk = true ∧
        rd t Reg.PWC_RSTCAUSE_CAUSE = rd s Reg.PWC_RSTCAUSE_CAUSE ∧ t.tiles = s.tiles ∧ t.tx = s.tx) ∧
    (s.pilot.wayUp = .waitRef →
      ∃ t, exec .refTimeout s = .next t ∧ t.dev.state = .boot ∧ t.pilot.refOk = false ∧ t.dev.rc = true ∧
        rd t Reg.PWC_STATUS_REF_RC = 1 ∧ t.inbox = [⟨0x010, 0x05, 0, none⟩] ∧ t.tiles = s.tiles ∧ t.tx = s.tx)

/-- The supply, PORST_N and PG_CORE take the device down: to OFF from any other state, from OFF to PILOT with the pilot
registers cold, to PILOT with PMIC_EN low otherwise; RSTCAUSE records the event. The eMRAM keeps its bytes (R33, R456, R557). -/
def Obligations.SupplyTakesTheDeviceDown : Prop :=
  ∀ s : State,
    (s.dev.state ≠ .off → ∃ t, exec .vpilotLeaveRange s = .next t ∧ t.dev.state = .off) ∧
    (s.dev.state = .off → ∀ b, ∃ t, exec (.vpilotEnterRange b) s = .next t ∧ t.dev.state = .pilot ∧
      t.pilot.pairId = b ∧ t.pilot.lightReq = false ∧ rd t Reg.PWC_RSTCAUSE_CAUSE = 1 ∧
      rd t Reg.PWC_P_RTC_SEC = 0 ∧ rd t Reg.PWC_P_PWRCYC_COUNT = 0) ∧
    (s.dev.state ≠ .off → ∃ t, exec .porstNLow s = .next t ∧ t.dev.state = .pilot ∧ t.pilot.porst = false ∧
      t.pilot.pmicEn = false ∧ t.pilot.lightReq = s.pilot.lightReq ∧ rd t Reg.PWC_RSTCAUSE_CAUSE = 2 ∧
      rd t Reg.PWC_P_RTC_SEC = rd s Reg.PWC_P_RTC_SEC) ∧
    (s.pilot.pmicEn = true → s.pilot.pgCore = true → ∃ t, exec .pgCoreFall s = .next t ∧ t.dev.state = .pilot ∧
      t.pilot.pmicEn = false ∧ t.pilot.wayUp = .retryWait ∧ t.pilot.attempt = 0 ∧
      rd t Reg.PWC_RSTCAUSE_CAUSE = 3 ∧ rd t Reg.PWC_P_RTC_SEC = rd s Reg.PWC_P_RTC_SEC) ∧
    (∀ c t, c ∈ [Instr.vpilotLeaveRange, .porstNLow, .pgCoreFall] → exec c s = .next t →
      (∀ a, 0x30000000 ≤ a → a < 0x31000000 → ldByte t a = ldByte s a) ∧ t.tiles = s.tiles ∧ t.tx = s.tx)

/-- The commands that reset a powered device, and the clocks of the pilot: RESET_DELAY and the recovery timer start BOOT
with their RSTCAUSE, the timer at most three times per power cycle; RTC_TICK counts the RTC, and the operating seconds
while the main domain is powered; a crystal that runs again starts NTC and clears REF_RC, and one that stops stops NTC and
raises REF_FAIL (R344, R430, R455, R456, R460, R461). -/
def Obligations.ResetsAndPilotClocks : Prop :=
  ∀ s : State,
    (∀ c, s.dev.resetDue = some c → c < 8 → mainOn s.dev.state = true →
      ∃ t, exec .resetDelay s = .next t ∧ t.dev.state = .boot ∧ rd t Reg.PWC_RSTCAUSE_CAUSE = c ∧ t.tiles = s.tiles) ∧
    (s.pilot.recovOn = true → s.dev.state = .fallback ∨ s.dev.state = .halt → s.pilot.recov < 3 →
      ∃ t, exec .recoveryTimer s = .next t ∧ t.dev.state = .boot ∧ t.pilot.recov = s.pilot.recov + 1 ∧
        rd t Reg.PWC_RSTCAUSE_CAUSE = 5) ∧
    (s.pilot.recovOn = true → s.dev.state = .fallback ∨ s.dev.state = .halt → 3 ≤ s.pilot.recov →
      ∃ t, exec .recoveryTimer s = .next t ∧ t = { s with pilot := { s.pilot with recovOn := false } }) ∧
    (s.dev.state ≠ .off → mainOn s.dev.state = false →
      ∃ t, exec .rtcTick s = .next t ∧ OnlyRegs [Reg.PWC_P_RTC_SEC] s t ∧
        rd t Reg.PWC_P_RTC_SEC = (rd s Reg.PWC_P_RTC_SEC + 1) % 2 ^ 32) ∧
    (mainOn s.dev.state = true →
      ∃ t, exec .rtcTick s = .next t ∧ OnlyRegs [Reg.PWC_P_RTC_SEC, Reg.PWC_P_OPSEC_SEC] s t ∧
        rd t Reg.PWC_P_RTC_SEC = (rd s Reg.PWC_P_RTC_SEC + 1) % 2 ^ 32 ∧
        rd t Reg.PWC_P_OPSEC_SEC = (rd s Reg.PWC_P_OPSEC_SEC + 1) % 2 ^ 32) ∧
    (s.dev.rc = true → s.dev.state = .standby → s.pilot.lightReq = false →
      ∃ t, exec (.refRetry true) s = .next t ∧ t.dev.rc = false ∧ t.pilot.refOk = true ∧ t.ntcOn = true ∧
        OnlyRegs [Reg.PWC_STATUS_REF_RC] { s with dev := t.dev, pilot := t.pilot, ntcOn := t.ntcOn, ntcFrom := t.ntcFrom } t ∧
        rd t Reg.PWC_STATUS_REF_RC = 0) ∧
    (mainOn s.dev.state = true → s.pilot.refOk = true → rd s Reg.TLK_STATUS_PLL_LOCK = 0 →
      ∃ t, exec .refStop s = .next t ∧ t.ntcOn = false ∧ t.rawHeld = rawNow s ∧ t.pilot.refOk = false ∧
        t.inbox = s.inbox ++ [⟨0x010, 0x05, 0, none⟩] ∧ rd t Reg.PWC_STATUS_REF_RC = 1 ∧
        RegsBut [Reg.PWC_STATUS_REF_RC] s t)

/-! ### Boot, light and the fallback beam (chapters 1, 12, 13, 16) -/

/-- The steps of BOOT: the wipe leaves every RAM byte 0 and every eMRAM byte as it was; the boot ROM runs the preferred
firmware slot if it passes, else the other, else enters HALT, and starts with the wipes of a life-cycle transition that was
cut off; S0 without a valid binding enters STANDBY unbound, with BINDING_INVALID on its way to FCL (R373, R374, R380, R383, R456).
Model's choices in it: log entries 10, 17 and 18. -/
def Obligations.BootRuns : Prop :=
  ∀ s : State, s.dev.state = .boot →
    (∀ tm b, s.dev.bootStep = 0 → ∃ t, exec (.bootEntry tm b) s = .next t ∧ t.dev.bootStep = 1 ∧ t.pilot.pairId = b ∧
      (∀ a, a < 0x30000000 → ldByte t a = 0) ∧ (∀ a, 0x30000000 ≤ a → ldByte t a = ldByte s a)) ∧
    (s.dev.bootStep = 1 → s.sec.marker = none → ∃ t, exec .bootRomChecks s = .next t ∧
      (let p := rd s Reg.SEC_BOOT_PREF
       if firmwareOk s (fwSlot s p) = true then rd t Reg.SEC_BOOT_RUN = p % 2
       else if firmwareOk s (fwSlot s (1 - p)) = true then rd t Reg.SEC_BOOT_RUN = (1 - p) % 2
       else t.dev.state = .halt)) ∧
    (∀ m, s.dev.bootStep = 1 → s.sec.marker = some m → s.sec.wipes = [] → ∃ t, exec .bootRomChecks s = .next t ∧
      t.sec.wipes = wipeList (lcCode s) ∧ t.inbox = s.inbox ++ [⟨0x173, 0x4B, 0, none⟩] ∧ t.dev = s.dev ∧ t.mem = s.mem) ∧
    (∀ e, s.dev.bootStep = 2 → bindingOk s (bindingArea s) = false → NothingWaits s →
      ∃ t, exec (.bindingLoad e) s = .next t ∧ t.dev.state = .standby ∧ bound t = bound s ∧
        ⟨0x170, 0x48, 0, none⟩ ∈ t.inbox)

/-- A falling LIGHT_REQ turns every fallback channel off, and with auto-light takes PRELIT or LIT to STANDBY; 20 ms after
the start instant FB0 is lit outside PRELIT, LIT and SERVICE, whatever its pre-light test finds; FALLBACK_OFF's register
turns the beam off in STANDBY; the channels withheld from a pair light when PAIR_ACT reads low (R38, R403, R530). -/
def Obligations.LightReqDrivesTheFallbackBeam : Prop :=
  ∀ s : State,
    (∀ e, s.dev.state ≠ .off → s.pilot.lightReq = true → autoLight s = false →
      ∃ t, exec (.lightReqFall e) s = .next t ∧ t.pilot.lightReq = false ∧ t.pilot.fbTimer = false ∧
        t.dev.state = s.dev.state ∧ rd t Reg.PWC_P_FB_ON = 0 ∧ RegsBut [Reg.PWC_P_FB_ON] s t ∧ SameMem s t ∧ Quiet s t) ∧
    (∀ e, s.dev.state = .prelit ∨ s.dev.state = .lit → s.pilot.lightReq = true → autoLight s = true →
      pairOp s = false → NothingWaits s →
      ∃ t, exec (.lightReqFall e) s = .next t ∧ t.dev.state = .standby ∧ t.pilot.lightReq = false) ∧
    (∀ mid, s.pilot.fbTimer = true → s.pilot.lightReq = true → rasterState s.dev.state = false → s.dev.state ≠ .off →
      fbWithheld s = false → s.pilot.fbPulse = none →
      ∃ t, exec (.fb0LightTimer mid) s = .next t ∧ t.pilot.fbTimer = false ∧
        rd t Reg.PWC_P_FB_ON = (rd s Reg.PWC_P_FB_ON ||| 1) % 4 ∧ t.dev = s.dev ∧ SameMem s t ∧ t.tx = s.tx) ∧
    (s.dev.state = .standby → ∃ t, exec .fbOffreqWrite s = .next t ∧ t = { s with regs := t.regs, pilot := t.pilot } ∧
      rd t Reg.PWC_P_FB_ON = 0 ∧ RegsBut [Reg.PWC_P_FB_ON] s t) ∧
    (s.dev.state ≠ .standby → ∃ t, exec .fbOffreqWrite s = .next t ∧ t = s) ∧
    (s.dev.state ≠ .off → s.pilot.fbPulse = none →
      ∃ t, exec (.pairActChange false) s = .next t ∧ t.pilot.pairAct = false ∧ t.pilot.fbPair = 0 ∧
        rd t Reg.PWC_P_FB_ON = (rd s Reg.PWC_P_FB_ON ||| s.pilot.fbPair % 4) % 4 ∧ RegsBut [Reg.PWC_P_FB_ON] s t) ∧
    (s.dev.state ≠ .off → ∃ t, exec (.pairActChange true) s = .next t ∧
      t = { s with pilot := { s.pilot with pairAct := true } })

/-- The tests of the fallback channels: the off check and the conduction check name the switch of each channel whose reading
is wrong, and leave FST.OUT and FCL's inbox alone where both are right; a lit channel's pulse opens its two sides in turn; the
end of a pulse judges its reading and carries out a demand that waited (R403, R404). Model's choices in it: log entry 12. -/
def Obligations.FallbackBeamTests : Prop :=
  ∀ s : State,
    (s.dev.state ≠ .off → s.waits = [] → (∀ c, c < 5 → rd s (Reg.HIF_MB_CTRL_RESET c) = 0) → s.pilot.fbPulse = none →
      fbOn s = 0 → ∃ t, exec (.fbCheckTimer [.low, .low]) s = .next t ∧ t = s) ∧
    (mainOn s.dev.state = true → s.waits = [] → (∀ c, c < 5 → rd s (Reg.HIF_MB_CTRL_RESET c) = 0) →
      s.pilot.fbPulse = none → fbOn s = 0 →
      ∃ t, exec (.fbCheckTimer [.band, .low]) s = .next t ∧
        t.inbox = s.inbox ++ [⟨0x1B0, 0x59, Config.fbDetail 0 0 % 65536, none⟩] ∧
        rd t Reg.FST_OUT_FB0 = setBit (rd s Reg.FST_OUT_FB0) 0 % 4 ∧ RegsBut [Reg.FST_OUT_FB0] s t ∧
        t.pilot.shadow ≠ [] ∧ SameMem s t) ∧
    (∀ ch, ch < 2 → s.pilot.fbHigh.length = 2 → bit (fbOn s) ch = true → s.pilot.fbPulse = none → s.dev.state ≠ .off →
      ∃ t, exec (.fbPulseTimer ch) s = .next t ∧ t = { s with pilot := t.pilot } ∧
        t.pilot.fbPulse = some (ch, s.pilot.fbHigh.getD ch false) ∧
        t.pilot.fbHigh.getD ch false = !s.pilot.fbHigh.getD ch false) ∧
    (∀ ch hi, s.pilot.fbPulse = some (ch, hi) → fbWithheld s = false →
      ∃ t, exec (.fbPulseEnd ch (if hi then .low else .high)) s = .next t ∧ t.pilot.fbPulse = none ∧
        t.pilot.fbDemand = 0 ∧ t.inbox = s.inbox ∧
        rd t Reg.PWC_P_FB_ON = (if s.pilot.fbDemand = 0 then rd s Reg.PWC_P_FB_ON
          else (rd s Reg.PWC_P_FB_ON ||| s.pilot.fbDemand % 4) % 4) ∧ RegsBut [Reg.PWC_P_FB_ON] s t)

/-- SAFE_IN_N: a falling edge taken after a high in PRELIT, LIT or SERVICE leads to FALLBACK with the fallback channels on
demand, in STANDBY it is latched; a high level re-arms the edge and clears SAFEIN (R407, R428). -/
def Obligations.SafeInLeadsToFallback : Prop :=
  ∀ s : State,
    (∀ e, s.pilot.safeArmed = true → rasterState s.dev.state = true → severity s 0x040 = 3 → pairOp s = false →
      NothingWaits s → ∃ t, exec (.safeInNFall e) s = .next t ∧ t.dev.state = .fallback ∧ t.pilot.safeLow = true ∧
        t.pilot.safeArmed = false ∧ t.pilot.sFallback = true ∧ t.pilot.faultN = true ∧ rd t Reg.RAS_CTRL_RUN = 0) ∧
    (∀ e, s.pilot.safeArmed = true → s.dev.state = .standby → severity s 0x040 = 3 → NothingWaits s →
      ∃ t, exec (.safeInNFall e) s = .next t ∧ t.dev.state = .standby ∧ t.pilot.safeLow = true ∧
        rd t Reg.FCL_STATUS_SAFEIN = 1 ∧ rd t Reg.FCL_LAST_VALUE = 0x200B0000 ∧ SameMem s t) ∧
    (∀ e, s.pilot.safeArmed = false → ∃ t, exec (.safeInNFall e) s = .next t ∧ t = s) ∧
    (mainOn s.dev.state = true → ∃ t, exec .safeInNRise s = .next t ∧ t.pilot.safeLow = false ∧
      t.pilot.safeArmed = true ∧ rd t Reg.FCL_STATUS_SAFEIN = 0 ∧
      RegsBut [Reg.FCL_STATUS_SAFEIN, Reg.FCL_STATUS_FAULTN] s t ∧ SameMem s t ∧ Quiet s t)

/-- The end of the start tests: with every step passed the device enters LIT with the fallback beam off, with S_PLATE it
stays in PRELIT and S_PLATE clears; a failed step latches START_TEST with its number and leads to FALLBACK (R33, R38, R410).
Model's choices in it: log entry 11. -/
def Obligations.StartTestsDecideLight : Prop :=
  ∀ (s : State) (e : Env), s.dev.state = .prelit → s.dev.tests = true → pairOp s = false → NothingWaits s →
    (s.dev.rerun = false → startStepSeen s = 0 →
      ∃ t, exec (.startTestsDone e 0) s = .next t ∧ t.dev.state = .lit ∧ t.dev.tests = false ∧
        rd t Reg.PWC_P_FB_ON = 0 ∧ t.pilot.sFallback = false) ∧
    (s.dev.rerun = true → startStepSeen s = 0 →
      ∃ t, exec (.startTestsDone e 0) s = .next t ∧ t.dev.state = .prelit ∧ t.dev.sPlate = false ∧
        t.dev.tests = true ∧ t.dev.rerun = false) ∧
    (∀ k, 1 ≤ k → k < 8 → startStepSeen s = 0 → severity s 0x183 = 3 → rd s Reg.FCL_STATUS_VALID = 0 →
      ∃ t, exec (.startTestsDone e k) s = .next t ∧ t.dev.state = .fallback ∧
        rd t Reg.FCL_FIRST_VALUE = 0xC1CF0000 + k) ∧
    (startStepSeen s = 1 → severity s 0x183 = 3 → rd s Reg.FCL_STATUS_VALID = 0 →
      ∃ t, exec (.startTestsDone e 0) s = .next t ∧ t.dev.state = .fallback ∧
        rd t Reg.FCL_FIRST_VALUE = 0xC1CF0001)

/-- The fault latch: an INFO message is counted and becomes LAST; the first message of WARN becomes FIRST with its frame and
VALID, a later one sets OVF and counts; each reaches the event recorder; the clear empties the latch and leaves SAFEKIND,
DEGMAP and INFOCNT (R417, R420, R424, R429). -/
def Obligations.FaultLatchRecords : Prop :=
  ∀ s : State, mainOn s.dev.state = true →
    (∀ e m, msgKnown m = true → (m.source < 0x190 ∨ 0x192 < m.source) → pairOp s = false → severity s m.source = 0 →
      ∃ t, exec (.faultMessage e m []) s = .next t ∧ rd t Reg.FCL_LAST_VALUE = msgWord m % 2 ^ 32 ∧
        rd t Reg.FCL_INFOCNT_COUNT = min (2 ^ 32 - 1) (rd s Reg.FCL_INFOCNT_COUNT + 1) ∧
        rd t Reg.FCL_FIRST_VALUE = rd s Reg.FCL_FIRST_VALUE ∧ rd t Reg.FCL_STATUS_VALID = rd s Reg.FCL_STATUS_VALID ∧
        t.inbox = s.inbox.erase m ∧ t.dev = s.dev ∧ SameMem s t) ∧
    (∀ e m, msgKnown m = true → (m.source < 0x190 ∨ 0x192 < m.source) → pairOp s = false → severity s m.source = 1 →
      rd s Reg.FCL_STATUS_VALID = 0 → m.ext.getD 0 < 2 ^ 32 →
      ∃ t, exec (.faultMessage e m []) s = .next t ∧ rd t Reg.FCL_FIRST_VALUE = msgWord m % 2 ^ 32 ∧
        rd t Reg.FCL_FIRST_EXT_VALUE = m.ext.getD 0 ∧ rd t Reg.FCL_STATUS_VALID = 1 ∧
        rd t Reg.FCL_LAST_VALUE = msgWord m % 2 ^ 32 ∧
        rd t Reg.FCL_STATUS_COUNT = rd s Reg.FCL_STATUS_COUNT ∧ t.pilot.faultN = true ∧ t.dev = s.dev ∧ SameMem s t) ∧
    (∀ e m, msgKnown m = true → (m.source < 0x190 ∨ 0x192 < m.source) → pairOp s = false → severity s m.source = 1 →
      rd s Reg.FCL_STATUS_VALID = 1 →
      ∃ t, exec (.faultMessage e m []) s = .next t ∧ rd t Reg.FCL_FIRST_VALUE = rd s Reg.FCL_FIRST_VALUE ∧
        rd t Reg.FCL_STATUS_OVF = 1 ∧
        rd t Reg.FCL_STATUS_COUNT = min (2 ^ 16 - 1) (rd s Reg.FCL_STATUS_COUNT + 1) ∧
        rd t Reg.FCL_LAST_VALUE = msgWord m % 2 ^ 32 ∧ t.dev = s.dev ∧ SameMem s t) ∧
    (∃ t, exec .fclClearWrite s = .next t ∧ rd t Reg.FCL_FIRST_VALUE = 0 ∧ rd t Reg.FCL_FIRST_EXT_VALUE = 0 ∧
      rd t Reg.FCL_FIRST_FCNT_VALUE = 0 ∧ rd t Reg.FCL_STATUS_VALID = 0 ∧ rd t Reg.FCL_STATUS_EXTV = 0 ∧
      rd t Reg.FCL_STATUS_OVF = 0 ∧ rd t Reg.FCL_STATUS_COUNT = 0 ∧ rd t Reg.FCL_STATUS_HIGHEST = 0 ∧
      RegsBut [Reg.FCL_FIRST_VALUE, Reg.FCL_FIRST_EXT_VALUE, Reg.FCL_FIRST_FCNT_VALUE, Reg.FCL_STATUS_VALID,
        Reg.FCL_STATUS_EXTV, Reg.FCL_STATUS_OVF, Reg.FCL_STATUS_COUNT, Reg.FCL_STATUS_HIGHEST, Reg.FCL_STATUS_FAULTN,
        Reg.FST_EMBER, Reg.FCL_STATUS_EMBER] s t ∧ SameMem s t ∧ Quiet s t ∧ t.dev = s.dev)

/-! ### Mailboxes (chapter 10) -/

/-- The record that S0 writes: 16 bytes at the slot of the write pointer, which then counts one more; no other byte of memory
changes. A descriptor that asked for no completion gets one only for a status other than OK and DEFERRED (R308, R309, R310). -/
def Obligations.CompletionRecord : Prop :=
  ∀ (q : Cpl) (status d0 d1 : Nat) (s : State), q.ch < 5 →
    (q.cpl = true ∨ (status ≠ 0 ∧ status ≠ 6) →
      (let t := complete q status d0 d1 s
       let a := cplSlotAddr q.ch (rd s (Reg.HIF_MB_CPLWP_COUNT q.ch))
       let detail := if status = 5 ∨ status = 6 ∨ status = 12 then stateWord s else d0
       (∀ i, i < 16 → ldByte t (a + i) =
         ((recordBytes s q (rd s (Reg.HIF_MB_CPLWP_COUNT q.ch)) status detail d1)[i]?).getD 0) ∧
       MemBut a 16 s t ∧
       rd t (Reg.HIF_MB_CPLWP_COUNT q.ch) = (rd s (Reg.HIF_MB_CPLWP_COUNT q.ch) + 1) % 65536 ∧
       t.dev = s.dev ∧ t.waits = s.waits ∧ t.inbox = s.inbox)) ∧
    (q.cpl = false → status = 0 ∨ status = 6 → complete q status d0 d1 s = s)

/-- The ring pointers: a doorbell or a write of CPLRP by a master that has the right takes effect inside its window and is
counted in DBERR outside it, a doorbell outside it raising MBX_DB; a host without the right changes nothing (R305, R312, R313). -/
def Obligations.RingPointerWrites : Prop :=
  ∀ (s : State) (who : Master) (c v : Nat), mainOn s.dev.state = true → c < 5 → v < 65536 →
    (doorbellRight who c = true → diff16 v (rd s (Reg.HIF_MB_CMDRP_COUNT c)) ≤ 64 →
      diff16 v (rd s (Reg.HIF_MB_CMDWP_WP c)) ≤ diff16 v (rd s (Reg.HIF_MB_CMDRP_COUNT c)) →
      ∃ t, exec (.doorbell who c v) s = .next t ∧ rd t (Reg.HIF_MB_CMDWP_WP c) = v ∧
        bit (rd t (Reg.ITC_PEND_MAP 0)) c = true ∧
        OnlyRegs [Reg.HIF_MB_CMDWP_WP c, Reg.HIF_MB_STAT_STALL c, Reg.ITC_PEND_MAP 0] s t) ∧
    (doorbellRight who c = true → 64 < diff16 v (rd s (Reg.HIF_MB_CMDRP_COUNT c)) →
      ∃ t, exec (.doorbell who c v) s = .next t ∧ rd t (Reg.HIF_MB_CMDWP_WP c) = rd s (Reg.HIF_MB_CMDWP_WP c) ∧
        t.inbox = s.inbox ++ [⟨0x0F3, 0x39, c, none⟩] ∧ RegsBut [Reg.HIF_MB_STAT_DBERR c] s t ∧ t.mem = s.mem) ∧
    (doorbellRight who c = false → who ≠ .s1 → ∃ t, exec (.doorbell who c v) s = .next t ∧ t = s) ∧
    (cplrpRight who c = true → diff16 v (rd s (Reg.HIF_MB_CPLRP_RP c)) ≤ unconsumed s c →
      ∃ t, exec (.cplrpWrite who c v) s = .next t ∧ rd t (Reg.HIF_MB_CPLRP_RP c) = v ∧
        OnlyRegs [Reg.HIF_MB_CPLRP_RP c] s t) ∧
    (cplrpRight who c = true → unconsumed s c < diff16 v (rd s (Reg.HIF_MB_CPLRP_RP c)) →
      ∃ t, exec (.cplrpWrite who c v) s = .next t ∧ OnlyRegs [Reg.HIF_MB_STAT_DBERR c] s t) ∧
    (cplrpRight who c = false → who ≠ .s1 → ∃ t, exec (.cplrpWrite who c v) s = .next t ∧ t = s)

/-- Moderation and the sleeping host: a window that reaches TIME sets PEND and closes, but for a held channel only closes;
HOST_AWAKE low holds CH0 to CH2, high starts the release, which sets PEND of each with unconsumed completions; clearing PEND
reopens the window of a channel whose completions are not all consumed (R324 to R327). -/
def Obligations.ModerationAndHostAwake : Prop :=
  ∀ s : State, mainOn s.dev.state = true →
    (∀ c, c < 5 → (SMap.find s.mbx.windows c).isSome = true → held s c = false →
      ∃ t, exec (.moderationTimer c) s = .next t ∧ rd t Reg.HIF_MB_IRQ_PEND = setBit (rd s Reg.HIF_MB_IRQ_PEND) c % 32 ∧
        t.mbx.windows = SMap.del s.mbx.windows c ∧ t.mem = s.mem ∧ t.dev = s.dev ∧
        RegsBut [Reg.HIF_MB_IRQ_PEND, Reg.HIF_MB_HOST_IRQ, Reg.ITC_PEND_MAP 0] s t) ∧
    (∀ c, c < 3 → (SMap.find s.mbx.windows c).isSome = true → s.mbx.awake = false →
      ∃ t, exec (.moderationTimer c) s = .next t ∧
        t = { s with mbx := { s.mbx with windows := SMap.del s.mbx.windows c } }) ∧
    (∃ t, exec .hostAwakeFall s = .next t ∧ t.mbx.awake = false ∧ t.mbx.release = false ∧
      rd t Reg.HIF_MB_HOST_AWAKE = 0 ∧ RegsBut [Reg.HIF_MB_HOST_AWAKE] s t ∧ t.tx = s.tx ∧ t.mem = s.mem) ∧
    (s.mbx.awake = false → ∃ t, exec .hostAwakeRise s = .next t ∧ t.mbx.awake = true ∧ t.mbx.release = true ∧
      rd t Reg.HIF_MB_HOST_AWAKE = 1 ∧ RegsBut [Reg.HIF_MB_HOST_AWAKE] s t ∧ t.tx = s.tx ∧ t.mem = s.mem) ∧
    (s.mbx.awake = true → s.mbx.release = true → ∃ t, exec .hostAwakeRelease s = .next t ∧ t.mbx.release = false ∧
      rd t Reg.HIF_MB_HOST_HELD = 0 ∧
      (∀ c, c < 3 → bit (rd t Reg.HIF_MB_IRQ_PEND) c = (bit (rd s Reg.HIF_MB_IRQ_PEND) c || unconsumed s c != 0)) ∧
      t.mem = s.mem) ∧
    (∀ m, (∀ c, c < 5 → unconsumed s c = 0) →
      ∃ t, exec (.pendClear .s0 m) s = .next t ∧
        rd t Reg.HIF_MB_IRQ_PEND =
          andNot (rd s Reg.HIF_MB_IRQ_PEND) (rd s Reg.HIF_MB_IRQ_PEND &&& m &&& 31) 5 ∧
        RegsBut [Reg.HIF_MB_IRQ_PEND, Reg.HIF_MB_HOST_IRQ] s t ∧ t.mbx = s.mbx) ∧
    (bit (rd s Reg.HIF_MB_IRQ_PEND) 0 = true → unconsumed s 0 ≠ 0 →
      unconsumed s 0 < clampN 1 64 (rd s (Reg.HIF_MB_MOD_COUNT 0)) →
      ∃ t, exec (.pendClear .host 1) s = .next t ∧ bit (rd t Reg.HIF_MB_IRQ_PEND) 0 = false ∧
        SMap.find t.mbx.windows 0 = some ⟨unconsumed s 0⟩)

/-- A channel reset drops the untaken descriptors at once where no command of the channel waits, and otherwise waits for them;
a deferred command whose deadline has passed leaves the list and completes with EXPIRED and the reason of its last failed
check (R322, R323, R333). Model's choices in it: log entry 9. -/
def Obligations.ChannelResetAndExpiry : Prop :=
  ∀ (s : State) (c : Nat), c < 5 →
    (∀ who, mainOn s.dev.state = true → cplrpRight who c = true → s.waits = [] → s.mbx.deferred = [] →
      (∀ k, k < 5 → k ≠ c → rd s (Reg.HIF_MB_CTRL_RESET k) = 0) →
      ∃ t, exec (.mbxChannelReset who c) s = .next t ∧ rd t (Reg.HIF_MB_CTRL_RESET c) = 0 ∧
        rd t (Reg.HIF_MB_CMDRP_COUNT c) = rd s (Reg.HIF_MB_CMDWP_WP c) % 65536 ∧
        rd t (Reg.HIF_MB_CPLWP_COUNT c) = rd s (Reg.HIF_MB_CPLWP_COUNT c) ∧ SameMem s t ∧ t.dev = s.dev) ∧
    (∀ who w, mainOn s.dev.state = true → cplrpRight who c = true → s.waits = [w] → w.cpl.ch = c →
      (∀ k, k < 5 → k ≠ c → rd s (Reg.HIF_MB_CTRL_RESET k) = 0) →
      ∃ t, exec (.mbxChannelReset who c) s = .next t ∧ rd t (Reg.HIF_MB_CTRL_RESET c) = 1 ∧
        OnlyRegs [Reg.HIF_MB_CTRL_RESET c] s t) ∧
    (∀ q tm, s.mbx.deferred = [q] → q.d.ch = c → q.deadline ≤ max s.now tm →
      exec (.deferExpired c q.d.tag tm) s = .next (complete (cplOf q.opc q.d true) 12 0 q.reason
        (setDefq { atTime tm s with mbx := { s.mbx with deferred := [] } })))

/-- S0 takes the descriptor at the head of the channel that R314 names: CMDRP counts it, the dump's log keeps it, the round
robin moves on, and what follows is exactly the row of its opcode on the state so left. Model's choices in it: log entry 9. -/
def Obligations.DescriptorTakeRunsItsRow : Prop :=
  ∀ (s : State) (e : Env) (c : Nat) (i : Instr),
    nextChannel (atTime e.t s) = some c →
    (let a := atTime e.t s
     let b := headOf a c
     let k := rd a (Reg.HIF_MB_CMDRP_COUNT c)
     let d := parseDesc c (k % 64) b
     let u := logTake b c (checkStatus (leAt b 0 2) d a)
       (wr (Reg.HIF_MB_CMDRP_COUNT c) (k + 1) { a with mbx := { a.mbx with last := c } })
     mailboxInstr (leAt b 0 2) d e = some i → exec (.descriptorTake e) s = exec i u)

/-- The checks of R318 in their order, for every command of the mailbox: an unsound descriptor ends with BAD_PARAM, one on a
channel that may not carry it with CHANNEL, one whose tag is missing or wrong with AUTH and MBX_AUTH raised, one with a parameter out of
range with BAD_PARAM, one illegal now with its status and reason, one that is legal without effect (○) with OK and the STATE
word; none of these has any other effect. Model's choices in it: log entry 9. -/
def Obligations.DescriptorChecksInOrder : Prop :=
  ∀ (s : State) (e : Env) (d : Desc) (opc : Nat) (i : Instr) (c : Cmd) (r : CmdRow),
    mailboxInstr opc d e = some i → cmdOf opc = some (c, r) → serves s d.ch = true →
    (let a := atTime e.t s
     let q := cplOf opc d false
     (soundDesc c.used d = false → exec i s = .next (complete q 3 0 0 a)) ∧
     (soundDesc c.used d = true → channelOk r a d.ch = false → exec i s = .next (complete q 2 0 0 a)) ∧
     (soundDesc c.used d = true → channelOk r a d.ch = true → authAsked r d = true →
       (dAuth d && tagOk opc d a) = false → exec i s = .next (complete q 4 0 0 (raise 0x0F2 d.ch a))) ∧
     (soundDesc c.used d = true → channelOk r a d.ch = true →
       (authAsked r d = true → dAuth d = true ∧ tagOk opc d a = true) →
       (let u := taken opc d e s
        (judge c r d u = .bad → exec i s = .next (complete q 3 0 0 u)) ∧
        (judge c r d u = .done → exec i s = .next (complete q 0 (stateWord u) 0 u)) ∧
        (∀ st reason, judge c r d u = .held st reason → dDefer d = false →
          exec i s = .next (complete q st 0 (heldDetail st reason) u)))))

/-! ### Raster and commit (chapter 2) -/

/-- The sample at line 127: GO is read and cleared. With every shadow in range and a level that covers the mode, the values that
the shadows have at that instant become the staging set, the active copies staying as they are; otherwise the whole commit is
refused with its cause and its event (R65, R69, R71, R81). -/
def Obligations.CommitSamplesTheShadows : Prop :=
  ∀ s : State, rasterOn s = true → lineNow s = 127 → s.ras.sampled = false → s.ras.stag = none → isStandby s = false →
    role s ≠ 1 → rd s Reg.RAS_COMMIT_GO = 1 → modeCap s = 3 → NoneRuns s →
    (setInRange s (shadowSet s) = true → levelCovers s (rd s Reg.RAS_SH_TIMING_MODE) = true →
      timingDiffers s (shadowSet s) = false →
      ∃ t m, exec .commitSample s = .next t ∧ t.ras.stag = some m ∧ (∀ f ∈ shadowFlds, setGet m f = rd s f) ∧
        t.ras.act = s.ras.act ∧ rd t Reg.RAS_COMMIT_GO = 0 ∧ rd t Reg.RAS_STATUS_PENDING = 1 ∧
        t = { s with regs := t.regs, ras := t.ras } ∧ RegsBut [Reg.RAS_COMMIT_GO, Reg.RAS_STATUS_PENDING] s t) ∧
    (setInRange s (shadowSet s) = false →
      ∃ t, exec .commitSample s = .next t ∧ t.ras.stag = none ∧ t.ras.act = s.ras.act ∧ rd t Reg.RAS_COMMIT_GO = 0 ∧
        rd t Reg.RAS_STATUS_REFUSED = 1 ∧ rd t Reg.RAS_STATUS_REFCAUSE = 2 ∧
        bit (rd t (Reg.ITC_PEND_MAP 0)) 0x11 = true ∧ t = { s with regs := t.regs, ras := t.ras } ∧
        RegsBut [Reg.RAS_COMMIT_GO, Reg.RAS_STATUS_PENDING, Reg.RAS_STATUS_REFUSED, Reg.RAS_STATUS_REFCAUSE,
          Reg.ITC_PEND_MAP 0] s t) ∧
    (setInRange s (shadowSet s) = true → levelCovers s (rd s Reg.RAS_SH_TIMING_MODE) = false →
      ∃ t, exec .commitSample s = .next t ∧ t.ras.stag = none ∧ t.ras.act = s.ras.act ∧ rd t Reg.RAS_COMMIT_GO = 0 ∧
        rd t Reg.RAS_STATUS_REFUSED = 1 ∧ rd t Reg.RAS_STATUS_REFCAUSE = 1 ∧
        bit (rd t (Reg.ITC_PEND_MAP 0)) 0x11 = true)

/-- Writing GO: while the raster runs it waits for the sample, marked late from line 127 to line 135; with the raster
stopped the shadows become the active copies at once, both halves together, with the event and COMMIT_FCNT; CANCEL takes a GO
back that no sample has read (R66, R67, R68, R70, R72). -/
def Obligations.CommitGoAndCancel : Prop :=
  ∀ s : State,
    (mainOn s.dev.state = true → rasterOn s = true → isStandby s = false → rd s Reg.RAS_COMMIT_GO = 0 →
      lineNow s ≠ 127 ∨ s.ras.sampled = true →
      ∃ t, exec .commitGoWrite s = .next t ∧ rd t Reg.RAS_COMMIT_GO = 1 ∧ rd t Reg.RAS_STATUS_PENDING = 1 ∧
        rd t Reg.RAS_STATUS_LATE = (if 127 ≤ lineNow s ∧ lineNow s ≤ 135 then 1 else rd s Reg.RAS_STATUS_LATE) ∧
        OnlyRegs [Reg.RAS_COMMIT_GO, Reg.RAS_STATUS_PENDING, Reg.RAS_STATUS_LATE] s t) ∧
    (mainOn s.dev.state = true → rasterOn s = false → modeCap s = 3 → setInRange s (shadowSet s) = true →
      ∃ t, exec .commitGoWrite s = .next t ∧ (∀ f ∈ shadowFlds, act t f = rd s f) ∧
        rd t Reg.RAS_COMMIT_FCNT_FCNT = rd s Reg.RAS_FCNT_FCNT ∧ bit (rd t (Reg.ITC_PEND_MAP 0)) 0x10 = true ∧
        t = { s with regs := t.regs, ras := t.ras, gte := t.gte, sec := t.sec } ∧
        RegsBut [Reg.RAS_COMMIT_FCNT_FCNT, Reg.ITC_PEND_MAP 0, Reg.GTE_ENVSET_SET] s t) ∧
    (mainOn s.dev.state = true → rasterOn s = false → setInRange s (shadowSet s) = false →
      ∃ t, exec .commitGoWrite s = .next t ∧ rd t Reg.RAS_STATUS_REFUSED = 1 ∧ rd t Reg.RAS_STATUS_REFCAUSE = 2 ∧
        bit (rd t (Reg.ITC_PEND_MAP 0)) 0x11 = true ∧
        OnlyRegs [Reg.RAS_STATUS_REFUSED, Reg.RAS_STATUS_REFCAUSE, Reg.ITC_PEND_MAP 0] s t) ∧
    (rd s Reg.RAS_COMMIT_GO = 1 → lineNow s ≠ 127 ∨ s.ras.sampled = true → NoneRuns s →
      ∃ t, exec .commitCancel s = .next t ∧ rd t Reg.RAS_COMMIT_GO = 0 ∧
        rd t Reg.RAS_STATUS_PENDING = b2n s.ras.stag.isSome ∧
        OnlyRegs [Reg.RAS_COMMIT_GO, Reg.RAS_STATUS_PENDING] s t) ∧
    (rd s Reg.RAS_COMMIT_GO = 0 → ∃ t, exec .commitCancel s = .next t ∧ t = s)

/-- A write of PHASE_NS while the raster runs shifts the raster error by the change, reduced into half a frame either way, and
moves no slot; reading FCNT copies the captures of the last slot; a software event fires its bit, and clears its enable
when it is armed for once (R54, R59, R82). -/
def Obligations.PhaseCapturesAndEvents : Prop :=
  ∀ s : State,
    (∀ v : Word, mainOn s.dev.state = true → rasterOn s = true →
      ∃ t, exec (.phaseWrite v) s = .next t ∧ rd t Reg.RAS_PHASE_PHASE_NS = v.toNat % 2 ^ 21 ∧
        rdi t Reg.RAS_ERR_ERR =
          wrapErr (period s) (rasErr s - ((v.toNat % 2 ^ 21 : Nat) - (rd s Reg.RAS_PHASE_PHASE_NS : Nat) : Int)) ∧
        t = { s with regs := t.regs, ras := t.ras } ∧
        RegsBut [Reg.RAS_PHASE_PHASE_NS, Reg.RAS_ERR_ERR, Reg.RAS_STATUS_LOCKST] s t) ∧
    (∀ v : Word, mainOn s.dev.state = true → rasterOn s = false →
      ∃ t, exec (.phaseWrite v) s = .next t ∧ rd t Reg.RAS_PHASE_PHASE_NS = v.toNat % 2 ^ 21 ∧
        t = { s with regs := t.regs, ras := t.ras } ∧ RegsBut [Reg.RAS_PHASE_PHASE_NS] s t) ∧
    (mainOn s.dev.state = true → ∃ t, exec .fcntRead s = .next t ∧
      rd t Reg.RAS_FLIPTS0_S_SEC = s.ras.caps.d0s % 2 ^ 32 ∧ rd t Reg.RAS_FLIPTS1_S_SEC = s.ras.caps.d1s % 2 ^ 32 ∧
      rd t Reg.RAS_FLIPTS0_NS_NSEC = s.ras.caps.d0n % 2 ^ 30 ∧ rd t Reg.RAS_FLIPTS1_NS_NSEC = s.ras.caps.d1n % 2 ^ 30 ∧
      rd t Reg.RAS_FLIPRAW_LO_RAW = s.ras.caps.raw % 2 ^ 32 ∧
      rd t Reg.RAS_FLIPRAW_HI_RAW = s.ras.caps.raw / 2 ^ 32 % 2 ^ 32 ∧
      OnlyRegs [Reg.RAS_FLIPTS0_S_SEC, Reg.RAS_FLIPTS1_S_SEC, Reg.RAS_FLIPTS0_NS_NSEC, Reg.RAS_FLIPTS1_NS_NSEC,
        Reg.RAS_FLIPRAW_LO_RAW, Reg.RAS_FLIPRAW_HI_RAW] s t) ∧
    (∀ n, n < 4 → rasterOn s = true → lineNow s ≠ 0xFF → rd s (Reg.RAS_EVT_EN n) = 1 →
      ∃ t, exec (.rasEvtFire n) s = .next t ∧ bit (rd t (Reg.ITC_PEND_MAP 0)) (0x12 + n) = true ∧
        rd t (Reg.RAS_EVT_EN n) = (if rd s (Reg.RAS_EVT_ONCE n) = 0 then 1 else 0) ∧
        OnlyRegs [Reg.RAS_EVT_EN n, Reg.ITC_PEND_MAP 0] s t) ∧
    (∀ n, rd s (Reg.RAS_EVT_EN n) = 0 ∨ lineNow s = 0xFF → ∃ t, exec (.rasEvtFire n) s = .next t ∧ t = s)

/-! ### The raster frame (chapter 2) -/

/-- A line start: the raster moves to the next line, 128 behind the start and the seam period, 0 behind 135. The device state,
the memory and the frame count stay; with the raster stopped nothing happens (R49, R56, R76). -/
def Obligations.LinesFollowOneAnother : Prop :=
  ∀ (s : State) (tm : Nat), s.mbx.withdraw = false →
    (rasterOn s = true →
      ∃ t, exec (.lineStart tm) s = .next t ∧ rd t Reg.RAS_POS_OFFSET = 0 ∧ t.ras.lineAt = max s.now tm ∧
        rd t Reg.RAS_POS_LINE = (if 135 < lineNow s then 128 else if lineNow s = 135 then 0 else lineNow s + 1) ∧
        rd t Reg.RAS_FCNT_FCNT = rd s Reg.RAS_FCNT_FCNT ∧ t.mem = s.mem ∧ t.dev = s.dev ∧ t.pilot = s.pilot ∧
        t.tiles = s.tiles) ∧
    (rasterOn s = false → ∃ t, exec (.lineStart tm) s = .next t ∧ t = s)

/-- A content start with nothing staged: the content rendered so far becomes the one sent, both engines run, and the new content
takes as SEQ the count at the slot that will show it, two slots ahead, one ahead in the start frame; with SEAM_WAIT clear
a staging set transfers whole and names in COMMIT_FCNT the count of this frame's slot, and at a seam the engines do not
start (R56, R57, R63, R66, R68, R76). -/
def Obligations.ContentStartRendersOrTransfers : Prop :=
  ∀ (s : State) (e : Env), rasterOn s = true → lineNow s = 128 → s.ras.csDone = false → NoneRuns s → NothingWaits s →
    (s.ras.stag = none → s.ras.seam = false → joinKnown s = false →
      ∃ t, exec (.contentStart e) s = .next t ∧ t.ras.csDone = true ∧ t.gte.active = true ∧
        t.gte.seq = (rd s Reg.RAS_FCNT_FCNT + (if s.ras.startFrame then 1 else 2)) % 2 ^ 32 ∧
        t.gte.sent = (if s.gte.active then s.gte.codes else s.gte.sent) ∧
        rd t (Reg.GTX_STATUS_RUN 0) = 1 ∧ rd t (Reg.GTX_STATUS_RUN 1) = 1 ∧
        rd t Reg.RAS_FCNT_FCNT = rd s Reg.RAS_FCNT_FCNT ∧ t.dev = s.dev ∧ t.pilot = s.pilot ∧ t.tiles = s.tiles) ∧
    (∀ m, s.ras.stag = some m → s.ras.seam = true → rd s Reg.RAS_STATUS_SEAM_WAIT = 0 → s.dev.entering = none →
      ∃ t, exec (.contentStart e) s = .next t ∧ t.ras.stag = none ∧ t.ras.csDone = true ∧
        (∀ f ∈ shadowFlds, act t f = setGet m f) ∧
        rd t Reg.RAS_COMMIT_FCNT_FCNT = (rd s Reg.RAS_FCNT_FCNT + 1) % 2 ^ 32 ∧
        bit (rd t (Reg.ITC_PEND_MAP 0)) 0x10 = true ∧ t.gte.active = false ∧ t.dev = s.dev ∧ t.tiles = s.tiles)

/-- The slot: FCNT counts, and every lane that is up carries one set, SEAM where a seam applies, ABORT where the content sent is
withdrawn, FLIP otherwise, naming the new count; only FLIP shows the content sent; SEAM starts the seam period. The start
frame's slot carries nothing and is not counted (R56, R57, R76, R124). -/
def Obligations.SlotsCountAndCarryOneSet : Prop :=
  ∀ (s : State) (tm : Nat) (im : List Nat), rasterOn s = true → lineNow s = 128 → s.ras.slotDone = false →
    (s.ras.startFrame = false →
      ∃ t, exec (.broadcastSlot tm im) s = .next t ∧ t.ras.slotDone = true ∧
        rd t Reg.RAS_FCNT_FCNT = (rd s Reg.RAS_FCNT_FCNT + 1) % 2 ^ 32 ∧
        rd t Reg.RAS_STATUS_SEAM_LAST = b2n s.ras.seam ∧
        rd t Reg.RAS_STATUS_ABORT_LAST = b2n (!s.ras.seam && (s.ras.withdrawn || s.ptn.abort)) ∧
        t.gte.shown = (if s.ras.seam || s.ras.withdrawn || s.ptn.abort then s.gte.shown else s.gte.sent) ∧
        (s.ras.seam = true → rd t Reg.RAS_SEAM_FCNT_FCNT = (rd s Reg.RAS_FCNT_FCNT + 1) % 2 ^ 32 ∧
          rd t Reg.RAS_STATUS_SEAM_ACT = 1 ∧ rd t Reg.RAS_POS_LINE = 0xFF) ∧
        (s.ras.seam = false → s.ras.withdrawn = false → s.ptn.abort = false → muted s = false →
          rd s Reg.TPR_CTRL_EN = 1 → ∀ n ∈ upLanes s,
            Tx.bcast n 1 (seqArgs ((rd s Reg.RAS_FCNT_FCNT + 1) % 2 ^ 32) 0) ∈ t.tx) ∧
        t.dev = s.dev ∧ t.pilot = s.pilot ∧ t.tiles = s.tiles) ∧
    (s.ras.startFrame = true → joinKnown s = false →
      ∃ t, exec (.broadcastSlot tm im) s = .next t ∧ t.ras.slotDone = true ∧ t.ras.startFrame = false ∧
        rd t Reg.RAS_FCNT_FCNT = rd s Reg.RAS_FCNT_FCNT ∧ t.tx = s.tx ∧ t.mem = s.mem ∧ t.dev = s.dev ∧
        t.gte.shown = s.gte.shown)

/-! ### Base frames and rendering (chapter 3) -/

/-- An engine that renders the tile line due shows it and goes on to the next, stopping behind line 127; a line that has missed
its deadline sets LATE, raises RENDER_LATE and withdraws the content once (R63, R123, R124). -/
def Obligations.TileLinesInTimeAndLate : Prop :=
  ∀ (s : State) (east : Bool) (l : Nat), rasterOn s = true → s.gte.active = true → lineNow s ≠ 0xFF → l < 128 →
    (∀ clk bl, l = nextLine s east → l ≤ renderPos s →
      ∃ t, exec (.tileLineRender east l clk bl) s = .next t ∧ nextLine t east = l + 1 ∧
        nextLine t (!east) = nextLine s (!east) ∧ rd t (Reg.GTX_STATUS_LINE (if east then 0 else 1)) = l ∧
        (l = 127 → rd t (Reg.GTX_STATUS_RUN (if east then 0 else 1)) = 0) ∧
        t.mem = s.mem ∧ t.tx = s.tx ∧ t.ras = s.ras ∧ t.dev = s.dev ∧ t.tiles = s.tiles) ∧
    (∀ clk bl, renderPos s < l → ∃ t, exec (.tileLineRender east l clk bl) s = .next t ∧ t = s) ∧
    (s.cor.line ≤ l → l + 7 ≤ renderPos s → lineNow s < 128 → s.ras.withdrawn = false →
      ∃ t, exec (.renderDeadlineMiss east l) s = .next t ∧ t.ras = { s.ras with withdrawn := true } ∧
        rd t (Reg.GTX_STATUS_LATE (if east then 0 else 1)) = 1 ∧
        rd t Reg.GTE_ABORTCNT_COUNT = min (2 ^ 32 - 1) (rd s Reg.GTE_ABORTCNT_COUNT + 1) ∧
        t.inbox = s.inbox ++ [⟨if east then 0x064 else 0x074, 0x13, 0, none⟩] ∧
        RegsBut [Reg.GTX_STATUS_LATE 0, Reg.GTX_STATUS_LATE 1, Reg.GTE_ABORTCNT_COUNT] s t ∧ t.mem = s.mem ∧ t.tx = s.tx)

/-- A packet that goes on with the frame being written stores its row, each sample widened to 16 bits, and the last one of a
frame with every row makes it the complete frame that waits; the age of the base frame is counted and raises its two faults
once an episode (R87, R88, R89, R97). Model's choices in it: log entry 9. -/
def Obligations.BaseFramesArriveAndAge : Prop :=
  ∀ s : State,
    (∀ port tm n (p : AvtpPkt) w, portUp s port = true → macsecBars s port = false → p.badFormat = false →
      streamOf s p.sid = some n → p.first = false → (streamSt s n).writing = some w → w.bad = false →
      p.seqNo = (w.seqNo + 1) % 256 → p.widthCode = rd s (Reg.GTE_SCFG_FMT n) → p.row < streamH s n →
      p.samples.length = streamW s n → 0 < streamW s n → s.eccBad = [] → w.rows.contains p.row = false →
      (let a := bufAddr n w.buf + p.row * 4096
       let b := p.samples.flatMap (fun v => leBytes 2 (storedSample (rd s (Reg.GTE_SCFG_FMT n)) v))
       ∃ t, exec (.avtpPacket port tm p) s = .next t ∧ (∀ i, i < b.length → ldByte t (a + i) = (b[i]?).getD 0) ∧
         MemBut a b.length s t ∧ t.tx = s.tx ∧ t.dev = s.dev ∧ t.ras = s.ras ∧
         (p.last = true → w.rows.length + 1 = streamH s n →
           streamSt t n = ⟨none, some ⟨w.buf, w.pt⟩⟩) ∧
         (p.last = false → (streamSt t n).waiting = (streamSt s n).waiting ∧
           (streamSt t n).writing = some { w with seqNo := p.seqNo, rows := p.row :: w.rows }))) ∧
    (∀ port tm p, portUp s port = true → macsecBars s port = false → p.badFormat = true →
      ∃ t, exec (.avtpPacket port tm p) s = .next t ∧
        rd t (Reg.ETH_P_RXDROP_FRAME port) = min (2 ^ 8 - 1) (rd s (Reg.ETH_P_RXDROP_FRAME port) + 1) ∧
        OnlyRegs [Reg.ETH_P_RXDROP_FRAME port] (atTime tm s) t) ∧
    (∀ tm, rasterOn s = true → s.gte.source ≠ .direct →
      (let age := baseAge (atTime tm s)
       let stale := clampN 10 2000 (rd s Reg.GTE_STALE_STALE_MS)
       let lost := max stale (rd s Reg.GTE_STALE_LOST_MS)
       ∃ t, exec (.baseStaleTimer tm) s = .next t ∧ rd t Reg.GTE_BASE_AGE_AGE = min 65535 age ∧
         t.inbox = s.inbox ++ (if stale < age ∧ s.gte.staleUp = false then [⟨0x060, 0x0F, 0, none⟩] else []) ++
           (if lost < age ∧ s.gte.lostUp = false then [⟨0x061, 0x10, 0, none⟩] else []) ∧
         RegsBut [Reg.GTE_BASE_AGE_AGE] s t ∧ t.mem = s.mem ∧ t.tx = s.tx))

/-! ### Host links (chapter 9) -/

/-- R277: a hatch frame whose UDP length disagrees with 16 + LEN, or whose MAGIC or VER is wrong, is discarded without
response; every other request draws exactly one response, of its TYPE with bit 7 set and its SEQ. -/
def Obligations.HatchAnswersEachRequestOnce : Prop :=
  ∀ (s : State) (h : HatchHdr), HatchReaches h s →
    (let bad := h.udpLen ≠ 16 + h.len ∨ h.magic ≠ 0x4854 ∨ h.ver ≠ 1
     let answered := fun (type : Nat) (t : State) =>
       t.tx.countP isResponse = s.tx.countP isResponse + 1 ∧
         ∃ b, t.tx.getLast? = some (.hatch h.port h.srcIp h.srcPort b) ∧ byteAt b 3 = 0x80 + type ∧
           leAt b 4 4 = h.seq % 2 ^ 32
     (∀ ds, (bad → ∃ t, exec (.hatchCmd h ds) s = .next t ∧ t = s) ∧
       (¬bad → ∃ t, exec (.hatchCmd h ds) s = .next t ∧ answered 1 t)) ∧
     (∀ n r, (bad → ∃ t, exec (.hatchRead h n r) s = .next t ∧ t = s) ∧
       (¬bad → ∃ t, exec (.hatchRead h n r) s = .next t ∧ answered 2 t)) ∧
     (∀ b, (bad → ∃ t, exec (.hatchWrite h b) s = .next t ∧ t = s) ∧
       (¬bad → ∃ t, exec (.hatchWrite h b) s = .next t ∧ answered 3 t)))

/-- What hatch requests carry out: CMD places its descriptors at the write pointer of the CH1 ring and moves the pointer once,
READ answers with the words of the host window, WRITE stores its bytes in the CH0 command ring; a frame from another address
is only counted (R276, R278, R304). Model's choices in it: log entry 40. -/
def Obligations.HatchMovesDescriptorsAndWords : Prop :=
  ∀ (s : State) (h : HatchHdr),
    (∀ ds : List Bytes, HatchServed h s → h.addr = 0 → 0 < ds.length → ds.length ≤ 22 → h.len = 64 * ds.length →
      (∀ d ∈ ds, d.length = 64) → s.eccBad = [] →
      (let wp := rd s (Reg.HIF_MB_CMDWP_WP 1)
       let rp := rd s (Reg.HIF_MB_CMDRP_COUNT 1)
       diff16 wp rp + ds.length ≤ 64 →
        ∃ t, exec (.hatchCmd h ds) s = .next t ∧ rd t (Reg.HIF_MB_CMDWP_WP 1) = (wp + ds.length) % 65536 ∧
          (∀ k j, k < ds.length → j < 64 →
            ldByte t (cmdSlotAddr 1 (wp + k) + j) = (((ds[k]?).getD [])[j]?).getD 0) ∧
          bit (rd t (Reg.ITC_PEND_MAP 0)) 1 = true ∧ t.dev = s.dev ∧ t.waits = s.waits)) ∧
    (∀ n, HatchServed h s → h.len = 4 → 0 < n → n ≤ 256 → h.addr % 4 = 0 →
      winRegion h.addr = winRegion (h.addr + 4 * n - 4) → (hostFetches h.addr n s).2.1 = false →
      ∃ t, exec (.hatchRead h n 0) s = .next t ∧
        (∃ b, t.tx = s.tx ++ [.hatch h.port h.srcIp h.srcPort b] ∧
          ∀ i, i < n → leAt b (16 + 4 * i) 4 = (((hostFetches h.addr n s).1)[i]?).getD 0 % 2 ^ 32) ∧
        rd t (Reg.ETH_P_HATCH_ACCEPTED h.port) = (rd s (Reg.ETH_P_HATCH_ACCEPTED h.port) + 1) % 65536 ∧
        RegsBut [Reg.ETH_P_HATCH_ACCEPTED h.port] s t ∧ t.mem = s.mem ∧ t.dev = s.dev) ∧
    (∀ (o : Nat) (b : Bytes), HatchServed h s → h.addr = 0x10000 + o → o % 4 = 0 → 0 < b.length → b.length % 4 = 0 →
      h.len = b.length → b.length ≤ 1024 → o + b.length ≤ 0x1000 → s.eccBad = [] →
      ∃ t, exec (.hatchWrite h b) s = .next t ∧
        (∀ i, i < b.length → ldByte t (0x21F00000 + o + i) = (b[i]?).getD 0) ∧
        MemBut (0x21F00000 + o) b.length s t ∧ RegsBut [Reg.ETH_P_HATCH_ACCEPTED h.port] s t ∧ t.dev = s.dev) ∧
    (∀ ds, hatchHears s h.port = true → macsecBars s h.port = false → hatchPeer s h = false →
      ∃ t, exec (.hatchCmd h ds) s = .next t ∧ Counts (Reg.ETH_P_HATCH_PEER h.port) s t ∧
        OnlyRegs [Reg.ETH_P_HATCH_PEER h.port] s t)

/-- SPI transactions: a READ with a good header answers OK with the words of the host window, most significant byte first, and the
CRC-8 over them, in PILOT too; a bad header CRC answers HCRC and carries nothing out; a WRITE with two good CRCs stores its
words in the CH0 command ring, one with a bad data CRC nothing; a transaction cut short only counts (R281, R282, R283).
Model's choices in it: log entry 41. -/
def Obligations.SpiTransactions : Prop :=
  ∀ (s : State) (hdr : Bytes),
    (let n := byteAt hdr 0 % 64 + 1
     let a := beAt hdr 1 4
     (s.dev.state ≠ .off → byteAt hdr 5 = crc8 (hdr.take 5) → byteAt hdr 0 / 64 = 1 → a % 4 = 0 →
       (hostFetches a n s).2.1 = false →
       (let b := leBytes 1 0 ++ ((hostFetches a n s).1).flatMap (beBytes 4)
        ∃ t, exec (.spiRead hdr false) s = .next t ∧ t.tx = s.tx ++ [.spi (b ++ leBytes 1 (crc8 b))] ∧
          t.regs = s.regs ∧ t.mem = s.mem ∧ t.dev = s.dev)) ∧
     (mainOn s.dev.state = true → byteAt hdr 5 ≠ crc8 (hdr.take 5) →
       ∃ t b, exec (.spiRead hdr false) s = .next t ∧ t.tx = s.tx ++ [.spi b] ∧ byteAt b 0 = 1 ∧
         (∀ i, i < 4 * n → byteAt b (1 + i) = 0xFF) ∧ Counts Reg.HIF_SPI_STAT_HCRC s t ∧
         RegsBut [Reg.HIF_SPI_STAT_HCRC] s t ∧ t.mem = s.mem) ∧
     (∀ data : Bytes, mainOn s.dev.state = true → byteAt hdr 5 = crc8 (hdr.take 5) → byteAt hdr 0 / 64 = 2 →
       data.length = 4 * n → a % 4 = 0 → 0x10000 ≤ a → a + 4 * n ≤ 0x11000 → s.eccBad = [] →
       ∃ t, exec (.spiWrite hdr data (crc8 data) false) s = .next t ∧ t.tx = s.tx ++ [.spi (leBytes 1 0)] ∧
         (∀ i, i < 4 * n →
           ldByte t (0x21EF0000 + a + i) = (data[4 * (i / 4) + (3 - i % 4)]?).getD 0) ∧
         MemBut (0x21EF0000 + a) (4 * n) s t ∧ t.regs = s.regs ∧ t.dev = s.dev) ∧
     (∀ (data : Bytes) (c : Nat), mainOn s.dev.state = true → byteAt hdr 5 = crc8 (hdr.take 5) → byteAt hdr 0 / 64 = 2 →
       data.length = 4 * n → c ≠ crc8 data →
       ∃ t, exec (.spiWrite hdr data c false) s = .next t ∧ t.tx = s.tx ++ [.spi (leBytes 1 2)] ∧
         Counts Reg.HIF_SPI_STAT_DCRC s t ∧ RegsBut [Reg.HIF_SPI_STAT_DCRC] s t ∧ t.mem = s.mem)) ∧
    (∀ data c, mainOn s.dev.state = true →
      ∃ t, exec (.spiWrite hdr data c true) s = .next t ∧ Counts Reg.HIF_SPI_STAT_SHORT s t ∧
        OnlyRegs [Reg.HIF_SPI_STAT_SHORT] s t)

/-- The CAN FD port: a beam frame whose MAC verifies with a fresh counter becomes the next CH2 descriptor and LAST; one that
fails never reaches the ring, counts in AUTH and raises CAN_AUTH; a frame that no filter matches is ignored; the status frame
carries the STATE word and a counter; bus-off is raised and recovers (R284 to R289).
Model's choices in it: log entries 42 and 43. -/
def Obligations.CanFramesBecomeDescriptors : Prop :=
  ∀ s : State,
    (∀ id ext (data : Bytes), canOn s = true → canMatch s id ext = true → data.length = 32 →
      canMacOk s id ext data = true → rd s Reg.HIF_CAN_FRESH_LAST < leAt data 20 4 → byteAt data 3 < 4 → s.eccBad = [] →
      diff16 (rd s (Reg.HIF_MB_CMDWP_WP 2)) (rd s (Reg.HIF_MB_CMDRP_COUNT 2)) < 64 →
      (let wp := rd s (Reg.HIF_MB_CMDWP_WP 2)
       ∃ t, exec (.canBeamFrame id ext data) s = .next t ∧ rd t (Reg.HIF_MB_CMDWP_WP 2) = (wp + 1) % 65536 ∧
         rd t Reg.HIF_CAN_FRESH_LAST = leAt data 20 4 ∧ MemBut (cmdSlotAddr 2 wp) 64 s t ∧
         (∀ i, i < 2 → ldByte t (cmdSlotAddr 2 wp + i) = (data[i]?).getD 0) ∧
         (∀ i, i < 16 → ldByte t (cmdSlotAddr 2 wp + 8 + i) = (data[4 + i]?).getD 0) ∧
         (∀ i, 24 ≤ i → i < 64 → ldByte t (cmdSlotAddr 2 wp + i) = 0) ∧ t.tx = s.tx ∧ t.dev = s.dev ∧
         RegsBut [Reg.HIF_MB_CMDWP_WP 2, Reg.HIF_MB_STAT_STALL 2, Reg.HIF_CAN_FRESH_LAST, Reg.ITC_PEND_MAP 0] s t)) ∧
    (∀ id ext (data : Bytes), canOn s = true → canMatch s id ext = true → data.length = 32 →
      (canMacOk s id ext data = false ∨ leAt data 20 4 ≤ rd s Reg.HIF_CAN_FRESH_LAST) →
      ∃ t, exec (.canBeamFrame id ext data) s = .next t ∧ Counts Reg.HIF_CAN_STAT_AUTH s t ∧
        t.inbox = s.inbox ++ [⟨0x0F1, 0x37, 0, none⟩] ∧ RegsBut [Reg.HIF_CAN_STAT_AUTH] s t ∧ t.mem = s.mem) ∧
    (∀ id ext data, canMatch s id ext = false → ∃ t, exec (.canBeamFrame id ext data) s = .next t ∧ t = s) ∧
    (canOn s = true → rd s Reg.HIF_CAN_STID_EN = 1 → rd s Reg.HIF_CAN_CTRL_STPER ≠ 0 →
      ∃ t b, exec .canStatusFrame s = .next t ∧
        t.tx = s.tx ++ [.can (rd s Reg.HIF_CAN_STID_ID + rd s Reg.HIF_CAN_STID_EXT * 2 ^ 31) b] ∧ b.length = 8 ∧
        leAt b 0 4 = stateWord s % 2 ^ 32 ∧
        leAt b 4 2 = ((tileLanes s).filter (fun n => tileState s n != 0)).length ∧
        byteAt b 6 = s.links.canHigh % 256 ∧ byteAt b 7 = s.links.canCount % 256 ∧
        t.links.canCount = (s.links.canCount + 1) % 256 ∧ t.links.canHigh = 0 ∧ t.regs = s.regs ∧ t.mem = s.mem) ∧
    (canOn s = true → ∃ t, exec .canBusoff s = .next t ∧ rd t Reg.HIF_CAN_STAT_BUS = 2 ∧
      t.inbox = s.inbox ++ [⟨0x0F0, 0x36, 0, none⟩] ∧ RegsBut [Reg.HIF_CAN_STAT_BUS] s t ∧ t.mem = s.mem) ∧
    (mainOn s.dev.state = true → rd s Reg.HIF_CAN_STAT_BUS = 2 →
      ∃ t, exec .canBusoffRecovery s = .next t ∧ rd t Reg.HIF_CAN_STAT_BUS = 0 ∧
        OnlyRegs [Reg.HIF_CAN_STAT_BUS, Reg.HIF_CAN_STAT_TEC, Reg.HIF_CAN_STAT_REC] s t)

/-- The Ethernet ports: a link that comes or goes changes RATE, LINK and LINKCHG, a fall raising ETH_LINK; a gPTP event message is
stamped with the raw count corrected by the port's latency, in the clear; ARP and echo requests for the port's address are
answered and the ARP sender is held; an exchanged SAK is installed; a frame that is not supported counts in its field
(R272, R273, R275, R293). Model's choices in it: log entries 9 and 44. -/
def Obligations.EthernetPortsAnswer : Prop :=
  ∀ (s : State) (p : Nat), portUp s p = true →
    (∀ r, 0 < r → r < 4 → ∃ t, exec (.ethLink p r) s = .next t ∧ rd t (Reg.ETH_P_STATUS_RATE p) = r ∧
      rd t (Reg.ETH_P_STATUS_LINK p) = 1 ∧
      OnlyRegs [Reg.ETH_P_STATUS_RATE p, Reg.ETH_P_STATUS_LINK p] s t) ∧
    (∃ t, exec (.ethLink p 0) s = .next t ∧ rd t (Reg.ETH_P_STATUS_LINK p) = 0 ∧ rd t (Reg.ETH_P_STATUS_LINKCHG p) = 1 ∧
      rd t (Reg.ETH_P_STATUS_RATE p) = 0 ∧ t.inbox = s.inbox ++ [⟨0x0D0, 0x33, p, none⟩] ∧ t.mem = s.mem ∧
      RegsBut [Reg.ETH_P_STATUS_RATE p, Reg.ETH_P_STATUS_LINK p, Reg.ETH_P_STATUS_LINKCHG p] s t) ∧
    (∀ tm, ∃ t, exec (.gptpFrame p tm true) s = .next t ∧ t = { atTime tm s with links := t.links } ∧
      SMap.find t.links.stamps (2 * p + 1) =
        some ((4 * rawNow (atTime tm s) : Nat) + (rd s (Reg.ETH_P_TSLAT_EGRESS p) : Nat) : Int)) ∧
    (∀ tm, ∃ t, exec (.gptpFrame p tm false) s = .next t ∧ t = { atTime tm s with links := t.links } ∧
      SMap.find t.links.stamps (2 * p) =
        some ((4 * rawNow (atTime tm s) : Nat) - (rd s (Reg.ETH_P_TSLAT_INGRESS p) : Nat) : Int)) ∧
    (∀ ip mac, macsecBars s p = false → rd s (Reg.ETH_P_IPADDR_ADDR p) ≠ 0 →
      ∃ t, exec (.arpRequest p ip mac (rd s (Reg.ETH_P_IPADDR_ADDR p))) s = .next t ∧ t.tx = s.tx ++ [.arp p ip mac] ∧
        (SMap.getD t.links.arp p []).head? = some (ip, mac) ∧ (SMap.getD t.links.arp p []).length ≤ 16 ∧
        t = { s with tx := t.tx, links := t.links }) ∧
    (∀ ip pay, macsecBars s p = false → rd s (Reg.ETH_P_IPADDR_ADDR p) ≠ 0 → pay.length ≤ 1472 →
      ∃ t, exec (.icmpEcho p ip (rd s (Reg.ETH_P_IPADDR_ADDR p)) pay) s = .next t ∧
        t = { s with tx := s.tx ++ [.icmp p ip pay] }) ∧
    (∀ k, SMap.getD s.links.sas p [] = [] →
      ∃ t, exec (.mkaFrame p (some k)) s = .next t ∧ SMap.getD t.links.sas p [] = [k] ∧
        rd t (Reg.ETH_P_STATUS_SA p) = 1 ∧ RegsBut [Reg.ETH_P_STATUS_SA p] s t ∧ t.tx = s.tx ∧ t.mem = s.mem) ∧
    (∀ why, (let f := match why with
        | .macsec => Reg.ETH_P_RXDROP_MACSEC p | .frame => Reg.ETH_P_RXDROP_FRAME p
        | .ip => Reg.ETH_P_RXDROP_IP p | .udp => Reg.ETH_P_RXDROP_UDP p
      ∃ t, exec (.ethFrameDiscard p why) s = .next t ∧ Counts f s t ∧ OnlyRegs [f] s t))

/-! ### Network time (chapter 9) -/

/-- Steering a domain: STEP anchors the view at this tick at the time it had plus the staged step, SET at the staged time, each
with the staged increment; an increment out of range changes nothing and sets ERR; a new active domain or domain state is
taken at once, and the active domain's fall from VALID is raised; SNAP captures the raw count and both times (R290, R291, R292, R294, R295).
Model's choices in it: log entry 9. -/
def Obligations.DomainViewsAreSteered : Prop :=
  ∀ (s : State) (tm n : Nat), mainOn s.dev.state = true → n < 2 →
    (let a := atTime tm s
     let steered := fun (v : Int) (t : State) =>
       view t n = ⟨rawNow a, (v % (2 ^ 48 * 10 ^ 9 : Int)).toNat, stagedInc s n⟩ ∧ view t (1 - n) = view s (1 - n) ∧
         t = { s with now := t.now, regs := t.regs, ntm := t.ntm, ras := t.ras, inbox := t.inbox } ∧
         RegsBut ([Reg.RAS_ERR_ERR, Reg.RAS_STATUS_LOCKST] ++ (List.range 4).map Reg.NTM_TTO_MISSED_VALUE) s t
     (incOk (stagedInc s n) = true → ∃ t, exec (.ntmApplyStep n tm) s = .next t ∧
       steered ((timeNow a n : Int) + sx 32 (rd s (Reg.NTM_D_STEP_VALUE n))) t) ∧
     (incOk (stagedInc s n) = true → ∃ t, exec (.ntmApplySet n tm) s = .next t ∧
       steered (secNs (rd s (Reg.NTM_D_SET_SH_VALUE n) * 2 ^ 32 + rd s (Reg.NTM_D_SET_SL_VALUE n))
         (rd s (Reg.NTM_D_SET_NS_VALUE n) % 2 ^ 30) : Nat) t) ∧
     (incOk (stagedInc s n) = false → ∀ c ∈ [Instr.ntmApplyStep n tm, .ntmApplySet n tm], ∃ t, exec c s = .next t ∧
       rd t (Reg.NTM_D_APPLY_ERR n) = 1 ∧ OnlyRegs [Reg.NTM_D_APPLY_ERR n] a t) ∧
     (∃ t, exec (.activeDomainWrite n tm) s = .next t ∧ rd t Reg.NTM_CTRL_ACTIVE = n ∧ t.ntm = s.ntm ∧
       RegsBut [Reg.NTM_CTRL_ACTIVE, Reg.RAS_ERR_ERR, Reg.RAS_STATUS_LOCKST] s t ∧ t.inbox = s.inbox ∧ t.mem = s.mem) ∧
     (∀ st, st < 3 → ∃ t, exec (.domainStateWrite n st tm) s = .next t ∧ rd t (Reg.NTM_D_STATE_STATE n) = st ∧
       t.inbox = s.inbox ++ (if n = activeDom s ∧ rd s (Reg.NTM_D_STATE_STATE n) = 1 ∧ st ≠ 1
         then [⟨0x0E0, 0x34, n, none⟩] else []) ∧ t.ntm = s.ntm ∧
       RegsBut [Reg.NTM_D_STATE_STATE n, Reg.RAS_ERR_ERR, Reg.RAS_STATUS_LOCKST] s t ∧ t.mem = s.mem) ∧
     (∃ t, exec (.ntmSnap tm) s = .next t ∧ rd t Reg.NTM_SNAP_RAW_LO_VALUE = rawNow a % 2 ^ 32 ∧
       rd t Reg.NTM_SNAP_RAW_HI_VALUE = rawNow a / 2 ^ 32 % 2 ^ 32 ∧
       rd t Reg.NTM_SNAP_D0_SL_VALUE = timeNow a 0 / 10 ^ 9 % 2 ^ 32 ∧ rd t Reg.NTM_SNAP_D0_NS_NSEC = timeNow a 0 % 10 ^ 9 ∧
       rd t Reg.NTM_SNAP_D0_SH_SEC = timeNow a 0 / 10 ^ 9 / 2 ^ 32 % 2 ^ 16 ∧
       rd t Reg.NTM_SNAP_D1_SL_VALUE = timeNow a 1 / 10 ^ 9 % 2 ^ 32 ∧ rd t Reg.NTM_SNAP_D1_NS_NSEC = timeNow a 1 % 10 ^ 9 ∧
       rd t Reg.NTM_SNAP_D1_SH_SEC = timeNow a 1 / 10 ^ 9 / 2 ^ 32 % 2 ^ 16 ∧ rd t Reg.NTM_SNAP_GO = 0 ∧
       OnlyRegs [Reg.NTM_SNAP_GO, Reg.NTM_SNAP_RAW_LO_VALUE, Reg.NTM_SNAP_RAW_HI_VALUE, Reg.NTM_SNAP_D0_SL_VALUE,
         Reg.NTM_SNAP_D0_SH_SEC, Reg.NTM_SNAP_D0_NS_NSEC, Reg.NTM_SNAP_D1_SL_VALUE, Reg.NTM_SNAP_D1_SH_SEC,
         Reg.NTM_SNAP_D1_NS_NSEC] a t))

/-- R297: writing EN = 1 arms the output. NTM refuses the arm, leaves EN at 0 and sets ERR in three cases: PAST, when START is
not later than the domain time at the arming tick; DOM, when the domain is INVALID; BAD, when PERIOD is not 0 and WIDTH is not
less than PERIOD. -/
def Obligations.TtoArmIsRefusedInThreeCases : Prop :=
  ∀ (s : State) (n tm : Nat) (v : Word), mainOn s.dev.state = true → n < 4 → s.now ≤ tm → bit v.toNat 31 = true →
    (let a := atTime tm s
     let dom := bits v.toNat 29 1
     let past := ttoStart s n ≤ timeNow a dom
     let invalid := domValid s dom = false
     let bad := rd s (Reg.NTM_TTO_PERIOD_VALUE n) ≠ 0 ∧
       rd s (Reg.NTM_TTO_PERIOD_VALUE n) ≤ rd s (Reg.NTM_TTO_WIDTH_VALUE n)
     ∃ t, exec (.ttoArmWrite n v tm) s = .next t ∧ rd t (Reg.NTM_TTO_CTRL_DOM n) = dom ∧
       rd t (Reg.NTM_TTO_CTRL_POL n) = bits v.toNat 30 1 ∧
       (¬past → ¬invalid → ¬bad → rd t (Reg.NTM_TTO_CTRL_EN n) = 1 ∧ rd t (Reg.NTM_TTO_CTRL_ERR n) = 0 ∧
         ttoOf t n = { ttoOf s n with k := 0 }) ∧
       (past ∨ invalid ∨ bad → rd t (Reg.NTM_TTO_CTRL_EN n) = 0 ∧ ttoOf t n = ttoOf s n ∧
         (rd t (Reg.NTM_TTO_CTRL_ERR n) = 1 ∧ past ∨ rd t (Reg.NTM_TTO_CTRL_ERR n) = 2 ∧ invalid ∨
           rd t (Reg.NTM_TTO_CTRL_ERR n) = 3 ∧ bad)) ∧
       RegsBut [Reg.NTM_TTO_CTRL_EN n, Reg.NTM_TTO_CTRL_POL n, Reg.NTM_TTO_CTRL_DOM n, Reg.NTM_TTO_CTRL_ERR n] s t ∧
       t = { a with regs := t.regs, ntm := t.ntm })

/-- An armed output whose domain has reached its edge asserts its pin and goes on to the next edge, with PERIOD = 0 clearing EN;
the end of the pulse takes the pin back whatever EN says; before its edge nothing happens (R296, R298).
Model's choices in it: log entry 9. -/
def Obligations.TtoEdgesAndPulses : Prop :=
  ∀ (s : State) (n tm : Nat), n < 4 → ttoFree s = true →
    (let a := atTime tm s
     let per := rd s (Reg.NTM_TTO_PERIOD_VALUE n)
     let edge := ttoStart s n + (ttoOf s n).k * per
     let now := timeNow a (rd s (Reg.NTM_TTO_CTRL_DOM n))
     (rd s (Reg.NTM_TTO_CTRL_EN n) = 1 → (ttoOf s n).pulse = false → per ≠ 0 ∨ (ttoOf s n).k = 0 → edge ≤ now →
       ∃ t, exec (.ttoEdge n tm) s = .next t ∧ t.tx = s.tx ++ [.tto n true] ∧
         ttoOf t n = ⟨(ttoOf s n).k + 1, true⟩ ∧
         rd t (Reg.NTM_TTO_CTRL_EN n) = (if per = 0 then 0 else 1) ∧ RegsBut [Reg.NTM_TTO_CTRL_EN n] s t ∧
         t = { a with regs := t.regs, ntm := t.ntm, tx := t.tx }) ∧
     (now < edge → ∃ t, exec (.ttoEdge n tm) s = .next t ∧ t = a) ∧
     ((ttoOf s n).pulse = true → ∃ t, exec (.ttoPulseEnd n) s = .next t ∧ t.tx = s.tx ++ [.tto n false] ∧
       ttoOf t n = ⟨(ttoOf s n).k, false⟩ ∧ t = { s with ntm := t.ntm, tx := t.tx }))

/-- R299: a rising edge on PPS_IN captures NTM.RAW and the times of D0 and D1 at that tick into the PPS_ registers and raises
the ITC source NTM_PPS; a capture made while FULL = 1 overwrites the values and sets OVR; a read of PPS_RAW_LO clears FULL. -/
def Obligations.PpsEdgeIsCaptured : Prop :=
  ∀ (s : State) (tm : Nat), mainOn s.dev.state = true → s.now ≤ tm →
    (let a := atTime tm s
     ∃ t, exec (.ppsCapture tm) s = .next t ∧ rd t Reg.NTM_PPS_RAW_LO_VALUE = rawNow a % 2 ^ 32 ∧
       rd t Reg.NTM_PPS_RAW_HI_VALUE = rawNow a / 2 ^ 32 % 2 ^ 32 ∧
       rd t Reg.NTM_PPS_D0_SL_VALUE = timeNow a 0 / 10 ^ 9 % 2 ^ 32 ∧ rd t Reg.NTM_PPS_D0_NS_NSEC = timeNow a 0 % 10 ^ 9 ∧
       rd t Reg.NTM_PPS_D0_SH_SEC = timeNow a 0 / 10 ^ 9 / 2 ^ 32 % 2 ^ 16 ∧
       rd t Reg.NTM_PPS_D1_SL_VALUE = timeNow a 1 / 10 ^ 9 % 2 ^ 32 ∧ rd t Reg.NTM_PPS_D1_NS_NSEC = timeNow a 1 % 10 ^ 9 ∧
       rd t Reg.NTM_PPS_D1_SH_SEC = timeNow a 1 / 10 ^ 9 / 2 ^ 32 % 2 ^ 16 ∧ rd t Reg.NTM_PPS_STAT_FULL = 1 ∧
       rd t Reg.NTM_PPS_STAT_OVR = (if rd s Reg.NTM_PPS_STAT_FULL = 0 then rd s Reg.NTM_PPS_STAT_OVR else 1) ∧
       bit (rd t (Reg.ITC_PEND_MAP 1)) (0x30 - 32) = true ∧
       OnlyRegs [Reg.ITC_PEND_MAP 1, Reg.NTM_PPS_STAT_FULL, Reg.NTM_PPS_STAT_OVR, Reg.NTM_PPS_RAW_LO_VALUE,
         Reg.NTM_PPS_RAW_HI_VALUE, Reg.NTM_PPS_D0_SL_VALUE, Reg.NTM_PPS_D0_SH_SEC, Reg.NTM_PPS_D0_NS_NSEC,
         Reg.NTM_PPS_D1_SL_VALUE, Reg.NTM_PPS_D1_SH_SEC, Reg.NTM_PPS_D1_NS_NSEC] a t) ∧
    (∃ t, exec .ppsRawLoRead s = .next t ∧ rd t Reg.NTM_PPS_STAT_FULL = 0 ∧ OnlyRegs [Reg.NTM_PPS_STAT_FULL] s t)

/-! ### Mailbox commands (chapters 10 and 11) -/

/-- The commands that only report end at once with OK, each with the two details that its table gives, and change nothing else
but what the details name: WINDOW_MAP sets the recorder window, RTC_ALARM the alarm, FRAME_GET copies the captures, STREAM_STATUS
shows the age of the base frame (R59, R308, R318, R358). -/
def Obligations.ReportsEndAtOnce : Prop :=
  ∀ (s : State) (d : Desc) (e : Env),
    (Runs 0x0101 d e s → EndsAtOnce 0x0101 d e s (.stateGet d e) 0 stateWord (fun u => rd u Reg.RAS_FCNT_FCNT) id) ∧
    (Runs 0x0201 d e s → EndsAtOnce 0x0201 d e s (.bindingInfo d e) 0 (fun u => (imageInfo u (p8 d 0)).1)
      (fun u => (imageInfo u (p8 d 0)).2) id) ∧
    (Runs 0x0301 d e s → EndsAtOnce 0x0301 d e s (.streamStatus d e) 0
      (fun u => regRead u (Reg.GTE_SSTAT_DROP (p8 d 0)).addr)
      (fun u => bits (regRead u Reg.GTE_SEL_DEFAULT.addr) 26 6 * 2 ^ 26 + rd u Reg.GTE_BASE_AGE_AGE) setBaseAge) ∧
    (Runs 0x0403 d e s → EndsAtOnce 0x0403 d e s (.zoneStatus d e) 0 (fun u => zoneWord u (p8 d 0))
      (fun u => rd u Reg.ZNE_SETVER_VER) id) ∧
    (Runs 0x0604 d e s → EndsAtOnce 0x0604 d e s (.levelStatus d e) 0 (fun u => regRead u Reg.ZNE_LVLSTAT_DP.addr)
      (fun u => regRead u Reg.ZNE_PITCH_ANGLE.addr) id) ∧
    (Runs 0x0704 d e s → EndsAtOnce 0x0704 d e s (.frameGet d e) 0 (fun u => rd u Reg.RAS_FCNT_FCNT)
      (fun u => if activeDom u = 0 then u.ras.caps.d0n else u.ras.caps.d1n) copyCaptures) ∧
    (Runs 0x0801 d e s → p8 d 0 ≤ 8 → EndsAtOnce 0x0801 d e s (.calStatus d e) 0
      (fun u => rd u (Reg.SNS_CH_CALCNT_COUNT (p8 d 0))) (fun u => rd u (Reg.SNS_CH_CALSEC_SEC (p8 d 0))) id) ∧
    (Runs 0x0801 d e s → p8 d 0 = 0xFF → EndsAtOnce 0x0801 d e s (.calStatus d e) 0
      (fun u => rd u Reg.SNS_CALTOTAL_COUNT) (fun u => rd u Reg.SNS_CALLAST_SEC) id) ∧
    (Runs 0x0901 d e s → EndsAtOnce 0x0901 d e s (.diagSummary d e) 0 (fun u => regRead u Reg.SWP_COUNTS_GLOW.addr)
      (fun u => regRead u Reg.SWP_AGEMAX_LANE.addr) id) ∧
    (Runs 0x0902 d e s → EndsAtOnce 0x0902 d e s (.pixelQuery d e) 0 (fun u => calWord u (p8 d 0 * 16384 + p16 d 2))
      (fun u => ageOf u (p8 d 0 * 16384 + p16 d 2) % 4096 + 4096 * b2n (pixelSuspect u (p8 d 0 * 16384 + p16 d 2))) id) ∧
    (Runs 0x0903 d e s → EndsAtOnce 0x0903 d e s (.groupStatus d e) 0
      (fun u => regRead u (Reg.SNS_GRP_I_IPRED (p8 d 0)).addr)
      (fun u => (match SMap.find u.sns.runs (p8 d 0) with | some r => r.1 | none => 0) % 256) id) ∧
    (Runs 0x0A01 d e s → EndsAtOnce 0x0A01 d e s (.windowMap d e) 0 (fun _ => (recArea (p8 d 0)).2)
      (fun u => rd u Reg.EVR_NEWEST_SEQ) (fun u => { u with mbx := { u.mbx with window := (p8 d 0, p32 d 4) } })) ∧
    (Runs 0x0A02 d e s → EndsAtOnce 0x0A02 d e s (.recStatus d e) 0 (fun u => rd u Reg.EVR_NEWEST_SEQ)
      (fun u => rd u Reg.EVR_LOST_COUNT) id) ∧
    (Runs 0x0B01 d e s → EndsAtOnce 0x0B01 d e s (.timeGet d e) 0 (fun u => timeNow u (p8 d 0) / 10 ^ 9 % 2 ^ 32)
      (fun u => timeNow u (p8 d 0) % 10 ^ 9 + rd u (Reg.NTM_D_STATE_STATE (p8 d 0)) * 2 ^ 30) id) ∧
    (Runs 0x0B04 d e s → p32 d 0 ≠ 0 → EndsAtOnce 0x0B04 d e s (.rtcAlarm d e) 0
      (fun u => (rd u Reg.PWC_P_OPSEC_SEC + p32 d 0) % 2 ^ 32) (fun _ => 0)
      (fun u => u |> wr Reg.PWC_P_ALARM_SEC (rd u Reg.PWC_P_RTC_SEC + p32 d 0) |> wr Reg.PWC_P_WAKE_ALARM_EN 1)) ∧
    (Runs 0x0C01 d e s → EndsAtOnce 0x0C01 d e s (.faultGet d e) 0 (fun u => rd u Reg.FCL_FIRST_VALUE)
      (fun u => rd u Reg.FCL_FIRST_EXT_VALUE) id) ∧
    (Runs 0x0C04 d e s → EndsAtOnce 0x0C04 d e s (.fenderStatus d e) 0 (fun u => regRead u Reg.FST_RUN.addr)
      (fun u => regRead u Reg.FST_SEQ_SEQ.addr) id) ∧
    (Runs 0x0D01 d e s → p8 d 0 < 64 → EndsAtOnce 0x0D01 d e s (.laneStatus d e) 0
      (fun u => regRead u (Reg.TLK_LN_STATUS_INSERV (p8 d 0)).addr) (fun u => tlStatus u (p8 d 0)) id) ∧
    (Runs 0x0E01 d e s → EndsAtOnce 0x0E01 d e s (.pairStatus d e) 0
      (fun u => b2n (pairOp u) + 2 * b2n (pairOp u && role u == 1) + 4 * rd u Reg.PTN_STATUS_LINK +
        256 * rd u Reg.PTN_STATUS_PSTATE) (fun u => rd u Reg.PTN_DIGCNT_COUNT) id) ∧
    (Runs 0x0F01 d e s → EndsAtOnce 0x0F01 d e s (.lcGet d e) 0
      (fun u => lcCode u % 16 + 256 * rd u Reg.SEC_BOOT_RUN + 512 * rd u Reg.SEC_BOOT_AVALID +
        1024 * rd u Reg.SEC_BOOT_BVALID) (fun _ => 0) id)

/-- A command that writes shadows writes exactly its own; with COMMIT = 0 it ends at once, with COMMIT = 1 it sets GO while
the raster runs and waits for the transfer, marked late behind the sample. GLYPH_LOAD stores its texels in the plate and names
their CRC-32; TIPIN_SELECT stages the tip-in, behind a staging set that has not transferred; PHASE_SET writes the phase and
shows the raster error (R64, R67, R334, R345, R352, R354, R355, R376). -/
def Obligations.ShadowCommandsAndCommit : Prop :=
  ∀ (s : State) (d : Desc) (e : Env),
    (∀ x ∈ shadowCommands d e, Runs x.1 d e s →
      (x.2.2.2 = 0 → EndsAtOnce x.1 d e s x.2.1 0 (fun _ => 0) (fun _ => 0) x.2.2.1) ∧
      (x.2.2.2 = 1 → rasterOn s = true → isStandby s = false → rd s Reg.RAS_COMMIT_GO = 0 →
        lineNow s ≠ 127 ∨ s.ras.sampled = true →
        ∃ t, exec x.2.1 s = .next t ∧
          t.waits = s.waits ++ [⟨cplOf x.1 d false, false,
            .commit (decide (127 ≤ lineNow s ∧ lineNow s ≤ 135)) false⟩] ∧
          rd t Reg.RAS_COMMIT_GO = 1 ∧ rd t Reg.RAS_STATUS_PENDING = 1 ∧ t.mem = s.mem ∧ t.tx = s.tx ∧ t.dev = s.dev ∧
          RegsBut [Reg.RAS_COMMIT_GO, Reg.RAS_STATUS_PENDING, Reg.RAS_STATUS_LATE] (x.2.2.1 (taken x.1 d e s)) t)) ∧
    (∀ b, Runs 0x0501 d e s → glyphSource (taken 0x0501 d e s) d = some b →
      EndsAtOnce 0x0501 d e s (.glyphLoad d e) 0 (fun _ => crc32 b) (fun _ => 0)
        (fun u => u |> storePlate (p8 d 0) (p16 d 8) (p16 d 10) b
          |> wr (Reg.GTE_PL_CTRL_WM1 (p8 d 0)) (p16 d 8 - 1) |> wr (Reg.GTE_PL_CTRL_HM1 (p8 d 0)) (p16 d 10 - 1))) ∧
    (Runs 0x0202 d e s → s.ras.stag = none → p8 d 1 = 0 →
      EndsAtOnce 0x0202 d e s (.tipinSelect d e) 0 (fun _ => 0) (fun _ => 0) (stageTip (p8 d 0))) ∧
    (∀ m, Runs 0x0202 d e s → s.ras.stag = some m →
      ∃ t, exec (.tipinSelect d e) s = .next t ∧ Waits 0x0202 d false (.tipWait (p8 d 0) (p8 d 1 == 1)) s t ∧
        t = { taken 0x0202 d e s with waits := t.waits }) ∧
    (Runs 0x0703 d e s → EndsAtOnce 0x0703 d e s (.phaseSet d e) 0 (fun u => regRead u Reg.RAS_ERR_ERR.addr)
      (fun _ => 0) (doPhaseWrite (BitVec.ofNat 32 (p32 d 0))))

/-- The commands of the device state. PERF_SET requests the level and waits for it; SERVICE_ENTER and LIGHT_ON leave STANDBY once
the level is there, and wait for it where it is not, while in LIT and SERVICE an entry waits for the transfer of its tip-in;
LIGHT_OFF leads to STANDBY; STANDSTILL_SET holds or withdraws standstill, as its expiry does; RESET ends and is due; SLEEP starts
the handshake (R33, R339, R340, R341, R342, R343, R344, R377, R464, R466, R556).
Model's choices in it: log entries 9 and 13. -/
def Obligations.DeviceCommandsMoveTheDevice : Prop :=
  ∀ (s : State) (d : Desc) (e : Env), NothingWaits s →
    (Runs 0x0102 d e s → s.dev.state = .standby → s.dev.raising = none → rd s Reg.PWC_STATUS_PL ≠ p8 d 0 →
      s.pwc.plTo = none →
      ∃ t, exec (.perfSet d e) s = .next t ∧ Waits 0x0102 d true (.perf (p8 d 0)) s t ∧
        rd t Reg.PWC_PLREQ_SB = p8 d 0 ∧ rd t Reg.PWC_STATUS_PLBUSY = 1 ∧ t.pwc.plTo = some (p8 d 0) ∧
        t.dev = s.dev ∧ t.mem = s.mem) ∧
    (∀ x ∈ [(0x0103, Instr.serviceEnter d e, DevState.service, WaitKind.toService),
        (0x0106, .lightOn d e, .prelit, .lightOn (max s.now e.t))], Runs x.1 d e s → s.dev.state = .standby →
      (rd s Reg.PWC_STATUS_PL < effLevel (taken x.1 d e s) x.2.2.1 → s.pwc.plTo = none →
        ∃ t, exec x.2.1 s = .next t ∧ Waits x.1 d true x.2.2.2 s t ∧ t.dev.raising = some x.2.2.1 ∧
          t.dev.state = .standby ∧ t.pwc.plTo = some (effLevel (taken x.1 d e s) x.2.2.1) ∧ t.mem = s.mem) ∧
      (effLevel (taken x.1 d e s) x.2.2.1 ≤ rd s Reg.PWC_STATUS_PL → s.pilot.safeLow = false →
        rasterOn s = false →
        ∃ t, exec x.2.1 s = .next t ∧ t.dev.state = x.2.2.1 ∧ rasterOn t = true ∧ t.tiles = s.tiles)) ∧
    (Runs 0x0103 d e s → s.dev.state = .lit →
      ∃ t, exec (.serviceEnter d e) s = .next t ∧ ⟨cplOf 0x0103 d false, true, .toService⟩ ∈ t.waits ∧
        t.dev = { s.dev with entering := some .service } ∧ t.tiles = s.tiles) ∧
    (Runs 0x0104 d e s → s.dev.state = .service →
      ∃ t, exec (.serviceExit d e) s = .next t ∧ ⟨cplOf 0x0104 d false, true, .toPrelit⟩ ∈ t.waits ∧
        t.dev = { s.dev with entering := some .prelit } ∧ t.tiles = s.tiles) ∧
    (Runs 0x0107 d e s → s.dev.state = .lit ∨ s.dev.state = .prelit →
      ∃ t, exec (.lightOff d e) s = .next t ∧ t.dev.state = .standby ∧ rasterOn t = false ∧ t.tiles = s.tiles) ∧
    (Runs 0x0105 d e s → p8 d 0 = 1 →
      EndsAtOnce 0x0105 d e s (.standstillSet d e) 0 stateWord (fun _ => p16 d 2)
        (fun u => { u with mbx := { u.mbx with
          standstill := some (u.now + p16 d 2 * 250000), withdraw := false } })) ∧
    (Runs 0x0105 d e s → p8 d 0 = 0 → s.dev.state ≠ .service →
      EndsAtOnce 0x0105 d e s (.standstillSet d e) 0 stateWord (fun _ => 0)
        (fun u => { u with mbx := { u.mbx with standstill := none } })) ∧
    (∀ x, s.mbx.standstill = some x → x ≤ max s.now e.t → s.dev.state = .service → s.dev.entering = none →
      scBusy s = false →
      ∃ t, exec (.standstillHoldExpiry e) s = .next t ∧ t.mbx.standstill = none ∧
        t.dev = { s.dev with entering := some .prelit }) ∧
    (∀ x, s.mbx.standstill = some x → x ≤ max s.now e.t → s.dev.state ≠ .service →
      ∃ t, exec (.standstillHoldExpiry e) s = .next t ∧
        t = { atTime e.t s with mbx := { s.mbx with standstill := none } }) ∧
    (Runs 0x0108 d e s → EndsAtOnce 0x0108 d e s (.reset d e) 0 stateWord (fun _ => 0)
      (fun u => { u with dev := { u.dev with resetDue := some 4 } })) ∧
    (Runs 0x0109 d e s → s.pwc.hs = none →
      ∃ t, exec (.sleep d e) s = .next t ∧ Waits 0x0109 d true (.sleep (p32 d 0)) s t ∧
        (∃ h, t.pwc.hs = some h ∧ h.dom = none ∧ h.delayed = [] ∧ h.left = sleepBlocks s) ∧
        rd t Reg.PWC_SLEEP_GO = 1 ∧ t.dev = s.dev ∧ t.mem = s.mem)

/-! ### Shade zones and levelling (chapter 4) -/

/-- ZONE_PUT gathers on its channel until one carries PUB; with PUB its set is published, and the zone of a single descriptor,
newer or new, stands in the table as the descriptor says. An invalid descriptor ends with BAD_PARAM and joins nothing, the set
gathered so far staying. An open set that times out ends with TIMEOUT and none of it applies.
ZONE_CLEAR_ALL removes every zone of its scope whose TOBS is not later (R129, R130, R131, R349, R350, R351). -/
def Obligations.ZonePutsGatherAndPublish : Prop :=
  ∀ (s : State) (d : Desc) (e : Env),
    (let u := taken 0x0401 d e s
     let q := cplOf 0x0401 d false
     let desc := expandZone d.params
     Runs 0x0401 d e s →
     (zonePutValid u d.ch desc = true → (gathered s d.ch).length < 64 → bit (p8 d 1) 7 = false →
        ∃ t x, exec (.zonePut d e) s = .next t ∧ x.take 48 = padTo 48 desc ∧ gathered t d.ch = gathered s d.ch ++ [(q, x)] ∧
          t = { u with mbx := t.mbx } ∧ t.mbx = { u.mbx with gathers := t.mbx.gathers }) ∧
     (zonePutValid u d.ch desc = true → gathered s d.ch = [] → bit (p8 d 1) 7 = true → pairOp s = false →
        dClear desc = false → SMap.find s.zne.zones (dZid desc) = none →
        ∃ t, exec (.zonePut d e) s = .next t ∧ rd t Reg.ZNE_SETVER_VER = (rd s Reg.ZNE_SETVER_VER + 1) % 2 ^ 32 ∧
          (∃ z, SMap.find t.zne.zones (dZid desc) = some z ∧ z.desc = padTo 48 desc ∧ z.prot = dProt desc ∧
            z.tobs = dTobs desc 4 (netNow u)) ∧
          (∀ k, k ≠ dZid desc → SMap.find t.zne.zones k = SMap.find s.zne.zones k) ∧
          t.mbx.gathers = SMap.del s.mbx.gathers d.ch ∧ t.waits = s.waits ∧ t.dev = s.dev ∧ t.tiles = s.tiles) ∧
     (zonePutValid u d.ch desc = false → bit (p8 d 1) 7 = false → gathered s d.ch ≠ [] →
        ∃ t, exec (.zonePut d e) s = .next t ∧ gathered t d.ch = gathered s d.ch ∧
          t = { complete q 3 0 0 u with mbx := t.mbx } ∧ t.zne = s.zne) ∧
     (zonePutValid u d.ch desc = false → gathered s d.ch = [] →
        ∃ t, exec (.zonePut d e) s = .next t ∧ t = { complete q 3 0 0 u with mbx := t.mbx } ∧ t.zne = s.zne)) ∧
    (∀ ch q x, gathered s ch = [(q, x)] →
      exec (.zoneGatherTimeout ch) s =
        .next (complete q 8 0 0 { s with mbx := { s.mbx with gathers := SMap.del s.mbx.gathers ch } })) ∧
    (let u := taken 0x0402 d e s
     let tobs := extendTime (p32 d 0) (p32 d 4) (netNow u)
     Runs 0x0402 d e s → gathered s d.ch = [] → pairOp s = false → p32 d 4 < 1000000000 →
      tobs ≤ netNow u + 2000000 → SMap.Sorted s.zne.zones → (∀ z ∈ s.zne.zones, z.1 < 64) →
      ∃ t, exec (.zoneClearAll d e) s = .next t ∧
        t.zne.zones = s.zne.zones.filter (fun z => z.2.prot && p8 d 8 != 1 || decide (tobs ≤ z.2.tobs)) ∧
        t.waits = s.waits ∧ t.dev = s.dev ∧ t.tiles = s.tiles)

/-- ZNE.PUBLISH applies the staged descriptors at once, counts SETVER and writes the mirror: a zone that no descriptor names
stays as it was; one that is newer stands as its descriptor says, protection once held being kept; one not newer is dropped,
counted and reported. With no count, or the raster stopped, nothing happens (R129, R130, R131, R132, R133, R155).
Model's choices in it: log entry 9. -/
def Obligations.PublishesApplyAtomically : Prop :=
  ∀ (s : State) (v : Word) (tm : Nat), mainOn s.dev.state = true →
    (∀ n, v.toNat % 128 = n → 0 < n → n ≤ 64 → rasterOn s = true → rd s Reg.ZNE_STATUS_PUB_BUSY = 0 → s.eccBad = [] →
      ∃ t, exec (.znePublish v tm) s = .next t ∧ rd t Reg.ZNE_SETVER_VER = (rd s Reg.ZNE_SETVER_VER + 1) % 2 ^ 32 ∧
        (∀ k, (∀ i, i < n → dZid (stagedDesc s i) ≠ k) → SMap.find t.zne.zones k = SMap.find s.zne.zones k) ∧
        MemBut 0x21E70000 4096 s t ∧ t.tx = s.tx ∧ t.dev = s.dev ∧ t.mbx = s.mbx ∧ t.gte = s.gte ∧ t.ras = s.ras ∧
        (n = 1 →
          (let b := stagedDesc s 0
           let tobs := dTobs b 4 (netNow (atTime tm s))
           let old := SMap.find s.zne.zones (dZid b)
           ((∀ z, old = some z → z.tobs < tobs) → dClear b = false →
             ∃ z, SMap.find t.zne.zones (dZid b) = some z ∧ z.desc = b ∧ z.tobs = tobs ∧
               (z.prot = true ↔ dProt b = true ∨ ∃ w, old = some w ∧ w.prot = true)) ∧
           ((∀ z, old = some z → z.tobs < tobs) → dClear b = true → SMap.Sorted s.zne.zones →
             SMap.find t.zne.zones (dZid b) = none) ∧
           (∀ z, old = some z → tobs ≤ z.tobs →
             t.zne.zones = s.zne.zones ∧ ⟨0x080, 0x15, dZid b, none⟩ ∈ t.inbox ∧ Counts Reg.ZNE_DROPCNT_ZDROP s t)))) ∧
    (v.toNat % 128 = 0 ∨ 64 < v.toNat % 128 ∨ rasterOn s = false ∨
        rd s Reg.ZNE_STATUS_PUB_BUSY ≠ 0 →
      ∃ t, exec (.znePublish v tm) s = .next t ∧ t = atTime tm s)

/-- A pitch descriptor newer than the one in force, or the first, replaces it, ends the stale episode and completes with SETVER;
one not newer is dropped and counted. When none has arrived for STALE_MS, ZNE switches prediction off, sets LVL_STALE and raises
LEVEL_STALE once (R149, R151, R353). Model's choices in it: log entry 9. -/
def Obligations.PitchAndItsStaleTimer : Prop :=
  ∀ (s : State) (d : Desc) (e : Env),
    (let u := taken 0x0603 d e s
     let tobs := extendTime (p32 d 0) (p32 d 4) (netNow u)
     Runs 0x0603 d e s → pairOp s = false → role s ≠ 1 →
      ((∀ p, s.zne.pitch = some p → p.tobs < tobs) →
        EndsAtOnce 0x0603 d e s (.pitchUpdate d e) 0 (fun _ => 0) (fun t => rd t Reg.ZNE_SETVER_VER)
          (fun t => { t with zne := { t.zne with
              pitch := some ⟨tobs, sx 16 (p16 d 8), sx 16 (p16 d 10)⟩, predOff := false, pitchAt := t.now, lvlUp := false } }
            |> wr Reg.ZNE_STATUS_LVL_STALE 0 |> wri Reg.ZNE_PITCH_ANGLE (sx 16 (p16 d 8))
            |> wri Reg.ZNE_PITCH_RATE (sx 16 (p16 d 10)))) ∧
      (∀ p, s.zne.pitch = some p → tobs ≤ p.tobs →
        EndsAtOnce 0x0603 d e s (.pitchUpdate d e) 0 (fun _ => 1) (fun t => rd t Reg.ZNE_SETVER_VER)
          (satInc Reg.ZNE_DROPCNT_LVLDROP 1))) ∧
    (let lim := clampN 10 1000 (rd s Reg.ZNE_LVL_STALE_MS)
     (rasterOn s = true → s.zne.lvlUp = false → s.zne.pitchAt + msTicks lim ≤ max s.now e.t →
        ∃ t, exec (.levelStaleTimer e.t) s = .next t ∧ t.zne = { s.zne with predOff := true, lvlUp := true } ∧
          rd t Reg.ZNE_STATUS_LVL_STALE = 1 ∧ t.inbox = s.inbox ++ [⟨0x083, 0x18, 0, none⟩] ∧
          t = { atTime e.t s with zne := t.zne, regs := t.regs, inbox := t.inbox } ∧
          RegsBut [Reg.ZNE_STATUS_LVL_STALE] s t) ∧
      (rasterOn s = false ∨ s.zne.lvlUp = true ∨ max s.now e.t < s.zne.pitchAt + msTicks lim →
        exec (.levelStaleTimer e.t) s = .next (atTime e.t s)))

/-! ### Images, calibration, scans and time by command (chapters 9, 11 and 17) -/

/-- One image transfer is open at a time: IMAGE_BEGIN opens it, or completes with RESOURCE while another channel's is open;
IMAGE_DATA stages its block of 32 bytes; IMAGE_END names the first missing block, judges the CRC-32 and then the image, and
starts the write as one burst when hold-up covers it, or completes with RESOURCE and both energies (R346, R347). -/
def Obligations.ImageTransfers : Prop :=
  ∀ (s : State) (d : Desc) (e : Env),
    (Runs 0x0203 d e s → (∀ i, s.image = some i → i.ch = d.ch) → targetLocked s (p8 d 0) = false →
      EndsAtOnce 0x0203 d e s (.imageBegin d e) 0 (fun _ => 0x1800000) (fun _ => 0) (fun u => { u with
        image := some ⟨d.ch, p8 d 0, p8 d 1, p32 d 4, p32 d 8, p32 d 12, []⟩ })) ∧
    (∀ i, Runs 0x0203 d e s → s.image = some i → i.ch ≠ d.ch →
      EndsAtOnce 0x0203 d e s (.imageBegin d e) 7 (fun _ => 0) (fun _ => 0) id) ∧
    (∀ i, Runs 0x0204 d e s → s.image = some i → i.ch = d.ch →
      (let o := p32 d 0
       let j := { i with blocks := if o ∈ i.blocks then i.blocks else i.blocks ++ [o] }
       EndsAtOnce 0x0204 d e s (.imageData d e) 0 (fun _ => imageGot j) (fun _ => 0) (fun u =>
         { psWrite (0x20000000 + o) (((d.params.drop 4).take 32).take (i.size - o)) u with image := some j }))) ∧
    (∀ i, Runs 0x0205 d e s → s.image = some i → i.ch = d.ch →
      (let offs := (List.range ((i.size + 31) / 32)).map (32 * ·)
       let b := ldBytes s 0x20000000 i.size
       let u := taken 0x0205 d e s
       let ps := imageParts u i b
       let n := partLines ps
       (∀ o, offs.find? (fun o => !i.blocks.contains o) = some o →
         EndsAtOnce 0x0205 d e s (.imageEnd d e) 3 (fun _ => 0) (fun _ => o) id) ∧
       ((∀ o ∈ offs, o ∈ i.blocks) → crc32 b ≠ i.crc →
         EndsAtOnce 0x0205 d e s (.imageEnd d e) 3 (fun _ => 0) (fun _ => 0) id) ∧
       ((∀ o ∈ offs, o ∈ i.blocks) → crc32 b = i.crc → imageChecked u i b = false →
         EndsAtOnce 0x0205 d e s (.imageEnd d e) 4 (fun _ => 0) (fun _ => 0) id) ∧
       ((∀ o ∈ offs, o ∈ i.blocks) → crc32 b = i.crc → imageChecked u i b = true → s.mrc.run = none →
         (holdCovers (holdMeasure e u) n = true →
           ∃ t, exec (.imageEnd d e) s = .next t ∧ Waits 0x0205 d false (.burst s.mrc.next i.crc n) s t ∧
             t.mrc = { s.mrc with
               run := some ⟨s.mrc.next, 0, ps, n, if i.target = 0x20 then .lane i.lane else .cmd⟩, next := s.mrc.next + 1 } ∧
             rd t Reg.MRC_STATUS_BUSY = 1 ∧ t.image = none ∧ t.mem = s.mem ∧ t.dev = s.dev) ∧
         (holdCovers (holdMeasure e u) n = false → NoneRuns s →
           EndsAtOnce 0x0205 d e s (.imageEnd d e) 7 (fun t => rd t Reg.MRC_HOLDE_VALUE) (fun _ => holdNeed n)
             (fun u => holdDefer 0 true (holdMeasure e (takeBurstId u)))))))

/-- CAL_ROUND starts a round, joins the one that runs, or completes with LOCKED where calibration is off; WEAR_PASS starts a
pass, joins the one that runs, or ends at once where wear is off; CAL_RESET_LANE and DUMP_CLEAR start their burst and wait
for its end; CKU_SCAN sets CKU1 up for the CRC-32 of R219 and waits for the scan; DOMAIN_SELECT makes its domain the active
one; TTO_ARM writes its output and arms it (R169, R176, R297, R356, R357, R358, R359, R505). -/
def Obligations.DiagnosisAndTimeCommands : Prop :=
  ∀ (s : State) (d : Desc) (e : Env),
    (Runs 0x0802 d e s →
      (rd s Reg.SNS_CTRL_CAL_EN = 0 →
        EndsAtOnce 0x0802 d e s (.calRound d e) 10 (fun _ => 0) (fun _ => 0) id) ∧
      (rd s Reg.SNS_CTRL_CAL_EN = 1 → s.sns.round = none →
        ∃ t, exec (.calRound d e) s = .next t ∧ Waits 0x0802 d false .calRound s t ∧ t.sns.round = some ⟨0, 0, false⟩ ∧
          rd t Reg.SNS_STATUS_CALBUSY = 1 ∧ rd t Reg.SNS_STATUS_DUTY = 0 ∧ t.mem = s.mem ∧ t.dev = s.dev) ∧
      (∀ r, rd s Reg.SNS_CTRL_CAL_EN = 1 → s.sns.round = some r →
        ∃ t, exec (.calRound d e) s = .next t ∧ Waits 0x0802 d false .calRound s t ∧
          t = { taken 0x0802 d e s with waits := t.waits })) ∧
    (Runs 0x0804 d e s →
      (rd s Reg.COR_CTRL_WEAR_EN = 0 → s.cor.pass = none →
        EndsAtOnce 0x0804 d e s (.wearPass d e) 0 (fun u => rd u Reg.COR_WEAR_LASTSEC) (fun _ => 0) id) ∧
      (rd s Reg.COR_CTRL_WEAR_EN = 1 → s.cor.pass = none → s.mrc.run = none →
        holdCovers (holdMeasure e (taken 0x0804 d e s)) 512 = true →
        ∃ t b, exec (.wearPass d e) s = .next t ∧ Waits 0x0804 d false .wearPass s t ∧ t.mrc.run = some b ∧
          b.why = .wear 0 ∧ b.lines = 512 ∧ t.cor.pass = some ⟨(tileLanes s).drop 1, 0⟩ ∧
          rd t Reg.COR_STATUS_WEAR_BUSY = 1 ∧ t.dev = s.dev) ∧
      (∀ r, s.cor.pass = some r →
        ∃ t, exec (.wearPass d e) s = .next t ∧ Waits 0x0804 d false .wearPass s t ∧
          t = { taken 0x0804 d e s with waits := t.waits })) ∧
    (Runs 0x0803 d e s → s.mrc.run = none →
      (let u := taken 0x0803 d e s
       let n := p8 d 0
       let ps := [(0x400000 + 65536 * n, resetWords (laneImage s n)), (0x800000 + 32768 * n, zeroBytes 32768)]
       holdCovers (holdMeasure e u) (partLines ps) = true →
       ∃ t, exec (.calResetLane d e) s = .next t ∧ Waits 0x0803 d false (.burst s.mrc.next (partLines ps) 0) s t ∧
         t.mrc.run = some ⟨s.mrc.next, 0, ps, partLines ps, .lane n⟩ ∧ rd t Reg.MRC_STATUS_BUSY = 1 ∧ t.mem = s.mem ∧
         t.dev = s.dev)) ∧
    (Runs 0x0A03 d e s →
      (dumpHeld s = none → EndsAtOnce 0x0A03 d e s (.dumpClear d e) 0 (fun _ => 0) (fun _ => 0) id) ∧
      (∀ h, dumpHeld s = some h → s.mrc.run = none →
        (let ps := [(0xB00000, clearedHeader h)]
         holdCovers (holdMeasure e (taken 0x0A03 d e s)) (partLines ps) = true →
         ∃ t, exec (.dumpClear d e) s = .next t ∧ Waits 0x0A03 d false (.burst s.mrc.next 0 0) s t ∧
           t.mrc.run = some ⟨s.mrc.next, 0, ps, partLines ps, .cmd⟩ ∧ t.mem = s.mem ∧ t.dev = s.dev))) ∧
    (Runs 0x0A04 d e s →
      (rd s (Reg.CKU_STATUS_BUSY 1) = 0 →
        ∃ t, exec (.ckuScan d e) s = .next t ∧ Waits 0x0A04 d false .ckuScan s t ∧
          t.cku1 = ⟨0xFFFFFFFF, some ⟨.s0, p32 d 0, p32 d 4⟩⟩ ∧ rd t (Reg.CKU_STATUS_BUSY 1) = 1 ∧
          rd t (Reg.CKU_WIDTH_WIDTH 1) = 32 ∧ rd t (Reg.CKU_POLY_LO_VALUE 1) = 0x04C11DB7 ∧
          t = { taken 0x0A04 d e s with waits := t.waits, cku1 := t.cku1, regs := t.regs } ∧ t.cku0 = s.cku0) ∧
      (rd s (Reg.CKU_STATUS_BUSY 1) ≠ 0 →
        EndsAtOnce 0x0A04 d e s (.ckuScan d e) 7 (fun _ => 0) (fun _ => 0) id)) ∧
    (Runs 0x0B02 d e s →
      EndsAtOnce 0x0B02 d e s (.domainSelect d e) 0 (fun u => regRead u Reg.RAS_ERR_ERR.addr) (fun _ => 0)
        (setActive (p8 d 0))) ∧
    (Runs 0x0B03 d e s →
      (let n := p8 d 0
       let f := fun u : State => u |> wr (Reg.NTM_TTO_START_SH_SEC n) (p16 d 2) |> wr (Reg.NTM_TTO_START_SL_VALUE n) (p32 d 4)
         |> wr (Reg.NTM_TTO_START_NS_VALUE n) (p32 d 8) |> wr (Reg.NTM_TTO_PERIOD_VALUE n) (p32 d 12)
         |> wr (Reg.NTM_TTO_WIDTH_VALUE n) (p32 d 16)
         |> ttoCtrl n (bit (p8 d 1) 0) (p8 d 1 / 2 % 2) (p8 d 1 / 4 % 2)
       let err := rd (f (taken 0x0B03 d e s)) (Reg.NTM_TTO_CTRL_ERR n)
       (bit (p8 d 1) 0 = false ∨ err = 0 →
         EndsAtOnce 0x0B03 d e s (.ttoArm d e) 0 (fun _ => 0) (fun _ => 0) f) ∧
       (bit (p8 d 1) 0 = true → err ≠ 0 →
         EndsAtOnce 0x0B03 d e s (.ttoArm d e) 3 (fun _ => 0) (fun t => rd t (Reg.NTM_TTO_CTRL_ERR n)) f)))

/-! ### Safety, lane and tile commands (chapters 6, 7, 11 and 13) -/

/-- FAULT_CLEAR clears the latch and WAKE_FAIL and ends, but in PRELIT with S_PLATE waits for the start tests that it reruns;
SEVERITY_SET sets a severity and names the old one, or completes with LOCKED; FALLBACK_OFF ends the fallback beam; SAFE_TEST waits
for the tests of every powered group, of both fallback channels and of the dark path (R34, R38, R360, R361, R459). -/
def Obligations.SafetyCommands : Prop :=
  ∀ (s : State) (d : Desc) (e : Env),
    (Runs 0x0C02 d e s → s.dev.state ≠ .prelit ∨ s.dev.sPlate = false →
      EndsAtOnce 0x0C02 d e s (.faultClear d e) 0 stateWord (fun _ => 0)
        (fun u => fclClear (wr Reg.PWC_P_WAKE_WAKE_FAIL 0 u))) ∧
    (Runs 0x0C02 d e s → s.dev.state = .prelit → s.dev.sPlate = true →
      ∃ t, exec (.faultClear d e) s = .next t ∧ Waits 0x0C02 d true .faultClear s t ∧
        t.dev = { s.dev with tests := true, rerun := true } ∧ rd t Reg.FCL_FIRST_VALUE = 0 ∧
        rd t Reg.FCL_STATUS_VALID = 0 ∧ rd t Reg.FCL_STATUS_COUNT = 0 ∧ rd t Reg.PWC_P_WAKE_WAKE_FAIL = 0 ∧
        t.mem = s.mem ∧ t.tx = s.tx ∧ t.tiles = s.tiles) ∧
    (Runs 0x0C03 d e s →
      (rd s Reg.FCL_CTRL_LOCK = 0 →
        EndsAtOnce 0x0C03 d e s (.severitySet d e) 0 (fun _ => severity s (p16 d 0)) (fun _ => 0)
          (wr (Reg.FCL_SEV (p16 d 0)) (p8 d 2))) ∧
      (rd s Reg.FCL_CTRL_LOCK ≠ 0 →
        EndsAtOnce 0x0C03 d e s (.severitySet d e) 10 (fun _ => 0) (fun _ => 0) id)) ∧
    (Runs 0x0C05 d e s →
      EndsAtOnce 0x0C05 d e s (.fallbackOff d e) 0 stateWord (fun _ => 0) (fun u =>
        wr Reg.PWC_P_FB_ON 0 { u with pilot := { u.pilot with fbPair := 0, fbDemand := 0 } })) ∧
    (Runs 0x0C06 d e s →
      ∃ t, exec (.safeTest d e) s = .next t ∧ Waits 0x0C06 d false (.safeTest (safeTests s) 0) s t ∧
        t = { taken 0x0C06 d e s with waits := t.waits, fender := t.fender, sns := t.sns } ∧
        (fenderRuns s = false → safeTests s = 0x300 ∧ t.fender = s.fender ∧ t.sns = s.sns))

/-- LANE_TRAIN starts an attempt on its lane and waits; LANE_TEST sets the loopback and the pattern, clears the counters and
waits; at its end both return to 0 and the command completes with the counters. TILE_SET sends its set to the one lane, ends at
once where the set leaves the tile where it is, and waits up to 3 slots otherwise; TILE_RESUME clears the lane's DEGMAP bit,
queues RESUME with the next SEQ and waits; TILE_REFSEL queues REFSEL, holds the selection where HOLD says so, and ends (R199,
R210, R223, R362, R363, R364, R423). Model's choices in it: log entry 46. -/
def Obligations.LaneAndTileCommands : Prop :=
  (∀ (s : State) (d : Desc) (e : Env),
    (let n := p8 d 0
     Runs 0x0D02 d e s → inService s n = false → linkOf s n ≠ 1 →
      ∃ t, exec (.laneTrain d e) s = .next t ∧ Waits 0x0D02 d false (.laneTrain n) s t ∧ linkOf t n = 1 ∧
        (laneOf t n).training = some ⟨1, 0, false, false⟩ ∧ rd t (Reg.TLK_LN_CTRL_TX_ON n) = 1 ∧
        rd t (Reg.TLK_LN_CTRL_RX_ON n) = 1 ∧ rd t (Reg.TLK_LN_STATUS_TXST n) = 1 ∧ t.inbox = s.inbox ∧ t.mem = s.mem ∧
        t.dev = s.dev ∧ t.tiles = s.tiles ∧ (∀ m, m ≠ n → laneOf t m = laneOf s m)) ∧
    (let n := p8 d 0
     Runs 0x0D03 d e s → inService s n = false → n < 64 ∨ p8 d 1 ≠ 3 →
      ∃ t, exec (.laneTest d e) s = .next t ∧ Waits 0x0D03 d false (.laneTest n) s t ∧
        rd t (Reg.TLK_LN_CTRL_LB n) = p8 d 1 ∧ rd t (Reg.TLK_LN_CTRL_PRBS n) = p8 d 2 ∧ rd t (Reg.TLK_LN_ERR_CV n) = 0 ∧
        rd t (Reg.TLK_LN_ERR_DISP n) = 0 ∧ rd t (Reg.TLK_LN_PRBS_ERRBITS n) = 0 ∧
        (p8 d 1 ≠ 0 ∨ p8 d 2 ≠ 0 → rd t (Reg.TLK_LN_STATUS_TXST n) = 3 ∧ rd t (Reg.TLK_LN_STATUS_RXST n) = 3) ∧
        t.inbox = s.inbox ∧ t.mem = s.mem ∧ t.dev = s.dev ∧ t.tiles = s.tiles) ∧
    (∀ (n : Nat) (w : Waiter), n < 66 → NoneRuns { s with waits := [] } → s.waits = [w] → w.kind = .laneTest n →
      rd s (Reg.TLK_LN_CTRL_LB n) ≠ 3 →
      ∃ u, exec (.laneTestEnd n) s = .next (complete w.cpl 0 (rd s (Reg.TLK_LN_PRBS_ERRBITS n))
          (rd s (Reg.TLK_LN_ERR_CV n) + rd s (Reg.TLK_LN_ERR_DISP n)) u) ∧
        rd u (Reg.TLK_LN_CTRL_LB n) = 0 ∧ rd u (Reg.TLK_LN_CTRL_PRBS n) = 0 ∧
        u = { s with waits := [], regs := u.regs } ∧
        RegsBut [Reg.TLK_LN_CTRL_LB n, Reg.TLK_LN_CTRL_PRBS n, Reg.TLK_LN_STATUS_TXST n, Reg.TLK_LN_STATUS_RXST n,
          Reg.TLK_SYNCMAP_LO_MAP, Reg.TLK_SYNCMAP_HI_MAP] s u) ∧
    (∀ n, s.waits = [] → exec (.laneTestEnd n) s = .next s)) ∧
  (∀ (s : State) (d : Desc) (e : Env), pairOp s = false → role s = 0 →
    (let n := p8 d 0
     let op := p8 d 1
     Runs 0x0D04 d e s →
      (tileStays s n op = true →
        EndsAtOnce 0x0D04 d e s (.tileSet d e) 0 (fun u => tlStatus u n) (fun _ => 0) (demand op 0 (some n))) ∧
      (tileStays s n op = false →
        ∃ t, exec (.tileSet d e) s = .next t ∧ Waits 0x0D04 d false (.tileSet n op 3) s t ∧
          (op = 1 → rd s Reg.TPR_CTRL_EN = 1 → t.tx = s.tx ++ List.replicate 3 (.bcast n 5 (zeroBytes 6))) ∧
          (op = 2 → rd s Reg.TPR_CTRL_EN = 1 → t.tx = s.tx ++ List.replicate 3 (.bcast n 6 (zeroBytes 6))) ∧
          (op = 3 → s.tpr.queue.length < 32 →
            t.tpr.queue = s.tpr.queue ++ [⟨[n], ⟨2, s.tpr.nextTag, []⟩⟩] ∧ t.tx = s.tx) ∧
          (tprLane t n).cmd = op ∧ t.mem = s.mem ∧ t.dev = s.dev ∧ t.tiles = s.tiles)) ∧
    (let n := p8 d 0
     let sq := (rd s Reg.RAS_FCNT_FCNT + 1) % 2 ^ 32
     Runs 0x0D05 d e s → s.tpr.queue.length < 32 →
      ∃ t, exec (.tileResume d e) s = .next t ∧ Waits 0x0D05 d false (.tileResume n sq) s t ∧
        t.tpr.queue = s.tpr.queue ++ [⟨[n], ⟨3, s.tpr.nextTag, leBytes 4 sq⟩⟩] ∧
        mapBit t Reg.FCL_DEGMAP_LO_MAP Reg.FCL_DEGMAP_HI_MAP n = false ∧ t.tx = s.tx ∧ t.mem = s.mem ∧ t.dev = s.dev ∧
        t.tiles = s.tiles) ∧
    (let n := p8 d 0
     Runs 0x0D06 d e s → s.tpr.queue.length < 32 →
      ∃ t, exec (.tileRefsel d e) s = .next t ∧
        t.tpr.queue = s.tpr.queue ++ [⟨[n], ⟨7, s.tpr.nextTag, leBytes 4 (p8 d 1)⟩⟩] ∧
        (p8 d 2 = 1 → (tprLane t n).refHold = true) ∧ (p8 d 2 = 0 → t.tpr.lanes = s.tpr.lanes) ∧ t.waits = s.waits ∧
        t.dev = s.dev ∧ t.tiles = s.tiles))

/-! ### Pair, life-cycle and test commands (chapters 11, 12, 18 and 19) -/

/-- PAIR_HANDOVER on the active sends HANDOVER with REASON 1 and waits; PTN_DIGEST says whether the digests are equal; PTN_ADOPT
ends at once; PTN_BARRIER sends BARRIER and waits for the partner, or completes with the partner's RAS.FCNT where the partner is
there already; the time limits complete their commands with TIMEOUT. LC_ADVANCE of an allowed transition completes with the code
before it, sets the marker and starts the wipes, and completes with LOCKED otherwise; FW_SELECT prefers a slot whose image
passes, and completes with AUTH otherwise; TMX_SELECT sets its output's selector, or sets DENIED and completes with LOCKED for a
signal that the life-cycle state withholds (R365, R366, R381, R382, R383, R515, R551). Model's choices in it: log entry 10. -/
def Obligations.PairLifeCycleAndTestCommands : Prop :=
  (∀ (s : State) (d : Desc) (e : Env),
    (Runs 0x0E02 d e s → rd s Reg.PTN_CTRL_EN = 1 → linkOf s 64 = 2 →
      ∃ t, exec (.pairHandover d e) s = .next t ∧ Waits 0x0E02 d false .handover s t ∧
        t.tx = s.tx ++ [.ptn 0x0B s.ptn.txCnt [1, 0, 0, 0]] ∧
        t.ptn = { s.ptn with asked := some 1, txCnt := s.ptn.txCnt + 1 } ∧
        t = { taken 0x0E02 d e s with waits := t.waits, tx := t.tx, ptn := t.ptn }) ∧
    (Runs 0x0E10 d e s →
      EndsAtOnce 0x0E10 d e s (.ptnDigest d e) 0 (fun u => b2n (digestDiff d.params (ownDigest u) == 0)) (fun _ => 0) id) ∧
    (Runs 0x0E11 d e s → EndsAtOnce 0x0E11 d e s (.ptnAdopt d e) 0 (fun _ => 0) (fun _ => 0) id) ∧
    (let k := p8 d 0
     let n := p8 d 1
     Runs 0x0E12 d e s → (k, n) ∉ s.ptn.reached → rd s Reg.PTN_CTRL_EN = 1 → linkOf s 64 = 2 →
      (s.ptn.peerAt = [] →
        ∃ t, exec (.ptnBarrier d e) s = .next t ∧ Waits 0x0E12 d false (.barrier k n) s t ∧
          t.tx = s.tx ++ [.ptn 4 s.ptn.txCnt
            (leBytes 1 k ++ leBytes 1 n ++ zeroBytes 6 ++ leBytes 4 (rd s Reg.RAS_FCNT_FCNT))] ∧
          t.ptn = { s.ptn with reached := (k, n) :: s.ptn.reached, txCnt := s.ptn.txCnt + 1 } ∧
          t = { taken 0x0E12 d e s with waits := t.waits, tx := t.tx, ptn := t.ptn }) ∧
      (∀ f, s.ptn.peerAt = [(k, n, f)] →
        EndsAtOnce 0x0E12 d e s (.ptnBarrier d e) 0 (fun _ => f) (fun _ => 0) (fun u =>
          { u with
            tx := u.tx ++ [.ptn 4 u.ptn.txCnt
              (leBytes 1 k ++ leBytes 1 n ++ zeroBytes 6 ++ leBytes 4 (rd u Reg.RAS_FCNT_FCNT))]
            ptn := { u.ptn with peerAt := [], txCnt := u.ptn.txCnt + 1 } }))) ∧
    (∀ w, NoneRuns { s with waits := [] } → s.waits = [w] →
      (∀ k n, w.kind = .barrier k n →
        exec .ptnBarrierTimeout s =
          .next (complete w.cpl 8 0 0 { s with waits := [], ptn := { s.ptn with reached := [] } })) ∧
      (w.kind = .handover →
        exec .pairHandoverTimeout s = .next (complete w.cpl 8 0 0 { s with waits := [] })))) ∧
  (∀ (s : State) (d : Desc) (e : Env),
    (let u := taken 0x0F02 d e s
     let c := rd s Reg.SEC_LC_CODE
     Runs 0x0F02 d e s → NothingWaits s →
      ((c, p8 d 0) ∈ [(0, 1), (0, 2), (1, 2), (2, 3), (1, 3)] → s.mrc.run = none →
        ∃ t, exec (.lcAdvance d e) s = .next t ∧
          t = wipeNext e { complete (cplOf 0x0F02 d false) 0 c 0 u with
            sec := { s.sec with marker := some (p8 d 0), wipes := wipeList c } } ∧
          t.sec = { s.sec with marker := some (p8 d 0), wipes := wipeList c } ∧ t.dev = s.dev ∧ t.waits = s.waits ∧
          (holdCovers (holdMeasure e u) 64 = true → ∃ b, t.mrc.run = some b ∧ b.why = .wipe ∧ b.lines = 64)) ∧
      ((c, p8 d 0) ∉ [(0, 1), (0, 2), (1, 2), (2, 3), (1, 3)] →
        EndsAtOnce 0x0F02 d e s (.lcAdvance d e) 10 (fun _ => 0) (fun _ => 0) id)) ∧
    (let b := fwSlot s (p8 d 0)
     let good := firmwareOk s b
     Runs 0x0F03 d e s →
      EndsAtOnce 0x0F03 d e s (.fwSelect d e) (if good = true then 0 else 4)
        (fun _ => if good = true then leAt b 0xC 4 else 0) (fun _ => 0)
        (fun u => if good = true then u |> wr Reg.SEC_BOOT_PREF (p8 d 0)
            |> wr (if p8 d 0 = 0 then Reg.SEC_BOOT_AVALID else Reg.SEC_BOOT_BVALID) 1
          else u)) ∧
    (let sig := p8 d 1
     Runs 0x0F04 d e s →
      ((rd s Reg.SEC_LC_CODE = 1 ∨ rd s Reg.SEC_LC_CODE = 3 ∨ sig < 8) → p8 d 0 = 0 →
        EndsAtOnce 0x0F04 d e s (.tmxSelect d e) 0 (fun _ => 0) (fun _ => 0)
          (fun u => u |> wr Reg.TMX_SEL0_EN 1 |> wr Reg.TMX_SEL0_SIGNAL sig)) ∧
      ((rd s Reg.SEC_LC_CODE = 1 ∨ rd s Reg.SEC_LC_CODE = 3 ∨ sig < 8) → p8 d 0 = 1 →
        EndsAtOnce 0x0F04 d e s (.tmxSelect d e) 0 (fun _ => 0) (fun _ => 0)
          (fun u => u |> wr Reg.TMX_SEL1_EN 1 |> wr Reg.TMX_SEL1_SIGNAL sig)) ∧
      ((rd s Reg.SEC_LC_CODE = 0 ∨ rd s Reg.SEC_LC_CODE = 2) → 8 ≤ sig →
        EndsAtOnce 0x0F04 d e s (.tmxSelect d e) 10 (fun _ => 0) (fun _ => 0) (wr Reg.TMX_STATUS_DENIED 1))))

/-! ### Sleep, power domains, levels and the damper (chapter 16) -/

/-- SLEEP.GO asks every block; an ACK, a DELAY and its expiry move the block between the lists of the handshake; a REFUSE, a
block that does not answer and a DELAY beyond 10 ms abort it with their values in PWC.SLEEP; entry behind the last ACK leads to
PILOT with the pads latched. A write of DOMOFF asks its one domain, whose ACK powers it down; an access powers a domain up,
or fails where it is locked off or not ready; PADREL acts in STANDBY. A level change that is done puts its level in force,
lowers VCORE where it fell, and lets an entry that waited go on. A cool reading is stored and moves nothing else; one at throttle
takes the damper from 0 to 1; it escalates to the next step for a sensor that has stayed hot for ESC_MS and drops one step once
it has been cool for DWELL_S; a sensor that fails the self-test is broken (R464, R465, R466, R467, R468, R469, R472, R473, R475,
R476, R477, R479). Model's choices in it: log entries 5, 9, 13 and 46. -/
def Obligations.SleepDomainsLevelsAndDamper : Prop :=
  (∀ (s : State) (tm : Nat),
    (let a := atTime tm s
     let aborted := fun (res b ans code : Nat) (t : State) =>
       t = { a with regs := t.regs, pwc := t.pwc } ∧ t.pwc = { s.pwc with hs := none } ∧
         rd t Reg.PWC_SLEEP_RESULT = res ∧ rd t Reg.PWC_SLEEP_BLOCK = b % 256 ∧ rd t Reg.PWC_SLEEP_ANSWER = ans ∧
         rd t Reg.PWC_SLEEP_CODE = code % 256 ∧ rd t Reg.PWC_SLEEP_GO = 0 ∧ rd t Reg.PWC_STATUS_DOMBUSY = 0 ∧
         RegsBut [Reg.PWC_SLEEP_RESULT, Reg.PWC_SLEEP_BLOCK, Reg.PWC_SLEEP_ANSWER, Reg.PWC_SLEEP_CODE, Reg.PWC_SLEEP_GO,
           Reg.PWC_STATUS_DOMBUSY] s t
     (s.dev.state = .standby → s.pwc.hs = none →
        ∃ t, exec (.sleepGo tm) s = .next t ∧ t.pwc = { s.pwc with hs := some ⟨sleepBlocks s, [], max s.now tm, none⟩ } ∧
          rd t Reg.PWC_SLEEP_GO = 1 ∧ rd t Reg.PWC_SLEEP_RESULT = 0 ∧ rd t Reg.PWC_STATUS_DOMBUSY = 1 ∧
          t = { a with regs := t.regs, pwc := t.pwc } ∧
          RegsBut [Reg.PWC_SLEEP_GO, Reg.PWC_SLEEP_RESULT, Reg.PWC_STATUS_DOMBUSY] s t) ∧
     (s.dev.state ≠ .standby → exec (.sleepGo tm) s = .next a) ∧
     (∀ h b, s.pwc.hs = some h → b ∈ h.left →
        (h.dom = none → refusal s b = none → ∀ code, exec (.handshakeAnswer b 1 code tm) s =
          .next { a with pwc := { s.pwc with hs := some { h with left := h.left.erase b } } }) ∧
        (∀ k, 1 ≤ k → k ≤ 255 → max s.now tm + msTicks k ≤ h.t0 + msTicks 10 →
          exec (.handshakeAnswer b 2 k tm) s = .next { a with pwc := { s.pwc with
            hs := some { h with left := h.left.erase b, delayed := h.delayed ++ [(b, max s.now tm + msTicks k)] } } }) ∧
        (h.dom = none → s.waits = [] → NoneRuns s → rd s Reg.PWC_DOMOFF_MAP = 0 →
          (∀ k, 1 ≤ k → k ≤ 255 → h.t0 + msTicks 10 < max s.now tm + msTicks k →
            ∃ t, exec (.handshakeAnswer b 2 k tm) s = .next t ∧ aborted 3 b 2 k t) ∧
          (∀ code, ∃ t, exec (.handshakeAnswer b 3 code tm) s = .next t ∧ aborted 2 b 3 code t) ∧
          (∃ t, exec (.handshakeNoanswer b tm) s = .next t ∧ aborted 2 b 3 6 t)) ∧
        (∀ d, h = ⟨[b], [], h.t0, some d⟩ → d < 10 → refusal s b = none → s.waits = [] → rd s Reg.PWC_DOMOFF_MAP = 2 ^ d →
          ∀ code, ∃ t, exec (.handshakeAnswer b 1 code tm) s = .next t ∧ t.pwc.hs = none ∧
            bit (rd t Reg.PWC_DOMST_MAP) d = false ∧ rd t Reg.PWC_DOMOFF_MAP = 0 ∧ rd t Reg.PWC_SLEEP_RESULT = 1 ∧
            t = { a with regs := t.regs, pwc := t.pwc })) ∧
     (∀ h w b code x, s.pwc.hs = some h → b ∈ h.left → h.dom = none → s.waits = [w] → w.kind = .sleep x → w.sc = true →
        NothingWaits s → NoneRuns { s with waits := [] } → rd s Reg.PWC_DOMOFF_MAP = 0 →
        ∃ t u, exec (.handshakeAnswer b 3 code tm) s = .next { t with freeCnt := t.freeCnt + 1 } ∧
          t = complete w.cpl 5 0 (pack4 b 3 code 0x0B) u ∧ aborted 2 b 3 code { u with waits := s.waits } ∧ u.waits = []) ∧
     (∀ h b x, s.pwc.hs = some h → h.delayed = [(b, x)] →
        exec (.handshakeDelayExpiry b tm) s = .next { a with pwc := { s.pwc with
          hs := some { h with left := h.left ++ [b], delayed := [] } } }) ∧
     (∀ h, s.pwc.hs = some h → h.dom = none → h.left = [] → h.delayed = [] → s.dev.state = .standby → s.waits = [] →
        NoneRuns s → wakeSource s = none →
        ∃ t, exec .sleepEntry s = .next t ∧ t.dev.state = .pilot ∧ t.pilot.pmicEn = false ∧ t.pilot.wayUp = .idle ∧
          rd t Reg.PWC_PADREL_LATCHED = 1 ∧ rd t Reg.PWC_RSTCAUSE_CAUSE = 7 ∧ rd t Reg.PWC_TGEN_EN = 0 ∧
          t.pwc.hs = none ∧ t.tiles = s.tiles ∧ (∀ x, 0x30000000 ≤ x → x < 0x31000000 → ldByte t x = ldByte s x)) ∧
     (∀ d, d < 10 → mainOn s.dev.state = true →
        (s.pwc.hs = none → s.waits = [] → rd s Reg.PWC_DOMOFF_MAP = 0 → bit (rd s Reg.PWC_DOMST_MAP) d = true →
          ∃ t, exec (.domoffWrite (2 ^ d) tm) s = .next t ∧
            t.pwc = { s.pwc with hs := some ⟨[blockOfDom d], [], max s.now tm, some d⟩ } ∧
            rd t Reg.PWC_DOMOFF_MAP = 2 ^ d ∧ rd t Reg.PWC_STATUS_DOMBUSY = 1 ∧
            t = { a with regs := t.regs, pwc := t.pwc } ∧ RegsBut [Reg.PWC_DOMOFF_MAP, Reg.PWC_STATUS_DOMBUSY] s t) ∧
        (bit (rd s Reg.PWC_DOMLOCK_MAP) d = false → bit (rd s Reg.PWC_DOMST_MAP) d = false →
          (∃ t, exec (.domainPowerUp d true) s = .next t ∧ bit (rd t Reg.PWC_DOMST_MAP) d = true ∧
            OnlyRegs [Reg.PWC_DOMST_MAP] s t) ∧
          exec (.domainPowerUp d false) s = .next { s with inbox := s.inbox ++ [⟨2, 3, 0x8000 + d, none⟩] }) ∧
        (∀ r, bit (rd s Reg.PWC_DOMLOCK_MAP) d = true →
          exec (.domainPowerUp d r) s = .next { s with inbox := s.inbox ++ [⟨2, 3, d, none⟩] })) ∧
     (s.dev.state = .standby →
        ∃ t, exec .padrelWrite s = .next t ∧ rd t Reg.PWC_PADREL_LATCHED = 0 ∧ OnlyRegs [Reg.PWC_PADREL_LATCHED] s t) ∧
     (s.dev.state ≠ .standby → exec .padrelWrite s = .next s))) ∧
  (∀ (s : State) (tm : Nat),
    (let a := atTime tm s
     (∀ l, s.pwc.plTo = some l → l < 4 → s.waits = [] → NoneRuns s →
        (s.dev.raising = none → s.dev.state = .standby → rd s Reg.PWC_PLREQ_SB = l →
          ∃ t, exec .plChangeDone s = .next t ∧ rd t Reg.PWC_STATUS_PL = l ∧ rd t Reg.PWC_STATUS_PLBUSY = 0 ∧
            t.pwc = { s.pwc with plTo := none } ∧
            t.tx = s.tx ++ (if l < rd s Reg.PWC_STATUS_PL then [.vset (levelMv .standby l)] else []) ∧
            t = { s with regs := t.regs, pwc := t.pwc, tx := t.tx } ∧
            RegsBut [Reg.PWC_STATUS_PL, Reg.PWC_STATUS_PLBUSY, Reg.PWC_VSET_MV] s t) ∧
        (∀ d ∈ [DevState.prelit, .service], s.dev.raising = some d → s.dev.state = .standby → effLevel s d ≤ l →
          NothingWaits s → s.pilot.safeLow = false → rasterOn s = false →
          ∃ t, exec .plChangeDone s = .next t ∧ t.dev.state = d ∧ rasterOn t = true ∧ t.tiles = s.tiles)) ∧
     (s.pwc.plTo = none → exec .plChangeDone s = .next s) ∧
     (∀ (n : Nat) (meas rise : Int), n < 9 → mainOn s.dev.state = true → rd s Reg.THM_CTRL_EN = 1 → sensorBroken s n = false →
        -550 ≤ meas → meas ≤ 1750 → -32768 ≤ rise → rise < 32768 → meas < rdi s (Reg.THM_S_LIM1_CRIT n) →
        (n = 6 ∨ (meas < rdi s (Reg.THM_S_LIM0_WARN n) ∧ meas < rdi s (Reg.THM_S_LIM0_THROTTLE n) ∧
            rise ≤ (min (rd s Reg.THM_RATE_RATE1) (rd s Reg.THM_RATE_RATE3) : Nat)) →
          ∃ t, exec (.thmSample n meas rise false tm) s = .next t ∧ rdi t (Reg.THM_S_VAL_MEAS n) = meas ∧
            rdi t (Reg.THM_S_VAL_USED n) = meas ∧ rdi t (Reg.THM_S_RISE_RISE n) = rise ∧
            t = { a with regs := t.regs, thm := t.thm } ∧
            RegsBut [Reg.THM_S_VAL_MEAS n, Reg.THM_S_VAL_USED n, Reg.THM_S_RISE_RISE n, Reg.THM_STATUS_FAST] s t) ∧
        (n ≠ 6 → rdi s (Reg.THM_S_LIM0_THROTTLE n) ≤ meas → rise ≤ (rd s Reg.THM_RATE_RATE3 : Nat) →
          rd s Reg.THM_STATUS_STEP = 0 →
          ∃ t, exec (.thmSample n meas rise false tm) s = .next t ∧ rd t Reg.THM_STATUS_STEP = 1 ∧
            ⟨0x021, 0x07, 0x1000 + n, none⟩ ∈ t.inbox ∧ rdi t (Reg.THM_S_VAL_MEAS n) = meas ∧
            rd t Reg.SWP_STATUS_HALF = 1 ∧ t.dev = s.dev ∧ t.tiles = s.tiles)) ∧
     (let step := rd s Reg.THM_STATUS_STEP
      let hot := fun n => match (sensorOf s n).since with
        | some x => decide (x + msTicks (clampN 100 60000 (rd s Reg.THM_ESC_ESC_MS)) ≤ max s.now tm)
        | none => false
      mainOn s.dev.state = true → 0 < step → step < 3 →
      (∀ n, (List.range 9).find? hot = some n →
        ∃ t, exec (.damperEscalate tm) s = .next t ∧ rd t Reg.THM_STATUS_STEP = step + 1 ∧
          ⟨0x021, 0x07, (step + 1) * 0x1000 + n, none⟩ ∈ t.inbox ∧ t.dev = s.dev ∧ t.tiles = s.tiles) ∧
      ((List.range 9).find? hot = none → exec (.damperEscalate tm) s = .next a)) ∧
     (let step := rd s Reg.THM_STATUS_STEP
      let dwell := msTicks (1000 * max 1 (rd s Reg.THM_ESC_DWELL_S))
      mainOn s.dev.state = true → 0 < step → step < 4 →
      (∀ x, s.thm.coolAt = some x → x + dwell ≤ max s.now tm →
        ∃ t, exec (.damperDwell tm) s = .next t ∧ rd t Reg.THM_STATUS_STEP = step - 1 ∧ t.thm.coolAt = some (max s.now tm) ∧
          (step = 3 → rd t Reg.THM_STATUS_MODECAP = 3) ∧ t.dev = s.dev ∧ t.tiles = s.tiles ∧
            (NoneRuns s → t.inbox = s.inbox ∧ SameMem s t)) ∧
      (s.thm.coolAt = none → exec (.damperDwell tm) s = .next a)) ∧
     (∀ n, n < 9 → mainOn s.dev.state = true → sensorBroken s n = false →
        ∃ t, exec (.sensorSelfTest (2 ^ n)) s = .next t ∧ sensorBroken t n = true ∧
          ⟨0x023, 0x09, n, none⟩ ∈ t.inbox ∧ (∀ k, k ≠ n → k < 9 → sensorBroken t k = sensorBroken s k) ∧
          t.dev = s.dev ∧ t.tiles = s.tiles) ∧
     exec (.sensorSelfTest 0) s = .next s))

/-! ### Amnas lanes (chapter 6) -/

/-- Training of a lane not in service: TRAIN starts an attempt and sends TSA; the 16th TSB in a row answers with READY, and a TSB
with READY ends training UP; an invalid set counts from 0 again; a set of another lane, or a third attempt without success, ends
FAILED; the lane PLL locks, and its loss takes every lane down and leads to FALLBACK (R188, R198, R199, R200, R201, R214).
Model's choices in it: log entry 20. -/
def Obligations.LanesTrainAndFail : Prop :=
  ∀ (s : State) (n : Nat), n < 66 →
    (let begun := fun (k : Nat) (t : State) =>
       t = { s with regs := t.regs, lanes := t.lanes, tx := t.tx } ∧
         (∀ m, laneOf t m = if m = n then { laneOf s n with training := some ⟨k, 0, false, false⟩ } else laneOf s m) ∧
         linkOf t n = 1 ∧ rd t (Reg.TLK_LN_CTRL_TX_ON n) = 1 ∧ rd t (Reg.TLK_LN_CTRL_RX_ON n) = 1 ∧
         rd t (Reg.TLK_LN_STATUS_TXST n) = 1 ∧
         rd t (Reg.TLK_LN_STATUS_RXST n) = (if rd s (Reg.TLK_LN_STATUS_RXST n) = 2 then 2 else 1) ∧
         rd t (Reg.TLK_LN_LOSS_TRAINS n) = (rd s (Reg.TLK_LN_LOSS_TRAINS n) + 1) % 2 ^ 16 ∧
         RegsBut [Reg.TLK_LN_STATUS_LINK n, Reg.TLK_LN_CTRL_TX_ON n, Reg.TLK_LN_CTRL_RX_ON n, Reg.TLK_LN_STATUS_TXST n,
           Reg.TLK_LN_STATUS_RXST n, Reg.TLK_LN_LOSS_TRAINS n, Reg.TLK_UPMAP_LO_MAP, Reg.TLK_UPMAP_HI_MAP,
           Reg.TLK_SYNCMAP_LO_MAP, Reg.TLK_SYNCMAP_HI_MAP] s t ∧
         ∃ b, t.tx = s.tx ++ [.train n 0x4A b] ∧ trainSetOk 0x4A b false = true ∧ byteAt b 1 = n ∧
           bits (byteAt b 2) 1 2 = 0
     (mainOn s.dev.state = true → laneExists s n = true →
        (inService s n = false → linkOf s n ≠ 1 → ∃ t, exec (.tlkTrainWrite n) s = .next t ∧ begun 1 t) ∧
        (inService s n = true ∨ linkOf s n = 1 →
          exec (.tlkTrainWrite n) s = .next { s with inbox := s.inbox ++ [⟨0x0B5, 0x2A, n, none⟩] })) ∧
     (∀ tr, (laneOf s n).training = some tr → tr.idle = true →
        ∃ t, exec (.trainIdleEnd n) s = .next t ∧ begun (tr.attempt + 1) t)) ∧
    (let training := fun (o : Option Training) (t : State) =>
       ∀ m, laneOf t m = if m = n then { laneOf s n with training := o } else laneOf s m
     let failed := fun (src kind : Nat) (t : State) =>
       t = { s with regs := t.regs, lanes := t.lanes, inbox := s.inbox ++ [⟨src, kind, n, none⟩] } ∧ training none t ∧
         linkOf t n = 3
     (∀ tr set, mainOn s.dev.state = true → laneExists s n = true → (laneOf s n).training = some tr → tr.idle = false →
        (trainSetOk 0xB5 set false = true → bits (byteAt set 2) 3 5 = 0 →
          (byteAt set 1 ≠ n → NoneRuns s → ∃ t, exec (.tsbReceive n set false) s = .next t ∧ failed 0x0B3 0x28 t) ∧
          (byteAt set 1 = n → tr.ready = true → bit (byteAt set 2) 1 = true → n < 64 → NoneRuns s →
            ∃ t, exec (.tsbReceive n set false) s = .next t ∧ training none t ∧ linkOf t n = 2 ∧
              rd t (Reg.TLK_LN_STATUS_TXST n) = 2 ∧ rd t (Reg.TLK_LN_ID_LANE n) = n ∧
              rd t (Reg.TLK_LN_ID_TYPE n) = leAt set 3 2 ∧ rd t (Reg.TLK_LN_ID_REV n) = byteAt set 5 ∧
              bit (rd t (Reg.ITC_PEND_MAP 1)) 0 = true ∧ mapBit t Reg.TLK_UPMAP_LO_MAP Reg.TLK_UPMAP_HI_MAP n = true ∧
              t = { s with regs := t.regs, lanes := t.lanes }) ∧
          (byteAt set 1 = n → tr.ready = false → bits (byteAt set 2) 0 1 = tsaPort s n →
            (tr.run < 15 → ∃ t, exec (.tsbReceive n set false) s = .next t ∧
              training (some { tr with run := tr.run + 1 }) t ∧ t = { s with regs := t.regs, lanes := t.lanes }) ∧
            (15 ≤ tr.run → ∃ t b, exec (.tsbReceive n set false) s = .next t ∧
              training (some { tr with run := tr.run + 1, ready := true }) t ∧
              t = { s with regs := t.regs, lanes := t.lanes, tx := s.tx ++ [.train n 0x4A b] } ∧
              trainSetOk 0x4A b false = true ∧ bits (byteAt b 2) 1 2 = 1))) ∧
        (∃ t, exec (.tsbReceive n set true) s = .next t ∧ training (some { tr with run := 0 }) t ∧
          t = { s with lanes := t.lanes })) ∧
     (∀ tr, (laneOf s n).training = some tr → tr.idle = false →
        (tr.attempt < 3 → ∃ t, exec (.trainAttemptTimeout n) s = .next t ∧ training (some { tr with idle := true }) t ∧
          t = { s with lanes := t.lanes }) ∧
        (3 ≤ tr.attempt → NoneRuns s → ∃ t, exec (.trainAttemptTimeout n) s = .next t ∧ failed 0x0B2 0x27 t))) ∧
    (mainOn s.dev.state = true → rd s Reg.TLK_CTRL_PLL_EN = 1 → s.pilot.refOk = true →
      ∃ t, exec .lanePllLock s = .next t ∧ rd t Reg.TLK_STATUS_PLL_LOCK = 1 ∧ OnlyRegs [Reg.TLK_STATUS_PLL_LOCK] s t) ∧
    (∀ e, rd s Reg.TLK_STATUS_PLL_LOCK = 1 → severity s 0x0B0 = 3 → NothingWaits s → NoneRuns s →
      (rasterState s.dev.state = true → pairOp s = false →
        ∃ t, exec (.lanePllLoss e) s = .next t ∧ t.dev.state = .fallback ∧ t.pilot.sFallback = true ∧
          rd t Reg.TLK_STATUS_PLL_LOCK = 0 ∧ rd t Reg.TLK_STATUS_PLL_LOST = 1 ∧ linkOf t n = 0) ∧
      (s.dev.state = .standby →
        ∃ t, exec (.lanePllLoss e) s = .next t ∧ t.dev.state = .standby ∧ rd t Reg.FCL_LAST_VALUE = 0x58250000 ∧
          rd t Reg.TLK_STATUS_PLL_LOCK = 0 ∧ rd t Reg.TLK_STATUS_PLL_LOST = 1 ∧ linkOf t n = 0 ∧ t.tiles = s.tiles))

/-- Sync, its loss and its error counts; SLIP; sleep and waking of the two directions; loopbacks and patterns, with far-end
loopback asked for on a lane that is up and ended by electrical idle; each refused with LANE_CFG on a lane in service. The
far end answers TSA with TSB (R193, R194, R196, R207, R209, R210, R211, R212, R213). Model's choices in it: log entry 46. -/
def Obligations.LanesSyncSleepAndTest : Prop :=
  ∀ (s : State) (n : Nat), n < 66 →
    (mainOn s.dev.state = true → laneExists s n = true →
      let turned := { s with inbox := s.inbox ++ [⟨0x0B5, 0x2A, n, none⟩] }
      let maps := [Reg.TLK_SYNCMAP_LO_MAP, Reg.TLK_SYNCMAP_HI_MAP, Reg.TLK_UPMAP_LO_MAP, Reg.TLK_UPMAP_HI_MAP]
      (rd s (Reg.TLK_LN_STATUS_RXST n) = 1 → rd s (Reg.TLK_LN_CTRL_AUTOALIGN n) = 1 →
        ∃ t, exec (.rxSyncAcquire n) s = .next t ∧ rd t (Reg.TLK_LN_STATUS_RXST n) = 2 ∧ rd t (Reg.TLK_LN_STATUS_SIGDET n) = 1 ∧
          (n < 64 → mapBit t Reg.TLK_SYNCMAP_LO_MAP Reg.TLK_SYNCMAP_HI_MAP n = true) ∧
          OnlyRegs ([Reg.TLK_LN_STATUS_RXST n, Reg.TLK_LN_STATUS_SIGDET n] ++ maps) s t) ∧
      (rd s (Reg.TLK_LN_STATUS_RXST n) = 2 → n < 64 →
        (inService s n = true → ∃ t, exec (.laneRxLoss n) s = .next t ∧ rd t (Reg.TLK_LN_STATUS_RXST n) = 1 ∧
          Counts (Reg.TLK_LN_LOSS_SYNCLOSS n) s t ∧
          t = { s with regs := t.regs, inbox := s.inbox ++ [⟨0x0B1, 0x26, n, none⟩] } ∧
          RegsBut ([Reg.TLK_LN_STATUS_RXST n, Reg.TLK_LN_LOSS_SYNCLOSS n] ++ maps) s t) ∧
        (inService s n = false → ∃ t, exec (.laneRxLoss n) s = .next t ∧ rd t (Reg.TLK_LN_STATUS_RXST n) = 1 ∧
          OnlyRegs ([Reg.TLK_LN_STATUS_RXST n] ++ maps) s t)) ∧
      (rd s (Reg.TLK_LN_CTRL_AUTOALIGN n) = 0 → ∃ t, exec (.slipWrite n) s = .next t ∧
        (∀ m, laneOf t m = if m = n then { laneOf s n with slip := ((laneOf s n).slip + 1) % 10 } else laneOf s m) ∧
        t = { s with lanes := t.lanes }) ∧
      (rd s (Reg.TLK_LN_CTRL_AUTOALIGN n) = 1 → exec (.slipWrite n) s = .next s) ∧
      (inService s n = true →
        exec (.txOnWrite n false) s = .next turned ∧ exec (.rxOnWrite n false) s = .next turned ∧
          exec (.txOnWrite n true) s = .next s ∧ exec (.rxOnWrite n true) s = .next s ∧
          (∀ lb, exec (.loopbackWrite n lb) s = .next turned) ∧ (∀ p, exec (.prbsWrite n p) s = .next turned)) ∧
      (64 ≤ n → exec (.loopbackWrite n 3) s = .next turned) ∧
      (inService s n = false →
        (∃ t, exec (.txOnWrite n true) s = .next t ∧ rd t (Reg.TLK_LN_CTRL_TX_ON n) = 1 ∧
          rd t (Reg.TLK_LN_STATUS_TXST n) = (if rd s (Reg.TLK_LN_STATUS_TXST n) = 0 then 2 else rd s (Reg.TLK_LN_STATUS_TXST n)) ∧
          OnlyRegs [Reg.TLK_LN_CTRL_TX_ON n, Reg.TLK_LN_STATUS_TXST n] s t) ∧
        (∃ t, exec (.txOnWrite n false) s = .next t ∧ rd t (Reg.TLK_LN_CTRL_TX_ON n) = 0 ∧
          rd t (Reg.TLK_LN_STATUS_TXST n) = 0 ∧ linkOf t n = 0 ∧
          (∀ m, laneOf t m = if m = n then { laneOf s n with training := none } else laneOf s m) ∧
          t = { s with regs := t.regs, lanes := t.lanes } ∧
          RegsBut ([Reg.TLK_LN_CTRL_TX_ON n, Reg.TLK_LN_STATUS_TXST n, Reg.TLK_LN_STATUS_LINK n] ++ maps) s t) ∧
        (∃ t, exec (.rxOnWrite n true) s = .next t ∧ rd t (Reg.TLK_LN_CTRL_RX_ON n) = 1 ∧
          rd t (Reg.TLK_LN_STATUS_RXST n) = (if rd s (Reg.TLK_LN_STATUS_RXST n) = 0 then 1 else rd s (Reg.TLK_LN_STATUS_RXST n)) ∧
          OnlyRegs ([Reg.TLK_LN_CTRL_RX_ON n, Reg.TLK_LN_STATUS_RXST n] ++ maps) s t) ∧
        (∃ t, exec (.rxOnWrite n false) s = .next t ∧ rd t (Reg.TLK_LN_CTRL_RX_ON n) = 0 ∧
          rd t (Reg.TLK_LN_STATUS_RXST n) = 0 ∧ rd t (Reg.TLK_LN_STATUS_SIGDET n) = 0 ∧
          OnlyRegs ([Reg.TLK_LN_CTRL_RX_ON n, Reg.TLK_LN_STATUS_RXST n, Reg.TLK_LN_STATUS_SIGDET n] ++ maps) s t) ∧
        (∀ lb, lb < 4 → n < 64 ∨ lb ≠ 3 → ∃ t, exec (.loopbackWrite n lb) s = .next t ∧ rd t (Reg.TLK_LN_CTRL_LB n) = lb ∧
          (lb ≠ 0 → rd t (Reg.TLK_LN_STATUS_TXST n) = 3 ∧ rd t (Reg.TLK_LN_STATUS_RXST n) = 3) ∧
          (rd s (Reg.TLK_LN_CTRL_LB n) = 3 → lb ≠ 3 → linkOf t n = 0 ∧ rd t (Reg.TLK_LN_STATUS_FELB n) = 0 ∧ t.tx = s.tx) ∧
          (rd s (Reg.TLK_LN_CTRL_LB n) ≠ 3 → lb = 3 → linkOf s n = 2 → (laneOf t n).felbReq = true ∧
            ∃ b, t.tx = s.tx ++ [.train n 0x4A b] ∧ trainSetOk 0x4A b false = true ∧ bits (byteAt b 2) 1 2 = 2) ∧
          (∀ m, m ≠ n → laneOf t m = laneOf s m) ∧ t = { s with regs := t.regs, lanes := t.lanes, tx := t.tx } ∧
          RegsBut ([Reg.TLK_LN_CTRL_LB n, Reg.TLK_LN_STATUS_TXST n, Reg.TLK_LN_STATUS_RXST n, Reg.TLK_LN_STATUS_FELB n,
            Reg.TLK_LN_STATUS_LINK n] ++ maps) s t) ∧
        (∀ p, p < 3 → ∃ t, exec (.prbsWrite n p) s = .next t ∧ rd t (Reg.TLK_LN_CTRL_PRBS n) = p ∧
          (p ≠ 0 → rd t (Reg.TLK_LN_STATUS_TXST n) = 3 ∧ rd t (Reg.TLK_LN_STATUS_RXST n) = 3) ∧
          OnlyRegs ([Reg.TLK_LN_CTRL_PRBS n, Reg.TLK_LN_STATUS_TXST n, Reg.TLK_LN_STATUS_RXST n] ++ maps) s t) ∧
        exec (.prbsWrite n 3) s = .next s) ∧
      (∀ c, ∃ t, exec (.laneErrSecond c) s = .next t ∧
        rd t (Reg.TLK_LN_ERR_CV n) = min 0xFFFF (rd s (Reg.TLK_LN_ERR_CV n) + c.getD (2 * n) 0) ∧
        rd t (Reg.TLK_LN_ERR_DISP n) = min 0xFFFF (rd s (Reg.TLK_LN_ERR_DISP n) + c.getD (2 * n + 1) 0) ∧
        t = { s with regs := t.regs, inbox := s.inbox ++ (errLanes s c).map (fun k => ⟨0x0B4, 0x29, k, none⟩) } ∧
        (∀ f : Fld, (∀ k, k < 66 → f.key ≠ (Reg.TLK_LN_ERR_CV k).key ∧ f.key ≠ (Reg.TLK_LN_ERR_DISP k).key) →
          rd t f = rd s f))) ∧
    (∀ set, n < laneCount s → n < 64 → (tileOf s n).powered = true → trainSetOk 0x4A set false = true →
      bits (byteAt set 2) 4 4 = 0 →
      ∃ t, exec (.tsaReceive n set false) s = .next t ∧ t = { s with tiles := t.tiles, tx := t.tx } ∧
        (tileOf t n).sync = true ∧ (∀ m, m ≠ n → tileOf t m = tileOf s m) ∧
        (let sent := fun (fl : Nat) => ∃ b, t.tx = s.tx ++ [.train n 0xB5 b] ∧ trainSetOk 0xB5 b false = true ∧
           bits (byteAt b 2) 1 7 = fl ∧ byteAt b 1 = byteAt set 1
         (bit (byteAt set 2) 2 = true → (tileOf t n).far = { (tileOf s n).far with loopback := true } ∧ sent 2) ∧
         (bits (byteAt set 2) 1 2 = 1 → (tileOf s n).far = ⟨true, false, false⟩ →
           (tileOf t n).far = ⟨true, true, false⟩ ∧ sent 1) ∧
         (bits (byteAt set 2) 1 2 = 0 → (tileOf t n).far = ⟨true, false, false⟩ ∧ sent 0))) ∧
    (tileOn s n = true → n < 64 → (tileOf s n).far.loopback = true →
      exec (.tileLoopbackExit n) s = .next (setTile n { tileOf s n with sync := false, far := farInit } s))

/-! ### TPR, the device's side of the tile protocol (chapter 7) -/

/-- Firmware puts a lane in service or takes it out; PLATE and COAST leave as three copies and WIPE joins the queue, on one lane
or every lane in service; SNAP is asked for; a command set pushed joins the queue of 32 with the next TAG; DARKROW leaves for the
next displayed frame. A set not acknowledged is due again, and after three sends is TILE_NAK, as is a result that says so; a
snapshot is done once every lane in service has returned it; the status of a line is counted, and the line packets of a whole
content received send the RESUME of a lane that automatic resume judges (R222, R223, R224, R225, R226, R239, R240, R242, R398).
Model's choices in it: log entry 46. -/
def Obligations.TprSetsAndAnswers : Prop :=
  ∀ (s : State) (n : Nat), n < laneCount s → n < 64 → pairOp s = false →
    (let nak := fun (t : State) => t = { s with regs := t.regs, tpr := t.tpr, inbox := s.inbox ++ [⟨0x0C5, 0x30, n, none⟩] } ∧
       Counts Reg.TPR_CMDQSTAT_NAKS s t ∧ RegsBut [Reg.TPR_CMDQSTAT_NAKS] s t
     let lane := fun (l : TprLane) (t : State) => ∀ m, tprLane t m = if m = n then l else tprLane s m
     let l := tprLane s n
     (l.sent = [] → exec (.ackTimeout n) s = .next s) ∧
     (∀ c k, l.sent = [⟨c, k, false⟩] →
        (c.opc ≠ 5 → seqPassed s c = false → k < 3 →
          ∃ t, exec (.ackTimeout n) s = .next t ∧ lane { l with sent := [⟨c, k, true⟩] } t ∧ t = { s with tpr := t.tpr }) ∧
        (c.opc ≠ 5 → seqPassed s c = false → 3 ≤ k →
          ∃ t, exec (.ackTimeout n) s = .next t ∧ lane { l with sent := [] } t ∧ nak t) ∧
        (c.opc = 5 ∨ seqPassed s c = true →
          ∃ t, exec (.ackTimeout n) s = .next t ∧ lane { l with sent := [] } t ∧ t = { s with tpr := t.tpr })) ∧
     (∀ c k b p, l.sent = [⟨c, k, b⟩] → upOk 3 4 p = true →
        (c.opc = byteAt p.payload 0 → c.tag = byteAt p.payload 1 →
          (byteAt p.payload 2 = 0 ∨ 3 < byteAt p.payload 2 →
            ∃ t, exec (.ack n p) s = .next t ∧ lane { l with sent := [] } t ∧ t = { s with tpr := t.tpr }) ∧
          (1 ≤ byteAt p.payload 2 → byteAt p.payload 2 ≤ 3 →
            ∃ t, exec (.ack n p) s = .next t ∧ lane { l with sent := [] } t ∧ nak t)) ∧
        (c.opc ≠ byteAt p.payload 0 ∨ c.tag ≠ byteAt p.payload 1 → exec (.ack n p) s = .next s)) ∧
     (∀ p, upOk 3 4 p = false → exec (.ack n p) s = .next s) ∧
     (∀ p, upOk 4 16 p = true → byteAt p.payload 0 = rd s Reg.TPR_SNAP_ID →
        ∃ t, exec (.snapr n p) s = .next t ∧ lane { l with snapped := true } t ∧
          rd t Reg.TPR_SNAP_DONE = (if rd s Reg.TPR_SNAP_REQ = 0 ∧ ∀ k ∈ serviceLanes s, k ≠ n → (tprLane s k).snapped = true
            then 1 else rd s Reg.TPR_SNAP_DONE) ∧
          t = { s with regs := t.regs, tpr := t.tpr } ∧ RegsBut [Reg.TPR_SNAP_DONE] s t) ∧
     (∀ p, upOk 4 16 p = false ∨ byteAt p.payload 0 ≠ rd s Reg.TPR_SNAP_ID → exec (.snapr n p) s = .next s) ∧
     (∀ p, upOk 1 8 p = true → inService s n = true →
        (let l' := { l with lines := l.lines + 1
                            lineOk := l.lineOk && bit (byteAt p.payload 3) 0 && leAt p.payload 0 2 == s.gte.seq % 65536 }
         (byteAt p.payload 2 ≠ 127 →
            ∃ t, exec (.lstat n p) s = .next t ∧ lane l' t ∧
              rd t (Reg.TPR_TL_STATUS_PORT n) = b2n (bit (byteAt p.payload 4) 2) ∧
              t = { s with regs := t.regs, tpr := t.tpr } ∧ RegsBut [Reg.TPR_TL_STATUS_PORT n] s t) ∧
         (byteAt p.payload 2 = 127 → l'.lineOk = true → l.lines = 127 → l.sending = true → linesGo s = true → role s = 0 →
            l.autoRes = true → rd s Reg.TPR_CTRL_AUTORES = 1 → l.autoAt = [] → 0 < rd s Reg.TPR_CFG_AUTOMAX →
            mapBit s Reg.FCL_DEGMAP_LO_MAP Reg.FCL_DEGMAP_HI_MAP n = false →
            (let c : CmdSet := ⟨3, s.tpr.nextTag, leBytes 4 s.gte.seq⟩
             ∃ t, exec (.lstat n p) s = .next t ∧ Counts (Reg.TPR_TL_ERR_AUTORES n) s t ∧
               lane { l' with autoAt := [rasterBase s], sent := l.sent ++ [⟨c, 1, false⟩] } t ∧
               t.tx = s.tx ++ [.cmd n c.tag (setBody c)] ∧ t.tpr.nextTag = (s.tpr.nextTag + 1) % 256 ∧
               t = { s with regs := t.regs, tpr := t.tpr, tx := t.tx } ∧
               RegsBut [Reg.TPR_TL_STATUS_PORT n, Reg.TPR_TL_ERR_AUTORES n] s t)))) ∧
     (∀ p, upOk 1 8 p = false ∨ inService s n = false → exec (.lstat n p) s = .next s)) ∧
    (mainOn s.dev.state = true →
      (inService s n = false → ∃ t, exec (.inservWrite n true) s = .next t ∧ inService t n = true ∧
        rd t (Reg.TPR_TL_STATUS_INSERV n) = 1 ∧ (tprLane t n).lost = 0 ∧ (tprLane t n).sending = false ∧
        mapBit t Reg.COR_GATE_FDARK_LO_MAP Reg.COR_GATE_FDARK_HI_MAP n =
          (decide (tileState s n = 3) || decide (s.dev.state = .fallback)) ∧
        (∀ m, m ≠ n → tprLane t m = tprLane s m) ∧ t = { s with regs := t.regs, tpr := t.tpr } ∧
        RegsBut [Reg.TLK_LN_STATUS_INSERV n, Reg.TPR_TL_STATUS_INSERV n, Reg.COR_GATE_FDARK_LO_MAP,
          Reg.COR_GATE_FDARK_HI_MAP] s t) ∧
      (inService s n = true → exec (.inservWrite n true) s = .next s) ∧
      (∃ t, exec (.inservWrite n false) s = .next t ∧ inService t n = false ∧ rd t (Reg.TPR_TL_STATUS_INSERV n) = 0 ∧
        rd t (Reg.TPR_TL_STATUS_STATE n) = 3 ∧ mapBit t Reg.FCL_DEGMAP_LO_MAP Reg.FCL_DEGMAP_HI_MAP n = false ∧
        mapBit t Reg.COR_GATE_FDARK_LO_MAP Reg.COR_GATE_FDARK_HI_MAP n = true ∧ (tprLane t n).sent = [] ∧
        (tprLane t n).sending = false ∧ (∀ m, m ≠ n → tprLane t m = tprLane s m ∧ (m < 64 → inService t m = inService s m)) ∧
        t = { s with regs := t.regs, tpr := t.tpr }) ∧
      (∀ cause, rd s Reg.TPR_CTRL_EN = 1 →
        (∀ x ∈ [(5, 1, Instr.bcastPlate false n cause), (6, 2, Instr.bcastCoast false n cause)],
          (inService s n = true → ∃ t, exec x.2.2 s = .next t ∧
            t.tx = s.tx ++ List.replicate 3 (.bcast n x.1 (oneArg cause)) ∧
            (∀ m, tprLane t m = if m = n then { tprLane s n with cmd := x.2.1 } else tprLane s m) ∧
            t = { s with tpr := t.tpr, tx := t.tx }) ∧
          (inService s n = false → exec x.2.2 s = .next s)) ∧
        (∀ x ∈ [(5, 1, Instr.bcastPlate true n cause), (6, 2, Instr.bcastCoast true n cause)],
          ∃ t, exec x.2.2 s = .next t ∧
            t.tx = s.tx ++ (List.replicate 3 ((serviceLanes s).map (fun k => Tx.bcast k x.1 (oneArg cause)))).flatten ∧
            (∀ m, tprLane t m = if m ∈ serviceLanes s then { tprLane s m with cmd := x.2.1 } else tprLane s m) ∧
            t = { s with tpr := t.tpr, tx := t.tx })) ∧
      (∀ cause, s.tpr.queue.length < 32 →
        (inService s n = true → ∃ t, exec (.bcastWipe false n cause) s = .next t ∧
          t.tpr.queue = s.tpr.queue ++ [⟨[n], ⟨2, s.tpr.nextTag, []⟩⟩] ∧ t.tpr.nextTag = (s.tpr.nextTag + 1) % 256 ∧
          rd t Reg.TPR_CMDQSTAT_LEVEL = s.tpr.queue.length + 1 ∧ t = { s with regs := t.regs, tpr := t.tpr } ∧
          RegsBut [Reg.TPR_CMDQSTAT_LEVEL] s t) ∧
        (serviceLanes s ≠ [] → ∃ t, exec (.bcastWipe true n cause) s = .next t ∧
          t.tpr.queue = s.tpr.queue ++ [⟨serviceLanes s, ⟨2, s.tpr.nextTag, []⟩⟩] ∧
          t = { s with regs := t.regs, tpr := t.tpr } ∧ RegsBut [Reg.TPR_CMDQSTAT_LEVEL] s t)) ∧
      (∀ id, ∃ t, exec (.snapReq id) s = .next t ∧ rd t Reg.TPR_SNAP_REQ = 1 ∧ rd t Reg.TPR_SNAP_ID = id % 256 ∧
        OnlyRegs [Reg.TPR_SNAP_REQ, Reg.TPR_SNAP_ID] s t) ∧
      (∀ opc len, role s = 0 →
        (let fs := [Reg.TPR_CMDQ_ALL, Reg.TPR_CMDQ_LANE, Reg.TPR_CMDQ_OPC, Reg.TPR_CMDQ_LEN]
         (260 < len ∨ 32 ≤ s.tpr.queue.length →
            ∃ t, exec (.cmdqPush false n opc len) s = .next t ∧ OnlyRegs fs s t) ∧
         (len ≤ 260 → s.tpr.queue.length < 32 →
            ∃ t, exec (.cmdqPush false n opc len) s = .next t ∧
              t.tpr.queue = s.tpr.queue ++ [⟨[n], ⟨opc, s.tpr.nextTag, ldBytes s 0x400B0400 len⟩⟩] ∧
              t.tpr.nextTag = (s.tpr.nextTag + 1) % 256 ∧ rd t Reg.TPR_CMDQSTAT_LEVEL = s.tpr.queue.length + 1 ∧
              (opc = 3 → (tprLane t n).resumeSeq = some (leAt (ldBytes s 0x400B0400 len) 0 4)) ∧
              (opc ≠ 3 → opc ≠ 8 → t.tpr.lanes = s.tpr.lanes) ∧ t = { s with regs := t.regs, tpr := t.tpr } ∧
              RegsBut (Reg.TPR_CMDQSTAT_LEVEL :: fs) s t))) ∧
      (∀ phase row, rd s Reg.TPR_CTRL_EN = 1 →
        (let fs := [Reg.TPR_DARKROW_LANE, Reg.TPR_DARKROW_PHASE, Reg.TPR_DARKROW_ROW, Reg.TPR_DARKROW_ACK, Reg.TPR_DARKROW_GO]
         let c : CmdSet := ⟨6, s.tpr.nextTag, leBytes 4 (nextSeq s) ++ leBytes 1 row ++ leBytes 1 phase ++ zeroBytes 2⟩
         (inService s n = true → ∃ t, exec (.darkrowGo n phase row) s = .next t ∧
            t.tx = s.tx ++ [.cmd n c.tag (setBody c)] ∧ t.tpr.nextTag = (s.tpr.nextTag + 1) % 256 ∧
            (∀ m, tprLane t m = if m = n then { tprLane s n with sent := (tprLane s n).sent ++ [⟨c, 1, false⟩] }
              else tprLane s m) ∧ rd t Reg.TPR_DARKROW_GO = 0 ∧ rd t Reg.TPR_DARKROW_ACK = 0 ∧
            (∀ q, s.fender.test = some q → q.lane = n →
              t.fender.test = some { q with row := row, phase := phase, seq := nextSeq s }) ∧
            t = { s with regs := t.regs, tpr := t.tpr, tx := t.tx, fender := t.fender } ∧ RegsBut fs s t) ∧
         (inService s n = false → ∃ t, exec (.darkrowGo n phase row) s = .next t ∧ rd t Reg.TPR_DARKROW_GO = 1 ∧
            rd t Reg.TPR_DARKROW_ACK = 0 ∧ OnlyRegs fs s t))))

/-! ### Telemetry, self-calibration, updates and wear (chapters 5, 7 and 8) -/

/-- A good FTEL of a lane in service fills the lane's registers, and a tile that reports LIVE is judged: another SEQ than the
count's is FROZEN, another signature than the one expected is a mismatch, the one expected is held. A read of CLASSQ takes its
head off. A calibration round runs over the channels, each step recording its result or keeping its channel with a fault, with a
pause between channels at damper step 1 or beyond (R226, R238, R242, R255, R259, R265, R266, R267, R478).
Model's choices in it: log entries 9 and 46. -/
def Obligations.TelemetryAndCalibration : Prop :=
  ∀ (s : State) (n tm : Nat), n < laneCount s → n < 64 →
    (∀ p drop, upOk 2 288 p = true → mainOn s.dev.state = true → inService s n = true → (tprLane s n).resumeSeq = none →
      (let b := p.payload
       let st := byteAt b 9 % 4
       let sq := leAt b 0 4
       let sig := leAt b 4 4
       ∃ t, exec (.ftel n tm p drop) s = .next t ∧ rd t (Reg.TPR_TL_SEQ_VALUE n) = sq ∧ rd t (Reg.TPR_TL_SIG_VALUE n) = sig ∧
         rd t (Reg.TPR_TL_ENV_TEMP n) = leAt b 0xC 2 ∧ rd t (Reg.TPR_TL_REF_REFA n) = leAt b 0xE 2 ∧
         rd t (Reg.TPR_TL_REF_REFB n) = leAt b 0x10 2 ∧ rd t (Reg.TPR_TL_STATUS_STATE n) = st ∧
         rd t (Reg.TPR_TL_STATUS_TELEM n) = 1 ∧ rd t (Reg.TPR_TL_STATUS_REFSEL n) = bits (byteAt b 9) 4 1 ∧
         rd t (Reg.TPR_TL_STATUS_PORT n) = b2n (bit (byteAt b 9) 2) ∧ (tprLane t n).got = true ∧ (tprLane t n).lost = 0 ∧
         (tprLane t n).lastSig = some sig ∧ t.now = max s.now tm ∧ t.dev = s.dev ∧ t.pilot = s.pilot ∧ t.tiles = s.tiles ∧
         t.ras = s.ras ∧ t.gte = s.gte ∧ t.zne = s.zne ∧
         (st ≠ tileState s n → (tprLane t n).changed = true) ∧
         (st = 0 → byteAt b 8 = 0 →
           (sq ≠ rd s Reg.RAS_FCNT_FCNT → (tprLane s n).afterSeam = false → ⟨0x0C6, 0x31, n, none⟩ ∈ t.inbox) ∧
           (sq = rd s Reg.RAS_FCNT_FCNT → (tprLane s n).lastSig ≠ some sig →
             (expSig s n sq ≠ some sig → ⟨0x0C7, 0x32, n, none⟩ ∈ t.inbox) ∧
             (expSig s n sq = some sig → (tprLane t n).held = some (sq, sig)))))) ∧
    (∀ p drop, upOk 2 288 p = false ∨ inService s n = false → exec (.ftel n tm p drop) s = .next (atTime tm s)) ∧
    (mainOn s.dev.state = true →
      ∃ t, exec .classqRead s = .next t ∧ t.swp = { s.swp with classq := s.swp.classq.drop 1 } ∧
        (let w := (s.swp.classq.drop 1).headD 0
         rd t Reg.SWP_CLASSQ_VALID = bits w 31 1 ∧ rd t Reg.SWP_CLASSQ_CLASS = bits w 28 3 ∧
           rd t Reg.SWP_CLASSQ_EMIT = bits w 26 2 ∧ rd t Reg.SWP_CLASSQ_LANE = bits w 20 6 ∧
           rd t Reg.SWP_CLASSQ_PIXEL = bits w 0 14) ∧
        t = { s with regs := t.regs, swp := t.swp } ∧
        RegsBut [Reg.SWP_CLASSQ_VALID, Reg.SWP_CLASSQ_CLASS, Reg.SWP_CLASSQ_EMIT, Reg.SWP_CLASSQ_LANE,
          Reg.SWP_CLASSQ_PIXEL] s t) ∧
    (mainOn s.dev.state = true → rd s Reg.SNS_CTRL_EN = 1 → rd s Reg.SNS_CTRL_CAL_EN = 1 → s.sns.round = none →
      ∃ t, exec .snsCalTimer s = .next t ∧ t.sns = { s.sns with round := some ⟨0, 0, false⟩ } ∧
        rd t Reg.SNS_STATUS_CALBUSY = 1 ∧ rd t Reg.SNS_STATUS_DUTY = 0 ∧ t = { s with regs := t.regs, sns := t.sns } ∧
        RegsBut [Reg.SNS_STATUS_CALBUSY, Reg.SNS_STATUS_DUTY] s t) ∧
    (s.sns.round ≠ none → exec .snsCalTimer s = .next s) ∧
    (∀ r, s.sns.round = some r → r.ch < 9 → r.paused = false →
      (let done := fun (elem : Nat) (corr : Word) (t : State) =>
         rd t (Reg.SNS_CH_CAL_ELEM r.ch) = elem % 4 ∧ rd t (Reg.SNS_CH_CAL_GAINCORR r.ch) = corr.toNat % 2 ^ 16 ∧
           rd t (Reg.SNS_CH_CALCNT_COUNT r.ch) = (rd s (Reg.SNS_CH_CALCNT_COUNT r.ch) + 1) % 2 ^ 32 ∧
           rd t Reg.SNS_CALTOTAL_COUNT = (rd s Reg.SNS_CALTOTAL_COUNT + 1) % 2 ^ 32 ∧
           rd t (Reg.SNS_CH_CALSEC_SEC r.ch) = rd s Reg.PWC_P_OPSEC_SEC % 2 ^ 32 ∧
           rd t Reg.SNS_CALLAST_SEC = rd s Reg.PWC_P_OPSEC_SEC % 2 ^ 32
       let step := [Reg.SNS_CH_CAL_ELEM r.ch, Reg.SNS_CH_CAL_GAINCORR r.ch, Reg.SNS_CH_CALCNT_COUNT r.ch,
         Reg.SNS_CALTOTAL_COUNT, Reg.SNS_CH_CALSEC_SEC r.ch, Reg.SNS_CALLAST_SEC]
       let go := [Reg.SNS_STATUS_CALBUSY, Reg.SNS_STATUS_DUTY]
       (∀ c, (calChannels s).find? (fun c => decide (r.ch < c)) = some c →
          (damper s = 0 → s.thm.paused = [] →
            (∀ elem corr, calHeld s = false →
              ∃ t, exec (.snsCalStepDone elem corr) s = .next t ∧ done elem corr t ∧
                t.sns = { s.sns with round := some { r with ch := c } } ∧
                rd t Reg.SNS_STATUS_DUTY = (if c = 8 then 15 else c) ∧ t = { s with regs := t.regs, sns := t.sns } ∧
                RegsBut (step ++ go) s t) ∧
            (∃ t, exec .snsCalStepTimeout s = .next t ∧
              t.sns = { s.sns with round := some { r with ch := c, kept := setBit r.kept r.ch } } ∧
              t = { s with regs := t.regs, sns := t.sns, inbox := s.inbox ++ [⟨0x142, 0x42, r.ch, none⟩] } ∧ RegsBut go s t)) ∧
          (∀ elem corr, calHeld s = false → 1 ≤ damper s →
            ∃ t, exec (.snsCalStepDone elem corr) s = .next t ∧ done elem corr t ∧
              t.sns = { s.sns with round := some { r with ch := c, paused := true } } ∧ 1 ∈ t.thm.paused ∧
              rd t Reg.SNS_STATUS_DUTY = 15 ∧ t = { s with regs := t.regs, sns := t.sns, thm := t.thm })) ∧
       ((calChannels s).find? (fun c => decide (r.ch < c)) = none → NoneRuns s →
          (∀ elem corr, calHeld s = false →
            ∃ t, exec (.snsCalStepDone elem corr) s = .next t ∧ done elem corr t ∧ t.sns = { s.sns with round := none } ∧
              rd t Reg.SNS_STATUS_CALBUSY = 0 ∧ rd t Reg.SNS_STATUS_DUTY = 15 ∧
              t = { s with regs := t.regs, sns := t.sns } ∧ RegsBut (step ++ go) s t) ∧
          (∃ t, exec .snsCalStepTimeout s = .next t ∧ t.sns = { s.sns with round := none } ∧
            rd t Reg.SNS_STATUS_CALBUSY = 0 ∧
            t = { s with regs := t.regs, sns := t.sns, inbox := s.inbox ++ [⟨0x142, 0x42, r.ch, none⟩] } ∧ RegsBut go s t)) ∧
       (∀ elem corr, calHeld s = true → exec (.snsCalStepDone elem corr) s = .next s))) ∧
    (∀ r e, s.sns.round = some r → r.paused = true → s.thm.paused = [1] →
      exec .snsCalStepTimeout s = .next s ∧ (∀ elem corr, exec (.snsCalStepDone elem corr) s = .next s) ∧
      ∃ t, exec (.dpauseExpiry e) s = .next t ∧ t.sns = { s.sns with round := some { r with paused := false } } ∧
        t.thm = { s.thm with paused := [] } ∧ rd t Reg.SNS_STATUS_CALBUSY = 1 ∧
        t = { atTime e.t s with regs := t.regs, sns := t.sns, thm := t.thm } ∧
        RegsBut [Reg.SNS_STATUS_CALBUSY, Reg.SNS_STATUS_DUTY] s t) ∧
    (∀ e, s.thm.paused = [] ∨ (s.thm.paused = [4] ∧ s.mrc.wait = []) →
      exec (.dpauseExpiry e) s = .next { atTime e.t s with thm := { s.thm with paused := [] } })

/-- An entry of the update queue waits for the next content, is dropped with a fault by a full queue, and while the raster is
stopped is written at once; an AT_EN whose content has passed is missed. A wear pass starts over every lane with the first one's
burst, where the hold-up covers it; none starts while one runs (R176, R177, R179, R180, R491).
Model's choices in it: log entries 9 and 46. -/
def Obligations.UpdatesAndWearPasses : Prop :=
  ∀ s : State,
    (∀ data, mainOn s.dev.state = true → pairOp s = false → rd s Reg.COR_UPD_IDX_IDX < pixelCount s →
      (let u : Upd := ⟨rdb s Reg.COR_UPD_IDX_REPAIR, rd s Reg.COR_UPD_IDX_IDX, data % 65536⟩
       (rasterOn s = true → s.cor.queue.length < 256 →
          ∃ t, exec (.updDataWrite data) s = .next t ∧ t.cor = { s.cor with queue := s.cor.queue ++ [u] } ∧
            rd t Reg.COR_UPDSTAT_LEVEL = s.cor.queue.length + 1 ∧ rd t Reg.COR_STATUS_UPD_PEND = 1 ∧
            t = { s with regs := t.regs, cor := t.cor } ∧
            RegsBut [Reg.COR_UPDSTAT_LEVEL, Reg.COR_STATUS_UPD_PEND] s t) ∧
       (rasterOn s = true → 256 ≤ s.cor.queue.length →
          ∃ t, exec (.updDataWrite data) s = .next t ∧ rd t Reg.COR_STATUS_UPD_OVF = 1 ∧
            t = { s with regs := t.regs, inbox := s.inbox ++ [⟨0x093, 0x1D, 0, none⟩] } ∧
            RegsBut [Reg.COR_STATUS_UPD_OVF] s t) ∧
       (rasterOn s = false → s.eccBad = [] → inService s (rd s Reg.COR_UPD_IDX_IDX / 16384) = false →
          rd s Reg.COR_UPD_IDX_REPAIR = 0 →
          ∃ t, exec (.updDataWrite data) s = .next t ∧ ld16 t (calAddr u.idx) = data % 65536 ∧ MemBut (calAddr u.idx) 2 s t ∧
            rd t Reg.COR_UPDSTAT_APPLIED = (rd s Reg.COR_UPDSTAT_APPLIED + 1) % 2 ^ 16 ∧
            t = { s with regs := t.regs, mem := t.mem } ∧
            RegsBut [Reg.COR_UPDSTAT_APPLIED, Reg.COR_FILLSTAT_DEAD] s t))) ∧
    (∀ data, mainOn s.dev.state = true → pairOp s = false → pixelCount s ≤ rd s Reg.COR_UPD_IDX_IDX →
      exec (.updDataWrite data) s = .next s) ∧
    (mainOn s.dev.state = true →
      (let late := 2 ^ 31 ≤ (rd s Reg.COR_UPD_AT_FCNT + 2 ^ 32 - (s.gte.seq + 1) % 2 ^ 32) % 2 ^ 32
       (rasterOn s = true → late → ∃ t, exec (.atEnWrite true) s = .next t ∧ rd t Reg.COR_UPD_CTRL_AT_EN = 1 ∧
          rd t Reg.COR_STATUS_UPD_MISS = 1 ∧ t.cor = { s.cor with missed := true } ∧
          t = { s with regs := t.regs, cor := t.cor } ∧
          RegsBut [Reg.COR_UPD_CTRL_AT_EN, Reg.COR_STATUS_UPD_MISS] s t) ∧
       (rasterOn s = false ∨ ¬late → ∃ t, exec (.atEnWrite true) s = .next t ∧ rd t Reg.COR_UPD_CTRL_AT_EN = 1 ∧
          OnlyRegs [Reg.COR_UPD_CTRL_AT_EN] s t) ∧
       (∃ t, exec (.atEnWrite false) s = .next t ∧ rd t Reg.COR_UPD_CTRL_AT_EN = 0 ∧ OnlyRegs [Reg.COR_UPD_CTRL_AT_EN] s t))) ∧
    (∀ e, mainOn s.dev.state = true → s.dev.state ≠ .boot → s.dev.state ≠ .halt →
      (rd s Reg.COR_CTRL_WEAR_EN = 1 → s.cor.pass = none → s.mrc.run = none →
        holdCovers (holdMeasure e (atTime e.t s)) 512 = true →
        ∃ t b, exec (.wearPassTimer e) s = .next t ∧ t.cor.pass = some ⟨(tileLanes s).drop 1, 0⟩ ∧ t.mrc.run = some b ∧
          b.why = .wear 0 ∧ b.lines = 512 ∧ rd t Reg.COR_STATUS_WEAR_BUSY = 1 ∧ rd t Reg.MRC_STATUS_BUSY = 1 ∧
          t.mrc.wait = s.mrc.wait ∧ t.now = max s.now e.t ∧ t.dev = s.dev ∧ t.pilot = s.pilot ∧ t.tiles = s.tiles) ∧
      (rd s Reg.COR_CTRL_WEAR_EN = 0 ∨ s.cor.pass ≠ none → exec (.wearPassTimer e) s = .next (atTime e.t s)))

/-! ### The fender (chapter 13) -/

/-- A copy of a protected zone whose tag verifies and that is fresh is accepted: a CLEAR, or one that the tap has reported,
applies at the next content start, another waits for the tap, and after ZACC_US applies without it. The verdict on a content
counts towards the pass run where nothing fails, and a lit pixel of a cell inside a zone is ZONE_GLARE. The heartbeat and EMBER;
the faults that its loss and a clock off by 2 % raise. The dark-path test takes the next LIVE lane and its brightest row; the
TGEN test takes the next powered group, and its readback is judged STUCK, OPEN or passed (R391, R392, R393, R396, R397, R398,
R401, R404, R426). Model's choices in it: log entries 9, 35 and 46. -/
def Obligations.FenderJudgesAndTests : Prop :=
  ∀ (s : State) (tm : Nat),
    (let a := atTime tm s
     (s.fender.ingress = [] → exec (.fenderIngress tm) s = .next a) ∧
     (∀ q rest, s.fender.ingress = q :: rest →
        (let u := { a with fender := { s.fender with ingress := rest } }
         let d := expandZone (q.body.drop 8)
         (fenderRuns s = false ∨ rasterOn s = false ∨ copyTagOk s q = false → exec (.fenderIngress tm) s = .next u) ∧
         (fenderRuns s = true → rasterOn s = true → copyTagOk s q = true → q.opc ≠ 0x0402 → q.zpub = false → dProt d = true →
            (copyFresh u d = false → exec (.fenderIngress tm) s = .next u) ∧
            (copyFresh u d = true → dClear d = true →
              exec (.fenderIngress tm) s = .next { u with fender := { u.fender with due := s.fender.due ++ [d] } }) ∧
            (copyFresh u d = true → dClear d = false →
              ((dZid d, dTobs d 4 (netNow u)) ∉ s.fender.taps → exec (.fenderIngress tm) s =
                .next { u with fender := { u.fender with waiting := s.fender.waiting ++ [(d, max s.now tm)] } }) ∧
              (s.fender.taps = [(dZid d, dTobs d 4 (netNow u))] → exec (.fenderIngress tm) s =
                .next { u with fender := { u.fender with due := s.fender.due ++ [d], taps := [] } }))))) ∧
     (∀ d x, s.fender.waiting = [(d, x)] →
        (x + usTicks (safetyAt s 0x24 2) ≤ max s.now tm → exec (.fenderZoneApply (dZid d) tm) s =
          .next { a with fender := { s.fender with waiting := [], due := s.fender.due ++ [d] } }) ∧
        (max s.now tm < x + usTicks (safetyAt s 0x24 2) → exec (.fenderZoneApply (dZid d) tm) s = .next a) ∧
        (∀ z, z ≠ dZid d → exec (.fenderZoneApply z tm) s = .next a)) ∧
     (fenderRuns s = true → rasterOn s = true → s.gte.active = true → s.cor.line = 128 → s.ras.withdrawn = false →
        rd s Reg.FST_SEQ_SEQ ≠ s.gte.seq →
        (∃ t, exec (.fenderVerdict tm) s = .next t ∧ rd t Reg.FST_SEQ_SEQ = s.gte.seq % 2 ^ 32 ∧
          t.fender.passRun = (if t.inbox = s.inbox then s.fender.passRun + 1 else 0) ∧
          t = { a with regs := t.regs, fender := t.fender, inbox := t.inbox } ∧
          RegsBut [Reg.FST_SEQ_SEQ, Reg.FST_CELL_WHAT, Reg.FST_CELL_TP, Reg.FST_CELL_CELL] s t ∧
          (s.fender.held = [] → safetyAt s 0x23 1 = 0 → s.fender.slip = false → t.inbox = s.inbox ∧
            RegsBut [Reg.FST_SEQ_SEQ] s t) ∧
          (∀ z d, s.fender.held = [(z, d)] →
            (∃ c ∈ cells s, cellJudged s d c.1 c.2 = true ∧ ∃ v ∈ cellCodes s c.1 c.2, safetyAt s 2 1 < v) →
            ⟨0x1A0, 0x50, z, none⟩ ∈ t.inbox ∧ t.fender.passRun = 0))) ∧
     (rasterOn s = false ∨ rd s Reg.FST_SEQ_SEQ = s.gte.seq → exec (.fenderVerdict tm) s = .next a) ∧
     (mainOn s.dev.state = true → ∃ t, exec (.fenderHeartbeat tm) s = .next t ∧
        rd t Reg.FST_DP_AGE = min 65535 ((max s.now tm - s.fender.passAt) / 250000) ∧
        t = { a with regs := t.regs, fender := { s.fender with signalAt := max s.now tm } } ∧ RegsBut [Reg.FST_DP_AGE] s t)) ∧
    (mainOn s.dev.state = true →
      exec .fenderLostTimer s = .next { s with inbox := s.inbox ++ [⟨0x041, 0x0C, 0, none⟩] } ∧
      exec (.fenderClkCheck true) s = .next { s with inbox := s.inbox ++ [⟨0x1A9, 0x0D, 0, none⟩] } ∧
      exec (.fenderClkCheck false) s = .next { s with inbox := s.inbox ++ [⟨0x042, 0x0D, 0, none⟩] }) ∧
    (∃ t, exec .emberEdge s = .next t ∧ t.fender = { s.fender with ember := s.fender.ember != emberHolds s } ∧
      rd t Reg.FST_EMBER = b2n (emberHolds s) ∧ rd t Reg.FCL_STATUS_EMBER = b2n (emberHolds s) ∧
      t = { s with regs := t.regs, fender := t.fender } ∧ RegsBut [Reg.FST_EMBER, Reg.FCL_STATUS_EMBER] s t) ∧
    (∀ n, fenderRuns s = true → rasterOn s = true →
      (s.fender.test = none → nextLive s s.fender.lastLane = some n →
        ∃ row, row < 128 ∧ exec .darkPathTimer s = .next { s with fender := { s.fender with
            lastLane := n, test := some ⟨n, row, 0, 0, 0, 0⟩ } } ∧
          ∀ l, l < 128 → (rowOf s.gte.sent n l).foldl (· + ·) 0 ≤ (rowOf s.gte.sent n row).foldl (· + ·) 0) ∧
      (s.fender.test ≠ none → exec .darkPathTimer s = .next s) ∧
      (129 ≤ lineNow s → lineNow s ≤ 134 → s.fender.pulse = none → nextGroup s = some n →
        exec .tgenTestTimer s = .next { s with
          fender := { s.fender with pulse := some n, lastGrp := n }, sns := { s.sns with skip := setBit s.sns.skip n } }) ∧
      (s.fender.pulse ≠ none → exec .tgenTestTimer s = .next s)) ∧
    (∀ g, g < 8 → s.fender.pulse = some g → s.waits = [] → NoneRuns s →
      (let u := { s with fender := { s.fender with pulse := none } }
       let judged := fun (pass : Bool) (m : List FMsg) (t : State) =>
         t = { u with regs := t.regs, inbox := s.inbox ++ m } ∧ bit (rd t Reg.FST_OUT_TGPASS) g = pass ∧
           (pass = false → bit (rd t Reg.FST_OUT_TGFAIL) g = true) ∧
           RegsBut (Reg.FST_OUT_TGPASS :: if pass then [] else [Reg.FST_OUT_TGFAIL]) s t
       (∀ hi, ∃ t, exec (.tgenPulseEnd false hi) s = .next t ∧ judged false [⟨0x1A6, 0x56, g, none⟩] t) ∧
       (tgenHigh u g = true → ∃ t, exec (.tgenPulseEnd true false) s = .next t ∧ judged false [⟨0x1A7, 0x57, g, none⟩] t) ∧
       (tgenHigh u g = false → ∃ t, exec (.tgenPulseEnd true false) s = .next t ∧ judged true [] t) ∧
       (∃ t, exec (.tgenPulseEnd true true) s = .next t ∧ judged true [] t))) ∧
    (s.fender.pulse = none → ∀ lo hi, exec (.tgenPulseEnd lo hi) s = .next s)

/-! ### Stoker cores and the interrupt controller (chapters 14 and 15) -/

/-- A core that runs takes the source ITC chooses: the fast class with the bank swapped and the PC saved in it, the normal class
through mepc, mcause and mstatus; MRET and FRET undo it; a choice that still stands is delivered and recorded. WFI sleeps and a
source wakes, from power gating at WAKEVEC with registers zero. SETP and CLRP change the pending bits of known sources, SRC their
class and target; a stranded source moves or wakes its target and is reported. Lockstep, watchdogs and the S1 image (R432,
R435, R436, R442, R443, R444, R445, R447, R448, R449, R450). Model's choices in it: log entries 5, 9 and 46. -/
def Obligations.CoresAndInterrupts : Prop :=
  ∀ (s : State) (n : Nat), n < 2 →
    (let c := coreOf s n
     let only := fun (fs : List Fld) (t : State) =>
       t = { s with regs := t.regs, core0 := t.core0, core1 := t.core1 } ∧ coreOf t (1 - n) = coreOf s (1 - n) ∧ RegsBut fs s t
     let pends := (List.range 8).map Reg.ITC_PEND_MAP
     let acts := [Reg.ITC_T_ACTIVE_NACT n, Reg.ITC_T_ACTIVE_FACT n]
     let srcs := [Reg.ITC_T_ACTIVE_NSRC n, Reg.ITC_T_ACTIVE_FSRC n]
     let normal := fun (src : Nat) (t : State) => let d := coreOf t n
       d.pc = rd s (Reg.ITC_T_VBASE_BASE n) * 4096 + 16 * src ∧ d.mepc = c.pc ∧ d.mcause = 0x80000000 + src ∧
         mie d = false ∧ bit d.mstatus 7 = mie c ∧ d.x = c.x ∧ d.bank = c.bank ∧ rd t (Reg.ITC_T_ACTIVE_NACT n) = 1 ∧
         rd t (Reg.ITC_T_ACTIVE_NSRC n) = src ∧ irqPending t src = false
     (sleepSt s n = 0 → mainOn s.dev.state = true →
        (∀ src, c.choice = none → irqBest s n = some src →
          (irqFast s src = false → ∃ t, exec (.irqAccept n) s = .next t ∧ normal src t ∧ only (pends ++ acts ++ srcs) t) ∧
          (irqFast s src = true → ∃ t, exec (.irqAccept n) s = .next t ∧ only (pends ++ acts ++ srcs) t ∧
            (let d := coreOf t n
             d.pc = rd s (Reg.ITC_T_VBASE_BASE n) * 4096 + 16 * src ∧ SMap.getD d.bank 0 0 = c.pc ∧
               (∀ k, 1 ≤ k → k ≤ 15 → SMap.getD d.x k 0 = SMap.getD c.bank k 0 ∧ SMap.getD d.bank k 0 = SMap.getD c.x k 0) ∧
               (∀ k, 16 ≤ k → SMap.getD d.x k 0 = SMap.getD c.x k 0) ∧ d.mepc = c.mepc ∧ d.mstatus = c.mstatus ∧
               rd t (Reg.ITC_T_ACTIVE_FACT n) = 1 ∧ rd t (Reg.ITC_T_ACTIVE_FSRC n) = src ∧ irqPending t src = false))) ∧
        (c.choice = none → irqBest s n = none → exec (.irqAccept n) s = .next s) ∧
        (∀ src, src < 256 → c.choice = some src → irqFast s src = false →
          ∃ t, exec (.irqAccept n) s = .next t ∧ normal src t ∧ (coreOf t n).choice = none ∧
            Counts Reg.ITC_LATE_DELIVER_COUNT s t ∧ rd t Reg.ITC_LATE_DELIVER_TGT = n ∧
            rd t Reg.ITC_LATE_DELIVER_SOURCE = src ∧
            only (pends ++ acts ++ srcs ++ [Reg.ITC_LATE_DELIVER_COUNT, Reg.ITC_LATE_DELIVER_TGT,
              Reg.ITC_LATE_DELIVER_SOURCE]) t) ∧
        (∃ t, exec (.wfi n) s = .next t ∧ coreOf t n = { c with pc := (c.pc + 4) % 2 ^ 32 } ∧
          sleepSt t n = (if rd s (Reg.ITC_T_SLEEP_MODE n) = 1 ∧ mayPowerGate s n = true then 2 else 1) ∧
          only [Reg.ITC_T_SLEEP_ST n] t)) ∧
     (rd s (Reg.ITC_T_ACTIVE_NACT n) ≠ 0 → rd s (Reg.ITC_T_ACTIVE_FACT n) = 0 →
        ∃ t, exec (.mret n) s = .next t ∧ (coreOf t n).pc = c.mepc ∧ mie (coreOf t n) = bit c.mstatus 7 ∧
          bit (coreOf t n).mstatus 7 = true ∧ (coreOf t n).x = c.x ∧ rd t (Reg.ITC_T_ACTIVE_NACT n) = 0 ∧
          only [Reg.ITC_T_ACTIVE_NACT n] t) ∧
     (rd s (Reg.ITC_T_ACTIVE_NACT n) = 0 → exec (.mret n) s = .next s) ∧
     (rd s (Reg.ITC_T_ACTIVE_FACT n) ≠ 0 →
        ∃ t, exec (.fret n) s = .next t ∧ (coreOf t n).pc = SMap.getD c.bank 0 0 ∧
          (∀ k, 1 ≤ k → k ≤ 15 → SMap.getD (coreOf t n).x k 0 = SMap.getD c.bank k 0) ∧
          rd t (Reg.ITC_T_ACTIVE_FACT n) = 0 ∧ only [Reg.ITC_T_ACTIVE_FACT n] t) ∧
     (rd s (Reg.ITC_T_ACTIVE_FACT n) = 0 → exec (.fret n) s = .next s) ∧
     (∀ src, src < 256 →
        (wakesFor s n src = true → sleepSt s n = 1 → ∃ t, exec (.coreWake n src) s = .next t ∧ sleepSt t n = 0 ∧
          OnlyRegs [Reg.ITC_T_SLEEP_ST n] s t) ∧
        (wakesFor s n src = true → sleepSt s n = 2 → ∃ t, exec (.coreWake n src) s = .next t ∧ sleepSt t n = 0 ∧
          coreOf t n = { Core.cold with pc := rd s (Reg.ITC_T_WAKEVEC_ADDR n) * 4, wdogAt := c.wdogAt, barred := c.barred } ∧
          rd t (Reg.ITC_T_ACTIVE_NACT n) = 0 ∧ rd t (Reg.ITC_T_ACTIVE_FACT n) = 0 ∧ only (Reg.ITC_T_SLEEP_ST n :: acts) t) ∧
        (wakesFor s n src = false → exec (.coreWake n src) s = .next s)) ∧
     (mainOn s.dev.state = true →
        (sleepSt s n ≠ 3 → exec (.lockstepMismatch n) s =
          .next { s with inbox := s.inbox ++ [⟨if n = 0 then 0x180 else 0x190, 0x4C, 0, none⟩] }) ∧
        (sleepSt s n = 3 → exec (.lockstepMismatch n) s = .next s) ∧
        (rd s (Reg.ITC_T_WDOG_EN n) ≠ 0 →
          exec (.watchdogExpiry n) s = .next { s with inbox := s.inbox ++ [⟨if n = 0 then 0x182 else 0x192, 0x4E, 0, none⟩] } ∧
          (∀ v tm, v % 256 = 0xA5 → ∃ t, exec (.wdkickWrite n v tm) s = .next t ∧
            coreOf t n = { c with wdogAt := some (max s.now tm) } ∧ coreOf t (1 - n) = coreOf s (1 - n) ∧
            t = { atTime tm s with core0 := t.core0, core1 := t.core1 }) ∧
          (∀ v tm, v % 256 ≠ 0xA5 → exec (.wdkickWrite n v tm) s = .next s) ∧
          (∀ v tm, exec (.wdogEnWrite n v tm) s = .next s)) ∧
        (rd s (Reg.ITC_T_WDOG_EN n) = 0 →
          exec (.watchdogExpiry n) s = .next s ∧
          (∀ (v : Word) tm, 1 ≤ v.toNat % 65536 → v.toNat % 65536 ≤ 10000 →
            ∃ t, exec (.wdogEnWrite n v tm) s = .next t ∧ rd t (Reg.ITC_T_WDOG_MS n) = v.toNat % 65536 ∧
              rd t (Reg.ITC_T_WDOG_EN n) = b2n (bit v.toNat 31) ∧
              coreOf t n = (if bit v.toNat 31 then { c with wdogAt := some (max s.now tm) } else c) ∧
              t = { atTime tm s with regs := t.regs, core0 := t.core0, core1 := t.core1 } ∧
              coreOf t (1 - n) = coreOf s (1 - n) ∧ RegsBut [Reg.ITC_T_WDOG_MS n, Reg.ITC_T_WDOG_EN n] s t)))) ∧
    (mainOn s.dev.state = true →
      (∀ (w : Nat) (v : Word), w < 8 →
        (∃ t, exec (.setpWrite .s0 w v) s = .next t ∧ OnlyRegs [Reg.ITC_PEND_MAP w] s t ∧
          ∀ src, src < 256 → irqPending t src =
            (irqPending s src || (decide (src / 32 = w) && bit v.toNat (src % 32) && irqKnown src))) ∧
        (∃ t, exec (.clrpWrite .s0 w v) s = .next t ∧ RegsBut [Reg.ITC_PEND_MAP w] s t ∧
          t = { s with regs := t.regs, core0 := t.core0, core1 := t.core1, freeCnt := t.freeCnt } ∧
          ∀ src, src < 256 → irqPending t src =
            (irqPending s src && !(decide (src / 32 = w) && bit v.toNat (src % 32) && irqKnown src))) ∧
        (s1Right s 2 ≠ 2 →
          exec (.setpWrite .s1 w v) s = .next { s with inbox := s.inbox ++ [⟨0x001, 0x02, 0x220 + 4 * w, none⟩] } ∧
          exec (.clrpWrite .s1 w v) s = .next { s with inbox := s.inbox ++ [⟨0x001, 0x02, 0x240 + 4 * w, none⟩] })) ∧
      (∀ (src : Nat) (v : Word), src < 256 → irqKnown src = true →
        (v.toNat % 2 = 1 → s1Source s src = false →
          ∃ t, exec (.srcTargetWrite .s0 src v) s = .next t ∧ irqTarget t src = irqTarget s src ∧
            rd t Reg.ITC_STATUS_TGTREJ = 1 ∧ OnlyRegs [Reg.ITC_SRC_CLASS src, Reg.ITC_STATUS_TGTREJ] s t) ∧
        (v.toNat % 2 = 0 ∨ s1Source s src = true →
          ∃ t, exec (.srcTargetWrite .s0 src v) s = .next t ∧ irqTarget t src = v.toNat % 2 ∧
            irqFast t src = bit v.toNat 1 ∧ t = { s with regs := t.regs, core0 := t.core0, core1 := t.core1 } ∧
            RegsBut [Reg.ITC_SRC_CLASS src, Reg.ITC_SRC_TARGET src] s t)) ∧
      (∀ src, src < 256 →
        (let told := fun (t : State) => t = { s with regs := t.regs, core0 := t.core0, core1 := t.core1,
                                                     inbox := s.inbox ++ [⟨0x030, 0x0A, src, none⟩] } ∧
           rd t Reg.ITC_STATUS_STRANDED = 1
         (stranded s src = true → irqTarget s src = 1 → ∃ t, exec (.strandedTimer src) s = .next t ∧ told t ∧
            irqTarget t src = 0 ∧ (sleepSt s 0 = 1 ∨ sleepSt s 0 = 2 → sleepSt t 0 = 0)) ∧
         (stranded s src = true → irqTarget s src = 0 → s1Source s src = true → sleepSt s 1 ≠ 3 →
            ∃ t, exec (.strandedTimer src) s = .next t ∧ told t ∧ irqTarget t src = 1) ∧
         (stranded s src = true → irqTarget s src = 0 → s1Source s src = false → sleepSt s 0 = 1 ∨ sleepSt s 0 = 2 →
            ∃ t, exec (.strandedTimer src) s = .next t ∧ told t ∧ irqTarget t src = 0 ∧ sleepSt t 0 = 0)) ∧
        (stranded s src = false → exec (.strandedTimer src) s = .next s)) ∧
      (∃ t, exec (.s1RunWrite .s0 false) s = .next t ∧ t.core1 = { Core.cold with barred := s.core1.barred } ∧
        rd t (Reg.ITC_T_CTRL_RUN 1) = 0 ∧ sleepSt t 1 = 3 ∧ rd t (Reg.ITC_T_WDOG_EN 1) = 0 ∧
        t = { s with regs := t.regs, core1 := t.core1 }) ∧
      (∀ who run, who ≠ .s0 → exec (.s1RunWrite who run) s = .next s) ∧
      (let hdr := ldBytes s 0x30C00000 16
       let len := leAt hdr 4 4
       let body := ldBytes s 0x30C00010 len
       rd s (Reg.ITC_T_CTRL_RUN 1) = 0 →
       (leAt hdr 0 4 ≠ 0x4D4B5331 ∨ s.core1.barred = true → exec (.s1RunWrite .s0 true) s = .next s) ∧
       (leAt hdr 0 4 = 0x4D4B5331 → s.core1.barred = false →
         (4 ≤ len → len ≤ 1048576 → 0x10100000 ≤ leAt hdr 8 4 → leAt hdr 8 4 ≤ 0x101FFFFF → crc32 body = leAt hdr 12 4 →
           Memory.wf s.mem = true →
           ∃ t, exec (.s1RunWrite .s0 true) s = .next t ∧ t.core1 = { Core.cold with pc := leAt hdr 8 4 } ∧
             rd t (Reg.ITC_T_CTRL_RUN 1) = 1 ∧ sleepSt t 1 = 0 ∧
             (∀ i, i < len → ldByte t (0x10100000 + i) = ldByte s (0x30C00010 + i)) ∧ MemBut 0x10100000 len s t ∧
             t = { s with regs := t.regs, mem := t.mem, core1 := t.core1 } ∧
             RegsBut [Reg.ITC_T_CTRL_RUN 1, Reg.ITC_T_SLEEP_ST 1] s t) ∧
         (crc32 body ≠ leAt hdr 12 4 → exec (.s1RunWrite .s0 true) s =
           .next { s with inbox := s.inbox ++ [⟨0x192, 0x4E, 0xFFFF, none⟩] }))))

/-! ### Writes to the stoker map, eMRAM bursts, the recorder, the ash dump and the check-value units (chapters 1 and 17) -/

/-- MRC measures, refuses, starts, defers, queues and ends a burst; the recorder writes its head entry under the hold-up
check; the dump routine writes what the hold-up covers and the device enters HALT; a check-value unit takes INIT, DATA and
scans. S0 and S1 write the stoker map as its owners and LOCK bits allow (R12, R17, R18, R486, R488, R489, R491, R493, R496,
R504, R506, R507). Model's choices in it: log entries 9 and 46. -/
def Obligations.BurstsRecordsAndWrites : Prop :=
  (∀ (s : State) (e : Env),
    (let told := fun (src kind detail : Nat) => s.inbox ++ [(⟨src, kind, detail, none⟩ : FMsg)]
     let covered := fun (n : Nat) => holdCovers (holdMeasure e s) n
     let held := [Reg.MRC_HOLDST_VMEAS, Reg.MRC_HOLDE_VALUE]
     let low := [Reg.MRC_STATUS_LAST, Reg.MRC_STATUS_DEFER, Reg.MRC_VERCNT_HIGH]
     let deferred := fun (t : State) => rd t Reg.MRC_STATUS_LAST = 1 ∧ rd t Reg.MRC_STATUS_DEFER = 1 ∧
       Counts Reg.MRC_VERCNT_HIGH s t
     (mainOn s.dev.state = true →
        (let n := rd s Reg.MRC_WLEN_LINES
         let b : Burst := ⟨s.mrc.next, 0, [(rd s Reg.MRC_WDST_ADDR, ldBytes s (rd s Reg.MRC_WSRC_ADDR) (64 * n))], n, .wgo⟩
         (rd s Reg.MRC_WGO_GO ≠ 0 → exec (.mrcWgoWrite e) s = .next s) ∧
         (rd s Reg.MRC_WGO_GO = 0 →
            (wgoResult s ≠ 0 → ∃ t, exec (.mrcWgoWrite e) s = .next t ∧ rd t Reg.MRC_STATUS_LAST = wgoResult s ∧
              OnlyRegs [Reg.MRC_STATUS_LAST] s t) ∧
            (wgoResult s = 0 → s.mrc.run = none → 4 ∉ s.thm.paused →
              (covered n = true → ∃ t, exec (.mrcWgoWrite e) s = .next t ∧
                t.mrc = { s.mrc with run := some b, next := s.mrc.next + 1 } ∧ rd t Reg.MRC_WGO_GO = 1 ∧
                rd t Reg.MRC_STATUS_BUSY = 1 ∧ t = { atTime e.t s with regs := t.regs, mrc := t.mrc } ∧
                RegsBut (Reg.MRC_WGO_GO :: Reg.MRC_STATUS_BUSY :: held) s t) ∧
              (covered n = false → ∃ t, exec (.mrcWgoWrite e) s = .next t ∧ deferred t ∧ rd t Reg.MRC_WGO_GO = 0 ∧
                t = { atTime e.t s with regs := t.regs, mrc := { s.mrc with next := s.mrc.next + 1 },
                                        inbox := told 0x112 0x3E 0 } ∧
                RegsBut (Reg.MRC_WGO_GO :: low ++ held) s t)) ∧
            (wgoResult s = 0 → (s.mrc.run ≠ none ∨ 4 ∈ s.thm.paused) → ∃ t, exec (.mrcWgoWrite e) s = .next t ∧
              t.mrc = { s.mrc with wait := s.mrc.wait ++ [b], next := s.mrc.next + 1 } ∧ rd t Reg.MRC_WGO_GO = 1 ∧
              t = { atTime e.t s with regs := t.regs, mrc := t.mrc } ∧ RegsBut [Reg.MRC_WGO_GO] s t)))) ∧
     (mainOn s.dev.state = false → exec (.mrcWgoWrite e) s = .next s) ∧
     (∀ (b : Burst) (off : Nat) (bytes : Bytes), s.mrc.run = some b → b.why = .wgo → b.parts = [(off, bytes)] →
        s.cor.pass = none → s.mrc.wait = [] → s.sec.wipes = [] → damper s = 0 →
        (let a := 0x30000000 + off
         let ended := fun (last : Nat) (t : State) => t.mrc = { s.mrc with run := none } ∧ rd t Reg.MRC_WGO_GO = 0 ∧
           rd t Reg.MRC_STATUS_BUSY = 0 ∧ rd t Reg.MRC_STATUS_LAST = last
         let bits := [Reg.MRC_WGO_GO, Reg.MRC_STATUS_BUSY, Reg.MRC_STATUS_LAST, Reg.MRC_LINES_VALUE]
         (∃ t, exec (.mrcBurstDone e none) s = .next t ∧ ended 0 t ∧
            (∀ i, i < bytes.length → ldByte t (a + i) = bytes.getD i 0) ∧ MemBut a bytes.length s t ∧
            rd t Reg.MRC_LINES_VALUE = (rd s Reg.MRC_LINES_VALUE + bytes.length / 64) % 2 ^ 32 ∧
            t = { atTime e.t s with regs := t.regs, mem := t.mem, mrc := t.mrc,
                                    eccBad := s.eccBad.filter (fun w => !(a ≤ w && w < a + bytes.length)) } ∧
            RegsBut bits s t) ∧
         (∀ i, i < bytes.length / 64 → ∃ t, exec (.mrcBurstDone e (some i)) s = .next t ∧ ended 2 t ∧
            (∀ k, k < 64 * i → ldByte t (a + k) = bytes.getD k 0) ∧ MemBut a (64 * i) s t ∧
            rd t Reg.MRC_VERCNT_LOW = min 0xFFFF (rd s Reg.MRC_VERCNT_LOW + 2) ∧
            t = { atTime e.t s with regs := t.regs, mem := t.mem, mrc := t.mrc, eccBad := t.eccBad,
                                    inbox := told 0x111 0x3D ((off + 64 * i) / 64 % 65536) } ∧
            RegsBut (Reg.MRC_VERCNT_LOW :: bits) s t))) ∧
     (s.mrc.run = none → s.sec.wipes = [] → ∀ f, exec (.mrcBurstDone e f) s = .next (atTime e.t s)) ∧
     (∀ fails : List Bool,
        (let free := rd s Reg.EVR_STATUS_RUN ≠ 0 ∧ s.mrc.run = none ∧ s.dump.fatal = none ∧ mainOn s.dev.state = true
         let lines := if rd s Reg.EVR_STATUS_FRONTFULL = 0 then 2 else 1
         (¬ free ∨ s.evr.queue = [] → exec (.evrWrite e fails) s = .next (atTime e.t s)) ∧
         (s.evr.holdUp = false → exec (.evrRetry e fails) s = .next s) ∧
         (s.evr.holdUp = true → exec (.evrRetry e fails) s = exec (.evrWrite e fails) s) ∧
         (free → s.evr.queue ≠ [] → covered lines = false → ∃ t, exec (.evrWrite e fails) s = .next t ∧ deferred t ∧
            t = { atTime e.t s with regs := t.regs, evr := { s.evr with holdUp := true },
                                    inbox := if s.evr.holdUp then s.inbox else told 0x112 0x3E 1 } ∧
            RegsBut (low ++ held) s t) ∧
         (∀ q rest, free → s.evr.queue = q :: rest → covered 1 = true → rd s Reg.EVR_STATUS_FRONTFULL ≠ 0 →
            fails.getD 0 false = false → s.evr.episode = 0 → rest.length < 64 → s.evr.seq < 2 ^ 32 →
            Memory.wf s.mem = true →
            (let slot := rd s Reg.EVR_WSLOT_SLOT
             let a := 0x30A88000 + 32 * slot
             slot < 8192 → eccBadIn s (if slot % 2 = 0 then a + 32 else a - 32) 32 = false →
             ∃ t, exec (.evrWrite e fails) s = .next t ∧
               (∀ i, i < 32 → ldByte t (a + i) =
                 (evRecord q s.evr.seq (if s.evr.loss then 0x20 else 0)).getD i 0) ∧ MemBut a 32 s t ∧
               t.evr = { s.evr with queue := rest, seq := (s.evr.seq + 1) % (2 ^ 32 - 1), loss := false, holdUp := false } ∧
               rd t Reg.EVR_NEWEST_SEQ = s.evr.seq ∧ rd t Reg.EVR_WSLOT_SLOT = goodSlot s (slot + 1) 8192 ∧
               rd t Reg.EVR_STATUS_QLEVEL = rest.length ∧ rd t Reg.MRC_STATUS_LAST = 0 ∧
               t = { atTime e.t s with regs := t.regs, mem := t.mem, eccBad := t.eccBad, evr := t.evr } ∧
               RegsBut ([Reg.EVR_NEWEST_SEQ, Reg.EVR_WSLOT_SLOT, Reg.EVR_STATUS_QLEVEL, Reg.MRC_STATUS_LAST,
                 Reg.MRC_LINES_VALUE] ++ held) s t)))) ∧
     (s.dump.fatal = none → exec (.ashDump e) s = .next s) ∧
     (∀ word statew cores, s.dump.fatal = some (word, statew, cores) →
        (s.mrc.run ≠ none ∨ mainOn s.dev.state = false → exec (.ashDump e) s = .next s) ∧
        (s.mrc.run = none → mainOn s.dev.state = true → s.mrc.wait = [] → NoneRuns s →
          (let u := holdMeasure e (atTime e.t s)
           let base := 0x30B00000
           let whole := padTo (0x100000 - 0x40) (dumpShort u cores ++ dumpRest u)
           let short := padTo (0x2000 - 0x40) (dumpShort u cores)
           let halted := fun (t : State) => t.dump.fatal = none ∧ t.dev.state = .halt ∧ t.dev.sPlate = false ∧ t.evr = s.evr
           let holds := fun (head body : Bytes) (t : State) =>
             (∀ i, i < 64 → ldByte t (base + i) = head.getD i 0) ∧
               (∀ i, i < body.length → ldByte t (base + 64 + i) = body.getD i 0) ∧ MemBut base (64 + body.length) s t
           (dumpHeld s = none → covered 16384 = true → ∃ t, exec (.ashDump e) s = .next t ∧ halted t ∧
              rd t Reg.MRC_STATUS_LAST = 0 ∧ holds (dumpHeader u 1 0 0x100000 word statew (crc32 whole)) whole t) ∧
           (dumpHeld s = none → covered 16384 = false → covered 128 = true → ∃ t, exec (.ashDump e) s = .next t ∧ halted t ∧
              rd t Reg.MRC_STATUS_LAST = 0 ∧ holds (dumpHeader u 2 0 0x2000 word statew (crc32 short)) short t) ∧
           (dumpHeld s = none → covered 128 = false → ∃ t, exec (.ashDump e) s = .next t ∧ halted t ∧ SameMem s t ∧
              deferred t ∧ t.pilot.shadowSeq = s.pilot.shadowSeq + 1) ∧
           (∀ h, dumpHeld s = some h → covered 1 = true → ∃ t, exec (.ashDump e) s = .next t ∧ halted t ∧
              (∀ i, i < 64 → ldByte t (base + i) = (withSkipped h (min 0xFFFF (leAt h 6 2 + 1))).getD i 0) ∧
              MemBut base 64 s t ∧ t.pilot.shadowSeq = s.pilot.shadowSeq + 1)))))) ∧
  (∀ (s : State) (n : Nat), n < 2 → mainOn s.dev.state = true →
    (let unit := fun (c : Cku) (t : State) => ckuOf t n = c ∧ ckuOf t (1 - n) = ckuOf s (1 - n)
     let a := rd s (Reg.CKU_ADDR_VALUE n)
     let len := rd s (Reg.CKU_LEN_VALUE n)
     let w := rd s (Reg.CKU_WIDTH_WIDTH n)
     let whole := fun (lo hi : Nat → Fld) => rd s (lo n) + rd s (hi n) * 2 ^ 32
     let fed := fun (run : Nat) (bs : Bytes) => bs.foldl (fun r b => ckuByte w (whole Reg.CKU_POLY_LO_VALUE
       Reg.CKU_POLY_HI_VALUE) (decide (rd s (Reg.CKU_CTRL_REFIN n) ≠ 0)) r b.toNat) (run % 2 ^ w)
     let shown := fun (run : Nat) (t : State) =>
       let r := (if rd s (Reg.CKU_CTRL_REFOUT n) ≠ 0 then reflect w (run % 2 ^ w) else run % 2 ^ w) ^^^
         (whole Reg.CKU_XOROUT_LO_VALUE Reg.CKU_XOROUT_HI_VALUE % 2 ^ w)
       rd t (Reg.CKU_RESULT_LO_VALUE n) = r % 2 ^ 32 ∧ rd t (Reg.CKU_RESULT_HI_VALUE n) = r / 2 ^ 32 % 2 ^ 32
     let result := [Reg.CKU_RESULT_LO_VALUE n, Reg.CKU_RESULT_HI_VALUE n]
     let only := fun (fs : List Fld) (t : State) =>
       t = { s with regs := t.regs, cku0 := t.cku0, cku1 := t.cku1 } ∧ RegsBut fs s t
     let failed := fun (c : Nat) (t : State) => rd t (Reg.CKU_STATUS_ERR n) = 1 ∧ rd t (Reg.CKU_STATUS_CAUSE n) = c ∧
       OnlyRegs [Reg.CKU_STATUS_ERR n, Reg.CKU_STATUS_CAUSE n] s t
     (rd s (Reg.CKU_STATUS_BUSY n) ≠ 0 → exec (.ckuGo .s0 n) s = .next s ∧ exec (.ckuInitWrite n) s = .next s ∧
        ∀ v, exec (.ckuDataWrite n v) s = .next s) ∧
     (rd s (Reg.CKU_STATUS_BUSY n) = 0 →
        (scanRange a len = false → ∃ t, exec (.ckuGo .s0 n) s = .next t ∧ failed 1 t) ∧
        (scanRange a len = true → ∃ t, exec (.ckuGo .s0 n) s = .next t ∧ unit { ckuOf s n with scan := some ⟨.s0, a, len⟩ } t ∧
          rd t (Reg.CKU_STATUS_BUSY n) = 1 ∧ only [Reg.CKU_STATUS_BUSY n] t) ∧
        (scanRange a len = true → n = 1 → s1Right s 0x12 = 2 → scanRight s .s1 a len = false →
          ∃ t, exec (.ckuGo .s1 n) s = .next t ∧ failed 3 t) ∧
        (∃ t, exec (.ckuInitWrite n) s = .next t ∧
          (let v := whole Reg.CKU_INIT_LO_VALUE Reg.CKU_INIT_HI_VALUE % 2 ^ w
           unit { ckuOf s n with run := v } t ∧ shown v t ∧ only result t)) ∧
        (∀ v : Word, ∃ t, exec (.ckuDataWrite n v) s = .next t ∧
          (let r := fed (ckuOf s n).run (leBytes (rd s (Reg.CKU_CTRL_BYTES n) + 1) v.toNat)
           unit { ckuOf s n with run := r } t ∧ shown r t ∧ only result t))) ∧
     (n = 0 ∨ s1Right s 0x12 ≠ 2 →
        exec (.ckuGo .s1 n) s = .next { s with inbox := s.inbox ++ [⟨0x001, 0x02, 0, none⟩] }) ∧
     ((ckuOf s n).scan = none → exec (.ckuScanDone n) s = .next s) ∧
     (∀ sc, (ckuOf s n).scan = some sc → s.thm.paused.contains (2 + n) = false → damper s = 0 → NoneRuns s →
        (firstBad s sc.addr sc.len = none → ∃ t, exec (.ckuScanDone n) s = .next t ∧
          (let r := fed (ckuOf s n).run (scanBytes s sc.addr sc.len)
           unit ⟨r, none⟩ t ∧ shown r t ∧ rd t (Reg.CKU_STATUS_BUSY n) = 0 ∧ only (Reg.CKU_STATUS_BUSY n :: result) t)) ∧
        (∀ x, firstBad s sc.addr sc.len = some x → x < 2 ^ 32 → ∃ t, exec (.ckuScanDone n) s = .next t ∧
          (let r := fed (ckuOf s n).run (scanBytes s sc.addr (x - sc.addr))
           unit ⟨r, none⟩ t ∧ shown r t ∧ rd t (Reg.CKU_STATUS_BUSY n) = 0 ∧ rd t (Reg.CKU_STATUS_ERR n) = 1 ∧
             rd t (Reg.CKU_STATUS_CAUSE n) = 2 ∧ rd t (Reg.CKU_ERRADDR_ADDR n) = x ∧
             t = { s with regs := t.regs, cku0 := t.cku0, cku1 := t.cku1,
                          inbox := s.inbox ++ [⟨0x120 + 0x10 * n, 0x3F, x / 8 % 65536, none⟩] } ∧
             RegsBut (Reg.CKU_STATUS_BUSY n :: Reg.CKU_STATUS_ERR n :: Reg.CKU_STATUS_CAUSE n :: Reg.CKU_ERRADDR_ADDR n ::
               result) s t))))) ∧
  (∀ (s : State) (k : Nat) (v : Word),
    (let a := 4 * k
     let told := fun (src kind : Nat) => Host.Outcome.next { s with inbox := s.inbox ++ [⟨src, kind, a % 65536, none⟩] }
     let stores := fun (who : Master) => ∃ t, exec (.registerWrite who a v) s = .next t ∧
       (∀ i, i < 4 → ldByte t (a + i) = (leBytes 4 v.toNat).getD i 0) ∧ MemBut a 4 s t ∧ t = { s with mem := t.mem }
     (∀ who, who = .fender ∨ who = .host ∨ mainOn s.dev.state = false → exec (.registerWrite who a v) s = .next s) ∧
     (mainOn s.dev.state = true →
        (∀ who, who = .s0 ∨ who = .s1 →
          (∀ i, i < 4 → exec (.registerWrite who (a + i) v) s = exec (.registerWrite who a v) s) ∧
          (0x10100000 ≤ a → a < 0x10200000 → stores who) ∧
          ((0x20000 ≤ a ∧ a < 0x10000000) ∨ (0x10200000 ≤ a ∧ a < 0x20000000) ∨ (0x22000000 ≤ a ∧ a < 0x40000000) ∨
              (0x40170000 ≤ a ∧ a < 0x50000000) ∨ 0x50010000 ≤ a →
            exec (.registerWrite who a v) s = told 0x000 0x01) ∧
          (0x21800000 ≤ a → a < 0x21C00000 → rasterOn s = true →
            exec (.registerWrite who a v) s = told 0x091 0x1B)) ∧
        (0x10000000 ≤ a → a < 0x10100000 → stores .s0) ∧
        (a < 0x20000 ∨ (0x50000000 ≤ a ∧ a < 0x50010000) → exec (.registerWrite .s0 a v) s = .next s) ∧
        (a < 0x20000 ∨ (0x10000000 ≤ a ∧ a < 0x10100000) ∨ (0x50000000 ≤ a ∧ a < 0x50010000) →
          exec (.registerWrite .s1 a v) s = told 0x001 0x02) ∧
        (0x20000000 ≤ a → a < 0x22000000 → ¬ (0x21800000 ≤ a ∧ a < 0x21C00000 ∧ rasterOn s = true) →
          (s1Store s a = false → exec (.registerWrite .s1 a v) s = told 0x001 0x02) ∧
          (eccBadAt s a = false → stores .s0) ∧
          (eccBadAt s a = true → ∃ t, exec (.registerWrite .s0 a v) s = .next t ∧ SameMem s t ∧
            t = { s with mem := t.mem, inbox := s.inbox ++ [⟨0x003, 0x04, a / 8 * 8 % 65536, none⟩] })) ∧
        (0x40000000 ≤ a → a < 0x40170000 → s1Right s (blockOf a) ≠ 2 → s1Fixed a = false →
          exec (.registerWrite .s1 a v) s = told 0x001 0x02) ∧
        (a = Reg.MRC_HOLDCFG_CUF.addr →
          (rd s Reg.MRC_CTRL_LOCK = 0 → ∃ t, exec (.registerWrite .s0 a v) s = .next t ∧
            rd t Reg.MRC_HOLDCFG_CUF = v.toNat % 65536 ∧ rd t Reg.MRC_HOLDCFG_VMIN = v.toNat / 65536 ∧
            OnlyRegs [Reg.MRC_HOLDCFG_CUF, Reg.MRC_HOLDCFG_VMIN] s t) ∧
          (rd s Reg.MRC_CTRL_LOCK ≠ 0 →
            (rd s Reg.MRC_HOLDCFG_CUF = v.toNat % 65536 → rd s Reg.MRC_HOLDCFG_VMIN = v.toNat / 65536 →
              exec (.registerWrite .s0 a v) s = .next s) ∧
            (rd s Reg.MRC_HOLDCFG_CUF ≠ v.toNat % 65536 ∨ rd s Reg.MRC_HOLDCFG_VMIN ≠ v.toNat / 65536 →
              exec (.registerWrite .s0 a v) s = told 0x11F 0x5B))) ∧
        (∀ f ∈ [Reg.PWC_CTRL_LOCK, Reg.ITC_CTRL_LOCK, Reg.HIF_LINKCTRL_LOCK, Reg.MRC_CTRL_LOCK], a = f.addr →
          exec (.lockSet .s0 a v) s = (if v.toNat % 2 = 1 then exec (.registerWrite .s0 a v) s else .next s) ∧
          (v.toNat % 2 = 1 → ∃ t, exec (.lockSet .s0 a v) s = .next t ∧ rd t f = 1 ∧ OnlyRegs [f] s t)) ∧
        (lockOf a = none → exec (.lockSet .s0 a v) s = .next s))))

/-! ### The partner link and pair operation (chapter 18) -/

/-- A partner frame acts as its first good copy; every other is discarded and counted, and only a standby acts on ADOPT, STAGE,
ZPUB, PITCH, UPDQ, GOV and TCMD. HELLO forms the pair and is followed; DIGEST is compared and its skew measured; DIGEST, ADOPT
and BARRIER of KIND 0 or 2 reach S0 on CH4; HANDOVER, TAKEN, the loss of the link and the withdraw time change the roles (R365,
R512, R513, R515, R516, R517, R518, R521, R522, R523, R529, R530). Model's choices in it: log entries 9, 33, 36 and 46. -/
def Obligations.PartnersExchangeAndChangeRoles : Prop :=
  ∀ (s : State) (lane tm : Nat) (f : PtnFrame),
    (let good := fun (type : Nat) => ptnHears s lane = true ∧ f.crcOk = true ∧ ptnTagOk s type f = true ∧
       ∀ c, s.ptn.rxCnt = some c → c < f.cnt
     let laneBit := if lane = 64 then Reg.PTN_STATUS_LANE64 else Reg.PTN_STATUS_LANE65
     let acc := fun (u : State) =>
       { u with ptn := { u.ptn with rxCnt := some f.cnt } } |> wr laneBit 1 |> wr Reg.PTN_STATUS_LINK 1
     let a := acc s
     let b := acc (atTime tm s)
     let pl := f.payload
     let wp := rd s (Reg.HIF_MB_CMDWP_WP 4)
     let level := diff16 wp (rd s (Reg.HIF_MB_CMDRP_COUNT 4))
     let handed := fun (opc : Nat) (params : Bytes) (x t : State) =>
       let slot := cmdSlotAddr 4 wp
       let desc := leBytes 2 opc ++ leBytes 2 f.cnt ++ [2, 0] ++ leBytes 2 params.length ++ padTo 44 params ++ zeroBytes 12
       (level < 64 → (∀ i, i < 64 → ldByte t (slot + i) = desc.getD i 0) ∧ MemBut slot 64 x t ∧
          rd t (Reg.HIF_MB_CMDWP_WP 4) = (wp + 1) % 65536 ∧ irqPending t 4 = true ∧
          t = { x with regs := t.regs, mem := t.mem, eccBad := t.eccBad } ∧
          RegsBut [Reg.HIF_MB_CMDWP_WP 4, Reg.HIF_MB_STAT_STALL 4, Reg.ITC_PEND_MAP 0] x t) ∧
       (64 ≤ level → Counts (Reg.HIF_MB_STAT_DBERR 4) x t ∧
          t = { x with regs := t.regs, inbox := x.inbox ++ [⟨0x0F3, 0x39, 4, none⟩] } ∧
          RegsBut [Reg.HIF_MB_STAT_DBERR 4] x t)
     let switches := if rd s Reg.TPR_CTRL_EN = 0 then []
       else (serviceLanes s).map (fun n => Tx.bcast n 7 (oneArg (ownPort s)))
     let takes := fun (x t : State) => role t = 1 ∧ Counts Reg.PTN_DIVCNT_HANDOVERS s t ∧
       t.tpr = (forEach (coasting s) (fun n => pushResume n (nextSeq s)) (wr Reg.PTN_STATUS_ROLE 1 x)).tpr
     (∀ i ∈ [(1, Instr.hello lane tm f, atTime tm s), (2, .digest lane tm f, atTime tm s), (3, .adopt lane f, s),
         (4, .barrier lane f, s), (5, .stage lane f, s), (6, .zpub lane tm f, atTime tm s),
         (7, .pitch lane tm f, atTime tm s), (8, .updq lane f, s), (9, .gov lane f, s), (10, .tcmd lane f, s),
         (11, .handover lane tm f, atTime tm s), (12, .taken lane tm f, atTime tm s)],
        (ptnHears s lane = false → exec i.2.1 s = .next i.2.2) ∧
        (ptnHears s lane = true → f.crcOk = false ∨ ptnTagOk s i.1 f = false → ∃ t, exec i.2.1 s = .next t ∧
          Counts Reg.PTN_AUTHERR_COUNT s t ∧ OnlyRegs [Reg.PTN_AUTHERR_COUNT] i.2.2 t) ∧
        (∀ c, ptnHears s lane = true → f.crcOk = true → ptnTagOk s i.1 f = true → s.ptn.rxCnt = some c → f.cnt ≤ c →
          ∃ t, exec i.2.1 s = .next t ∧ Counts Reg.PTN_AUTHERR_COUNT s t ∧ rd t laneBit = 1 ∧
            OnlyRegs [Reg.PTN_AUTHERR_COUNT, laneBit] i.2.2 t) ∧
        (i.1 ∈ [3, 5, 6, 7, 8, 9, 10] → good i.1 → role s ≠ 2 → exec i.2.1 s = .next (acc i.2.2))) ∧
     (∀ p, p = helloOf pl → good 1 →
        (let fresh := ∀ q, s.ptn.peer = some q → q.bindCrc ≠ p.bindCrc ∨ q.calCrc ≠ p.calCrc
         let same := p.bindCrc = bindCrcOf s ∧ p.calCrc = calCrcOf s
         let shows := [Reg.PTN_STATUS_PSTATE, Reg.PTN_STATUS_PSTEP, Reg.PTN_STATUS_HEALTHY]
         let heard := fun (t : State) => t.ptn.peer = some p ∧ rd t Reg.PTN_STATUS_PSTATE = p.stateW % 16 ∧
           rd t Reg.PTN_STATUS_PSTEP = p.step % 8
         (s.dev.state = .standby → role s = 0 → NoneRuns s → s.ptn.mute = false → p.domain = activeDom s →
            p.stateW % 16 = 3 → ∃ t, exec (.hello lane tm f) s = .next t ∧ heard t ∧
              role t = (if same then (if p.role = 1 then 2 else if s.pilot.pairId then 0 else 1)
                else if s.pilot.pairId then 0 else 1) ∧
              (same → p.role = 1 → rd t Reg.PTN_STATUS_READY = 0) ∧
              t.ptn = { b.ptn with peer := some p, joining := if same ∧ p.role = 1 then some 0 else s.ptn.joining } ∧
              ((same ∨ ¬ fresh) → t.inbox = s.inbox) ∧
              (¬ same → fresh → t.inbox = s.inbox ++ [⟨0x152, 0x46, 4, none⟩]) ∧
              t = { b with regs := t.regs, ptn := t.ptn, inbox := t.inbox } ∧
              RegsBut (Reg.PTN_STATUS_ROLE :: Reg.PTN_STATUS_READY :: shows) b t) ∧
         (role s = 1 → p.role = 2 → ∃ t, exec (.hello lane tm f) s = .next t ∧ heard t ∧
            rd t Reg.PTN_STATUS_HEALTHY = b2n (p.ready && decide (p.stateW % 16 ≠ 7 ∧ p.stateW % 16 ≠ 8 ∧
              p.stateW / 64 % 2 = 0 ∧ max 1 (rd s Reg.PTN_LIMIT_SKEWFR) ≤ s.ptn.skewOk ∧
              ∀ r ∈ s.ptn.xmisRun, r.2 < max 1 (rd s Reg.PTN_LIMIT_XMISLIM))) ∧
            t = { b with regs := t.regs, ptn := { b.ptn with peer := some p } } ∧ RegsBut shows b t) ∧
         (role s = 2 → p.role = 1 → s.ptn.mute = false → NoneRuns s → NothingWaits s → s.dev.entering = none →
            s.dev.raising = none → s.dev.sPlate = false → p.stateW / 64 % 2 = 0 → p.domain = activeDom s →
            (let d := p.stateW % 16
             (s.dev.state = .lit → d = 3 → ∃ t, exec (.hello lane tm f) s = .next t ∧ heard t ∧ t.dev.state = .standby ∧
                rasterOn t = false ∧ rd t Reg.PWC_TGEN_EN = 0 ∧ role t = 2) ∧
             (s.dev.state = .lit → d = 4 ∨ d = 5 → ∃ t, exec (.hello lane tm f) s = .next t ∧ heard t ∧ t.dev = s.dev ∧
                t = { b with regs := t.regs, ptn := { b.ptn with peer := some p } } ∧ RegsBut shows b t) ∧
             (s.dev.state = .prelit → s.dev.tests = false → d = 5 → ∃ t, exec (.hello lane tm f) s = .next t ∧ heard t ∧
                t.dev.state = .lit ∧ role t = 2) ∧
             (s.dev.state = .standby → d = 5 → rasterOn s = false → s.pilot.safeLow = false →
                effLevel s .prelit ≤ rd s Reg.PWC_STATUS_PL → ∃ t, exec (.hello lane tm f) s = .next t ∧ heard t ∧
                  t.dev.state = .prelit ∧ t.dev.tests = true ∧ rasterOn t = true ∧ role t = 2))) ∧
         (role s = 2 → p.role = 1 → s.ptn.mute = false → NoneRuns s → s.dev.state = .lit → p.stateW % 16 = 5 →
            p.domain % 2 ≠ activeDom s → p.domain < 2 → ∃ t, exec (.hello lane tm f) s = .next t ∧ heard t ∧
              activeDom t = p.domain ∧ t.dev = s.dev ∧ t.mem = s.mem ∧ t.tx = s.tx))) ∧
     (good 2 → ∃ x t, exec (.digest lane tm f) s = .next t ∧ handed 0x0E10 pl x t ∧
        (let k := skewNow b
         let measured := rasterOn s = true ∧ lineNow s ≤ 135
         (measured → rd x Reg.PTN_SKEW_SKEW = toField 32 k ∧ x.ptn.skewOk =
            if k.natAbs ≤ clampN 100 2000 (rd s Reg.PTN_LIMIT_SKEWMAX) then s.ptn.skewOk + 1 else 0) ∧
         (¬ measured → x.ptn.skewOk = s.ptn.skewOk ∧ rd x Reg.PTN_SKEW_SKEW = rd s Reg.PTN_SKEW_SKEW) ∧
         x.ptn.theirs = some pl ∧
         (∀ o, s.ptn.own = some o →
            (let m := digestDiff o pl
             x.ptn.own = none ∧ (m = 0 → x.inbox = s.inbox) ∧
               (m ≠ 0 → x.inbox = s.inbox ++ [⟨0x151, 0x45, m, none⟩] ∧ Counts Reg.PTN_DIGCNT_COUNT s x) ∧
               x.ptn.diverged = (if bit m 1 || bit m 2 then (leAt o 0 4 + 1) % 2 ^ 32 :: s.ptn.diverged.take 3
                 else s.ptn.diverged))) ∧
         (s.ptn.own = none → x.ptn.own = none ∧ x.ptn.diverged = s.ptn.diverged ∧ x.inbox = s.inbox) ∧
         x.ptn = { b.ptn with skewOk := x.ptn.skewOk, own := x.ptn.own, theirs := x.ptn.theirs, diverged := x.ptn.diverged } ∧
         x = { b with regs := x.regs, inbox := x.inbox, ptn := x.ptn } ∧
         RegsBut [Reg.PTN_SKEW_SKEW, Reg.PTN_DIGCNT_COUNT, Reg.PTN_STATUS_HEALTHY] b x)) ∧
     (role s = 2 →
        (good 3 → ∃ t, exec (.adopt lane f) s = .next t ∧ handed 0x0E11 pl { a with ptn := { a.ptn with adopt := some pl } } t) ∧
        (good 5 → ¬ (rasterOn s = true ∧ lineNow s = 127 ∧ s.ras.sampled = true) →
          exec (.stage lane f) s = .next { a with ptn := { a.ptn with stage := some pl } }) ∧
        (good 5 → rasterOn s = true → lineNow s = 127 → s.ras.sampled = true → setInRange s (stageSet s pl) = true →
          levelCovers s (setGet (stageSet s pl) Reg.RAS_SH_TIMING_MODE) = true →
          ∃ t, exec (.stage lane f) s = .next t ∧ t.ras.stag = some (stageSet s pl) ∧ rd t Reg.RAS_STATUS_PENDING = 1 ∧
            t.mem = s.mem ∧ t.dev = s.dev) ∧
        (good 6 →
          (let ver := leAt pl 0 4
           let line := byteAt pl 4
           let k := byteAt pl 6 % 16
           let total := byteAt pl 6 / 16
           let parts := s.ptn.parts.filter (fun q => sameZpub pl q && q.1 != k) ++ [(k, pl)]
           let ds := (List.range total).flatMap (fun i =>
             (parts.filter (fun q => q.1 == i)).flatMap (fun q => (zpubEntries q.2).map (fun e => e.take 48)))
           let copies := ((zpubEntries pl).filter (fun e => dProt (e.take 48) || fenderHolds s (dZid (e.take 48)) ||
             (match SMap.find s.zne.zones (dZid (e.take 48)) with | some z => z.prot | none => false))).map
               (fun e => (⟨0x0401, true, e.take 48, leAt e 48 8, leAt e 56 4⟩ : Ingress))
           let c := { b with fender := { s.fender with ingress := s.fender.ingress ++ copies } }
           let d := { c with ptn := { c.ptn with parts := [] } }
           let early := s.gte.active = true ∧ line < max s.gte.nextE s.gte.nextW
           (parts.length < total → exec (.zpub lane tm f) s = .next { c with ptn := { c.ptn with parts := parts } }) ∧
           (total ≤ parts.length → rasterOn s = false → exec (.zpub lane tm f) s = .next d) ∧
           (total ≤ parts.length → rasterOn s = true → ¬ early →
             exec (.zpub lane tm f) s = .next (publish ds line { d with zne := { d.zne with arrival := none } })) ∧
           (total ≤ parts.length → rasterOn s = true → early → lineNow s < 128 → ∃ t, exec (.zpub lane tm f) s = .next t ∧
             t.ptn = { d.ptn with late := s.ptn.late ++ [(ver, ds)], abort := true, txCnt := s.ptn.txCnt + 1 } ∧
             t.ras = { s.ras with withdrawn := true } ∧ Counts Reg.PTN_DIVCNT_DIVERGENT s t ∧
             t.tx = s.tx ++ [.ptn 4 s.ptn.txCnt ([1, 0, 4, 0xFF, 0, 0, 0, 0] ++ leBytes 4 (rd s Reg.RAS_FCNT_FCNT))] ∧
             t = { d with regs := t.regs, ptn := t.ptn, ras := t.ras, tx := t.tx,
                          inbox := s.inbox ++ [⟨0x151, 0x45, 0x10, none⟩] } ∧
             RegsBut [Reg.PTN_DIVCNT_DIVERGENT, Reg.GTE_ABORTCNT_COUNT] b t))) ∧
        (good 7 →
          (let tobs := dTobs pl 0 (netNow b)
           (rasterOn s = false → exec (.pitch lane tm f) s = .next b) ∧
           (rasterOn s = true → (∀ p, s.zne.pitch = some p → p.tobs < tobs) → exec (.pitch lane tm f) s =
             .next ({ b with zne := { b.zne with pitch := some ⟨tobs, s16At pl 8, s16At pl 0xA⟩, predOff := false,
                                                  pitchAt := b.now, lvlUp := false } }
               |> wr Reg.ZNE_STATUS_LVL_STALE 0 |> wri Reg.ZNE_PITCH_ANGLE (s16At pl 8)
               |> wri Reg.ZNE_PITCH_RATE (s16At pl 0xA))) ∧
           (∀ p, rasterOn s = true → s.zne.pitch = some p → tobs ≤ p.tobs →
             exec (.pitch lane tm f) s = .next (satInc Reg.ZNE_DROPCNT_LVLDROP 1 b)))) ∧
        (good 8 →
          (let es := updqEntries pl
           (rasterOn s = true → (∀ u ∈ es, u.idx < pixelCount s) → s.cor.queue.length + es.length ≤ 256 →
             ∃ t, exec (.updq lane f) s = .next t ∧ t.cor = { s.cor with queue := s.cor.queue ++ es } ∧
               rd t Reg.COR_UPD_AT_FCNT = leAt pl 0 4 % 2 ^ 32 ∧ rd t Reg.COR_UPD_CTRL_AT_EN = 1 ∧
               (es ≠ [] → rd t Reg.COR_STATUS_UPD_PEND = 1) ∧ t = { a with regs := t.regs, cor := t.cor } ∧
               RegsBut [Reg.COR_UPD_AT_FCNT, Reg.COR_UPD_CTRL_AT_EN, Reg.COR_UPDSTAT_LEVEL, Reg.COR_STATUS_UPD_PEND] a t) ∧
           (rasterOn s = false → exec (.updq lane f) s =
             .next (forEach es pushUpd (a |> wr Reg.COR_UPD_AT_FCNT (leAt pl 0 4) |> wr Reg.COR_UPD_CTRL_AT_EN 1))))) ∧
        (good 9 → exec (.gov lane f) s = .next { a with ptn := { a.ptn with gov := some pl } }) ∧
        (good 10 → exec (.tcmd lane f) s =
          .next { a with ptn := { a.ptn with tcmds := s.ptn.tcmds ++ [(byteAt pl 0, byteAt pl 1, pl.drop 2)] } })) ∧
     (good 4 →
        (let kind := byteAt pl 0
         let op := byteAt pl 2
         let params := leBytes 1 kind ++ leBytes 1 (byteAt pl 1) ++ zeroBytes 2 ++ leBytes 4 (leAt pl 8 4)
         let met := { a with ptn := { a.ptn with peerAt := s.ptn.peerAt ++ [(kind, byteAt pl 1, leAt pl 8 4)] } }
         (kind = 1 → op = 4 → exec (.barrier lane f) s = .next { a with ptn := { a.ptn with abort := true } }) ∧
         (kind = 1 → op ≠ 4 → role s = 3 ∨ s.ptn.mute = true → exec (.barrier lane f) s = .next a) ∧
         (kind = 1 → op = 1 ∨ op = 2 → role s ≠ 3 → s.ptn.mute = false → rd s Reg.TPR_CTRL_EN ≠ 0 →
           (let on := if byteAt pl 3 = 0xFF then serviceLanes s else (serviceLanes s).filter (· == byteAt pl 3)
            let sets := on.map (fun n => Tx.bcast n (4 + op) (oneArg (byteAt pl 4)))
            ∃ t, exec (.barrier lane f) s = .next t ∧ t.tx = s.tx ++ sets ++ sets ++ sets ∧
              (∀ n ∈ on, (tprLane t n).cmd = op) ∧ t = { a with tpr := t.tpr, tx := t.tx })) ∧
         (kind ≠ 1 → NoneRuns s → ∃ t, exec (.barrier lane f) s = .next t ∧ handed 0x0E12 params met t) ∧
         (∀ w, kind ≠ 1 → s.waits = [w] → w.kind = .barrier kind (byteAt pl 1) → NoneRuns { s with waits := [] } →
           exec (.barrier lane f) s =
             .next (toCh4 0x0E12 f.cnt params (complete w.cpl 0 (leAt pl 8 4) 0 { met with waits := [] }))))) ∧
     (good 11 →
        (let healthy := role s = 2 ∧ rd s Reg.PTN_STATUS_READY ≠ 0 ∧ s.dev.sPlate = false ∧ s.dev.state ≠ .fallback ∧
           s.dev.state ≠ .halt ∧ max 1 (rd s Reg.PTN_LIMIT_SKEWFR) ≤ s.ptn.skewOk
         (healthy → ∃ t, exec (.handover lane tm f) s = .next t ∧ takes b t ∧
            t.inbox = s.inbox ++ [⟨0x152, 0x46, 2, none⟩] ∧
            (coasting s = [] → t.tx = s.tx ++ switches ++ [.ptn 0x0C s.ptn.txCnt (zeroBytes 4)] ∧
              t.ptn = { b.ptn with joining := none, mute := false, muteNext := false, txCnt := s.ptn.txCnt + 1 } ∧
              t = { b with regs := t.regs, ptn := t.ptn, tx := t.tx, inbox := t.inbox } ∧
              RegsBut [Reg.PTN_STATUS_ROLE, Reg.PTN_DIVCNT_HANDOVERS] b t)) ∧
         (¬ healthy → exec (.handover lane tm f) s =
           .next { b with tx := s.tx ++ [.ptn 0x0C s.ptn.txCnt [1, 0, 0, 0]],
                          ptn := { b.ptn with txCnt := s.ptn.txCnt + 1 } }))) ∧
     (good 12 →
        (let done := { b with ptn := { b.ptn with asked := none } }
         (s.ptn.asked = none → exec (.taken lane tm f) s = .next b) ∧
         (∀ r, s.ptn.asked = some r →
            (byteAt pl 0 = 0 → role s = 1 → NoneRuns s → ∃ t, exec (.taken lane tm f) s = .next t ∧ role t = 2 ∧
              rd t Reg.PTN_STATUS_READY = 0 ∧ Counts Reg.PTN_DIVCNT_HANDOVERS s t ∧
              t = { done with regs := t.regs, ptn := { done.ptn with joining := some 0 } } ∧
              RegsBut [Reg.PTN_STATUS_ROLE, Reg.PTN_STATUS_READY, Reg.PTN_DIVCNT_HANDOVERS] b t) ∧
            (byteAt pl 0 = 0 → role s = 3 → exec (.taken lane tm f) s =
              .next { done with ptn := { done.ptn with muteNext := true } }) ∧
            (byteAt pl 0 = 0 → role s ≠ 1 → role s ≠ 3 → exec (.taken lane tm f) s = .next done) ∧
            (byteAt pl 0 ≠ 0 → role s ≠ 3 ∨ s.dev.sPlate = false → exec (.taken lane tm f) s = .next done)))) ∧
     (role s = 3 → s.ptn.asked = some 2 →
        (let done := { atTime tm s with ptn := { s.ptn with asked := none } }
         (s.dev.sPlate = false → exec (.withdrawTimeout tm) s = .next done) ∧
         (s.dev.sPlate = true → exec (.withdrawTimeout tm) s = .next (demandSets 1
           (rd s Reg.FCL_SAFEKIND_VALUE / 65536 % 128) (serviceLanes s) (wr Reg.PTN_STATUS_ROLE 1 done))))) ∧
     (role s ≠ 3 ∨ s.ptn.asked ≠ some 2 → exec (.withdrawTimeout tm) s = .next s) ∧
     (let up := pairOp s = true ∧ mainOn s.dev.state = true ∧ rd s Reg.PTN_STATUS_LINK ≠ 0
      let lost := [Reg.PTN_STATUS_LINK, Reg.PTN_STATUS_LANE64, Reg.PTN_STATUS_LANE65, Reg.PTN_STATUS_HEALTHY]
      let down := fun (t : State) => ∀ g ∈ lost, rd t g = 0
      let told : FMsg := ⟨0x150, 0x44, 0, none⟩
      let leads := role s = 2 ∧ rasterState s.dev.state = true
      (¬ up → exec (.partnerLinkLoss tm) s = .next s) ∧
      (up → ¬ leads → ∃ t, exec (.partnerLinkLoss tm) s = .next t ∧ down t ∧
        t = { atTime tm s with regs := t.regs, inbox := s.inbox ++ [told] } ∧ RegsBut lost s t) ∧
      (up → leads → tileEvidence s = false → ∃ t, exec (.partnerLinkLoss tm) s = .next t ∧ down t ∧
        rd t Reg.PTN_STATUS_READY = 0 ∧ t.ptn = { s.ptn with mute := true, joining := none } ∧
        t = { atTime tm s with regs := t.regs, inbox := s.inbox ++ [told], ptn := t.ptn } ∧
        RegsBut (Reg.PTN_STATUS_READY :: lost) s t) ∧
      (up → leads → tileEvidence s = true → ∃ t, exec (.partnerLinkLoss tm) s = .next t ∧ down t ∧ takes s t ∧
        t.inbox = s.inbox ++ [told, ⟨0x152, 0x46, 3, none⟩] ∧
        (coasting s = [] → t.tx = s.tx ++ switches ∧
          t = { atTime tm s with regs := t.regs, inbox := t.inbox, tx := t.tx,
                                 ptn := { s.ptn with joining := none, mute := false, muteNext := false } } ∧
          RegsBut (Reg.PTN_STATUS_ROLE :: Reg.PTN_DIVCNT_HANDOVERS :: lost) s t))) ∧
     (mainOn s.dev.state = true → pairOp s = true → rd s Reg.PTN_CTRL_EN ≠ 0 → linkOf s 64 = 2 ∨ linkOf s 65 = 2 →
        exec .helloTimer s = .next { s with tx := s.tx ++ [.ptn 1 s.ptn.txCnt (leBytes 4 (stateWord s) ++
          leBytes 1 (role s) ++ leBytes 1 (damper s) ++ leBytes 1 (activeDom s) ++ leBytes 1 (rd s Reg.PTN_STATUS_READY) ++
          leBytes 4 (bindCrcOf s) ++ leBytes 4 (calCrcOf s))], ptn := { s.ptn with txCnt := s.ptn.txCnt + 1 } }) ∧
     (mainOn s.dev.state = false → exec .helloTimer s = .next s))

/-! ### The tile: line packets, broadcast sets and phase boundaries (chapter 7) -/

/-- A tile takes its power-up values; a good line writes its row and every line draws LSTAT, with the other port's copy where the
selected one fails; a bad broadcast set, or one on the other port, is not acted on; FLIP swaps the buffers of a LIVE tile whose
back buffer qualifies and takes another to LIVE only by RESUME, SEAM takes TIMING, ABORT discards the back buffer, each with FTEL;
PLATE, COAST and WIPE apply at the next phase boundary in their order (R220, R221, R226, R229, R231, R233, R234, R235, R236, R237).
A COAST at the boundary stops the flip. Model's choices in it: log entries 5, 46 and 88. -/
def Obligations.TilesTakeLinesAndBroadcasts : Prop :=
  ∀ (s : State) (n : Nat),
    (let tl := tileOf s n
     let on := n < laneCount s ∧ tl.powered = true
     let only := fun (x : Tile) (tx : List Tx) (t : State) => tileOf t n = x ∧ (∀ m, m ≠ n → tileOf t m = tileOf s m) ∧
       t = { s with tiles := t.tiles, tx := s.tx ++ tx, freeCnt := t.freeCnt }
     let quiet := fun (x : Tile) (t : State) => only x [] t ∧ t.freeCnt = s.freeCnt
     (n < laneCount s → ∃ t, exec (.tilePowerUp n) s = .next t ∧
        quiet { tileInit with powered := true, supply := tgenHigh s (groupOf n) } t ∧
        (let x := tileOf t n
         x.state = .dark ∧ x.cause = 0 ∧ x.coastLim = 250 ∧ x.timing = 0x0501 ∧ x.role = 0 ∧ x.port = 0 ∧ x.ref = 0 ∧
           x.plateV = false ∧ x.plateCrc = 0 ∧ x.front = [] ∧ x.back = [] ∧ x.sel = [])) ∧
     (laneCount s ≤ n → exec (.tilePowerUp n) s = .next s) ∧
     (∀ (port : Nat) (b : BSet) (p : LinePkt) (meas : List Nat),
        (let sets := [(0x1C, Instr.flip n port b), (0xDC, .seam n port b), (0xFE, .abort n port b), (0x5C, .snap n port b),
           (0x7C, .plate n port b), (0x9C, .coast n port b), (0xF7, .switch n port b)]
         let f := leAt b.args 0 4
         let prev := (f + 2 ^ 32 - 1) % 2 ^ 32
         let rows := fun (q : Nat) => ∀ r, r < 128 → SMap.find tl.backSeq r = some q
         let full := fun (q : Nat) => (rows f ∧ q = f) ∨ (¬ rows f ∧ tl.lastEvt = 2 ∧ tl.lastSeq = prev ∧ rows prev ∧ q = prev)
         let ends := fun (kind : Nat) => { tl with
           sync := true, lastEvt := kind, lastSeq := f, phase := 0, crcA := [], crcB := [], other := none, autoPort := false, badSet := 0, lcrc := 0, xmisCnt := 0, results := [] }
         let lapsed := match tl.resume with | some g => if seqLe g f then none else some g | none => none
         let swapped := fun (q : Nat) => { ends 1 with front := tl.back, frontSeq := q, back := tl.front, backSeq := [], resume := lapsed }
         let ftel := fun (ev : Nat) (x : Tile) (t : State) => ∃ rest, rest.length = 276 ∧
           only x [.up n (leBytes 1 2 ++ (leBytes 4 x.frontSeq ++ leBytes 4 (displaySig x.frontSeq x.front) ++ leBytes 1 ev ++
             leBytes 1 (tstate { x with autoPort := tl.autoPort }) ++ leBytes 1 x.cause ++ leBytes 1 (min 255 tl.badSet) ++ rest))] t
         let plain := tl.refPend = none ∧ tl.probes = [] ∧ tl.darkRow = none ∧ tl.selPend = []
         let calm := plain ∧ tl.sets = ⟨false, false, false⟩ ∧ tl.plateCap = none
         (¬ on → (∀ i ∈ sets, exec i.2 s = .next s) ∧ exec (.tileLinePacket n port p) s = .next s ∧
            exec (.tilePhaseBoundary n meas) s = .next s) ∧
         (on →
            (port ≠ tl.port → (∀ i ∈ sets, i.1 ≠ 0xF7 ∨ tl.role ≠ 1 → exec i.2 s = .next s) ∧
              (tl.role ≠ 1 → exec (.tileLinePacket n port p) s = .next s)) ∧
            (port = tl.port → (∀ i ∈ sets, b.err = true ∨ b.chk ≠ setChk i.1 b.args → ∃ t, exec i.2 s = .next t ∧
              quiet { tl with badSet := min 255 (tl.badSet + 1) } t)) ∧
            (port = tl.port → b.err = false →
              (b.chk = setChk 0x7C b.args → ∃ t, exec (.plate n port b) s = .next t ∧
                quiet { tl with sync := true, sets := { tl.sets with plate := true } } t) ∧
              (b.chk = setChk 0x9C b.args → ∃ t, exec (.coast n port b) s = .next t ∧
                quiet { tl with sync := true, sets := { tl.sets with coast := true } } t) ∧
              (b.chk = setChk 0x5C b.args → ∃ t sens, exec (.snap n port b) s = .next t ∧ sens.length = 6 ∧
                only { tl with sync := true } [.up n (leBytes 1 4 ++ (leBytes 1 (byteAt b.args 0) ++ leBytes 1 (tstate tl) ++
                  leBytes 2 tl.phase ++ leBytes 4 tl.frontSeq ++ sens ++ leBytes 2 tl.lcrcAll))] t) ∧
              (b.chk = setChk 0xFE b.args → calm → ∃ t, exec (.abort n port b) s = .next t ∧
                ftel 1 { ends 3 with back := [], backSeq := [], resume := lapsed } t) ∧
              (b.chk = setChk 0xDC b.args → calm → ∃ t, exec (.seam n port b) s = .next t ∧
                ftel 2 { ends 2 with oldTiming := tl.timing, timing := leAt b.args 4 2, resume := lapsed } t) ∧
              (b.chk = setChk 0x1C b.args →
                (∀ q, calm → tl.state = .live → full q → ∃ t, exec (.flip n port b) s = .next t ∧ ftel 0 (swapped q) t) ∧
                (∀ q, plain → tl.sets = ⟨false, false, false⟩ → tl.plateCap = some f → tl.state = .live → full q →
                  ∃ t, exec (.flip n port b) s = .next t ∧ ftel 0 { swapped q with
                    plate := tl.back, plateSeq := q, plateV := true, plateCrc := displaySig q tl.back, plateCap := none } t) ∧
                (calm → tl.state = .live → (∀ q, ¬ full q) → ∃ t, exec (.flip n port b) s = .next t ∧
                  ftel 0 { ends 1 with state := .coast, cause := 1, resume := lapsed } t) ∧
                (plain → tl.sets = ⟨false, false, true⟩ → tl.plateCap = none → ∃ t, exec (.flip n port b) s = .next t ∧ ftel 0 { ends 1 with
                  state := if tl.state = .live then .coast else tl.state, sets := ⟨false, false, false⟩, resume := lapsed } t) ∧
                (calm → tl.state ≠ .live →
                  (tl.resume = none → ∃ t, exec (.flip n port b) s = .next t ∧ ftel 0 (ends 1) t) ∧
                  (∀ g, tl.resume = some g → g ≠ f → ∃ t, exec (.flip n port b) s = .next t ∧
                    ftel 0 { ends 1 with resume := lapsed } t) ∧
                  (∀ q, tl.resume = some f → tl.supply = true → full q → ∃ t, exec (.flip n port b) s = .next t ∧
                    ftel 0 { swapped q with state := .live, resume := none } t) ∧
                  (tl.resume = some f → (tl.supply = false ∨ ∀ q, ¬ full q) → ∃ t, exec (.flip n port b) s = .next t ∧
                    ftel 0 { ends 1 with resume := none } t)))) ∧
            (b.err = false → b.chk = setChk 0xF7 b.args → tl.role = 1 →
              (let named := byteAt b.args 0 % 2
               let heard := if port = tl.port then { tl with sync := true } else tl
               (named ≠ tl.port → ∃ t, exec (.switch n port b) s = .next t ∧
                 quiet { heard with port := 1 - tl.port % 2, badRun := 0, otherRun := 0, other := none } t) ∧
               (named = tl.port → ∃ t, exec (.switch n port b) s = .next t ∧ quiet heard t))) ∧
            (let away := portCrc tl (1 - port % 2) p.line
             let xm := tl.role == 1 && (match away with | some c => c != p.crc | none => false)
             let seen := { tl with
               xmisCnt := min 65535 (tl.xmisCnt + b2n xm), crcA := if tl.role = 1 ∧ port = 0 then SMap.put tl.crcA p.line p.crc else tl.crcA, crcB := if tl.role = 1 ∧ port ≠ 0 then SMap.put tl.crcB p.line p.crc else tl.crcB }
             let lstat := fun (ok other : Bool) (x : Tile) => Tx.up n (leBytes 1 1 ++ (leBytes 2 p.seq ++ leBytes 1 p.line ++
               leBytes 1 (b2n ok + 2 * b2n (decide (127 < p.line)) + 4 * b2n xm + 8 * b2n other) ++
               leBytes 1 (tcode tl.state + 4 * (tl.port % 2)) ++ leBytes 1 x.lcrcAll ++
               leBytes 2 (if tl.role = 1 then ((portCrc x (1 - tl.port % 2) p.line).getD 0) % 65536 else 0)))
             let row := fun (q : LinePkt) (x : Tile) => SMap.find x.backSeq q.line = some q.seq ∧
               (SMap.Sorted tl.back → (∀ i, i < 128 → SMap.getD x.back (q.line * 128 + i) 0 = leAt q.codes (2 * i) 2) ∧
                 ∀ k, (k < q.line * 128 ∨ q.line * 128 + 128 ≤ k) → SMap.getD x.back k 0 = SMap.getD tl.back k 0)
             let failed := { seen with
               sync := true, lcrc := min 65535 (tl.lcrc + 1), lcrcAll := (tl.lcrcAll + 1) % 65536, badRun := if tl.otherRun < tl.badRun then 1 else tl.badRun + 1, otherRun := if tl.otherRun < tl.badRun then 0 else tl.otherRun }
             (port = tl.port → lineGood p = true → ∃ t, exec (.tileLinePacket n port p) s = .next t ∧
                (let x := tileOf t n
                 row p x ∧ x = { seen with sync := true, badRun := 0, otherRun := 0, other := none, back := x.back, backSeq := x.backSeq } ∧
                   only x [lstat true false x] t)) ∧
             (port = tl.port → lineGood p = false →
                (∀ q, tl.other = some q → q.line = p.line → ∃ t, exec (.tileLinePacket n port p) s = .next t ∧
                  (let x := tileOf t n
                   row q x ∧ x = { failed with otherRun := failed.otherRun + 1, other := none, back := x.back, backSeq := x.backSeq } ∧
                     only x [lstat false true x] t)) ∧
                ((∀ q, tl.other = some q → q.line ≠ p.line) → ∃ t, exec (.tileLinePacket n port p) s = .next t ∧
                  only failed [lstat false false failed] t)) ∧
             (port ≠ tl.port → tl.role = 1 →
                (let late := 0 < tl.badRun ∧ away ≠ none ∧ SMap.find tl.backSeq p.line ≠ some p.seq
                 (lineGood p = true → late → ∃ t, exec (.tileLinePacket n port p) s = .next t ∧
                   (let x := tileOf t n
                    row p x ∧ x = { seen with otherRun := tl.otherRun + 1, back := x.back, backSeq := x.backSeq } ∧ only x [lstat true true x] t)) ∧
                 (lineGood p = true → ¬ late → ∃ t, exec (.tileLinePacket n port p) s = .next t ∧
                   only { seen with other := some p } [lstat true false seen] t) ∧
                 (lineGood p = false → ∃ t, exec (.tileLinePacket n port p) s = .next t ∧
                   only seen [lstat false false seen] t)))) ∧
            (let next := fun (x : Tile) => { x with phase := (tl.phase + 1) % tilePhases tl }
             let still := tl.probes = [] ∧ tl.darkRow = none ∧ tl.refPend = none
             let off : TileSets := ⟨false, false, false⟩
             let good := displaySig tl.plateSeq tl.plate = tl.plateCrc
             let step := fun (x : Tile) => ∃ t, exec (.tilePhaseBoundary n meas) s = .next t ∧ quiet (next x) t
             (still → tl.sets = off → step tl) ∧
             (∀ r, tl.probes = [] → tl.darkRow = none → tl.refPend = some r → tl.sets = off →
               step { tl with ref := r, refPend := none }) ∧
             (still → tl.sets.wipe = true → ∃ t x, exec (.tilePhaseBoundary n meas) s = .next t ∧ quiet (next x) t ∧
               x = { tl with
                 state := .dark, sets := off, plateV := false, plateCrc := 0, front := [], back := [], backSeq := [], plate := [], plateSeq := 0, plateCap := none, sel := [], selPend := [] }) ∧
             (still → tl.sets.wipe = false → tl.sets.plate = true →
               (tl.state = .plate → step { tl with sets := off }) ∧
               (tl.state = .dark → tl.plateV = false ∨ tl.supply = false → step { tl with sets := off }) ∧
               (tl.state ≠ .plate → tl.state = .dark → tl.plateV = true → tl.supply = true → good →
                 step { tl with sets := off, state := .plate }) ∧
               (tl.state = .live ∨ tl.state = .coast →
                 (tl.plateV = false → step { tl with sets := off, state := .dark, cause := 5 }) ∧
                 (tl.plateV = true → good → step { tl with sets := off, state := .plate }) ∧
                 (tl.plateV = true → ¬ good → step { tl with
                   sets := off, state := .dark, cause := 5, plateV := false, plateCrc := 0 }))) ∧
             (still → tl.sets = ⟨false, false, true⟩ →
               (tl.state = .live → step { tl with sets := off, state := .coast }) ∧
               (tl.state ≠ .live → step { tl with sets := off })) ∧
             (∀ q, tl.probes = [q] → tl.refPend = none → tl.darkRow = none → tl.sets = off → tl.lastEvt ≠ 0 →
               (q.seq = tl.lastSeq ∧ q.phase = tl.phase → step { tl with
                 probes := [], results := tl.results ++ [⟨q.pixel, q.mode, meas.getD 0 0xFFFF % 65536⟩] }) ∧
               (¬ (q.seq = tl.lastSeq ∧ q.phase = tl.phase) → step tl)) ∧
             (∀ r ph q, tl.darkRow = some (r, ph, q) → tl.probes = [] → tl.refPend = none → tl.sets = off →
               q = tl.lastSeq → ph = tl.phase → step { tl with darkRow := none, darkAck := r + 256 * ph }))))))

/-! ### The tile: command sets and the states that it enters of its own accord (chapter 7) -/

/-- A tile discards and counts a bad command set and draws no acknowledgement; it acknowledges every accepted one with OK,
BADPARAM, STATE, LATE or FULL and takes what the set says. A coast timer that expires, missing broadcasts, a lost sync, a lost
supply and a plate that fails its check lead it down with their causes; a dual-ported tile switches to the living port; without
sync FTEL leaves with EVENT 3 (R224, R225, R226, R230, R232, R233, R234, R236, R237).
Model's choices in it: log entries 5 and 46. -/
def Obligations.TilesTakeCommandsAndFallBack : Prop :=
  ∀ (s : State) (n : Nat),
    (let tl := tileOf s n
     let on := n < laneCount s ∧ tl.powered = true
     let only := fun (x : Tile) (tx : List Tx) (t : State) => tileOf t n = x ∧ (∀ m, m ≠ n → tileOf t m = tileOf s m) ∧
       t = { s with tiles := t.tiles, tx := s.tx ++ tx }
     let becomes := fun (i : Instr) (x : Tile) => ∃ t, exec i s = .next t ∧ only x [] t
     let events := [Instr.tileCoastExpiry n, .tileNobcastTimeout n, .tileSyncLoss n, .tileSupplyLoss n, .tilePlateCheck n,
       .tileFreeFtel n, .tilePortAutoSwitch n]
     (∀ (port : Nat) (c : CSet),
        (let sets := [(1, Instr.cfg n port c), (2, .wipe n port c), (3, .resume n port c), (4, .selwr n port c),
           (5, .probes n port c), (6, .darkrow n port c), (7, .refsel n port c), (8, .platecap n port c)]
         let u := { tl with sync := true }
         let acked := fun (opc res : Nat) (i : Instr) (x : Tile) => c.crc = csetCrc opc c → ∃ t, exec i s = .next t ∧
           only x [.up n (leBytes 1 3 ++ (leBytes 1 opc ++ leBytes 1 c.tag ++ leBytes 1 res ++ zeroBytes 1))] t
         let pl := c.payload
         let len := pl.length
         let sq := leAt pl 0 4
         let begun := tl.lastEvt ≠ 0 ∧ seqLe sq tl.lastSeq = true
         (¬ on ∨ port ≠ tl.port → ∀ i ∈ sets, exec i.2 s = .next s) ∧
         (on → port = tl.port → ∀ i ∈ sets, c.err = true ∨ c.crc ≠ csetCrc i.1 c →
            becomes i.2 { tl with badSet := min 255 (tl.badSet + 1) }) ∧
         (on → port = tl.port → c.err = false →
            (let lim := leAt pl 0 2
             let tim := leAt pl 2 2
             let fits := len = 8 ∧ 10 ≤ lim ∧ lim ≤ 1000 ∧ timingOk tim = true ∧ byteAt pl 4 ≤ 1
             (¬ fits → acked 1 2 (.cfg n port c) u) ∧
             (fits → tl.state = .live → tim ≠ tl.timing → acked 1 3 (.cfg n port c) u) ∧
             (fits → tl.state ≠ .live ∨ tim = tl.timing → acked 1 0 (.cfg n port c)
               { u with coastLim := lim, timing := tim, oldTiming := tim, role := byteAt pl 4 })) ∧
            (len ≠ 0 → acked 2 2 (.wipe n port c) u) ∧
            (len = 0 → acked 2 0 (.wipe n port c) { u with sets := { tl.sets with wipe := true } }) ∧
            (len ≠ 4 → acked 3 2 (.resume n port c) u ∧ acked 7 2 (.refsel n port c) u ∧ acked 8 2 (.platecap n port c) u) ∧
            (len = 4 → acked 3 0 (.resume n port c) { u with resume := some sq } ∧
              (byteAt pl 0 ≤ 1 → acked 7 0 (.refsel n port c) { u with refPend := some (byteAt pl 0) }) ∧
              (1 < byteAt pl 0 → acked 7 2 (.refsel n port c) u) ∧
              (tl.state = .live → acked 8 0 (.platecap n port c) { u with plateCap := some sq }) ∧
              (tl.state ≠ .live → acked 8 3 (.platecap n port c) u)) ∧
            (let line := byteAt pl 4
             let first := byteAt pl 5
             let cnt := byteAt pl 6
             let fits := cnt ≠ 0 ∧ cnt ≤ 128 ∧ line ≤ 127 ∧ first + cnt ≤ 128 ∧ len = 8 + (cnt + 3) / 4
             let sel := fun (i : Nat) => byteAt pl (8 + i / 4) / 4 ^ (i % 4) % 4
             (¬ fits → acked 4 2 (.selwr n port c) u) ∧
             (fits → sq = 0 → c.crc = csetCrc 4 c → ∃ t, exec (.selwr n port c) s = .next t ∧
               (let x := tileOf t n
                only { u with sel := x.sel } [.up n (leBytes 1 3 ++ (leBytes 1 4 ++ leBytes 1 c.tag ++ leBytes 1 0 ++ zeroBytes 1))] t ∧
                  (∀ i, i < cnt → SMap.find x.sel (line * 128 + first + i) = some (sel i)) ∧
                  (∀ k, (k < line * 128 + first ∨ line * 128 + first + cnt ≤ k) → SMap.find x.sel k = SMap.find tl.sel k))) ∧
             (fits → sq ≠ 0 → 16 ≤ tl.selPend.length → acked 4 5 (.selwr n port c) u) ∧
             (fits → sq ≠ 0 → tl.selPend.length < 16 → acked 4 0 (.selwr n port c)
               { u with selPend := tl.selPend ++ [⟨sq, line, first, (List.range cnt).map sel⟩] })) ∧
            (let k := (len - 4) / 4
             let fits := 4 ≤ len ∧ len % 4 = 0 ∧ k ≤ 64
             let held := (tl.probes.filter (fun p => p.seq == sq)).length
             (¬ fits → acked 5 2 (.probes n port c) u) ∧
             (fits → begun → acked 5 4 (.probes n port c) u) ∧
             (fits → ¬ begun → 64 < held + k → acked 5 5 (.probes n port c) u) ∧
             (fits → ¬ begun → held + k ≤ 64 → acked 5 0 (.probes n port c)
               { u with probes := tl.probes ++ (List.range k).map (fun i =>
                   let w := leAt pl (4 + 4 * i) 4
                   (⟨sq, w % 16384, w / 16384 % 4, w / 65536 % 256⟩ : Probe)) })) ∧
            (len ≠ 8 ∨ 127 < byteAt pl 4 → acked 6 2 (.darkrow n port c) u) ∧
            (len = 8 → byteAt pl 4 ≤ 127 →
              (begun → acked 6 4 (.darkrow n port c) u) ∧
              (¬ begun → acked 6 0 (.darkrow n port c) { u with darkRow := some (byteAt pl 4, byteAt pl 5, sq) }))))) ∧
     (¬ on → ∀ i ∈ events, exec i s = .next s) ∧
     (on →
        (let good := displaySig tl.plateSeq tl.plate = tl.plateCrc
         let bad := { tl with plateV := false, plateCrc := 0 }
         let other := tl.role = 1 ∧ (if tl.port = 0 then tl.crcB else tl.crcA) ≠ []
         let switched := { tl with port := 1 - tl.port % 2, autoPort := true, badRun := 0, otherRun := 0, other := none }
         (tl.state = .coast →
            (tl.plateV = false → becomes (.tileCoastExpiry n) { tl with state := .dark, cause := 4 }) ∧
            (tl.plateV = true → good → becomes (.tileCoastExpiry n) { tl with state := .plate, cause := 4 }) ∧
            (tl.plateV = true → ¬ good → becomes (.tileCoastExpiry n) { bad with state := .dark, cause := 5 })) ∧
         (tl.state ≠ .coast → becomes (.tileCoastExpiry n) tl) ∧
         (tl.state = .live → becomes (.tileNobcastTimeout n) { tl with state := .coast, cause := 3 }) ∧
         (tl.state ≠ .live → becomes (.tileNobcastTimeout n) tl) ∧
         (other → becomes (.tileSyncLoss n) switched) ∧
         (¬ other → tl.state = .live → becomes (.tileSyncLoss n) { tl with sync := false, state := .coast, cause := 2 }) ∧
         (¬ other → tl.state ≠ .live → becomes (.tileSyncLoss n) { tl with sync := false }) ∧
         (tl.state ≠ .dark → becomes (.tileSupplyLoss n) { tl with supply := false, state := .dark, cause := 6 }) ∧
         (tl.state = .dark → becomes (.tileSupplyLoss n) { tl with supply := false }) ∧
         (tl.plateV = false ∨ good → becomes (.tilePlateCheck n) tl) ∧
         (tl.plateV = true → ¬ good →
            (tl.state = .plate → becomes (.tilePlateCheck n) { bad with state := .dark, cause := 5 }) ∧
            (tl.state ≠ .plate → becomes (.tilePlateCheck n) bad)) ∧
         (other → tl.sync = false ∨ 2 ≤ tl.otherRun → becomes (.tilePortAutoSwitch n) switched) ∧
         (¬ other ∨ (tl.sync = true ∧ tl.otherRun < 2) → becomes (.tilePortAutoSwitch n) tl) ∧
         (tl.sync = true → exec (.tileFreeFtel n) s = .next s) ∧
         (tl.sync = false → ∃ t rest, exec (.tileFreeFtel n) s = .next t ∧ rest.length = 276 ∧
            tileOf t n = { tl with autoPort := false, badSet := 0, lcrc := 0, xmisCnt := 0 } ∧
            (∀ m, m ≠ n → tileOf t m = tileOf s m) ∧
            t = { s with tiles := t.tiles, freeCnt := t.freeCnt, tx := s.tx ++ [.up n (leBytes 1 2 ++
              (leBytes 4 tl.frontSeq ++ leBytes 4 (displaySig tl.frontSeq tl.front) ++ leBytes 1 3 ++
              leBytes 1 (tstate tl) ++ leBytes 1 tl.cause ++ leBytes 1 (min 255 tl.badSet) ++ rest))] }))))
end

