-- ==== Sys2Proof/Laws/Bytes.lean ====
section
/-! SUPPORT. The values that byte fields and the CRC-32 take. -/

namespace Sys2Proof.Machine

theorem crcReflByte_lt {poly c b : Nat} (hp : poly < 2 ^ 32) (hc : c < 2 ^ 32) (hb : b < 2 ^ 32) :
    crcReflByte poly c b < 2 ^ 32 := by
  have step : ∀ n x, x < 2 ^ 32 → Nat.repeat (crcReflBit poly) n x < 2 ^ 32 := by
    intro n
    induction n with
    | zero => intro x hx; simpa [Nat.repeat] using hx
    | succ n ih =>
      intro x hx
      have h := ih x hx
      simp only [Nat.repeat, crcReflBit]
      split
      · exact Nat.xor_lt_two_pow (by omega) hp
      · omega
  exact step 8 _ (Nat.xor_lt_two_pow hc hb)

/-- The CRC-32 of any bytes is a 32-bit value. -/
theorem crc32_lt (bs : Bytes) : crc32 bs < 2 ^ 32 := by
  have h : ∀ (l : Bytes) c, c < 2 ^ 32 → l.foldl (fun c b => crcReflByte 0xEDB88320 c b.toNat) c < 2 ^ 32 := by
    intro l
    induction l with
    | nil => intro c hc; exact hc
    | cons b l ih => intro c hc; exact ih _ (crcReflByte_lt (by decide) hc (by omega))
  exact Nat.xor_lt_two_pow (h bs _ (by decide)) (by decide)

/-- A field written little-endian reads back, cut to its width. -/
theorem leAt_leBytes (n v : Nat) (rest : Bytes) : leAt (leBytes n v ++ rest) 0 n = v % 256 ^ n := by
  have shift : ∀ (k i : Nat) (b : BitVec 8) (l : Bytes), leAt (b :: l) (i + 1) k = leAt l i k := by
    intro k
    induction k with
    | zero => intros; rfl
    | succ k ih => intro i b l; simp only [leAt, ih]; simp [byteAt]
  induction n generalizing v with
  | zero => simp [leAt, Nat.mod_one]
  | succ n ih =>
    simp only [leBytes, List.cons_append, leAt, shift, ih]
    have : byteAt (BitVec.ofNat 8 v :: (leBytes n (v / 256) ++ rest)) 0 = v % 256 := by simp [byteAt]
    rw [this, pow_succ, Nat.mul_comm (256 ^ n), Nat.mod_mul]

/-- A field behind `a` bytes. -/
theorem leAt_append (a b : Bytes) (k : Nat) : leAt (a ++ b) a.length k = leAt b 0 k := by
  have h : ∀ k i, leAt (a ++ b) (a.length + i) k = leAt b i k := by
    intro k
    induction k with
    | zero => intros; rfl
    | succ k ih =>
      intro i
      simp only [leAt, Nat.add_assoc, ih]
      simp [byteAt, List.getElem?_append_right]
  simpa using h k 0

end Sys2Proof.Machine
end

