-- ==== Sys2Proof/Laws/State.lean ====
section
/-! SUPPORT. What each elementary operation leaves of the state: one lemma per field of State and operation. -/

namespace Sys2Proof.Machine

variable (s : State)

/-! ### wr -/

@[simp] theorem wr_part (f : Fld) (v : Nat) : (wr f v s).part = s.part := (rfl)
@[simp] theorem wr_pending (f : Fld) (v : Nat) : (wr f v s).pending = s.pending := (rfl)
@[simp] theorem wr_now (f : Fld) (v : Nat) : (wr f v s).now = s.now := (rfl)
@[simp] theorem wr_ntcFrom (f : Fld) (v : Nat) : (wr f v s).ntcFrom = s.ntcFrom := (rfl)
@[simp] theorem wr_ntcOn (f : Fld) (v : Nat) : (wr f v s).ntcOn = s.ntcOn := (rfl)
@[simp] theorem wr_rawHeld (f : Fld) (v : Nat) : (wr f v s).rawHeld = s.rawHeld := (rfl)
@[simp] theorem wr_mem (f : Fld) (v : Nat) : (wr f v s).mem = s.mem := (rfl)
@[simp] theorem wr_eccBad (f : Fld) (v : Nat) : (wr f v s).eccBad = s.eccBad := (rfl)
@[simp] theorem wr_dev (f : Fld) (v : Nat) : (wr f v s).dev = s.dev := (rfl)
@[simp] theorem wr_pilot (f : Fld) (v : Nat) : (wr f v s).pilot = s.pilot := (rfl)
@[simp] theorem wr_pwc (f : Fld) (v : Nat) : (wr f v s).pwc = s.pwc := (rfl)
@[simp] theorem wr_thm (f : Fld) (v : Nat) : (wr f v s).thm = s.thm := (rfl)
@[simp] theorem wr_ras (f : Fld) (v : Nat) : (wr f v s).ras = s.ras := (rfl)
@[simp] theorem wr_gte (f : Fld) (v : Nat) : (wr f v s).gte = s.gte := (rfl)
@[simp] theorem wr_zne (f : Fld) (v : Nat) : (wr f v s).zne = s.zne := (rfl)
@[simp] theorem wr_cor (f : Fld) (v : Nat) : (wr f v s).cor = s.cor := (rfl)
@[simp] theorem wr_lanes (f : Fld) (v : Nat) : (wr f v s).lanes = s.lanes := (rfl)
@[simp] theorem wr_tpr (f : Fld) (v : Nat) : (wr f v s).tpr = s.tpr := (rfl)
@[simp] theorem wr_tiles (f : Fld) (v : Nat) : (wr f v s).tiles = s.tiles := (rfl)
@[simp] theorem wr_far (f : Fld) (v : Nat) : (wr f v s).far = s.far := (rfl)
@[simp] theorem wr_swp (f : Fld) (v : Nat) : (wr f v s).swp = s.swp := (rfl)
@[simp] theorem wr_sns (f : Fld) (v : Nat) : (wr f v s).sns = s.sns := (rfl)
@[simp] theorem wr_links (f : Fld) (v : Nat) : (wr f v s).links = s.links := (rfl)
@[simp] theorem wr_ntm (f : Fld) (v : Nat) : (wr f v s).ntm = s.ntm := (rfl)
@[simp] theorem wr_mbx (f : Fld) (v : Nat) : (wr f v s).mbx = s.mbx := (rfl)
@[simp] theorem wr_image (f : Fld) (v : Nat) : (wr f v s).image = s.image := (rfl)
@[simp] theorem wr_waits (f : Fld) (v : Nat) : (wr f v s).waits = s.waits := (rfl)
@[simp] theorem wr_inbox (f : Fld) (v : Nat) : (wr f v s).inbox = s.inbox := (rfl)
@[simp] theorem wr_fender (f : Fld) (v : Nat) : (wr f v s).fender = s.fender := (rfl)
@[simp] theorem wr_core0 (f : Fld) (v : Nat) : (wr f v s).core0 = s.core0 := (rfl)
@[simp] theorem wr_core1 (f : Fld) (v : Nat) : (wr f v s).core1 = s.core1 := (rfl)
@[simp] theorem wr_mrc (f : Fld) (v : Nat) : (wr f v s).mrc = s.mrc := (rfl)
@[simp] theorem wr_evr (f : Fld) (v : Nat) : (wr f v s).evr = s.evr := (rfl)
@[simp] theorem wr_cku0 (f : Fld) (v : Nat) : (wr f v s).cku0 = s.cku0 := (rfl)
@[simp] theorem wr_cku1 (f : Fld) (v : Nat) : (wr f v s).cku1 = s.cku1 := (rfl)
@[simp] theorem wr_dump (f : Fld) (v : Nat) : (wr f v s).dump = s.dump := (rfl)
@[simp] theorem wr_sec (f : Fld) (v : Nat) : (wr f v s).sec = s.sec := (rfl)
@[simp] theorem wr_ptn (f : Fld) (v : Nat) : (wr f v s).ptn = s.ptn := (rfl)
@[simp] theorem wr_tx (f : Fld) (v : Nat) : (wr f v s).tx = s.tx := (rfl)
@[simp] theorem wr_freeCnt (f : Fld) (v : Nat) : (wr f v s).freeCnt = s.freeCnt := (rfl)

/-! ### wri -/

@[simp] theorem wri_part (f : Fld) (v : Int) : (wri f v s).part = s.part := (rfl)
@[simp] theorem wri_pending (f : Fld) (v : Int) : (wri f v s).pending = s.pending := (rfl)
@[simp] theorem wri_now (f : Fld) (v : Int) : (wri f v s).now = s.now := (rfl)
@[simp] theorem wri_ntcFrom (f : Fld) (v : Int) : (wri f v s).ntcFrom = s.ntcFrom := (rfl)
@[simp] theorem wri_ntcOn (f : Fld) (v : Int) : (wri f v s).ntcOn = s.ntcOn := (rfl)
@[simp] theorem wri_rawHeld (f : Fld) (v : Int) : (wri f v s).rawHeld = s.rawHeld := (rfl)
@[simp] theorem wri_mem (f : Fld) (v : Int) : (wri f v s).mem = s.mem := (rfl)
@[simp] theorem wri_eccBad (f : Fld) (v : Int) : (wri f v s).eccBad = s.eccBad := (rfl)
@[simp] theorem wri_dev (f : Fld) (v : Int) : (wri f v s).dev = s.dev := (rfl)
@[simp] theorem wri_pilot (f : Fld) (v : Int) : (wri f v s).pilot = s.pilot := (rfl)
@[simp] theorem wri_pwc (f : Fld) (v : Int) : (wri f v s).pwc = s.pwc := (rfl)
@[simp] theorem wri_thm (f : Fld) (v : Int) : (wri f v s).thm = s.thm := (rfl)
@[simp] theorem wri_ras (f : Fld) (v : Int) : (wri f v s).ras = s.ras := (rfl)
@[simp] theorem wri_gte (f : Fld) (v : Int) : (wri f v s).gte = s.gte := (rfl)
@[simp] theorem wri_zne (f : Fld) (v : Int) : (wri f v s).zne = s.zne := (rfl)
@[simp] theorem wri_cor (f : Fld) (v : Int) : (wri f v s).cor = s.cor := (rfl)
@[simp] theorem wri_lanes (f : Fld) (v : Int) : (wri f v s).lanes = s.lanes := (rfl)
@[simp] theorem wri_tpr (f : Fld) (v : Int) : (wri f v s).tpr = s.tpr := (rfl)
@[simp] theorem wri_tiles (f : Fld) (v : Int) : (wri f v s).tiles = s.tiles := (rfl)
@[simp] theorem wri_far (f : Fld) (v : Int) : (wri f v s).far = s.far := (rfl)
@[simp] theorem wri_swp (f : Fld) (v : Int) : (wri f v s).swp = s.swp := (rfl)
@[simp] theorem wri_sns (f : Fld) (v : Int) : (wri f v s).sns = s.sns := (rfl)
@[simp] theorem wri_links (f : Fld) (v : Int) : (wri f v s).links = s.links := (rfl)
@[simp] theorem wri_ntm (f : Fld) (v : Int) : (wri f v s).ntm = s.ntm := (rfl)
@[simp] theorem wri_mbx (f : Fld) (v : Int) : (wri f v s).mbx = s.mbx := (rfl)
@[simp] theorem wri_image (f : Fld) (v : Int) : (wri f v s).image = s.image := (rfl)
@[simp] theorem wri_waits (f : Fld) (v : Int) : (wri f v s).waits = s.waits := (rfl)
@[simp] theorem wri_inbox (f : Fld) (v : Int) : (wri f v s).inbox = s.inbox := (rfl)
@[simp] theorem wri_fender (f : Fld) (v : Int) : (wri f v s).fender = s.fender := (rfl)
@[simp] theorem wri_core0 (f : Fld) (v : Int) : (wri f v s).core0 = s.core0 := (rfl)
@[simp] theorem wri_core1 (f : Fld) (v : Int) : (wri f v s).core1 = s.core1 := (rfl)
@[simp] theorem wri_mrc (f : Fld) (v : Int) : (wri f v s).mrc = s.mrc := (rfl)
@[simp] theorem wri_evr (f : Fld) (v : Int) : (wri f v s).evr = s.evr := (rfl)
@[simp] theorem wri_cku0 (f : Fld) (v : Int) : (wri f v s).cku0 = s.cku0 := (rfl)
@[simp] theorem wri_cku1 (f : Fld) (v : Int) : (wri f v s).cku1 = s.cku1 := (rfl)
@[simp] theorem wri_dump (f : Fld) (v : Int) : (wri f v s).dump = s.dump := (rfl)
@[simp] theorem wri_sec (f : Fld) (v : Int) : (wri f v s).sec = s.sec := (rfl)
@[simp] theorem wri_ptn (f : Fld) (v : Int) : (wri f v s).ptn = s.ptn := (rfl)
@[simp] theorem wri_tx (f : Fld) (v : Int) : (wri f v s).tx = s.tx := (rfl)
@[simp] theorem wri_freeCnt (f : Fld) (v : Int) : (wri f v s).freeCnt = s.freeCnt := (rfl)

/-! ### satInc -/

@[simp] theorem satInc_part (f : Fld) (n : Nat) : (satInc f n s).part = s.part := (rfl)
@[simp] theorem satInc_pending (f : Fld) (n : Nat) : (satInc f n s).pending = s.pending := (rfl)
@[simp] theorem satInc_now (f : Fld) (n : Nat) : (satInc f n s).now = s.now := (rfl)
@[simp] theorem satInc_ntcFrom (f : Fld) (n : Nat) : (satInc f n s).ntcFrom = s.ntcFrom := (rfl)
@[simp] theorem satInc_ntcOn (f : Fld) (n : Nat) : (satInc f n s).ntcOn = s.ntcOn := (rfl)
@[simp] theorem satInc_rawHeld (f : Fld) (n : Nat) : (satInc f n s).rawHeld = s.rawHeld := (rfl)
@[simp] theorem satInc_mem (f : Fld) (n : Nat) : (satInc f n s).mem = s.mem := (rfl)
@[simp] theorem satInc_eccBad (f : Fld) (n : Nat) : (satInc f n s).eccBad = s.eccBad := (rfl)
@[simp] theorem satInc_dev (f : Fld) (n : Nat) : (satInc f n s).dev = s.dev := (rfl)
@[simp] theorem satInc_pilot (f : Fld) (n : Nat) : (satInc f n s).pilot = s.pilot := (rfl)
@[simp] theorem satInc_pwc (f : Fld) (n : Nat) : (satInc f n s).pwc = s.pwc := (rfl)
@[simp] theorem satInc_thm (f : Fld) (n : Nat) : (satInc f n s).thm = s.thm := (rfl)
@[simp] theorem satInc_ras (f : Fld) (n : Nat) : (satInc f n s).ras = s.ras := (rfl)
@[simp] theorem satInc_gte (f : Fld) (n : Nat) : (satInc f n s).gte = s.gte := (rfl)
@[simp] theorem satInc_zne (f : Fld) (n : Nat) : (satInc f n s).zne = s.zne := (rfl)
@[simp] theorem satInc_cor (f : Fld) (n : Nat) : (satInc f n s).cor = s.cor := (rfl)
@[simp] theorem satInc_lanes (f : Fld) (n : Nat) : (satInc f n s).lanes = s.lanes := (rfl)
@[simp] theorem satInc_tpr (f : Fld) (n : Nat) : (satInc f n s).tpr = s.tpr := (rfl)
@[simp] theorem satInc_tiles (f : Fld) (n : Nat) : (satInc f n s).tiles = s.tiles := (rfl)
@[simp] theorem satInc_far (f : Fld) (n : Nat) : (satInc f n s).far = s.far := (rfl)
@[simp] theorem satInc_swp (f : Fld) (n : Nat) : (satInc f n s).swp = s.swp := (rfl)
@[simp] theorem satInc_sns (f : Fld) (n : Nat) : (satInc f n s).sns = s.sns := (rfl)
@[simp] theorem satInc_links (f : Fld) (n : Nat) : (satInc f n s).links = s.links := (rfl)
@[simp] theorem satInc_ntm (f : Fld) (n : Nat) : (satInc f n s).ntm = s.ntm := (rfl)
@[simp] theorem satInc_mbx (f : Fld) (n : Nat) : (satInc f n s).mbx = s.mbx := (rfl)
@[simp] theorem satInc_image (f : Fld) (n : Nat) : (satInc f n s).image = s.image := (rfl)
@[simp] theorem satInc_waits (f : Fld) (n : Nat) : (satInc f n s).waits = s.waits := (rfl)
@[simp] theorem satInc_inbox (f : Fld) (n : Nat) : (satInc f n s).inbox = s.inbox := (rfl)
@[simp] theorem satInc_fender (f : Fld) (n : Nat) : (satInc f n s).fender = s.fender := (rfl)
@[simp] theorem satInc_core0 (f : Fld) (n : Nat) : (satInc f n s).core0 = s.core0 := (rfl)
@[simp] theorem satInc_core1 (f : Fld) (n : Nat) : (satInc f n s).core1 = s.core1 := (rfl)
@[simp] theorem satInc_mrc (f : Fld) (n : Nat) : (satInc f n s).mrc = s.mrc := (rfl)
@[simp] theorem satInc_evr (f : Fld) (n : Nat) : (satInc f n s).evr = s.evr := (rfl)
@[simp] theorem satInc_cku0 (f : Fld) (n : Nat) : (satInc f n s).cku0 = s.cku0 := (rfl)
@[simp] theorem satInc_cku1 (f : Fld) (n : Nat) : (satInc f n s).cku1 = s.cku1 := (rfl)
@[simp] theorem satInc_dump (f : Fld) (n : Nat) : (satInc f n s).dump = s.dump := (rfl)
@[simp] theorem satInc_sec (f : Fld) (n : Nat) : (satInc f n s).sec = s.sec := (rfl)
@[simp] theorem satInc_ptn (f : Fld) (n : Nat) : (satInc f n s).ptn = s.ptn := (rfl)
@[simp] theorem satInc_tx (f : Fld) (n : Nat) : (satInc f n s).tx = s.tx := (rfl)
@[simp] theorem satInc_freeCnt (f : Fld) (n : Nat) : (satInc f n s).freeCnt = s.freeCnt := (rfl)

/-! ### wrapInc -/

@[simp] theorem wrapInc_part (f : Fld) (n : Nat) : (wrapInc f n s).part = s.part := (rfl)
@[simp] theorem wrapInc_pending (f : Fld) (n : Nat) : (wrapInc f n s).pending = s.pending := (rfl)
@[simp] theorem wrapInc_now (f : Fld) (n : Nat) : (wrapInc f n s).now = s.now := (rfl)
@[simp] theorem wrapInc_ntcFrom (f : Fld) (n : Nat) : (wrapInc f n s).ntcFrom = s.ntcFrom := (rfl)
@[simp] theorem wrapInc_ntcOn (f : Fld) (n : Nat) : (wrapInc f n s).ntcOn = s.ntcOn := (rfl)
@[simp] theorem wrapInc_rawHeld (f : Fld) (n : Nat) : (wrapInc f n s).rawHeld = s.rawHeld := (rfl)
@[simp] theorem wrapInc_mem (f : Fld) (n : Nat) : (wrapInc f n s).mem = s.mem := (rfl)
@[simp] theorem wrapInc_eccBad (f : Fld) (n : Nat) : (wrapInc f n s).eccBad = s.eccBad := (rfl)
@[simp] theorem wrapInc_dev (f : Fld) (n : Nat) : (wrapInc f n s).dev = s.dev := (rfl)
@[simp] theorem wrapInc_pilot (f : Fld) (n : Nat) : (wrapInc f n s).pilot = s.pilot := (rfl)
@[simp] theorem wrapInc_pwc (f : Fld) (n : Nat) : (wrapInc f n s).pwc = s.pwc := (rfl)
@[simp] theorem wrapInc_thm (f : Fld) (n : Nat) : (wrapInc f n s).thm = s.thm := (rfl)
@[simp] theorem wrapInc_ras (f : Fld) (n : Nat) : (wrapInc f n s).ras = s.ras := (rfl)
@[simp] theorem wrapInc_gte (f : Fld) (n : Nat) : (wrapInc f n s).gte = s.gte := (rfl)
@[simp] theorem wrapInc_zne (f : Fld) (n : Nat) : (wrapInc f n s).zne = s.zne := (rfl)
@[simp] theorem wrapInc_cor (f : Fld) (n : Nat) : (wrapInc f n s).cor = s.cor := (rfl)
@[simp] theorem wrapInc_lanes (f : Fld) (n : Nat) : (wrapInc f n s).lanes = s.lanes := (rfl)
@[simp] theorem wrapInc_tpr (f : Fld) (n : Nat) : (wrapInc f n s).tpr = s.tpr := (rfl)
@[simp] theorem wrapInc_tiles (f : Fld) (n : Nat) : (wrapInc f n s).tiles = s.tiles := (rfl)
@[simp] theorem wrapInc_far (f : Fld) (n : Nat) : (wrapInc f n s).far = s.far := (rfl)
@[simp] theorem wrapInc_swp (f : Fld) (n : Nat) : (wrapInc f n s).swp = s.swp := (rfl)
@[simp] theorem wrapInc_sns (f : Fld) (n : Nat) : (wrapInc f n s).sns = s.sns := (rfl)
@[simp] theorem wrapInc_links (f : Fld) (n : Nat) : (wrapInc f n s).links = s.links := (rfl)
@[simp] theorem wrapInc_ntm (f : Fld) (n : Nat) : (wrapInc f n s).ntm = s.ntm := (rfl)
@[simp] theorem wrapInc_mbx (f : Fld) (n : Nat) : (wrapInc f n s).mbx = s.mbx := (rfl)
@[simp] theorem wrapInc_image (f : Fld) (n : Nat) : (wrapInc f n s).image = s.image := (rfl)
@[simp] theorem wrapInc_waits (f : Fld) (n : Nat) : (wrapInc f n s).waits = s.waits := (rfl)
@[simp] theorem wrapInc_inbox (f : Fld) (n : Nat) : (wrapInc f n s).inbox = s.inbox := (rfl)
@[simp] theorem wrapInc_fender (f : Fld) (n : Nat) : (wrapInc f n s).fender = s.fender := (rfl)
@[simp] theorem wrapInc_core0 (f : Fld) (n : Nat) : (wrapInc f n s).core0 = s.core0 := (rfl)
@[simp] theorem wrapInc_core1 (f : Fld) (n : Nat) : (wrapInc f n s).core1 = s.core1 := (rfl)
@[simp] theorem wrapInc_mrc (f : Fld) (n : Nat) : (wrapInc f n s).mrc = s.mrc := (rfl)
@[simp] theorem wrapInc_evr (f : Fld) (n : Nat) : (wrapInc f n s).evr = s.evr := (rfl)
@[simp] theorem wrapInc_cku0 (f : Fld) (n : Nat) : (wrapInc f n s).cku0 = s.cku0 := (rfl)
@[simp] theorem wrapInc_cku1 (f : Fld) (n : Nat) : (wrapInc f n s).cku1 = s.cku1 := (rfl)
@[simp] theorem wrapInc_dump (f : Fld) (n : Nat) : (wrapInc f n s).dump = s.dump := (rfl)
@[simp] theorem wrapInc_sec (f : Fld) (n : Nat) : (wrapInc f n s).sec = s.sec := (rfl)
@[simp] theorem wrapInc_ptn (f : Fld) (n : Nat) : (wrapInc f n s).ptn = s.ptn := (rfl)
@[simp] theorem wrapInc_tx (f : Fld) (n : Nat) : (wrapInc f n s).tx = s.tx := (rfl)
@[simp] theorem wrapInc_freeCnt (f : Fld) (n : Nat) : (wrapInc f n s).freeCnt = s.freeCnt := (rfl)

/-! ### setAct -/

@[simp] theorem setAct_part (f : Fld) (v : Nat) : (setAct f v s).part = s.part := (rfl)
@[simp] theorem setAct_pending (f : Fld) (v : Nat) : (setAct f v s).pending = s.pending := (rfl)
@[simp] theorem setAct_now (f : Fld) (v : Nat) : (setAct f v s).now = s.now := (rfl)
@[simp] theorem setAct_ntcFrom (f : Fld) (v : Nat) : (setAct f v s).ntcFrom = s.ntcFrom := (rfl)
@[simp] theorem setAct_ntcOn (f : Fld) (v : Nat) : (setAct f v s).ntcOn = s.ntcOn := (rfl)
@[simp] theorem setAct_rawHeld (f : Fld) (v : Nat) : (setAct f v s).rawHeld = s.rawHeld := (rfl)
@[simp] theorem setAct_regs (f : Fld) (v : Nat) : (setAct f v s).regs = s.regs := (rfl)
@[simp] theorem setAct_mem (f : Fld) (v : Nat) : (setAct f v s).mem = s.mem := (rfl)
@[simp] theorem setAct_eccBad (f : Fld) (v : Nat) : (setAct f v s).eccBad = s.eccBad := (rfl)
@[simp] theorem setAct_dev (f : Fld) (v : Nat) : (setAct f v s).dev = s.dev := (rfl)
@[simp] theorem setAct_pilot (f : Fld) (v : Nat) : (setAct f v s).pilot = s.pilot := (rfl)
@[simp] theorem setAct_pwc (f : Fld) (v : Nat) : (setAct f v s).pwc = s.pwc := (rfl)
@[simp] theorem setAct_thm (f : Fld) (v : Nat) : (setAct f v s).thm = s.thm := (rfl)
@[simp] theorem setAct_gte (f : Fld) (v : Nat) : (setAct f v s).gte = s.gte := (rfl)
@[simp] theorem setAct_zne (f : Fld) (v : Nat) : (setAct f v s).zne = s.zne := (rfl)
@[simp] theorem setAct_cor (f : Fld) (v : Nat) : (setAct f v s).cor = s.cor := (rfl)
@[simp] theorem setAct_lanes (f : Fld) (v : Nat) : (setAct f v s).lanes = s.lanes := (rfl)
@[simp] theorem setAct_tpr (f : Fld) (v : Nat) : (setAct f v s).tpr = s.tpr := (rfl)
@[simp] theorem setAct_tiles (f : Fld) (v : Nat) : (setAct f v s).tiles = s.tiles := (rfl)
@[simp] theorem setAct_far (f : Fld) (v : Nat) : (setAct f v s).far = s.far := (rfl)
@[simp] theorem setAct_swp (f : Fld) (v : Nat) : (setAct f v s).swp = s.swp := (rfl)
@[simp] theorem setAct_sns (f : Fld) (v : Nat) : (setAct f v s).sns = s.sns := (rfl)
@[simp] theorem setAct_links (f : Fld) (v : Nat) : (setAct f v s).links = s.links := (rfl)
@[simp] theorem setAct_ntm (f : Fld) (v : Nat) : (setAct f v s).ntm = s.ntm := (rfl)
@[simp] theorem setAct_mbx (f : Fld) (v : Nat) : (setAct f v s).mbx = s.mbx := (rfl)
@[simp] theorem setAct_image (f : Fld) (v : Nat) : (setAct f v s).image = s.image := (rfl)
@[simp] theorem setAct_waits (f : Fld) (v : Nat) : (setAct f v s).waits = s.waits := (rfl)
@[simp] theorem setAct_inbox (f : Fld) (v : Nat) : (setAct f v s).inbox = s.inbox := (rfl)
@[simp] theorem setAct_fender (f : Fld) (v : Nat) : (setAct f v s).fender = s.fender := (rfl)
@[simp] theorem setAct_core0 (f : Fld) (v : Nat) : (setAct f v s).core0 = s.core0 := (rfl)
@[simp] theorem setAct_core1 (f : Fld) (v : Nat) : (setAct f v s).core1 = s.core1 := (rfl)
@[simp] theorem setAct_mrc (f : Fld) (v : Nat) : (setAct f v s).mrc = s.mrc := (rfl)
@[simp] theorem setAct_evr (f : Fld) (v : Nat) : (setAct f v s).evr = s.evr := (rfl)
@[simp] theorem setAct_cku0 (f : Fld) (v : Nat) : (setAct f v s).cku0 = s.cku0 := (rfl)
@[simp] theorem setAct_cku1 (f : Fld) (v : Nat) : (setAct f v s).cku1 = s.cku1 := (rfl)
@[simp] theorem setAct_dump (f : Fld) (v : Nat) : (setAct f v s).dump = s.dump := (rfl)
@[simp] theorem setAct_sec (f : Fld) (v : Nat) : (setAct f v s).sec = s.sec := (rfl)
@[simp] theorem setAct_ptn (f : Fld) (v : Nat) : (setAct f v s).ptn = s.ptn := (rfl)
@[simp] theorem setAct_tx (f : Fld) (v : Nat) : (setAct f v s).tx = s.tx := (rfl)
@[simp] theorem setAct_freeCnt (f : Fld) (v : Nat) : (setAct f v s).freeCnt = s.freeCnt := (rfl)

/-! ### send -/

@[simp] theorem send_part (x : Tx) : (send x s).part = s.part := (rfl)
@[simp] theorem send_pending (x : Tx) : (send x s).pending = s.pending := (rfl)
@[simp] theorem send_now (x : Tx) : (send x s).now = s.now := (rfl)
@[simp] theorem send_ntcFrom (x : Tx) : (send x s).ntcFrom = s.ntcFrom := (rfl)
@[simp] theorem send_ntcOn (x : Tx) : (send x s).ntcOn = s.ntcOn := (rfl)
@[simp] theorem send_rawHeld (x : Tx) : (send x s).rawHeld = s.rawHeld := (rfl)
@[simp] theorem send_regs (x : Tx) : (send x s).regs = s.regs := (rfl)
@[simp] theorem send_mem (x : Tx) : (send x s).mem = s.mem := (rfl)
@[simp] theorem send_eccBad (x : Tx) : (send x s).eccBad = s.eccBad := (rfl)
@[simp] theorem send_dev (x : Tx) : (send x s).dev = s.dev := (rfl)
@[simp] theorem send_pilot (x : Tx) : (send x s).pilot = s.pilot := (rfl)
@[simp] theorem send_pwc (x : Tx) : (send x s).pwc = s.pwc := (rfl)
@[simp] theorem send_thm (x : Tx) : (send x s).thm = s.thm := (rfl)
@[simp] theorem send_ras (x : Tx) : (send x s).ras = s.ras := (rfl)
@[simp] theorem send_gte (x : Tx) : (send x s).gte = s.gte := (rfl)
@[simp] theorem send_zne (x : Tx) : (send x s).zne = s.zne := (rfl)
@[simp] theorem send_cor (x : Tx) : (send x s).cor = s.cor := (rfl)
@[simp] theorem send_lanes (x : Tx) : (send x s).lanes = s.lanes := (rfl)
@[simp] theorem send_tpr (x : Tx) : (send x s).tpr = s.tpr := (rfl)
@[simp] theorem send_tiles (x : Tx) : (send x s).tiles = s.tiles := (rfl)
@[simp] theorem send_far (x : Tx) : (send x s).far = s.far := (rfl)
@[simp] theorem send_swp (x : Tx) : (send x s).swp = s.swp := (rfl)
@[simp] theorem send_sns (x : Tx) : (send x s).sns = s.sns := (rfl)
@[simp] theorem send_links (x : Tx) : (send x s).links = s.links := (rfl)
@[simp] theorem send_ntm (x : Tx) : (send x s).ntm = s.ntm := (rfl)
@[simp] theorem send_mbx (x : Tx) : (send x s).mbx = s.mbx := (rfl)
@[simp] theorem send_image (x : Tx) : (send x s).image = s.image := (rfl)
@[simp] theorem send_waits (x : Tx) : (send x s).waits = s.waits := (rfl)
@[simp] theorem send_inbox (x : Tx) : (send x s).inbox = s.inbox := (rfl)
@[simp] theorem send_fender (x : Tx) : (send x s).fender = s.fender := (rfl)
@[simp] theorem send_core0 (x : Tx) : (send x s).core0 = s.core0 := (rfl)
@[simp] theorem send_core1 (x : Tx) : (send x s).core1 = s.core1 := (rfl)
@[simp] theorem send_mrc (x : Tx) : (send x s).mrc = s.mrc := (rfl)
@[simp] theorem send_evr (x : Tx) : (send x s).evr = s.evr := (rfl)
@[simp] theorem send_cku0 (x : Tx) : (send x s).cku0 = s.cku0 := (rfl)
@[simp] theorem send_cku1 (x : Tx) : (send x s).cku1 = s.cku1 := (rfl)
@[simp] theorem send_dump (x : Tx) : (send x s).dump = s.dump := (rfl)
@[simp] theorem send_sec (x : Tx) : (send x s).sec = s.sec := (rfl)
@[simp] theorem send_ptn (x : Tx) : (send x s).ptn = s.ptn := (rfl)
@[simp] theorem send_freeCnt (x : Tx) : (send x s).freeCnt = s.freeCnt := (rfl)

/-! ### stBytes -/

@[simp] theorem stBytes_part (a : Nat) (bs : Bytes) : (stBytes a bs s).part = s.part := (rfl)
@[simp] theorem stBytes_pending (a : Nat) (bs : Bytes) : (stBytes a bs s).pending = s.pending := (rfl)
@[simp] theorem stBytes_now (a : Nat) (bs : Bytes) : (stBytes a bs s).now = s.now := (rfl)
@[simp] theorem stBytes_ntcFrom (a : Nat) (bs : Bytes) : (stBytes a bs s).ntcFrom = s.ntcFrom := (rfl)
@[simp] theorem stBytes_ntcOn (a : Nat) (bs : Bytes) : (stBytes a bs s).ntcOn = s.ntcOn := (rfl)
@[simp] theorem stBytes_rawHeld (a : Nat) (bs : Bytes) : (stBytes a bs s).rawHeld = s.rawHeld := (rfl)
@[simp] theorem stBytes_regs (a : Nat) (bs : Bytes) : (stBytes a bs s).regs = s.regs := (rfl)
@[simp] theorem stBytes_eccBad (a : Nat) (bs : Bytes) : (stBytes a bs s).eccBad = s.eccBad := (rfl)
@[simp] theorem stBytes_dev (a : Nat) (bs : Bytes) : (stBytes a bs s).dev = s.dev := (rfl)
@[simp] theorem stBytes_pilot (a : Nat) (bs : Bytes) : (stBytes a bs s).pilot = s.pilot := (rfl)
@[simp] theorem stBytes_pwc (a : Nat) (bs : Bytes) : (stBytes a bs s).pwc = s.pwc := (rfl)
@[simp] theorem stBytes_thm (a : Nat) (bs : Bytes) : (stBytes a bs s).thm = s.thm := (rfl)
@[simp] theorem stBytes_ras (a : Nat) (bs : Bytes) : (stBytes a bs s).ras = s.ras := (rfl)
@[simp] theorem stBytes_gte (a : Nat) (bs : Bytes) : (stBytes a bs s).gte = s.gte := (rfl)
@[simp] theorem stBytes_zne (a : Nat) (bs : Bytes) : (stBytes a bs s).zne = s.zne := (rfl)
@[simp] theorem stBytes_cor (a : Nat) (bs : Bytes) : (stBytes a bs s).cor = s.cor := (rfl)
@[simp] theorem stBytes_lanes (a : Nat) (bs : Bytes) : (stBytes a bs s).lanes = s.lanes := (rfl)
@[simp] theorem stBytes_tpr (a : Nat) (bs : Bytes) : (stBytes a bs s).tpr = s.tpr := (rfl)
@[simp] theorem stBytes_tiles (a : Nat) (bs : Bytes) : (stBytes a bs s).tiles = s.tiles := (rfl)
@[simp] theorem stBytes_far (a : Nat) (bs : Bytes) : (stBytes a bs s).far = s.far := (rfl)
@[simp] theorem stBytes_swp (a : Nat) (bs : Bytes) : (stBytes a bs s).swp = s.swp := (rfl)
@[simp] theorem stBytes_sns (a : Nat) (bs : Bytes) : (stBytes a bs s).sns = s.sns := (rfl)
@[simp] theorem stBytes_links (a : Nat) (bs : Bytes) : (stBytes a bs s).links = s.links := (rfl)
@[simp] theorem stBytes_ntm (a : Nat) (bs : Bytes) : (stBytes a bs s).ntm = s.ntm := (rfl)
@[simp] theorem stBytes_mbx (a : Nat) (bs : Bytes) : (stBytes a bs s).mbx = s.mbx := (rfl)
@[simp] theorem stBytes_image (a : Nat) (bs : Bytes) : (stBytes a bs s).image = s.image := (rfl)
@[simp] theorem stBytes_waits (a : Nat) (bs : Bytes) : (stBytes a bs s).waits = s.waits := (rfl)
@[simp] theorem stBytes_inbox (a : Nat) (bs : Bytes) : (stBytes a bs s).inbox = s.inbox := (rfl)
@[simp] theorem stBytes_fender (a : Nat) (bs : Bytes) : (stBytes a bs s).fender = s.fender := (rfl)
@[simp] theorem stBytes_core0 (a : Nat) (bs : Bytes) : (stBytes a bs s).core0 = s.core0 := (rfl)
@[simp] theorem stBytes_core1 (a : Nat) (bs : Bytes) : (stBytes a bs s).core1 = s.core1 := (rfl)
@[simp] theorem stBytes_mrc (a : Nat) (bs : Bytes) : (stBytes a bs s).mrc = s.mrc := (rfl)
@[simp] theorem stBytes_evr (a : Nat) (bs : Bytes) : (stBytes a bs s).evr = s.evr := (rfl)
@[simp] theorem stBytes_cku0 (a : Nat) (bs : Bytes) : (stBytes a bs s).cku0 = s.cku0 := (rfl)
@[simp] theorem stBytes_cku1 (a : Nat) (bs : Bytes) : (stBytes a bs s).cku1 = s.cku1 := (rfl)
@[simp] theorem stBytes_dump (a : Nat) (bs : Bytes) : (stBytes a bs s).dump = s.dump := (rfl)
@[simp] theorem stBytes_sec (a : Nat) (bs : Bytes) : (stBytes a bs s).sec = s.sec := (rfl)
@[simp] theorem stBytes_ptn (a : Nat) (bs : Bytes) : (stBytes a bs s).ptn = s.ptn := (rfl)
@[simp] theorem stBytes_tx (a : Nat) (bs : Bytes) : (stBytes a bs s).tx = s.tx := (rfl)
@[simp] theorem stBytes_freeCnt (a : Nat) (bs : Bytes) : (stBytes a bs s).freeCnt = s.freeCnt := (rfl)

/-! ### atTime -/

@[simp] theorem atTime_part (t : Nat) : (atTime t s).part = s.part := (rfl)
@[simp] theorem atTime_pending (t : Nat) : (atTime t s).pending = s.pending := (rfl)
@[simp] theorem atTime_ntcFrom (t : Nat) : (atTime t s).ntcFrom = s.ntcFrom := (rfl)
@[simp] theorem atTime_ntcOn (t : Nat) : (atTime t s).ntcOn = s.ntcOn := (rfl)
@[simp] theorem atTime_rawHeld (t : Nat) : (atTime t s).rawHeld = s.rawHeld := (rfl)
@[simp] theorem atTime_regs (t : Nat) : (atTime t s).regs = s.regs := (rfl)
@[simp] theorem atTime_mem (t : Nat) : (atTime t s).mem = s.mem := (rfl)
@[simp] theorem atTime_eccBad (t : Nat) : (atTime t s).eccBad = s.eccBad := (rfl)
@[simp] theorem atTime_dev (t : Nat) : (atTime t s).dev = s.dev := (rfl)
@[simp] theorem atTime_pilot (t : Nat) : (atTime t s).pilot = s.pilot := (rfl)
@[simp] theorem atTime_pwc (t : Nat) : (atTime t s).pwc = s.pwc := (rfl)
@[simp] theorem atTime_thm (t : Nat) : (atTime t s).thm = s.thm := (rfl)
@[simp] theorem atTime_ras (t : Nat) : (atTime t s).ras = s.ras := (rfl)
@[simp] theorem atTime_gte (t : Nat) : (atTime t s).gte = s.gte := (rfl)
@[simp] theorem atTime_zne (t : Nat) : (atTime t s).zne = s.zne := (rfl)
@[simp] theorem atTime_cor (t : Nat) : (atTime t s).cor = s.cor := (rfl)
@[simp] theorem atTime_lanes (t : Nat) : (atTime t s).lanes = s.lanes := (rfl)
@[simp] theorem atTime_tpr (t : Nat) : (atTime t s).tpr = s.tpr := (rfl)
@[simp] theorem atTime_tiles (t : Nat) : (atTime t s).tiles = s.tiles := (rfl)
@[simp] theorem atTime_far (t : Nat) : (atTime t s).far = s.far := (rfl)
@[simp] theorem atTime_swp (t : Nat) : (atTime t s).swp = s.swp := (rfl)
@[simp] theorem atTime_sns (t : Nat) : (atTime t s).sns = s.sns := (rfl)
@[simp] theorem atTime_links (t : Nat) : (atTime t s).links = s.links := (rfl)
@[simp] theorem atTime_ntm (t : Nat) : (atTime t s).ntm = s.ntm := (rfl)
@[simp] theorem atTime_mbx (t : Nat) : (atTime t s).mbx = s.mbx := (rfl)
@[simp] theorem atTime_image (t : Nat) : (atTime t s).image = s.image := (rfl)
@[simp] theorem atTime_waits (t : Nat) : (atTime t s).waits = s.waits := (rfl)
@[simp] theorem atTime_inbox (t : Nat) : (atTime t s).inbox = s.inbox := (rfl)
@[simp] theorem atTime_fender (t : Nat) : (atTime t s).fender = s.fender := (rfl)
@[simp] theorem atTime_core0 (t : Nat) : (atTime t s).core0 = s.core0 := (rfl)
@[simp] theorem atTime_core1 (t : Nat) : (atTime t s).core1 = s.core1 := (rfl)
@[simp] theorem atTime_mrc (t : Nat) : (atTime t s).mrc = s.mrc := (rfl)
@[simp] theorem atTime_evr (t : Nat) : (atTime t s).evr = s.evr := (rfl)
@[simp] theorem atTime_cku0 (t : Nat) : (atTime t s).cku0 = s.cku0 := (rfl)
@[simp] theorem atTime_cku1 (t : Nat) : (atTime t s).cku1 = s.cku1 := (rfl)
@[simp] theorem atTime_dump (t : Nat) : (atTime t s).dump = s.dump := (rfl)
@[simp] theorem atTime_sec (t : Nat) : (atTime t s).sec = s.sec := (rfl)
@[simp] theorem atTime_ptn (t : Nat) : (atTime t s).ptn = s.ptn := (rfl)
@[simp] theorem atTime_tx (t : Nat) : (atTime t s).tx = s.tx := (rfl)
@[simp] theorem atTime_freeCnt (t : Nat) : (atTime t s).freeCnt = s.freeCnt := (rfl)

/-! ### freeBelow -/

@[simp] theorem freeBelow_part (b : Nat) : ((freeBelow b s).2).part = s.part := (rfl)
@[simp] theorem freeBelow_pending (b : Nat) : ((freeBelow b s).2).pending = s.pending := (rfl)
@[simp] theorem freeBelow_now (b : Nat) : ((freeBelow b s).2).now = s.now := (rfl)
@[simp] theorem freeBelow_ntcFrom (b : Nat) : ((freeBelow b s).2).ntcFrom = s.ntcFrom := (rfl)
@[simp] theorem freeBelow_ntcOn (b : Nat) : ((freeBelow b s).2).ntcOn = s.ntcOn := (rfl)
@[simp] theorem freeBelow_rawHeld (b : Nat) : ((freeBelow b s).2).rawHeld = s.rawHeld := (rfl)
@[simp] theorem freeBelow_regs (b : Nat) : ((freeBelow b s).2).regs = s.regs := (rfl)
@[simp] theorem freeBelow_mem (b : Nat) : ((freeBelow b s).2).mem = s.mem := (rfl)
@[simp] theorem freeBelow_eccBad (b : Nat) : ((freeBelow b s).2).eccBad = s.eccBad := (rfl)
@[simp] theorem freeBelow_dev (b : Nat) : ((freeBelow b s).2).dev = s.dev := (rfl)
@[simp] theorem freeBelow_pilot (b : Nat) : ((freeBelow b s).2).pilot = s.pilot := (rfl)
@[simp] theorem freeBelow_pwc (b : Nat) : ((freeBelow b s).2).pwc = s.pwc := (rfl)
@[simp] theorem freeBelow_thm (b : Nat) : ((freeBelow b s).2).thm = s.thm := (rfl)
@[simp] theorem freeBelow_ras (b : Nat) : ((freeBelow b s).2).ras = s.ras := (rfl)
@[simp] theorem freeBelow_gte (b : Nat) : ((freeBelow b s).2).gte = s.gte := (rfl)
@[simp] theorem freeBelow_zne (b : Nat) : ((freeBelow b s).2).zne = s.zne := (rfl)
@[simp] theorem freeBelow_cor (b : Nat) : ((freeBelow b s).2).cor = s.cor := (rfl)
@[simp] theorem freeBelow_lanes (b : Nat) : ((freeBelow b s).2).lanes = s.lanes := (rfl)
@[simp] theorem freeBelow_tpr (b : Nat) : ((freeBelow b s).2).tpr = s.tpr := (rfl)
@[simp] theorem freeBelow_tiles (b : Nat) : ((freeBelow b s).2).tiles = s.tiles := (rfl)
@[simp] theorem freeBelow_far (b : Nat) : ((freeBelow b s).2).far = s.far := (rfl)
@[simp] theorem freeBelow_swp (b : Nat) : ((freeBelow b s).2).swp = s.swp := (rfl)
@[simp] theorem freeBelow_sns (b : Nat) : ((freeBelow b s).2).sns = s.sns := (rfl)
@[simp] theorem freeBelow_links (b : Nat) : ((freeBelow b s).2).links = s.links := (rfl)
@[simp] theorem freeBelow_ntm (b : Nat) : ((freeBelow b s).2).ntm = s.ntm := (rfl)
@[simp] theorem freeBelow_mbx (b : Nat) : ((freeBelow b s).2).mbx = s.mbx := (rfl)
@[simp] theorem freeBelow_image (b : Nat) : ((freeBelow b s).2).image = s.image := (rfl)
@[simp] theorem freeBelow_waits (b : Nat) : ((freeBelow b s).2).waits = s.waits := (rfl)
@[simp] theorem freeBelow_inbox (b : Nat) : ((freeBelow b s).2).inbox = s.inbox := (rfl)
@[simp] theorem freeBelow_fender (b : Nat) : ((freeBelow b s).2).fender = s.fender := (rfl)
@[simp] theorem freeBelow_core0 (b : Nat) : ((freeBelow b s).2).core0 = s.core0 := (rfl)
@[simp] theorem freeBelow_core1 (b : Nat) : ((freeBelow b s).2).core1 = s.core1 := (rfl)
@[simp] theorem freeBelow_mrc (b : Nat) : ((freeBelow b s).2).mrc = s.mrc := (rfl)
@[simp] theorem freeBelow_evr (b : Nat) : ((freeBelow b s).2).evr = s.evr := (rfl)
@[simp] theorem freeBelow_cku0 (b : Nat) : ((freeBelow b s).2).cku0 = s.cku0 := (rfl)
@[simp] theorem freeBelow_cku1 (b : Nat) : ((freeBelow b s).2).cku1 = s.cku1 := (rfl)
@[simp] theorem freeBelow_dump (b : Nat) : ((freeBelow b s).2).dump = s.dump := (rfl)
@[simp] theorem freeBelow_sec (b : Nat) : ((freeBelow b s).2).sec = s.sec := (rfl)
@[simp] theorem freeBelow_ptn (b : Nat) : ((freeBelow b s).2).ptn = s.ptn := (rfl)
@[simp] theorem freeBelow_tx (b : Nat) : ((freeBelow b s).2).tx = s.tx := (rfl)

/-! ### raiseExt -/

@[simp] theorem raiseExt_part (src d : Nat) (x : Option Nat) : (raiseExt src d x s).part = s.part := by unfold raiseExt; split <;> rfl
@[simp] theorem raiseExt_pending (src d : Nat) (x : Option Nat) : (raiseExt src d x s).pending = s.pending := by unfold raiseExt; split <;> rfl
@[simp] theorem raiseExt_now (src d : Nat) (x : Option Nat) : (raiseExt src d x s).now = s.now := by unfold raiseExt; split <;> rfl
@[simp] theorem raiseExt_ntcFrom (src d : Nat) (x : Option Nat) : (raiseExt src d x s).ntcFrom = s.ntcFrom := by unfold raiseExt; split <;> rfl
@[simp] theorem raiseExt_ntcOn (src d : Nat) (x : Option Nat) : (raiseExt src d x s).ntcOn = s.ntcOn := by unfold raiseExt; split <;> rfl
@[simp] theorem raiseExt_rawHeld (src d : Nat) (x : Option Nat) : (raiseExt src d x s).rawHeld = s.rawHeld := by unfold raiseExt; split <;> rfl
@[simp] theorem raiseExt_regs (src d : Nat) (x : Option Nat) : (raiseExt src d x s).regs = s.regs := by unfold raiseExt; split <;> rfl
@[simp] theorem raiseExt_mem (src d : Nat) (x : Option Nat) : (raiseExt src d x s).mem = s.mem := by unfold raiseExt; split <;> rfl
@[simp] theorem raiseExt_eccBad (src d : Nat) (x : Option Nat) : (raiseExt src d x s).eccBad = s.eccBad := by unfold raiseExt; split <;> rfl
@[simp] theorem raiseExt_dev (src d : Nat) (x : Option Nat) : (raiseExt src d x s).dev = s.dev := by unfold raiseExt; split <;> rfl
@[simp] theorem raiseExt_pilot (src d : Nat) (x : Option Nat) : (raiseExt src d x s).pilot = s.pilot := by unfold raiseExt; split <;> rfl
@[simp] theorem raiseExt_pwc (src d : Nat) (x : Option Nat) : (raiseExt src d x s).pwc = s.pwc := by unfold raiseExt; split <;> rfl
@[simp] theorem raiseExt_thm (src d : Nat) (x : Option Nat) : (raiseExt src d x s).thm = s.thm := by unfold raiseExt; split <;> rfl
@[simp] theorem raiseExt_ras (src d : Nat) (x : Option Nat) : (raiseExt src d x s).ras = s.ras := by unfold raiseExt; split <;> rfl
@[simp] theorem raiseExt_gte (src d : Nat) (x : Option Nat) : (raiseExt src d x s).gte = s.gte := by unfold raiseExt; split <;> rfl
@[simp] theorem raiseExt_zne (src d : Nat) (x : Option Nat) : (raiseExt src d x s).zne = s.zne := by unfold raiseExt; split <;> rfl
@[simp] theorem raiseExt_cor (src d : Nat) (x : Option Nat) : (raiseExt src d x s).cor = s.cor := by unfold raiseExt; split <;> rfl
@[simp] theorem raiseExt_lanes (src d : Nat) (x : Option Nat) : (raiseExt src d x s).lanes = s.lanes := by unfold raiseExt; split <;> rfl
@[simp] theorem raiseExt_tpr (src d : Nat) (x : Option Nat) : (raiseExt src d x s).tpr = s.tpr := by unfold raiseExt; split <;> rfl
@[simp] theorem raiseExt_tiles (src d : Nat) (x : Option Nat) : (raiseExt src d x s).tiles = s.tiles := by unfold raiseExt; split <;> rfl
@[simp] theorem raiseExt_far (src d : Nat) (x : Option Nat) : (raiseExt src d x s).far = s.far := by unfold raiseExt; split <;> rfl
@[simp] theorem raiseExt_swp (src d : Nat) (x : Option Nat) : (raiseExt src d x s).swp = s.swp := by unfold raiseExt; split <;> rfl
@[simp] theorem raiseExt_sns (src d : Nat) (x : Option Nat) : (raiseExt src d x s).sns = s.sns := by unfold raiseExt; split <;> rfl
@[simp] theorem raiseExt_links (src d : Nat) (x : Option Nat) : (raiseExt src d x s).links = s.links := by unfold raiseExt; split <;> rfl
@[simp] theorem raiseExt_ntm (src d : Nat) (x : Option Nat) : (raiseExt src d x s).ntm = s.ntm := by unfold raiseExt; split <;> rfl
@[simp] theorem raiseExt_mbx (src d : Nat) (x : Option Nat) : (raiseExt src d x s).mbx = s.mbx := by unfold raiseExt; split <;> rfl
@[simp] theorem raiseExt_image (src d : Nat) (x : Option Nat) : (raiseExt src d x s).image = s.image := by unfold raiseExt; split <;> rfl
@[simp] theorem raiseExt_waits (src d : Nat) (x : Option Nat) : (raiseExt src d x s).waits = s.waits := by unfold raiseExt; split <;> rfl
@[simp] theorem raiseExt_fender (src d : Nat) (x : Option Nat) : (raiseExt src d x s).fender = s.fender := by unfold raiseExt; split <;> rfl
@[simp] theorem raiseExt_core0 (src d : Nat) (x : Option Nat) : (raiseExt src d x s).core0 = s.core0 := by unfold raiseExt; split <;> rfl
@[simp] theorem raiseExt_core1 (src d : Nat) (x : Option Nat) : (raiseExt src d x s).core1 = s.core1 := by unfold raiseExt; split <;> rfl
@[simp] theorem raiseExt_mrc (src d : Nat) (x : Option Nat) : (raiseExt src d x s).mrc = s.mrc := by unfold raiseExt; split <;> rfl
@[simp] theorem raiseExt_evr (src d : Nat) (x : Option Nat) : (raiseExt src d x s).evr = s.evr := by unfold raiseExt; split <;> rfl
@[simp] theorem raiseExt_cku0 (src d : Nat) (x : Option Nat) : (raiseExt src d x s).cku0 = s.cku0 := by unfold raiseExt; split <;> rfl
@[simp] theorem raiseExt_cku1 (src d : Nat) (x : Option Nat) : (raiseExt src d x s).cku1 = s.cku1 := by unfold raiseExt; split <;> rfl
@[simp] theorem raiseExt_dump (src d : Nat) (x : Option Nat) : (raiseExt src d x s).dump = s.dump := by unfold raiseExt; split <;> rfl
@[simp] theorem raiseExt_sec (src d : Nat) (x : Option Nat) : (raiseExt src d x s).sec = s.sec := by unfold raiseExt; split <;> rfl
@[simp] theorem raiseExt_ptn (src d : Nat) (x : Option Nat) : (raiseExt src d x s).ptn = s.ptn := by unfold raiseExt; split <;> rfl
@[simp] theorem raiseExt_tx (src d : Nat) (x : Option Nat) : (raiseExt src d x s).tx = s.tx := by unfold raiseExt; split <;> rfl
@[simp] theorem raiseExt_freeCnt (src d : Nat) (x : Option Nat) : (raiseExt src d x s).freeCnt = s.freeCnt := by unfold raiseExt; split <;> rfl

/-! ### raise -/

@[simp] theorem raise_part (src d : Nat) : (raise src d s).part = s.part := by unfold raise raiseExt; split <;> rfl
@[simp] theorem raise_pending (src d : Nat) : (raise src d s).pending = s.pending := by unfold raise raiseExt; split <;> rfl
@[simp] theorem raise_now (src d : Nat) : (raise src d s).now = s.now := by unfold raise raiseExt; split <;> rfl
@[simp] theorem raise_ntcFrom (src d : Nat) : (raise src d s).ntcFrom = s.ntcFrom := by unfold raise raiseExt; split <;> rfl
@[simp] theorem raise_ntcOn (src d : Nat) : (raise src d s).ntcOn = s.ntcOn := by unfold raise raiseExt; split <;> rfl
@[simp] theorem raise_rawHeld (src d : Nat) : (raise src d s).rawHeld = s.rawHeld := by unfold raise raiseExt; split <;> rfl
@[simp] theorem raise_regs (src d : Nat) : (raise src d s).regs = s.regs := by unfold raise raiseExt; split <;> rfl
@[simp] theorem raise_mem (src d : Nat) : (raise src d s).mem = s.mem := by unfold raise raiseExt; split <;> rfl
@[simp] theorem raise_eccBad (src d : Nat) : (raise src d s).eccBad = s.eccBad := by unfold raise raiseExt; split <;> rfl
@[simp] theorem raise_dev (src d : Nat) : (raise src d s).dev = s.dev := by unfold raise raiseExt; split <;> rfl
@[simp] theorem raise_pilot (src d : Nat) : (raise src d s).pilot = s.pilot := by unfold raise raiseExt; split <;> rfl
@[simp] theorem raise_pwc (src d : Nat) : (raise src d s).pwc = s.pwc := by unfold raise raiseExt; split <;> rfl
@[simp] theorem raise_thm (src d : Nat) : (raise src d s).thm = s.thm := by unfold raise raiseExt; split <;> rfl
@[simp] theorem raise_ras (src d : Nat) : (raise src d s).ras = s.ras := by unfold raise raiseExt; split <;> rfl
@[simp] theorem raise_gte (src d : Nat) : (raise src d s).gte = s.gte := by unfold raise raiseExt; split <;> rfl
@[simp] theorem raise_zne (src d : Nat) : (raise src d s).zne = s.zne := by unfold raise raiseExt; split <;> rfl
@[simp] theorem raise_cor (src d : Nat) : (raise src d s).cor = s.cor := by unfold raise raiseExt; split <;> rfl
@[simp] theorem raise_lanes (src d : Nat) : (raise src d s).lanes = s.lanes := by unfold raise raiseExt; split <;> rfl
@[simp] theorem raise_tpr (src d : Nat) : (raise src d s).tpr = s.tpr := by unfold raise raiseExt; split <;> rfl
@[simp] theorem raise_tiles (src d : Nat) : (raise src d s).tiles = s.tiles := by unfold raise raiseExt; split <;> rfl
@[simp] theorem raise_far (src d : Nat) : (raise src d s).far = s.far := by unfold raise raiseExt; split <;> rfl
@[simp] theorem raise_swp (src d : Nat) : (raise src d s).swp = s.swp := by unfold raise raiseExt; split <;> rfl
@[simp] theorem raise_sns (src d : Nat) : (raise src d s).sns = s.sns := by unfold raise raiseExt; split <;> rfl
@[simp] theorem raise_links (src d : Nat) : (raise src d s).links = s.links := by unfold raise raiseExt; split <;> rfl
@[simp] theorem raise_ntm (src d : Nat) : (raise src d s).ntm = s.ntm := by unfold raise raiseExt; split <;> rfl
@[simp] theorem raise_mbx (src d : Nat) : (raise src d s).mbx = s.mbx := by unfold raise raiseExt; split <;> rfl
@[simp] theorem raise_image (src d : Nat) : (raise src d s).image = s.image := by unfold raise raiseExt; split <;> rfl
@[simp] theorem raise_waits (src d : Nat) : (raise src d s).waits = s.waits := by unfold raise raiseExt; split <;> rfl
@[simp] theorem raise_fender (src d : Nat) : (raise src d s).fender = s.fender := by unfold raise raiseExt; split <;> rfl
@[simp] theorem raise_core0 (src d : Nat) : (raise src d s).core0 = s.core0 := by unfold raise raiseExt; split <;> rfl
@[simp] theorem raise_core1 (src d : Nat) : (raise src d s).core1 = s.core1 := by unfold raise raiseExt; split <;> rfl
@[simp] theorem raise_mrc (src d : Nat) : (raise src d s).mrc = s.mrc := by unfold raise raiseExt; split <;> rfl
@[simp] theorem raise_evr (src d : Nat) : (raise src d s).evr = s.evr := by unfold raise raiseExt; split <;> rfl
@[simp] theorem raise_cku0 (src d : Nat) : (raise src d s).cku0 = s.cku0 := by unfold raise raiseExt; split <;> rfl
@[simp] theorem raise_cku1 (src d : Nat) : (raise src d s).cku1 = s.cku1 := by unfold raise raiseExt; split <;> rfl
@[simp] theorem raise_dump (src d : Nat) : (raise src d s).dump = s.dump := by unfold raise raiseExt; split <;> rfl
@[simp] theorem raise_sec (src d : Nat) : (raise src d s).sec = s.sec := by unfold raise raiseExt; split <;> rfl
@[simp] theorem raise_ptn (src d : Nat) : (raise src d s).ptn = s.ptn := by unfold raise raiseExt; split <;> rfl
@[simp] theorem raise_tx (src d : Nat) : (raise src d s).tx = s.tx := by unfold raise raiseExt; split <;> rfl
@[simp] theorem raise_freeCnt (src d : Nat) : (raise src d s).freeCnt = s.freeCnt := by unfold raise raiseExt; split <;> rfl

/-! ### fire -/

@[simp] theorem fire_part (src : Nat) : (fire src s).part = s.part := by unfold fire; split <;> rfl
@[simp] theorem fire_pending (src : Nat) : (fire src s).pending = s.pending := by unfold fire; split <;> rfl
@[simp] theorem fire_now (src : Nat) : (fire src s).now = s.now := by unfold fire; split <;> rfl
@[simp] theorem fire_ntcFrom (src : Nat) : (fire src s).ntcFrom = s.ntcFrom := by unfold fire; split <;> rfl
@[simp] theorem fire_ntcOn (src : Nat) : (fire src s).ntcOn = s.ntcOn := by unfold fire; split <;> rfl
@[simp] theorem fire_rawHeld (src : Nat) : (fire src s).rawHeld = s.rawHeld := by unfold fire; split <;> rfl
@[simp] theorem fire_mem (src : Nat) : (fire src s).mem = s.mem := by unfold fire; split <;> rfl
@[simp] theorem fire_eccBad (src : Nat) : (fire src s).eccBad = s.eccBad := by unfold fire; split <;> rfl
@[simp] theorem fire_dev (src : Nat) : (fire src s).dev = s.dev := by unfold fire; split <;> rfl
@[simp] theorem fire_pilot (src : Nat) : (fire src s).pilot = s.pilot := by unfold fire; split <;> rfl
@[simp] theorem fire_pwc (src : Nat) : (fire src s).pwc = s.pwc := by unfold fire; split <;> rfl
@[simp] theorem fire_thm (src : Nat) : (fire src s).thm = s.thm := by unfold fire; split <;> rfl
@[simp] theorem fire_ras (src : Nat) : (fire src s).ras = s.ras := by unfold fire; split <;> rfl
@[simp] theorem fire_gte (src : Nat) : (fire src s).gte = s.gte := by unfold fire; split <;> rfl
@[simp] theorem fire_zne (src : Nat) : (fire src s).zne = s.zne := by unfold fire; split <;> rfl
@[simp] theorem fire_cor (src : Nat) : (fire src s).cor = s.cor := by unfold fire; split <;> rfl
@[simp] theorem fire_lanes (src : Nat) : (fire src s).lanes = s.lanes := by unfold fire; split <;> rfl
@[simp] theorem fire_tpr (src : Nat) : (fire src s).tpr = s.tpr := by unfold fire; split <;> rfl
@[simp] theorem fire_tiles (src : Nat) : (fire src s).tiles = s.tiles := by unfold fire; split <;> rfl
@[simp] theorem fire_far (src : Nat) : (fire src s).far = s.far := by unfold fire; split <;> rfl
@[simp] theorem fire_swp (src : Nat) : (fire src s).swp = s.swp := by unfold fire; split <;> rfl
@[simp] theorem fire_sns (src : Nat) : (fire src s).sns = s.sns := by unfold fire; split <;> rfl
@[simp] theorem fire_links (src : Nat) : (fire src s).links = s.links := by unfold fire; split <;> rfl
@[simp] theorem fire_ntm (src : Nat) : (fire src s).ntm = s.ntm := by unfold fire; split <;> rfl
@[simp] theorem fire_mbx (src : Nat) : (fire src s).mbx = s.mbx := by unfold fire; split <;> rfl
@[simp] theorem fire_image (src : Nat) : (fire src s).image = s.image := by unfold fire; split <;> rfl
@[simp] theorem fire_waits (src : Nat) : (fire src s).waits = s.waits := by unfold fire; split <;> rfl
@[simp] theorem fire_inbox (src : Nat) : (fire src s).inbox = s.inbox := by unfold fire; split <;> rfl
@[simp] theorem fire_fender (src : Nat) : (fire src s).fender = s.fender := by unfold fire; split <;> rfl
@[simp] theorem fire_core0 (src : Nat) : (fire src s).core0 = s.core0 := by unfold fire; split <;> rfl
@[simp] theorem fire_core1 (src : Nat) : (fire src s).core1 = s.core1 := by unfold fire; split <;> rfl
@[simp] theorem fire_mrc (src : Nat) : (fire src s).mrc = s.mrc := by unfold fire; split <;> rfl
@[simp] theorem fire_evr (src : Nat) : (fire src s).evr = s.evr := by unfold fire; split <;> rfl
@[simp] theorem fire_cku0 (src : Nat) : (fire src s).cku0 = s.cku0 := by unfold fire; split <;> rfl
@[simp] theorem fire_cku1 (src : Nat) : (fire src s).cku1 = s.cku1 := by unfold fire; split <;> rfl
@[simp] theorem fire_dump (src : Nat) : (fire src s).dump = s.dump := by unfold fire; split <;> rfl
@[simp] theorem fire_sec (src : Nat) : (fire src s).sec = s.sec := by unfold fire; split <;> rfl
@[simp] theorem fire_ptn (src : Nat) : (fire src s).ptn = s.ptn := by unfold fire; split <;> rfl
@[simp] theorem fire_tx (src : Nat) : (fire src s).tx = s.tx := by unfold fire; split <;> rfl
@[simp] theorem fire_freeCnt (src : Nat) : (fire src s).freeCnt = s.freeCnt := by unfold fire; split <;> rfl

/-! ### setMapBit -/

@[simp] theorem setMapBit_part (lo hi : Fld) (k : Nat) (b : Bool) : (setMapBit lo hi k b s).part = s.part := by unfold setMapBit; split; rfl; split <;> rfl
@[simp] theorem setMapBit_pending (lo hi : Fld) (k : Nat) (b : Bool) : (setMapBit lo hi k b s).pending = s.pending := by unfold setMapBit; split; rfl; split <;> rfl
@[simp] theorem setMapBit_now (lo hi : Fld) (k : Nat) (b : Bool) : (setMapBit lo hi k b s).now = s.now := by unfold setMapBit; split; rfl; split <;> rfl
@[simp] theorem setMapBit_ntcFrom (lo hi : Fld) (k : Nat) (b : Bool) : (setMapBit lo hi k b s).ntcFrom = s.ntcFrom := by unfold setMapBit; split; rfl; split <;> rfl
@[simp] theorem setMapBit_ntcOn (lo hi : Fld) (k : Nat) (b : Bool) : (setMapBit lo hi k b s).ntcOn = s.ntcOn := by unfold setMapBit; split; rfl; split <;> rfl
@[simp] theorem setMapBit_rawHeld (lo hi : Fld) (k : Nat) (b : Bool) : (setMapBit lo hi k b s).rawHeld = s.rawHeld := by unfold setMapBit; split; rfl; split <;> rfl
@[simp] theorem setMapBit_mem (lo hi : Fld) (k : Nat) (b : Bool) : (setMapBit lo hi k b s).mem = s.mem := by unfold setMapBit; split; rfl; split <;> rfl
@[simp] theorem setMapBit_eccBad (lo hi : Fld) (k : Nat) (b : Bool) : (setMapBit lo hi k b s).eccBad = s.eccBad := by unfold setMapBit; split; rfl; split <;> rfl
@[simp] theorem setMapBit_dev (lo hi : Fld) (k : Nat) (b : Bool) : (setMapBit lo hi k b s).dev = s.dev := by unfold setMapBit; split; rfl; split <;> rfl
@[simp] theorem setMapBit_pilot (lo hi : Fld) (k : Nat) (b : Bool) : (setMapBit lo hi k b s).pilot = s.pilot := by unfold setMapBit; split; rfl; split <;> rfl
@[simp] theorem setMapBit_pwc (lo hi : Fld) (k : Nat) (b : Bool) : (setMapBit lo hi k b s).pwc = s.pwc := by unfold setMapBit; split; rfl; split <;> rfl
@[simp] theorem setMapBit_thm (lo hi : Fld) (k : Nat) (b : Bool) : (setMapBit lo hi k b s).thm = s.thm := by unfold setMapBit; split; rfl; split <;> rfl
@[simp] theorem setMapBit_ras (lo hi : Fld) (k : Nat) (b : Bool) : (setMapBit lo hi k b s).ras = s.ras := by unfold setMapBit; split; rfl; split <;> rfl
@[simp] theorem setMapBit_gte (lo hi : Fld) (k : Nat) (b : Bool) : (setMapBit lo hi k b s).gte = s.gte := by unfold setMapBit; split; rfl; split <;> rfl
@[simp] theorem setMapBit_zne (lo hi : Fld) (k : Nat) (b : Bool) : (setMapBit lo hi k b s).zne = s.zne := by unfold setMapBit; split; rfl; split <;> rfl
@[simp] theorem setMapBit_cor (lo hi : Fld) (k : Nat) (b : Bool) : (setMapBit lo hi k b s).cor = s.cor := by unfold setMapBit; split; rfl; split <;> rfl
@[simp] theorem setMapBit_lanes (lo hi : Fld) (k : Nat) (b : Bool) : (setMapBit lo hi k b s).lanes = s.lanes := by unfold setMapBit; split; rfl; split <;> rfl
@[simp] theorem setMapBit_tpr (lo hi : Fld) (k : Nat) (b : Bool) : (setMapBit lo hi k b s).tpr = s.tpr := by unfold setMapBit; split; rfl; split <;> rfl
@[simp] theorem setMapBit_tiles (lo hi : Fld) (k : Nat) (b : Bool) : (setMapBit lo hi k b s).tiles = s.tiles := by unfold setMapBit; split; rfl; split <;> rfl
@[simp] theorem setMapBit_far (lo hi : Fld) (k : Nat) (b : Bool) : (setMapBit lo hi k b s).far = s.far := by unfold setMapBit; split; rfl; split <;> rfl
@[simp] theorem setMapBit_swp (lo hi : Fld) (k : Nat) (b : Bool) : (setMapBit lo hi k b s).swp = s.swp := by unfold setMapBit; split; rfl; split <;> rfl
@[simp] theorem setMapBit_sns (lo hi : Fld) (k : Nat) (b : Bool) : (setMapBit lo hi k b s).sns = s.sns := by unfold setMapBit; split; rfl; split <;> rfl
@[simp] theorem setMapBit_links (lo hi : Fld) (k : Nat) (b : Bool) : (setMapBit lo hi k b s).links = s.links := by unfold setMapBit; split; rfl; split <;> rfl
@[simp] theorem setMapBit_ntm (lo hi : Fld) (k : Nat) (b : Bool) : (setMapBit lo hi k b s).ntm = s.ntm := by unfold setMapBit; split; rfl; split <;> rfl
@[simp] theorem setMapBit_mbx (lo hi : Fld) (k : Nat) (b : Bool) : (setMapBit lo hi k b s).mbx = s.mbx := by unfold setMapBit; split; rfl; split <;> rfl
@[simp] theorem setMapBit_image (lo hi : Fld) (k : Nat) (b : Bool) : (setMapBit lo hi k b s).image = s.image := by unfold setMapBit; split; rfl; split <;> rfl
@[simp] theorem setMapBit_waits (lo hi : Fld) (k : Nat) (b : Bool) : (setMapBit lo hi k b s).waits = s.waits := by unfold setMapBit; split; rfl; split <;> rfl
@[simp] theorem setMapBit_inbox (lo hi : Fld) (k : Nat) (b : Bool) : (setMapBit lo hi k b s).inbox = s.inbox := by unfold setMapBit; split; rfl; split <;> rfl
@[simp] theorem setMapBit_fender (lo hi : Fld) (k : Nat) (b : Bool) : (setMapBit lo hi k b s).fender = s.fender := by unfold setMapBit; split; rfl; split <;> rfl
@[simp] theorem setMapBit_core0 (lo hi : Fld) (k : Nat) (b : Bool) : (setMapBit lo hi k b s).core0 = s.core0 := by unfold setMapBit; split; rfl; split <;> rfl
@[simp] theorem setMapBit_core1 (lo hi : Fld) (k : Nat) (b : Bool) : (setMapBit lo hi k b s).core1 = s.core1 := by unfold setMapBit; split; rfl; split <;> rfl
@[simp] theorem setMapBit_mrc (lo hi : Fld) (k : Nat) (b : Bool) : (setMapBit lo hi k b s).mrc = s.mrc := by unfold setMapBit; split; rfl; split <;> rfl
@[simp] theorem setMapBit_evr (lo hi : Fld) (k : Nat) (b : Bool) : (setMapBit lo hi k b s).evr = s.evr := by unfold setMapBit; split; rfl; split <;> rfl
@[simp] theorem setMapBit_cku0 (lo hi : Fld) (k : Nat) (b : Bool) : (setMapBit lo hi k b s).cku0 = s.cku0 := by unfold setMapBit; split; rfl; split <;> rfl
@[simp] theorem setMapBit_cku1 (lo hi : Fld) (k : Nat) (b : Bool) : (setMapBit lo hi k b s).cku1 = s.cku1 := by unfold setMapBit; split; rfl; split <;> rfl
@[simp] theorem setMapBit_dump (lo hi : Fld) (k : Nat) (b : Bool) : (setMapBit lo hi k b s).dump = s.dump := by unfold setMapBit; split; rfl; split <;> rfl
@[simp] theorem setMapBit_sec (lo hi : Fld) (k : Nat) (b : Bool) : (setMapBit lo hi k b s).sec = s.sec := by unfold setMapBit; split; rfl; split <;> rfl
@[simp] theorem setMapBit_ptn (lo hi : Fld) (k : Nat) (b : Bool) : (setMapBit lo hi k b s).ptn = s.ptn := by unfold setMapBit; split; rfl; split <;> rfl
@[simp] theorem setMapBit_tx (lo hi : Fld) (k : Nat) (b : Bool) : (setMapBit lo hi k b s).tx = s.tx := by unfold setMapBit; split; rfl; split <;> rfl
@[simp] theorem setMapBit_freeCnt (lo hi : Fld) (k : Nat) (b : Bool) : (setMapBit lo hi k b s).freeCnt = s.freeCnt := by unfold setMapBit; split; rfl; split <;> rfl

end Sys2Proof.Machine
end

