-- ==== Sys2Proof/Laws/Tables.lean ====
section
/-! SUPPORT. Sparse tables: what a lookup finds after an update, and that updates keep the keys rising. -/

namespace Sys2Proof.Machine

variable {α : Type}

@[simp] theorem SMap.find_nil (k : Nat) : SMap.find ([] : SMap α) k = none := rfl

theorem SMap.find_put (m : SMap α) (k j : Nat) (v : α) :
    SMap.find (SMap.put m k v) j = if j = k then some v else SMap.find m j := by
  induction m with
  | nil => by_cases h : k = j <;> simp [SMap.put, SMap.find, h, eq_comm]
  | cons c m ih =>
    obtain ⟨i, w⟩ := c
    by_cases h1 : k < i
    · by_cases h : j = k
      · simp [SMap.put, SMap.find, h1, h]
      · simp [SMap.put, SMap.find, h1, h, Ne.symm h]
    · by_cases h2 : k = i
      · subst h2; by_cases h : j = k
        · simp [SMap.put, SMap.find, h]
        · simp [SMap.put, SMap.find, h, Ne.symm h]
      · by_cases h3 : i = j
        · subst h3; simp [SMap.put, SMap.find, h1, h2, Ne.symm h2]
        · simp [SMap.put, SMap.find, h1, h2, h3, ih]

@[simp] theorem SMap.find_put_same (m : SMap α) (k : Nat) (v : α) : SMap.find (SMap.put m k v) k = some v := by
  simp [SMap.find_put]

theorem SMap.getD_put (m : SMap α) (k j : Nat) (v d : α) :
    SMap.getD (SMap.put m k v) j d = if j = k then v else SMap.getD m j d := by
  unfold SMap.getD; rw [SMap.find_put]; split <;> simp

@[simp] theorem SMap.getD_put_same (m : SMap α) (k : Nat) (v d : α) : SMap.getD (SMap.put m k v) k d = v := by
  simp [SMap.getD_put]

theorem SMap.mem_put (m : SMap α) (k : Nat) (v : α) (c : Nat × α) (h : c ∈ SMap.put m k v) :
    c = (k, v) ∨ c ∈ m := by
  induction m with
  | nil => simpa [SMap.put] using h
  | cons b m ih =>
    obtain ⟨i, w⟩ := b
    simp only [SMap.put] at h
    split at h
    · simpa using h
    · split at h
      · simp only [List.mem_cons] at h ⊢; tauto
      · simp only [List.mem_cons] at h ⊢
        rcases h with h | h
        · tauto
        · have := ih h; tauto

theorem SMap.sorted_put (m : SMap α) (k : Nat) (v : α) (h : SMap.Sorted m) : SMap.Sorted (SMap.put m k v) := by
  unfold SMap.Sorted at *
  induction m with
  | nil => simp [SMap.put]
  | cons b m ih =>
    obtain ⟨i, w⟩ := b
    obtain ⟨h1, h2⟩ := List.pairwise_cons.mp h
    simp only [SMap.put]
    split
    · rename_i lt
      refine List.pairwise_cons.mpr ⟨?_, h⟩
      intro c hc
      rcases List.mem_cons.mp hc with rfl | hc
      · exact lt
      · exact lt_trans lt (h1 c hc)
    · split
      · rename_i _ e; subst e
        exact List.pairwise_cons.mpr ⟨h1, h2⟩
      · rename_i n e
        refine List.pairwise_cons.mpr ⟨?_, ih h2⟩
        intro c hc
        rcases SMap.mem_put m k v c hc with rfl | hc
        · exact lt_of_le_of_ne (not_lt.mp n) (Ne.symm e)
        · exact h1 c hc

theorem SMap.mem_del (m : SMap α) (k : Nat) (c : Nat × α) (h : c ∈ SMap.del m k) : c ∈ m := by
  induction m with
  | nil => simp [SMap.del] at h
  | cons b m ih =>
    simp only [SMap.del] at h
    split at h
    · exact List.mem_cons_of_mem _ h
    · rcases List.mem_cons.mp h with rfl | h
      · simp
      · exact List.mem_cons_of_mem _ (ih h)

theorem SMap.sorted_del (m : SMap α) (k : Nat) (h : SMap.Sorted m) : SMap.Sorted (SMap.del m k) := by
  unfold SMap.Sorted at *
  induction m with
  | nil => simp [SMap.del]
  | cons b m ih =>
    obtain ⟨h1, h2⟩ := List.pairwise_cons.mp h
    simp only [SMap.del]
    split
    · exact h2
    · exact List.pairwise_cons.mpr ⟨fun c hc => h1 c (SMap.mem_del m k c hc), ih h2⟩

theorem SMap.sorted_filter (m : SMap α) (p : Nat × α → Bool) (h : SMap.Sorted m) :
    SMap.Sorted (m.filter p) := List.Pairwise.filter p h

/-- In a table whose keys rise, a filter that keeps key `k` keeps what a lookup of it finds. -/
theorem SMap.find_filter (m : SMap α) (p : Nat × α → Bool) (k : Nat) (h : ∀ v, p (k, v) = true) :
    SMap.find (m.filter p) k = SMap.find m k := by
  induction m with
  | nil => rfl
  | cons b m ih =>
    obtain ⟨i, w⟩ := b
    by_cases e : i = k
    · subst e; simp [h, SMap.find]
    · by_cases q : p (i, w) = true
      · simp [q, SMap.find, e, ih]
      · simp [q, SMap.find, e, ih]

/-- A filter that drops key `k` leaves nothing for a lookup of it. -/
theorem SMap.find_filter_none (m : SMap α) (p : Nat × α → Bool) (k : Nat) (h : ∀ v, p (k, v) = false) :
    SMap.find (m.filter p) k = none := by
  induction m with
  | nil => rfl
  | cons b m ih =>
    obtain ⟨i, w⟩ := b
    by_cases e : i = k
    · subst e; simp [h, ih]
    · by_cases q : p (i, w) = true
      · simp [q, SMap.find, e, ih]
      · simp [q, ih]

end Sys2Proof.Machine
end

