-- ==== Sys2Proof/Laws/Registers.lean ====
section
/-! SUPPORT. Register fields: what a read gives after each operation. -/

namespace Sys2Proof.Machine

variable (s : State)

/-- A read after a write: the written field, or one that shares its key, reads the value cut to its width. -/
theorem rd_wr (f g : Fld) (v : Nat) : rd (wr f v s) g = if g.key = f.key then v % 2 ^ f.width else rd s g := by
  simp only [rd, wr, SMap.getD_put]

@[simp] theorem rd_wr_same (f : Fld) (v : Nat) : rd (wr f v s) f = v % 2 ^ f.width := by simp [rd_wr]

theorem rd_wr_ne (f g : Fld) (v : Nat) (h : g.key ≠ f.key) : rd (wr f v s) g = rd s g := by simp [rd_wr, h]

/-- A read sees the register table only. -/
theorem rd_of_regs {s t : State} (h : t.regs = s.regs) (f : Fld) : rd t f = rd s f := by simp [rd, h]

@[simp] theorem rd_setAct (f g : Fld) (v : Nat) : rd (setAct f v s) g = rd s g := rfl
@[simp] theorem rd_send (x : Tx) (g : Fld) : rd (send x s) g = rd s g := rfl
@[simp] theorem rd_stBytes (a : Nat) (bs : Bytes) (g : Fld) : rd (stBytes a bs s) g = rd s g := rfl
@[simp] theorem rd_atTime (t : Nat) (g : Fld) : rd (atTime t s) g = rd s g := rfl
@[simp] theorem rd_freeBelow (b : Nat) (g : Fld) : rd (freeBelow b s).2 g = rd s g := rfl
@[simp] theorem rd_raiseExt (a b : Nat) (x : Option Nat) (g : Fld) : rd (raiseExt a b x s) g = rd s g :=
  rd_of_regs (by simp) g
@[simp] theorem rd_raise (a b : Nat) (g : Fld) : rd (raise a b s) g = rd s g := rd_of_regs (by simp) g

/-- The active copies: what a read gives after an update. -/
theorem act_setAct (f g : Fld) (v : Nat) :
    act (setAct f v s) g = if g.key = f.key then v % 2 ^ f.width else act s g := by
  simp only [act, setAct, SMap.getD_put]

/-! ### Frames -/

theorem RegsBut_wr (f : Fld) (v : Nat) (g : Fld) (h : g.key ≠ f.key) : rd (wr f v s) g = rd s g := rd_wr_ne s f g v h

/-! ### The register table stays sorted -/

theorem regs_sorted_wr (f : Fld) (v : Nat) (h : SMap.Sorted s.regs) : SMap.Sorted (wr f v s).regs :=
  SMap.sorted_put _ _ _ h

/-! ### Operations under a condition and over a list -/

@[simp] theorem when_true (f : State → State) : when true f s = f s := rfl
@[simp] theorem when_false (f : State → State) : when false f s = s := rfl

/-- A quantity that every pass of a loop keeps is the same after the loop. -/
theorem forEach_keeps {α β : Type} (P : State → β) (l : List α) (f : α → State → State)
    (h : ∀ x s, P (f x s) = P s) : P (forEach l f s) = P s := by
  unfold forEach
  induction l generalizing s with
  | nil => rfl
  | cons x l ih => simp only [List.foldl_cons]; rw [ih, h]

/-- A property that every pass of a loop keeps holds after the loop. -/
theorem forEach_invariant {α : Type} (P : State → Prop) (l : List α) (f : α → State → State)
    (h : ∀ x s, P s → P (f x s)) (hs : P s) : P (forEach l f s) := by
  unfold forEach
  induction l generalizing s with
  | nil => exact hs
  | cons x l ih => exact ih _ (h x s hs)

/-- A quantity that `f` keeps is the same after `f` under a condition. -/
theorem when_keeps {β : Type} (P : State → β) (c : Bool) (f : State → State) (h : ∀ s, P (f s) = P s) :
    P (when c f s) = P s := by
  unfold when; split
  · exact h s
  · rfl

end Sys2Proof.Machine
end

