-- ==== Sys2Proof/Laws/Memory.lean ====
section
/-! SUPPORT. Memory: every operation keeps the canonical form, a read after a write gives the byte written, and a
write leaves every other byte alone. -/

namespace Sys2Proof.Machine

/-! ### One byte -/

theorem Memory.get_nil (a : Nat) : Memory.get [] a = Memory.unlisted := rfl

theorem Memory.get_cons (c : Host.Cell) (m : List Host.Cell) (a : Nat) :
    Memory.get (c :: m) a = if c.1 = a then c.2 else Memory.get m a := by
  unfold Memory.get
  by_cases h : c.1 = a <;> simp [h]

/-- A cell list with no cell at `a` reads the unlisted value there. -/
theorem Memory.get_absent (m : List Host.Cell) (a : Nat) (h : ∀ c ∈ m, c.1 ≠ a) : Memory.get m a = Memory.unlisted := by
  induction m with
  | nil => rfl
  | cons c m ih =>
    rw [Memory.get_cons, if_neg (h c (by simp)), ih (fun x hx => h x (by simp [hx]))]

theorem Memory.get_append (l m : List Host.Cell) (a : Nat) :
    Memory.get (l ++ m) a = if ∃ c ∈ l, c.1 = a then Memory.get l a else Memory.get m a := by
  induction l with
  | nil => simp
  | cons c l ih =>
    rw [List.cons_append, Memory.get_cons, Memory.get_cons, ih]
    by_cases h : c.1 = a
    · rw [if_pos h, if_pos ⟨c, by simp, h⟩, if_pos h]
    · rw [if_neg h, if_neg h]
      by_cases k : ∃ x ∈ l, x.1 = a
      · obtain ⟨x, hx, ex⟩ := k
        rw [if_pos ⟨x, hx, ex⟩, if_pos ⟨x, by simp [hx], ex⟩]
      · have : ¬ ∃ x ∈ c :: l, x.1 = a := by
          rintro ⟨x, hx, ex⟩
          rcases List.mem_cons.mp hx with rfl | hx
          · exact h ex
          · exact k ⟨x, hx, ex⟩
        rw [if_neg k, if_neg this]

theorem Memory.get_filter (m : List Host.Cell) (p : Nat → Bool) (a : Nat) :
    Memory.get (m.filter (fun c => p c.1)) a = if p a then Memory.get m a else Memory.unlisted := by
  induction m with
  | nil => simp [Memory.get_nil]
  | cons c m ih =>
    by_cases q : p c.1 = true
    · rw [List.filter_cons_of_pos (by simpa using q), Memory.get_cons, Memory.get_cons, ih]
      by_cases e : c.1 = a
      · subst e; simp [q]
      · simp [e]
    · rw [List.filter_cons_of_neg (by simpa using q), ih, Memory.get_cons]
      by_cases e : c.1 = a
      · subst e; simp [q]
      · simp [e]

/-! ### Cells of a run of bytes -/

theorem Memory.cells_range (a : Nat) (bs : Bytes) :
    ∀ c ∈ Memory.cells a bs, a ≤ c.1 ∧ c.1 < a + bs.length := by
  induction bs generalizing a with
  | nil => simp [Memory.cells]
  | cons b bs ih =>
    intro c hc
    simp only [Memory.cells] at hc
    have step : ∀ c ∈ Memory.cells (a + 1) bs, a ≤ c.1 ∧ c.1 < a + (b :: bs).length := by
      intro c hc; have := ih (a + 1) c hc; simp only [List.length_cons]; omega
    split at hc
    · exact step c hc
    · rcases List.mem_cons.mp hc with rfl | hc
      · simp
      · exact step c hc

theorem Memory.cells_sorted (a : Nat) (bs : Bytes) :
    List.Pairwise (fun x y : Host.Cell => x.1 < y.1) (Memory.cells a bs) := by
  induction bs generalizing a with
  | nil => simp [Memory.cells]
  | cons b bs ih =>
    simp only [Memory.cells]
    split
    · exact ih (a + 1)
    · refine List.pairwise_cons.mpr ⟨?_, ih (a + 1)⟩
      intro c hc; have := (Memory.cells_range (a + 1) bs c hc).1
      change a < c.1; omega

theorem Memory.cells_listed (a : Nat) (bs : Bytes) : ∀ c ∈ Memory.cells a bs, c.2 ≠ Memory.unlisted := by
  induction bs generalizing a with
  | nil => simp [Memory.cells]
  | cons b bs ih =>
    intro c hc
    simp only [Memory.cells] at hc
    split at hc
    · exact ih _ c hc
    · rename_i nb
      rcases List.mem_cons.mp hc with rfl | hc
      · exact nb
      · exact ih _ c hc

theorem Memory.get_cells (a : Nat) (bs : Bytes) (x : Nat) :
    Memory.get (Memory.cells a bs) x = if a ≤ x then (bs[x - a]?).getD Memory.unlisted else Memory.unlisted := by
  induction bs generalizing a with
  | nil => simp [Memory.cells, Memory.get_nil]
  | cons b bs ih =>
    have rest : Memory.get (Memory.cells (a + 1) bs) x =
        if a = x then Memory.unlisted else if a ≤ x then ((b :: bs)[x - a]?).getD Memory.unlisted else Memory.unlisted := by
      rw [ih]
      by_cases e : a = x
      · subst e; simp
      · by_cases l : a ≤ x
        · have : x - a = (x - (a + 1)) + 1 := by omega
          rw [if_pos (by omega), if_neg e, if_pos l, this]; simp
        · rw [if_neg (by omega), if_neg e, if_neg l]
    simp only [Memory.cells]
    split
    · rename_i hb
      rw [rest]
      by_cases e : a = x
      · subst e; simp [hb]
      · simp [e]
    · rw [Memory.get_cons, rest]
      by_cases e : a = x
      · subst e; simp
      · simp [e]

/-! ### Stores -/

/-- A read after a store: inside the run the byte stored, outside it the byte before. -/
theorem Memory.get_put (m : List Host.Cell) (a : Nat) (bs : Bytes) (x : Nat) :
    Memory.get (Memory.put m a bs) x =
      if a ≤ x ∧ x < a + bs.length then (bs[x - a]?).getD Memory.unlisted else Memory.get m x := by
  unfold Memory.put
  rw [List.append_assoc, Memory.get_append, Memory.get_append]
  have f1 := Memory.get_filter m (fun k => decide (k < a)) x
  have f2 := Memory.get_filter m (fun k => decide (a + bs.length ≤ k)) x
  have hc := Memory.get_cells a bs x
  rcases Nat.lt_or_ge x a with l | g
  · rw [if_neg (c := a ≤ x ∧ x < a + bs.length) (by omega)]
    by_cases k : ∃ c ∈ m.filter (fun c => decide (c.1 < a)), c.1 = x
    · rw [if_pos k, f1]; simp [l]
    · rw [if_neg k, if_neg]
      · rw [f2]
        have : Memory.get (m.filter (fun c => decide (c.1 < a))) x = Memory.unlisted :=
          Memory.get_absent _ _ (fun c hc e => k ⟨c, hc, e⟩)
        rw [f1] at this
        simp only [l, decide_true, if_true] at this
        rw [this]; simp
      · rintro ⟨c, hc, e⟩; have := (Memory.cells_range a bs c hc).1; omega
  · have k1 : ¬ ∃ c ∈ m.filter (fun c => decide (c.1 < a)), c.1 = x := by
      rintro ⟨c, hc, e⟩; have := (List.mem_filter.mp hc).2; simp at this; omega
    rw [if_neg k1]
    by_cases i : x < a + bs.length
    · rw [if_pos (c := a ≤ x ∧ x < a + bs.length) ⟨g, i⟩]
      split
      · rw [hc, if_pos g]
      · rename_i k
        rw [f2]
        have : Memory.get (Memory.cells a bs) x = Memory.unlisted :=
          Memory.get_absent _ _ (fun c hc e => k ⟨c, hc, e⟩)
        rw [hc, if_pos g] at this
        rw [this]; simp [Nat.not_le.mpr i]
    · rw [if_neg (c := a ≤ x ∧ x < a + bs.length) (by omega), if_neg]
      · rw [f2]; simp [Nat.not_lt.mp i]
      · rintro ⟨c, hc, e⟩; have := (Memory.cells_range a bs c hc).2; omega

theorem Memory.wf_iff (m : List Host.Cell) :
    Memory.wf m = true ↔ List.Pairwise (fun x y : Host.Cell => x.1 < y.1) m ∧ ∀ c ∈ m, c.2 ≠ Memory.unlisted := by
  unfold Memory.wf
  simp [List.all_eq_true]

theorem Memory.wf_filter (m : List Host.Cell) (p : Host.Cell → Bool) (h : Memory.wf m = true) :
    Memory.wf (m.filter p) = true := by
  rw [Memory.wf_iff] at *
  exact ⟨List.Pairwise.filter p h.1, fun c hc => h.2 c (List.mem_filter.mp hc).1⟩

/-- A store keeps the canonical form. -/
theorem Memory.wf_put (m : List Host.Cell) (a : Nat) (bs : Bytes) (h : Memory.wf m = true) :
    Memory.wf (Memory.put m a bs) = true := by
  rw [Memory.wf_iff] at *
  unfold Memory.put
  simp only
  refine ⟨List.pairwise_append.mpr ⟨List.pairwise_append.mpr ⟨h.1.filter _, Memory.cells_sorted a bs, ?_⟩, h.1.filter _, ?_⟩, ?_⟩
  · intro x hx y hy
    have := (List.mem_filter.mp hx).2; have := (Memory.cells_range a bs y hy).1
    simp only [decide_eq_true_eq] at *; omega
  · intro x hx y hy
    have hy2 := (List.mem_filter.mp hy).2
    simp only [decide_eq_true_eq] at hy2
    rcases List.mem_append.mp hx with hx | hx
    · have := (List.mem_filter.mp hx).2; simp only [decide_eq_true_eq] at this; omega
    · have := (Memory.cells_range a bs x hx).2; omega
  · intro c hc
    rcases List.mem_append.mp hc with hc | hc
    · rcases List.mem_append.mp hc with hc | hc
      · exact h.2 c (List.mem_filter.mp hc).1
      · exact Memory.cells_listed a bs c hc
    · exact h.2 c (List.mem_filter.mp hc).1

/-- Clearing a run keeps the canonical form. -/
theorem Memory.wf_clear (m : List Host.Cell) (a n : Nat) (h : Memory.wf m = true) :
    Memory.wf (Memory.clear m a n) = true := by
  rw [Memory.wf_iff] at *
  unfold Memory.clear
  refine ⟨List.pairwise_append.mpr ⟨h.1.filter _, h.1.filter _, ?_⟩, ?_⟩
  · intro x hx y hy
    have h1 := (List.mem_filter.mp hx).2; have h2 := (List.mem_filter.mp hy).2
    simp only [decide_eq_true_eq] at *; omega
  · intro c hc
    rcases List.mem_append.mp hc with hc | hc <;> exact h.2 c (List.mem_filter.mp hc).1

/-- The memory right after reset stands in the canonical form. -/
theorem Memory.wf_reset : Memory.wf State.reset.mem = true := by decide

/-! ### Runs of bytes -/

theorem Memory.spread_eq (a n : Nat) (cs : List Host.Cell)
    (hs : List.Pairwise (fun x y : Host.Cell => x.1 < y.1) cs) (hr : ∀ c ∈ cs, a ≤ c.1) :
    Memory.spread a n cs = (List.range n).map (fun i => Memory.get cs (a + i)) := by
  induction n generalizing a cs with
  | zero => simp [Memory.spread]
  | succ k ih =>
    rw [List.range_succ_eq_map, List.map_cons, List.map_map]
    cases cs with
    | nil =>
      simp only [Memory.spread]
      rw [List.replicate_succ]
      congr 1
      symm
      rw [List.eq_replicate_iff]
      simp [Memory.get_nil]
    | cons c cs =>
      simp only [Memory.spread]
      obtain ⟨p1, p2⟩ := List.pairwise_cons.mp hs
      split
      · rename_i e
        congr 1
        · simp [Memory.get_cons, e]
        · rw [ih (a + 1) cs p2 (fun x hx => by have := p1 x hx; omega)]
          refine List.map_congr_left (fun i _ => ?_)
          simp only [Function.comp, Memory.get_cons]
          rw [if_neg (by omega)]
          congr 1; omega
      · rename_i e
        have lt : a < c.1 := by have := hr c (by simp); omega
        congr 1
        · rw [Memory.get_absent]
          intro x hx
          rcases List.mem_cons.mp hx with rfl | hx
          · omega
          · have := p1 x hx; omega
        · rw [ih (a + 1) (c :: cs) hs ?_]
          · refine List.map_congr_left (fun i _ => ?_)
            simp only [Function.comp]
            congr 1; omega
          · intro x hx
            rcases List.mem_cons.mp hx with rfl | hx
            · omega
            · have := p1 x hx; omega

/-- In a memory that stands in the canonical form, a run of bytes is the bytes one by one. -/
theorem ldBytes_eq (s : State) (a n : Nat) (h : Memory.wf s.mem = true) :
    ldBytes s a n = (List.range n).map (fun i => ldByte s (a + i)) := by
  unfold ldBytes ldByte
  rw [Memory.wf_iff] at h
  rw [Memory.spread_eq a n _ (h.1.filter _) (fun c hc => by
    have := (List.mem_filter.mp hc).2; simp only [Bool.and_eq_true, decide_eq_true_eq] at this; exact this.1)]
  refine List.map_congr_left (fun i hi => ?_)
  have := Memory.get_filter s.mem (fun k => decide (a ≤ k) && decide (k < a + n)) (a + i)
  rw [this]
  have : i < n := List.mem_range.mp hi
  simp [this]

/-! ### The pixel store (R553) -/

variable (s : State)

theorem psWrite_of_sound (a : Nat) (bs : Bytes) (h1 : eccBadAt s a = false)
    (h2 : eccBadAt s ((a + bs.length - 1) / 8 * 8) = false) (h : bs ≠ []) :
    psWrite a bs s = { s with mem := Memory.put s.mem a bs
                              eccBad := s.eccBad.filter (fun w => !(a ≤ w && w + 8 ≤ a + bs.length)) } := by
  unfold psWrite
  have : bs.isEmpty = false := by cases bs <;> simp_all
  simp [this, h1, h2]

theorem psWrite_keeps {β : Type} (P : State → β)
    (h1 : ∀ (m : List Host.Cell) (e : List Nat) (s : State), P { s with mem := m, eccBad := e } = P s)
    (h2 : ∀ a b s, P (raise a b s) = P s) (a : Nat) (bs : Bytes) : P (psWrite a bs s) = P s := by
  unfold psWrite
  split
  · rfl
  · simp only []
    rw [when_keeps _ P _ _ (h2 _ _), when_keeps _ P _ _ (h2 _ _), h1]

theorem psWrite_wf (a : Nat) (bs : Bytes) (h : Memory.wf s.mem = true) : Memory.wf (psWrite a bs s).mem = true := by
  unfold psWrite
  split
  · exact h
  · simp only []
    rw [when_keeps _ State.mem _ _ (by simp), when_keeps _ State.mem _ _ (by simp)]
    exact Memory.wf_put _ _ _ h

end Sys2Proof.Machine
end

