-- ==== Sys2Proof/Laws/Operations.lean ====
section
/-! SUPPORT. What each shared operation of the meanings can do, said once: messages and wires, whole words in the pixel store,
completions and waiters, what follows a row, tiles, sets and partner frames. -/

namespace Sys2Proof.Machine

variable (s : State)

/-! ### Registers and frames -/

theorem RegsBut.refl (fs : List Fld) : RegsBut fs s s := fun _ _ => rfl

theorem RegsBut.trans {fs : List Fld} {s t u : State} (h : RegsBut fs s t) (k : RegsBut fs t u) : RegsBut fs s u :=
  fun f hf => (k f hf).trans (h f hf)

theorem RegsBut.mono {fs gs : List Fld} {s t : State} (h : RegsBut fs s t) (hg : ∀ f ∈ fs, f ∈ gs) : RegsBut gs s t :=
  fun f hf => h f (fun g hm => hf g (hg g hm))

/-- A write of a field of the list keeps every field outside it. -/
theorem RegsBut.wr {fs : List Fld} {s t : State} {f : Fld} {v : Nat} (h : RegsBut fs s t) (hf : f ∈ fs) :
    RegsBut fs s (wr f v t) :=
  fun g hg => (rd_wr_ne t f g v (hg f hf)).trans (h g hg)

/-- A saturating counter counts one. -/
theorem counts_satInc (f : Fld) (h : rd s f < 2 ^ f.width) : Counts f s (satInc f 1 s) := by
  have hp : 1 ≤ 2 ^ f.width := Nat.one_le_two_pow
  simp only [Counts, satInc, satAdd, rd_wr_same]
  exact Nat.mod_eq_of_lt (by omega)

/-! ### Messages and wires -/

/-- A known source leaves exactly one message behind those on their way. -/
theorem raise_known {source detail : Nat} {r : FaultRow} (h : faultRow source = some r) :
    raise source detail s = { s with inbox := s.inbox ++ [⟨source, r.kind, detail % 65536, none⟩] } := by
  simp only [raise, raiseExt, h]

/-- A partner frame leaves with the next CNT where a partner lane is up, and nothing happens otherwise (R513). -/
theorem sendPtn_up (ty : Nat) (b : Bytes) (hp : pairOp s = true) (he : rdb s Reg.PTN_CTRL_EN = true)
    (hl : rd s (Reg.TLK_LN_STATUS_LINK 64) = 2 ∨ rd s (Reg.TLK_LN_STATUS_LINK 65) = 2) :
    sendPtn ty b s =
      { s with ptn := { s.ptn with txCnt := s.ptn.txCnt + 1 }, tx := s.tx ++ [.ptn ty s.ptn.txCnt b] } := by
  rcases hl with hl | hl <;> simp [sendPtn, send, hp, he, hl]

/-! ### Whole words in the pixel store (R553) -/

/-- A write of whole words never fails: its bytes are stored and its words read correctly afterwards. -/
theorem psWrite_words (a : Nat) (bs : Bytes) (ha : a % 8 = 0) (hb : bs.length % 8 = 0) (hn : bs ≠ []) :
    psWrite a bs s = { s with mem := Memory.put s.mem a bs
                              eccBad := s.eccBad.filter (fun w => !(a ≤ w && w + 8 ≤ a + bs.length)) } := by
  have hl : 8 ≤ bs.length := by
    have : 0 < bs.length := List.length_pos_iff.mpr hn
    omega
  have he : bs.isEmpty = false := by cases bs <;> simp_all
  have h1 : a / 8 * 8 = a := by omega
  have h2 : ¬ a + bs.length < (a + bs.length - 1) / 8 * 8 + 8 := by omega
  have h3 : a + 8 ≤ a + bs.length := by omega
  unfold psWrite
  simp [he, h1, h2, h3]

/-! ### Completions and the commands that wait -/

/-- A descriptor that asks for no record draws none for OK or DEFERRED (R308). -/
theorem complete_silent (q : Cpl) (status d0 d1 : Nat) (h : q.cpl = false) (hs : status = 0 ∨ status = 6) :
    complete q status d0 d1 s = s := by
  rcases hs with rfl | rfl <;> simp [complete, h]

/-- With no channel reset waiting there is nothing to settle (R323). -/
theorem channelSettle_idle (h : ∀ c, c < 5 → rd s (Reg.HIF_MB_CTRL_RESET c) = 0) : channelSettle s = s := by
  have h0 := h 0 (by decide); have h1 := h 1 (by decide); have h2 := h 2 (by decide)
  have h3 := h 3 (by decide); have h4 := h 4 (by decide)
  simp [channelSettle, forEach, List.range, List.range.loop, rdb, h0, h1, h2, h3, h4]

/-- Where no command waits, an event that would complete some changes nothing. -/
theorem finish_none (p : Waiter → Bool) (status : Nat) (det : Waiter → Nat × Nat) (h : NoneRuns s) :
    finish p status det s = s := by
  obtain ⟨hw, hr⟩ := h
  have : ({ s with waits := s.waits.filter (fun w => !p w) } : State) = s := by cases s; simp_all
  simp only [finish, this]
  simp [hw, forEach, channelSettle_idle s hr]

theorem finishKind_none (p : WaitKind → Bool) (status d0 d1 : Nat) (h : NoneRuns s) :
    finishKind p status d0 d1 s = s := finish_none s _ _ _ h

/-- NoneRuns sees the waiters and the registers only. -/
theorem NoneRuns.congr {s t : State} (h : NoneRuns s) (hw : t.waits = s.waits)
    (hr : ∀ c, c < 5 → rd t (Reg.HIF_MB_CTRL_RESET c) = rd s (Reg.HIF_MB_CTRL_RESET c)) : NoneRuns t :=
  ⟨hw.trans h.1, fun c hc => (hr c hc).trans (h.2 c hc)⟩

/-! ### What follows a row (R321, R341) -/

/-- Where nothing waits, nothing follows a row but what it did. -/
theorem settle_none (e : Env) (ran : Bool) (t : State) (h : NothingWaits t) : settle e ran s t = t := by
  obtain ⟨hd, hw⟩ := h
  unfold settle
  split
  · have : settleWithdraw t = t := by simp [settleWithdraw, hw]
    rw [this, hd]
    have hm : ({ t with mbx := { t.mbx with deferred := [] } } : State) = t := by rw [← hd]
    simp only [rerun, hd, List.find?_nil, noteReasons, List.map_nil, hm]
  · rfl

theorem settled_none (e : Env) (f : State → State) (h : NothingWaits (f s)) : settled e f s = f s :=
  settle_none s e false (f s) h

theorem settled_still (e : Env) (f : State → State) (h : stateMoved s (f s) = false) : settled e f s = f s := by
  simp [settled, settle, h]

theorem settledFree_still (f : State → State) (h : stateMoved s (f s) = false) : settledFree f s = f s := by
  simp [settledFree, h]

/-- A row that moves the device takes one free value. -/
theorem settledFree_moved (f : State → State) (h : stateMoved s (f s) = true) (hn : NothingWaits (f s)) :
    settledFree f s = { f s with freeCnt := (f s).freeCnt + 1 } := by
  simp only [settledFree, h, if_true]
  exact settle_none s _ false _ hn

/-! ### Tiles -/

@[simp] theorem tileOf_setTile_same (n : Nat) (x : Tile) : tileOf (setTile n x s) n = x := by
  simp [tileOf, setTile]

@[simp] theorem tileOf_setTile_ne (n m : Nat) (x : Tile) (h : m ≠ n) : tileOf (setTile n x s) m = tileOf s m := by
  simp [tileOf, setTile, SMap.getD_put, h]

/-- A broadcast set at the selected port: a bad one is counted, a good one acts on the tile in sync (R221). -/
theorem bsetArrives_selected (n k : Nat) (b : BSet) (either : Bool) (f : Tile → State → State) (ho : tileOn s n = true) :
    bsetArrives n (tileOf s n).port k b either f s =
      if b.err || b.chk != setChk k b.args then
        setTile n { tileOf s n with badSet := min 255 ((tileOf s n).badSet + 1) } s
      else f { tileOf s n with sync := true } (setTile n { tileOf s n with sync := true } s) := by
  simp [bsetArrives, ho]

/-- A set at the other port is not acted on, unless the row says that either port counts (R237). -/
theorem bsetArrives_other (n port k : Nat) (b : BSet) (f : Tile → State → State) (hp : port ≠ (tileOf s n).port) :
    bsetArrives n port k b false f s = s := by
  unfold bsetArrives; split <;> simp [hp]

/-- Nothing reaches a tile that is absent or unpowered. -/
theorem bsetArrives_off (n port k : Nat) (b : BSet) (either : Bool) (f : Tile → State → State) (ho : tileOn s n = false) :
    bsetArrives n port k b either f s = s := by
  simp [bsetArrives, ho]

/-- A command set: ignored off the selected port, counted when bad, and otherwise acknowledged with the result of its action
(R224, R225). -/
theorem csetArrives_cases (n port opc : Nat) (c : CSet) (f : Tile → Tile × Nat) :
    csetArrives n port opc c f s =
      if tileOn s n = false ∨ port ≠ (tileOf s n).port then s
      else if c.err = true ∨ c.crc ≠ csetCrc opc c then
        setTile n { tileOf s n with badSet := min 255 ((tileOf s n).badSet + 1) } s
      else
        let r := f { tileOf s n with sync := true }
        sendUp n 3 (leBytes 1 opc ++ leBytes 1 c.tag ++ leBytes 1 r.2 ++ zeroBytes 1) (setTile n r.1 s) := by
  unfold csetArrives
  by_cases ho : tileOn s n = false <;> by_cases hp : port = (tileOf s n).port <;>
    by_cases he : c.err = true <;> by_cases hc : c.crc = csetCrc opc c <;> simp [ho, hp, he, hc]

/-! ### Partner frames (R513) -/

/-- The state in which an accepted frame acts: its copy shows on its lane, the link is up, its CNT is the last one accepted. -/
def frameTaken (lane : Nat) (f : PtnFrame) (s : State) : State :=
  { s with ptn := { s.ptn with rxCnt := some f.cnt } }
    |> wr (if lane = 64 then Reg.PTN_STATUS_LANE64 else Reg.PTN_STATUS_LANE65) 1 |> wr Reg.PTN_STATUS_LINK 1

theorem acceptFrame_deaf (lane ty : Nat) (f : PtnFrame) (k : State → State) (h : ptnHears s lane = false) :
    acceptFrame lane ty f k s = s := by simp [acceptFrame, h]

theorem acceptFrame_bad (lane ty : Nat) (f : PtnFrame) (k : State → State) (h : ptnHears s lane = true)
    (hb : f.crcOk = false ∨ ptnTagOk s ty f = false) : acceptFrame lane ty f k s = satInc Reg.PTN_AUTHERR_COUNT 1 s := by
  rcases hb with hb | hb <;> simp [acceptFrame, h, hb]

theorem acceptFrame_good (lane ty : Nat) (f : PtnFrame) (k : State → State) (h : ptnHears s lane = true)
    (hc : f.crcOk = true) (ht : ptnTagOk s ty f = true) (hn : ∀ c, s.ptn.rxCnt = some c → c < f.cnt) :
    acceptFrame lane ty f k s = k (frameTaken lane f s) := by
  have hm : ∀ (g : Fld), ¬ (match (wr g 1 s).ptn.rxCnt with | some c => decide (f.cnt ≤ c) | none => false) = true := by
    intro g
    change ¬ (match s.ptn.rxCnt with | some c => decide (f.cnt ≤ c) | none => false) = true
    cases hr : s.ptn.rxCnt with
    | none => simp
    | some c => simpa using hn c hr
  rw [acceptFrame, h, hc, ht]
  exact if_neg (hm _)

/-! ### The hold-up check (R489) -/

/-- A measurement of VHOLD writes its two results only. -/
theorem holdMeasure_frame (e : Env) :
    OnlyRegs [Reg.MRC_HOLDST_VMEAS, Reg.MRC_HOLDE_VALUE] s (holdMeasure e s) :=
  ⟨rfl, ((RegsBut.refl s _).wr (by simp)).wr (by simp)⟩

/-- The check with the energy measured depends on the configuration of the hold-up and on VHOLD only. -/
theorem holdCovers_congr {s t : State} (e : Env) (lines : Nat) (hc : rd t Reg.MRC_HOLDCFG_CUF = rd s Reg.MRC_HOLDCFG_CUF)
    (hv : rd t Reg.MRC_HOLDCFG_VMIN = rd s Reg.MRC_HOLDCFG_VMIN) :
    holdCovers (holdMeasure e t) lines = holdCovers (holdMeasure e s) lines := by
  simp only [holdCovers, holdMeasure, rd_wr_same, hc, hv]

end Sys2Proof.Machine
end

