-- ==== Sys2Proof/WellFormed.lean ====
section
/-! DEFINITION. Well-formed commands: every operand lies in the range that the field of the spec it stands for
can hold. -/

namespace Sys2Proof

/-- A descriptor of R307: channel 0 to 4, a ring slot, a 16-bit TAG, the FLAGS byte, LEN 0 to 44, 44 parameter
bytes, the 32-bit deadline and ATAG. -/
def descOk (d : Desc) : Bool :=
  decide (d.ch < 5 ∧ d.slot < 64 ∧ d.tag < 65536 ∧ d.flags < 256 ∧ d.len < 256 ∧ d.params.length = 44 ∧
    d.deadline < 2 ^ 32 ∧ d.atag < 2 ^ 64)

/-- VHOLD is 16 bits of mV (R489). -/
def envOk (e : Env) : Bool := decide (e.vhold < 65536)

/-- The fields of a hatch header (R276). -/
def hatchOk (h : HatchHdr) : Bool :=
  decide (h.port < 2 ∧ h.srcIp < 2 ^ 32 ∧ h.srcPort < 65536 ∧ h.udpLen < 65536 ∧ h.magic < 65536 ∧ h.ver < 256 ∧
    h.seq < 2 ^ 32 ∧ h.len < 65536 ∧ h.status < 256 ∧ h.resv < 256 ∧ h.addr < 2 ^ 32)

/-- The fields of a line packet (R218): 128 codes of two bytes. -/
def linePktOk (p : LinePkt) : Bool :=
  decide (p.seq < 2 ^ 32 ∧ p.line < 256 ∧ p.flags < 256 ∧ p.codes.length = 256 ∧ p.crc < 2 ^ 32)

/-- The fields of a broadcast set (R221). -/
def bsetOk (b : BSet) : Bool := decide (b.args.length = 6 ∧ b.chk < 256)

/-- The fields of a command set (R224). -/
def csetOk (c : CSet) : Bool := decide (c.tag < 256 ∧ c.payload.length ≤ 260 ∧ c.crc < 2 ^ 32)

/-- The fields of a partner frame (R513). -/
def ptnFrameOk (f : PtnFrame) : Bool := decide (f.cnt < 2 ^ 32 ∧ f.tag < 2 ^ 64)

/-- The fields of a fault message (R415). -/
def fmsgOk (m : FMsg) : Bool :=
  decide (m.source < 512 ∧ m.kind < 128 ∧ m.detail < 65536 ∧ m.ext.getD 0 < 2 ^ 32)

/-- An SA that MKA installs: AN 0 to 3 and a 16-byte or 32-byte SAK (R273). -/
def sakOk (x : Option MkaSak) : Bool :=
  match x with
  | some k => decide (k.an < 4 ∧ k.sci < 2 ^ 64 ∧ (k.sak.length = 16 ∨ k.sak.length = 32))
  | none => true

/-- The command is well-formed. -/
def Instr.wellFormed (i : Instr) : Bool :=
  match i with
  | .vpilotEnterRange _ => true
  | .vpilotLeaveRange => true
  | .porstNLow => true
  | .porstNRise _ => true
  | .pgCoreRise => true
  | .pgCoreFall => true
  | .pgCoreTimeout => true
  | .wakeRetryDelay => true
  | .refStable => true
  | .refTimeout => true
  | .refRetry _ => true
  | .refStop => true
  | .bootEntry _ _ => true
  | .bootRomChecks => true
  | .bindingLoad e => envOk e
  | .lightReqRise e => envOk e
  | .lightReqFall e => envOk e
  | .fb0LightTimer _ => true
  | .wakeInput => true
  | .rtcAlarmMatch => true
  | .rtcTick => true
  | .recoveryTimer => true
  | .safeInNFall e => envOk e
  | .safeInNRise => true
  | .hostAwakeFall => true
  | .hostAwakeRise => true
  | .hostAwakeRelease => true
  | .startTestsDone e failStep => envOk e && decide (failStep < 8)
  | .lineStart _ => true
  | .commitSample => true
  | .contentStart e => envOk e
  | .tileLineRender _ line _ _ => decide (line < 128)
  | .renderDeadlineMiss _ line => decide (line < 128)
  | .broadcastSlot _ _ => true
  | .rasEvtFire n => decide (n < 4)
  | .commitGoWrite => true
  | .commitCancel => true
  | .phaseWrite _ => true
  | .fcntRead => true
  | .avtpPacket port _ p => decide (port < 2) && decide (p.sid < 2 ^ 64 ∧ p.seqNo < 256 ∧ p.pt < 2 ^ 32 ∧ p.widthCode < 4 ∧ p.row < 4096)
  | .baseStaleTimer _ => true
  | .hatchCmd h descs => hatchOk h && descs.all (fun x => x.length == 64)
  | .hatchRead h count resv => hatchOk h && decide (count < 65536) && decide (resv < 65536)
  | .hatchWrite h _ => hatchOk h
  | .spiRead hdr _ => decide (hdr.length = 8)
  | .spiWrite hdr _ dcrc _ => decide (hdr.length = 8) && decide (dcrc < 2 ^ 32)
  | .canBeamFrame id _ data => decide (id < 2 ^ 29) && decide (data.length ≤ 64)
  | .canStatusFrame => true
  | .canBusoff => true
  | .canBusoffRecovery => true
  | .ethLink port rate => decide (port < 2) && decide (rate < 4)
  | .gptpFrame port _ _ => decide (port < 2)
  | .arpRequest port senderIp senderMac targetIp => decide (port < 2) && decide (senderIp < 2 ^ 32) && decide (senderMac < 2 ^ 48) && decide (targetIp < 2 ^ 32)
  | .icmpEcho port srcIp dstIp _ => decide (port < 2) && decide (srcIp < 2 ^ 32) && decide (dstIp < 2 ^ 32)
  | .ntmApplyStep n _ => decide (n < 2)
  | .ntmApplySet n _ => decide (n < 2)
  | .activeDomainWrite n _ => decide (n < 2)
  | .domainStateWrite n st _ => decide (n < 2) && decide (st < 4)
  | .ntmSnap _ => true
  | .ttoArmWrite n _ _ => decide (n < 4)
  | .ttoEdge n _ => decide (n < 4)
  | .ppsCapture _ => true
  | .ppsRawLoRead => true
  | .doorbell _ ch v => decide (ch < 5) && decide (v < 65536)
  | .cplrpWrite _ ch v => decide (ch < 5) && decide (v < 65536)
  | .descriptorTake e => envOk e
  | .moderationTimer ch => decide (ch < 5)
  | .deferExpired ch tag _ => decide (ch < 5) && decide (tag < 65536)
  | .mbxChannelReset _ ch => decide (ch < 5)
  | .pendClear _ mask => decide (mask < 32)
  | .stateGet d e => descOk d && envOk e
  | .perfSet d e => descOk d && envOk e
  | .serviceEnter d e => descOk d && envOk e
  | .serviceExit d e => descOk d && envOk e
  | .standstillSet d e => descOk d && envOk e
  | .standstillHoldExpiry e => envOk e
  | .lightOn d e => descOk d && envOk e
  | .lightOff d e => descOk d && envOk e
  | .reset d e => descOk d && envOk e
  | .resetDelay => true
  | .sleep d e => descOk d && envOk e
  | .sleepGo _ => true
  | .handshakeAnswer block ans code _ => decide (block < 32) && decide (1 ≤ ans ∧ ans ≤ 3) && decide (code < 256)
  | .handshakeDelayExpiry block _ => decide (block < 32)
  | .sleepEntry => true
  | .bindingInfo d e => descOk d && envOk e
  | .tipinSelect d e => descOk d && envOk e
  | .imageBegin d e => descOk d && envOk e
  | .imageData d e => descOk d && envOk e
  | .imageEnd d e => descOk d && envOk e
  | .streamStatus d e => descOk d && envOk e
  | .directSet d e => descOk d && envOk e
  | .zonePut d e => descOk d && envOk e
  | .zoneGatherTimeout ch => decide (ch < 5)
  | .zoneClearAll d e => descOk d && envOk e
  | .zoneStatus d e => descOk d && envOk e
  | .znePublish _ _ => true
  | .levelStaleTimer _ => true
  | .glyphLoad d e => descOk d && envOk e
  | .glyphPlace d e => descOk d && envOk e
  | .glyphHide d e => descOk d && envOk e
  | .envscaleSet d e => descOk d && envOk e
  | .meshSelect d e => descOk d && envOk e
  | .pitchUpdate d e => descOk d && envOk e
  | .levelStatus d e => descOk d && envOk e
  | .commit d e => descOk d && envOk e
  | .timingSet d e => descOk d && envOk e
  | .phaseSet d e => descOk d && envOk e
  | .frameGet d e => descOk d && envOk e
  | .calStatus d e => descOk d && envOk e
  | .calRound d e => descOk d && envOk e
  | .calResetLane d e => descOk d && envOk e
  | .wearPass d e => descOk d && envOk e
  | .diagSummary d e => descOk d && envOk e
  | .pixelQuery d e => descOk d && envOk e
  | .groupStatus d e => descOk d && envOk e
  | .windowMap d e => descOk d && envOk e
  | .recStatus d e => descOk d && envOk e
  | .dumpClear d e => descOk d && envOk e
  | .ckuScan d e => descOk d && envOk e
  | .timeGet d e => descOk d && envOk e
  | .domainSelect d e => descOk d && envOk e
  | .ttoArm d e => descOk d && envOk e
  | .rtcAlarm d e => descOk d && envOk e
  | .faultGet d e => descOk d && envOk e
  | .faultClear d e => descOk d && envOk e
  | .severitySet d e => descOk d && envOk e
  | .fenderStatus d e => descOk d && envOk e
  | .fallbackOff d e => descOk d && envOk e
  | .safeTest d e => descOk d && envOk e
  | .laneStatus d e => descOk d && envOk e
  | .laneTrain d e => descOk d && envOk e
  | .laneTest d e => descOk d && envOk e
  | .laneTestEnd n => decide (n < 66)
  | .tileSet d e => descOk d && envOk e
  | .tileResume d e => descOk d && envOk e
  | .tileRefsel d e => descOk d && envOk e
  | .pairStatus d e => descOk d && envOk e
  | .pairHandover d e => descOk d && envOk e
  | .ptnDigest d e => descOk d && envOk e
  | .ptnAdopt d e => descOk d && envOk e
  | .ptnBarrier d e => descOk d && envOk e
  | .lcGet d e => descOk d && envOk e
  | .lcAdvance d e => descOk d && envOk e
  | .fwSelect d e => descOk d && envOk e
  | .tmxSelect d e => descOk d && envOk e
  | .lanePllLock => true
  | .lanePllLoss e => envOk e
  | .tlkTrainWrite n => decide (n < 66)
  | .tsbReceive n set _ => decide (n < 66) && decide (set.length = 7)
  | .trainAttemptTimeout n => decide (n < 66)
  | .trainIdleEnd n => decide (n < 66)
  | .rxSyncAcquire n => decide (n < 66)
  | .laneRxLoss n => decide (n < 66)
  | .laneErrSecond counts => decide (counts.length ≤ 132)
  | .slipWrite n => decide (n < 66)
  | .txOnWrite n _ => decide (n < 66)
  | .rxOnWrite n _ => decide (n < 66)
  | .loopbackWrite n lb => decide (n < 66) && decide (lb < 4)
  | .prbsWrite n pat => decide (n < 66) && decide (pat < 4)
  | .inservWrite n _ => decide (n < 64)
  | .bcastPlate _ lane cause => decide (lane < 64) && decide (cause < 256)
  | .bcastCoast _ lane cause => decide (lane < 64) && decide (cause < 256)
  | .bcastWipe _ lane cause => decide (lane < 64) && decide (cause < 256)
  | .snapReq id => decide (id < 256)
  | .cmdqPush _ lane opc len => decide (lane < 64) && decide (opc < 256) && decide (len < 512)
  | .darkrowGo lane phase row => decide (lane < 64) && decide (phase < 256) && decide (row < 128)
  | .ackTimeout n => decide (n < 64)
  | .lstat n pkt => decide (n < 64) && decide (pkt.payload.length ≤ 288 ∧ pkt.crc < 2 ^ 32)
  | .ftel n _ pkt drop => decide (n < 64) && decide (pkt.payload.length ≤ 288 ∧ pkt.crc < 2 ^ 32) && decide (drop < 2 ^ 32)
  | .ack n pkt => decide (n < 64) && decide (pkt.payload.length ≤ 288 ∧ pkt.crc < 2 ^ 32)
  | .snapr n pkt => decide (n < 64) && decide (pkt.payload.length ≤ 288 ∧ pkt.crc < 2 ^ 32)
  | .classqRead => true
  | .updDataWrite data => decide (data < 65536)
  | .atEnWrite _ => true
  | .wearPassTimer e => envOk e
  | .snsCalTimer => true
  | .snsCalStepDone elem _ => decide (elem < 16)
  | .snsCalStepTimeout => true
  | .fenderIngress _ => true
  | .fenderZoneApply zid _ => decide (zid < 64)
  | .fenderVerdict _ => true
  | .fenderHeartbeat _ => true
  | .fenderLostTimer => true
  | .fenderClkCheck _ => true
  | .darkPathTimer => true
  | .emberEdge => true
  | .tgenTestTimer => true
  | .tgenPulseEnd _ _ => true
  | .fbCheckTimer mids => decide (mids.length = 2)
  | .fbPulseTimer ch => decide (ch < 2)
  | .fbPulseEnd ch _ => decide (ch < 2)
  | .faultMessage e m more => envOk e && fmsgOk m && more.all fmsgOk
  | .fclClearWrite => true
  | .ashDump e => envOk e
  | .lockstepMismatch part => decide (part < 2)
  | .watchdogExpiry tgt => decide (tgt < 2)
  | .wdkickWrite tgt v _ => decide (tgt < 2) && decide (v < 2 ^ 32)
  | .wdogEnWrite tgt _ _ => decide (tgt < 2)
  | .s1RunWrite _ _ => true
  | .irqAccept tgt => decide (tgt < 2)
  | .mret tgt => decide (tgt < 2)
  | .fret tgt => decide (tgt < 2)
  | .setpWrite _ w _ => decide (w < 6)
  | .clrpWrite _ w _ => decide (w < 6)
  | .srcTargetWrite _ src _ => decide (src < 192)
  | .wfi tgt => decide (tgt < 2)
  | .coreWake tgt src => decide (tgt < 2) && decide (src < 192)
  | .strandedTimer src => decide (src < 192)
  | .plChangeDone => true
  | .domainPowerUp dom _ => decide (dom < 10)
  | .domoffWrite mask _ => decide (mask < 1024)
  | .padrelWrite => true
  | .fbOffreqWrite => true
  | .thmSample n _ _ _ _ => decide (n < 9)
  | .damperEscalate _ => true
  | .damperDwell _ => true
  | .sensorSelfTest failed => decide (failed < 512)
  | .mrcWgoWrite e => envOk e
  | .mrcBurstDone e _ => envOk e
  | .evrWrite e _ => envOk e
  | .evrRetry e _ => envOk e
  | .ckuGo _ n => decide (n < 2)
  | .ckuScanDone n => decide (n < 2)
  | .ckuInitWrite n => decide (n < 2)
  | .ckuDataWrite n _ => decide (n < 2)
  | .lockSet _ addr _ => decide (addr % 4 = 0 ∧ addr < 2 ^ 32)
  | .registerWrite _ addr _ => decide (addr % 4 = 0 ∧ addr < 2 ^ 32)
  | .hello lane _ f => (lane == 64 || lane == 65) && ptnFrameOk f
  | .helloTimer => true
  | .digest lane _ f => (lane == 64 || lane == 65) && ptnFrameOk f
  | .adopt lane f => (lane == 64 || lane == 65) && ptnFrameOk f
  | .barrier lane f => (lane == 64 || lane == 65) && ptnFrameOk f
  | .stage lane f => (lane == 64 || lane == 65) && ptnFrameOk f
  | .zpub lane _ f => (lane == 64 || lane == 65) && ptnFrameOk f
  | .pitch lane _ f => (lane == 64 || lane == 65) && ptnFrameOk f
  | .updq lane f => (lane == 64 || lane == 65) && ptnFrameOk f
  | .gov lane f => (lane == 64 || lane == 65) && ptnFrameOk f
  | .tcmd lane f => (lane == 64 || lane == 65) && ptnFrameOk f
  | .handover lane _ f => (lane == 64 || lane == 65) && ptnFrameOk f
  | .taken lane _ f => (lane == 64 || lane == 65) && ptnFrameOk f
  | .partnerLinkLoss _ => true
  | .withdrawTimeout _ => true
  | .tilePowerUp n => decide (n < 64)
  | .tileLinePacket n port p => decide (n < 64) && decide (port < 2) && linePktOk p
  | .tilePhaseBoundary n _ => decide (n < 64)
  | .flip n port b => decide (n < 64) && decide (port < 2) && bsetOk b
  | .seam n port b => decide (n < 64) && decide (port < 2) && bsetOk b
  | .abort n port b => decide (n < 64) && decide (port < 2) && bsetOk b
  | .snap n port b => decide (n < 64) && decide (port < 2) && bsetOk b
  | .plate n port b => decide (n < 64) && decide (port < 2) && bsetOk b
  | .coast n port b => decide (n < 64) && decide (port < 2) && bsetOk b
  | .switch n port b => decide (n < 64) && decide (port < 2) && bsetOk b
  | .tilePortAutoSwitch n => decide (n < 64)
  | .cfg n port c => decide (n < 64) && decide (port < 2) && csetOk c
  | .wipe n port c => decide (n < 64) && decide (port < 2) && csetOk c
  | .resume n port c => decide (n < 64) && decide (port < 2) && csetOk c
  | .selwr n port c => decide (n < 64) && decide (port < 2) && csetOk c
  | .probes n port c => decide (n < 64) && decide (port < 2) && csetOk c
  | .darkrow n port c => decide (n < 64) && decide (port < 2) && csetOk c
  | .refsel n port c => decide (n < 64) && decide (port < 2) && csetOk c
  | .platecap n port c => decide (n < 64) && decide (port < 2) && csetOk c
  | .tileCoastExpiry n => decide (n < 64)
  | .tileNobcastTimeout n => decide (n < 64)
  | .tileSyncLoss n => decide (n < 64)
  | .tileSupplyLoss n => decide (n < 64)
  | .tilePlateCheck n => decide (n < 64)
  | .tileFreeFtel n => decide (n < 64)
  | .pairActChange _ => true
  | .ptnBarrierTimeout => true
  | .pairHandoverTimeout => true
  | .handshakeNoanswer block _ => decide (block < 32)
  | .pmicEnLowWait => true
  | .ttoPulseEnd n => decide (n < 4)
  | .dpauseExpiry e => envOk e
  | .tsaReceive n set _ => decide (n < 66) && decide (set.length = 7)
  | .tileLoopbackExit n => decide (n < 64)
  | .mkaFrame port sak => decide (port < 2) && sakOk sak
  | .ethFrameDiscard port _ => decide (port < 2)

end Sys2Proof
end

