-- ==== Sys2Proof/Laws/PerInstr.lean ====
section
/-! SUPPORT. The family Operands: what the form of a command says of the descriptor and of the surroundings that it
carries, one lemma per constructor. -/

namespace Sys2Proof.Laws.Operands

/-- The descriptor that a mailbox command carries and the surroundings of a command, where it has them. -/
def parts (i : Instr) : Option Desc × Option Env :=
  match i with
  | .vpilotEnterRange _ => (none, none)
  | .vpilotLeaveRange => (none, none)
  | .porstNLow => (none, none)
  | .porstNRise _ => (none, none)
  | .pgCoreRise => (none, none)
  | .pgCoreFall => (none, none)
  | .pgCoreTimeout => (none, none)
  | .wakeRetryDelay => (none, none)
  | .refStable => (none, none)
  | .refTimeout => (none, none)
  | .refRetry _ => (none, none)
  | .refStop => (none, none)
  | .bootEntry _ _ => (none, none)
  | .bootRomChecks => (none, none)
  | .bindingLoad e => (none, some e)
  | .lightReqRise e => (none, some e)
  | .lightReqFall e => (none, some e)
  | .fb0LightTimer _ => (none, none)
  | .wakeInput => (none, none)
  | .rtcAlarmMatch => (none, none)
  | .rtcTick => (none, none)
  | .recoveryTimer => (none, none)
  | .safeInNFall e => (none, some e)
  | .safeInNRise => (none, none)
  | .hostAwakeFall => (none, none)
  | .hostAwakeRise => (none, none)
  | .hostAwakeRelease => (none, none)
  | .startTestsDone e _ => (none, some e)
  | .lineStart _ => (none, none)
  | .commitSample => (none, none)
  | .contentStart e => (none, some e)
  | .tileLineRender _ _ _ _ => (none, none)
  | .renderDeadlineMiss _ _ => (none, none)
  | .broadcastSlot _ _ => (none, none)
  | .rasEvtFire _ => (none, none)
  | .commitGoWrite => (none, none)
  | .commitCancel => (none, none)
  | .phaseWrite _ => (none, none)
  | .fcntRead => (none, none)
  | .avtpPacket _ _ _ => (none, none)
  | .baseStaleTimer _ => (none, none)
  | .hatchCmd _ _ => (none, none)
  | .hatchRead _ _ _ => (none, none)
  | .hatchWrite _ _ => (none, none)
  | .spiRead _ _ => (none, none)
  | .spiWrite _ _ _ _ => (none, none)
  | .canBeamFrame _ _ _ => (none, none)
  | .canStatusFrame => (none, none)
  | .canBusoff => (none, none)
  | .canBusoffRecovery => (none, none)
  | .ethLink _ _ => (none, none)
  | .gptpFrame _ _ _ => (none, none)
  | .arpRequest _ _ _ _ => (none, none)
  | .icmpEcho _ _ _ _ => (none, none)
  | .ntmApplyStep _ _ => (none, none)
  | .ntmApplySet _ _ => (none, none)
  | .activeDomainWrite _ _ => (none, none)
  | .domainStateWrite _ _ _ => (none, none)
  | .ntmSnap _ => (none, none)
  | .ttoArmWrite _ _ _ => (none, none)
  | .ttoEdge _ _ => (none, none)
  | .ppsCapture _ => (none, none)
  | .ppsRawLoRead => (none, none)
  | .doorbell _ _ _ => (none, none)
  | .cplrpWrite _ _ _ => (none, none)
  | .descriptorTake e => (none, some e)
  | .moderationTimer _ => (none, none)
  | .deferExpired _ _ _ => (none, none)
  | .mbxChannelReset _ _ => (none, none)
  | .pendClear _ _ => (none, none)
  | .stateGet d e => (some d, some e)
  | .perfSet d e => (some d, some e)
  | .serviceEnter d e => (some d, some e)
  | .serviceExit d e => (some d, some e)
  | .standstillSet d e => (some d, some e)
  | .standstillHoldExpiry e => (none, some e)
  | .lightOn d e => (some d, some e)
  | .lightOff d e => (some d, some e)
  | .reset d e => (some d, some e)
  | .resetDelay => (none, none)
  | .sleep d e => (some d, some e)
  | .sleepGo _ => (none, none)
  | .handshakeAnswer _ _ _ _ => (none, none)
  | .handshakeDelayExpiry _ _ => (none, none)
  | .sleepEntry => (none, none)
  | .bindingInfo d e => (some d, some e)
  | .tipinSelect d e => (some d, some e)
  | .imageBegin d e => (some d, some e)
  | .imageData d e => (some d, some e)
  | .imageEnd d e => (some d, some e)
  | .streamStatus d e => (some d, some e)
  | .directSet d e => (some d, some e)
  | .zonePut d e => (some d, some e)
  | .zoneGatherTimeout _ => (none, none)
  | .zoneClearAll d e => (some d, some e)
  | .zoneStatus d e => (some d, some e)
  | .znePublish _ _ => (none, none)
  | .levelStaleTimer _ => (none, none)
  | .glyphLoad d e => (some d, some e)
  | .glyphPlace d e => (some d, some e)
  | .glyphHide d e => (some d, some e)
  | .envscaleSet d e => (some d, some e)
  | .meshSelect d e => (some d, some e)
  | .pitchUpdate d e => (some d, some e)
  | .levelStatus d e => (some d, some e)
  | .commit d e => (some d, some e)
  | .timingSet d e => (some d, some e)
  | .phaseSet d e => (some d, some e)
  | .frameGet d e => (some d, some e)
  | .calStatus d e => (some d, some e)
  | .calRound d e => (some d, some e)
  | .calResetLane d e => (some d, some e)
  | .wearPass d e => (some d, some e)
  | .diagSummary d e => (some d, some e)
  | .pixelQuery d e => (some d, some e)
  | .groupStatus d e => (some d, some e)
  | .windowMap d e => (some d, some e)
  | .recStatus d e => (some d, some e)
  | .dumpClear d e => (some d, some e)
  | .ckuScan d e => (some d, some e)
  | .timeGet d e => (some d, some e)
  | .domainSelect d e => (some d, some e)
  | .ttoArm d e => (some d, some e)
  | .rtcAlarm d e => (some d, some e)
  | .faultGet d e => (some d, some e)
  | .faultClear d e => (some d, some e)
  | .severitySet d e => (some d, some e)
  | .fenderStatus d e => (some d, some e)
  | .fallbackOff d e => (some d, some e)
  | .safeTest d e => (some d, some e)
  | .laneStatus d e => (some d, some e)
  | .laneTrain d e => (some d, some e)
  | .laneTest d e => (some d, some e)
  | .laneTestEnd _ => (none, none)
  | .tileSet d e => (some d, some e)
  | .tileResume d e => (some d, some e)
  | .tileRefsel d e => (some d, some e)
  | .pairStatus d e => (some d, some e)
  | .pairHandover d e => (some d, some e)
  | .ptnDigest d e => (some d, some e)
  | .ptnAdopt d e => (some d, some e)
  | .ptnBarrier d e => (some d, some e)
  | .lcGet d e => (some d, some e)
  | .lcAdvance d e => (some d, some e)
  | .fwSelect d e => (some d, some e)
  | .tmxSelect d e => (some d, some e)
  | .lanePllLock => (none, none)
  | .lanePllLoss e => (none, some e)
  | .tlkTrainWrite _ => (none, none)
  | .tsbReceive _ _ _ => (none, none)
  | .trainAttemptTimeout _ => (none, none)
  | .trainIdleEnd _ => (none, none)
  | .rxSyncAcquire _ => (none, none)
  | .laneRxLoss _ => (none, none)
  | .laneErrSecond _ => (none, none)
  | .slipWrite _ => (none, none)
  | .txOnWrite _ _ => (none, none)
  | .rxOnWrite _ _ => (none, none)
  | .loopbackWrite _ _ => (none, none)
  | .prbsWrite _ _ => (none, none)
  | .inservWrite _ _ => (none, none)
  | .bcastPlate _ _ _ => (none, none)
  | .bcastCoast _ _ _ => (none, none)
  | .bcastWipe _ _ _ => (none, none)
  | .snapReq _ => (none, none)
  | .cmdqPush _ _ _ _ => (none, none)
  | .darkrowGo _ _ _ => (none, none)
  | .ackTimeout _ => (none, none)
  | .lstat _ _ => (none, none)
  | .ftel _ _ _ _ => (none, none)
  | .ack _ _ => (none, none)
  | .snapr _ _ => (none, none)
  | .classqRead => (none, none)
  | .updDataWrite _ => (none, none)
  | .atEnWrite _ => (none, none)
  | .wearPassTimer e => (none, some e)
  | .snsCalTimer => (none, none)
  | .snsCalStepDone _ _ => (none, none)
  | .snsCalStepTimeout => (none, none)
  | .fenderIngress _ => (none, none)
  | .fenderZoneApply _ _ => (none, none)
  | .fenderVerdict _ => (none, none)
  | .fenderHeartbeat _ => (none, none)
  | .fenderLostTimer => (none, none)
  | .fenderClkCheck _ => (none, none)
  | .darkPathTimer => (none, none)
  | .emberEdge => (none, none)
  | .tgenTestTimer => (none, none)
  | .tgenPulseEnd _ _ => (none, none)
  | .fbCheckTimer _ => (none, none)
  | .fbPulseTimer _ => (none, none)
  | .fbPulseEnd _ _ => (none, none)
  | .faultMessage e _ _ => (none, some e)
  | .fclClearWrite => (none, none)
  | .ashDump e => (none, some e)
  | .lockstepMismatch _ => (none, none)
  | .watchdogExpiry _ => (none, none)
  | .wdkickWrite _ _ _ => (none, none)
  | .wdogEnWrite _ _ _ => (none, none)
  | .s1RunWrite _ _ => (none, none)
  | .irqAccept _ => (none, none)
  | .mret _ => (none, none)
  | .fret _ => (none, none)
  | .setpWrite _ _ _ => (none, none)
  | .clrpWrite _ _ _ => (none, none)
  | .srcTargetWrite _ _ _ => (none, none)
  | .wfi _ => (none, none)
  | .coreWake _ _ => (none, none)
  | .strandedTimer _ => (none, none)
  | .plChangeDone => (none, none)
  | .domainPowerUp _ _ => (none, none)
  | .domoffWrite _ _ => (none, none)
  | .padrelWrite => (none, none)
  | .fbOffreqWrite => (none, none)
  | .thmSample _ _ _ _ _ => (none, none)
  | .damperEscalate _ => (none, none)
  | .damperDwell _ => (none, none)
  | .sensorSelfTest _ => (none, none)
  | .mrcWgoWrite e => (none, some e)
  | .mrcBurstDone e _ => (none, some e)
  | .evrWrite e _ => (none, some e)
  | .evrRetry e _ => (none, some e)
  | .ckuGo _ _ => (none, none)
  | .ckuScanDone _ => (none, none)
  | .ckuInitWrite _ => (none, none)
  | .ckuDataWrite _ _ => (none, none)
  | .lockSet _ _ _ => (none, none)
  | .registerWrite _ _ _ => (none, none)
  | .hello _ _ _ => (none, none)
  | .helloTimer => (none, none)
  | .digest _ _ _ => (none, none)
  | .adopt _ _ => (none, none)
  | .barrier _ _ => (none, none)
  | .stage _ _ => (none, none)
  | .zpub _ _ _ => (none, none)
  | .pitch _ _ _ => (none, none)
  | .updq _ _ => (none, none)
  | .gov _ _ => (none, none)
  | .tcmd _ _ => (none, none)
  | .handover _ _ _ => (none, none)
  | .taken _ _ _ => (none, none)
  | .partnerLinkLoss _ => (none, none)
  | .withdrawTimeout _ => (none, none)
  | .tilePowerUp _ => (none, none)
  | .tileLinePacket _ _ _ => (none, none)
  | .tilePhaseBoundary _ _ => (none, none)
  | .flip _ _ _ => (none, none)
  | .seam _ _ _ => (none, none)
  | .abort _ _ _ => (none, none)
  | .snap _ _ _ => (none, none)
  | .plate _ _ _ => (none, none)
  | .coast _ _ _ => (none, none)
  | .switch _ _ _ => (none, none)
  | .tilePortAutoSwitch _ => (none, none)
  | .cfg _ _ _ => (none, none)
  | .wipe _ _ _ => (none, none)
  | .resume _ _ _ => (none, none)
  | .selwr _ _ _ => (none, none)
  | .probes _ _ _ => (none, none)
  | .darkrow _ _ _ => (none, none)
  | .refsel _ _ _ => (none, none)
  | .platecap _ _ _ => (none, none)
  | .tileCoastExpiry _ => (none, none)
  | .tileNobcastTimeout _ => (none, none)
  | .tileSyncLoss _ => (none, none)
  | .tileSupplyLoss _ => (none, none)
  | .tilePlateCheck _ => (none, none)
  | .tileFreeFtel _ => (none, none)
  | .pairActChange _ => (none, none)
  | .ptnBarrierTimeout => (none, none)
  | .pairHandoverTimeout => (none, none)
  | .handshakeNoanswer _ _ => (none, none)
  | .pmicEnLowWait => (none, none)
  | .ttoPulseEnd _ => (none, none)
  | .dpauseExpiry e => (none, some e)
  | .tsaReceive _ _ _ => (none, none)
  | .tileLoopbackExit _ => (none, none)
  | .mkaFrame _ _ => (none, none)
  | .ethFrameDiscard _ _ => (none, none)

/-- A well-formed command names one of the 5 channels and 64 ring slots, brings the 44 parameter bytes of R307, and VHOLD is a
16-bit number of mV (R489). -/
def Statement (i : Instr) : Prop :=
  i.wellFormed = true →
    (∀ d, (parts i).1 = some d → d.ch < 5 ∧ d.slot < 64 ∧ d.params.length = 44) ∧
      ∀ e, (parts i).2 = some e → e.vhold < 65536

theorem of_none {i : Instr} (h : parts i = (none, none)) : Statement i := by
  intro _; rw [h]; exact ⟨fun _ hd => (Option.some_ne_none _ hd.symm).elim, fun _ he => (Option.some_ne_none _ he.symm).elim⟩

theorem of_env {i : Instr} {e : Env} (h : parts i = (none, some e)) (w : i.wellFormed = true → envOk e = true) : Statement i := by
  intro hi; rw [h]
  exact ⟨fun _ hd => (Option.some_ne_none _ hd.symm).elim, fun _ he => by
    rw [← Option.some.inj he]; exact of_decide_eq_true (w hi)⟩

theorem of_both {i : Instr} {d : Desc} {e : Env} (h : parts i = (some d, some e))
    (w : i.wellFormed = (descOk d && envOk e)) : Statement i := by
  intro hi; rw [h]; rw [w, Bool.and_eq_true] at hi
  refine ⟨fun _ hd => ?_, fun _ he => ?_⟩
  · rw [← Option.some.inj hd]
    have := of_decide_eq_true hi.1
    exact ⟨this.1, this.2.1, this.2.2.2.2.2.1⟩
  · rw [← Option.some.inj he]; exact of_decide_eq_true hi.2

theorem vpilotEnterRange (pairId : Bool) : Statement (.vpilotEnterRange pairId) := of_none rfl
theorem vpilotLeaveRange : Statement (.vpilotLeaveRange) := of_none rfl
theorem porstNLow : Statement (.porstNLow) := of_none rfl
theorem porstNRise (lowForMs : Nat) : Statement (.porstNRise lowForMs) := of_none rfl
theorem pgCoreRise : Statement (.pgCoreRise) := of_none rfl
theorem pgCoreFall : Statement (.pgCoreFall) := of_none rfl
theorem pgCoreTimeout : Statement (.pgCoreTimeout) := of_none rfl
theorem wakeRetryDelay : Statement (.wakeRetryDelay) := of_none rfl
theorem refStable : Statement (.refStable) := of_none rfl
theorem refTimeout : Statement (.refTimeout) := of_none rfl
theorem refRetry (runs : Bool) : Statement (.refRetry runs) := of_none rfl
theorem refStop : Statement (.refStop) := of_none rfl
theorem bootEntry (t : Nat) (pairId : Bool) : Statement (.bootEntry t pairId) := of_none rfl
theorem bootRomChecks : Statement (.bootRomChecks) := of_none rfl
theorem bindingLoad (e : Env) : Statement (.bindingLoad e) := of_env rfl id
theorem lightReqRise (e : Env) : Statement (.lightReqRise e) := of_env rfl id
theorem lightReqFall (e : Env) : Statement (.lightReqFall e) := of_env rfl id
theorem fb0LightTimer (mid : Mid) : Statement (.fb0LightTimer mid) := of_none rfl
theorem wakeInput : Statement (.wakeInput) := of_none rfl
theorem rtcAlarmMatch : Statement (.rtcAlarmMatch) := of_none rfl
theorem rtcTick : Statement (.rtcTick) := of_none rfl
theorem recoveryTimer : Statement (.recoveryTimer) := of_none rfl
theorem safeInNFall (e : Env) : Statement (.safeInNFall e) := of_env rfl id
theorem safeInNRise : Statement (.safeInNRise) := of_none rfl
theorem hostAwakeFall : Statement (.hostAwakeFall) := of_none rfl
theorem hostAwakeRise : Statement (.hostAwakeRise) := of_none rfl
theorem hostAwakeRelease : Statement (.hostAwakeRelease) := of_none rfl
theorem startTestsDone (e : Env) (failStep : Nat) : Statement (.startTestsDone e failStep) := of_env rfl (fun h => by simp only [Instr.wellFormed, Bool.and_eq_true] at h; simp only [h])
theorem lineStart (t : Nat) : Statement (.lineStart t) := of_none rfl
theorem commitSample : Statement (.commitSample) := of_none rfl
theorem contentStart (e : Env) : Statement (.contentStart e) := of_env rfl id
theorem tileLineRender (east : Bool) (line : Nat) (clocks : Nat) (backlog : Nat) : Statement (.tileLineRender east line clocks backlog) := of_none rfl
theorem renderDeadlineMiss (east : Bool) (line : Nat) : Statement (.renderDeadlineMiss east line) := of_none rfl
theorem broadcastSlot (t : Nat) (imeas : List Nat) : Statement (.broadcastSlot t imeas) := of_none rfl
theorem rasEvtFire (n : Nat) : Statement (.rasEvtFire n) := of_none rfl
theorem commitGoWrite : Statement (.commitGoWrite) := of_none rfl
theorem commitCancel : Statement (.commitCancel) := of_none rfl
theorem phaseWrite (v : Word) : Statement (.phaseWrite v) := of_none rfl
theorem fcntRead : Statement (.fcntRead) := of_none rfl
theorem avtpPacket (port : Nat) (t : Nat) (p : AvtpPkt) : Statement (.avtpPacket port t p) := of_none rfl
theorem baseStaleTimer (t : Nat) : Statement (.baseStaleTimer t) := of_none rfl
theorem hatchCmd (h : HatchHdr) (descs : List Bytes) : Statement (.hatchCmd h descs) := of_none rfl
theorem hatchRead (h : HatchHdr) (count : Nat) (resv : Nat) : Statement (.hatchRead h count resv) := of_none rfl
theorem hatchWrite (h : HatchHdr) (data : Bytes) : Statement (.hatchWrite h data) := of_none rfl
theorem spiRead (hdr : Bytes) (cut : Bool) : Statement (.spiRead hdr cut) := of_none rfl
theorem spiWrite (hdr : Bytes) (data : Bytes) (dcrc : Nat) (cut : Bool) : Statement (.spiWrite hdr data dcrc cut) := of_none rfl
theorem canBeamFrame (id : Nat) (ext : Bool) (data : Bytes) : Statement (.canBeamFrame id ext data) := of_none rfl
theorem canStatusFrame : Statement (.canStatusFrame) := of_none rfl
theorem canBusoff : Statement (.canBusoff) := of_none rfl
theorem canBusoffRecovery : Statement (.canBusoffRecovery) := of_none rfl
theorem ethLink (port : Nat) (rate : Nat) : Statement (.ethLink port rate) := of_none rfl
theorem gptpFrame (port : Nat) (t : Nat) (tx : Bool) : Statement (.gptpFrame port t tx) := of_none rfl
theorem arpRequest (port : Nat) (senderIp : Nat) (senderMac : Nat) (targetIp : Nat) : Statement (.arpRequest port senderIp senderMac targetIp) := of_none rfl
theorem icmpEcho (port : Nat) (srcIp : Nat) (dstIp : Nat) (payload : Bytes) : Statement (.icmpEcho port srcIp dstIp payload) := of_none rfl
theorem ntmApplyStep (n : Nat) (t : Nat) : Statement (.ntmApplyStep n t) := of_none rfl
theorem ntmApplySet (n : Nat) (t : Nat) : Statement (.ntmApplySet n t) := of_none rfl
theorem activeDomainWrite (n : Nat) (t : Nat) : Statement (.activeDomainWrite n t) := of_none rfl
theorem domainStateWrite (n : Nat) (st : Nat) (t : Nat) : Statement (.domainStateWrite n st t) := of_none rfl
theorem ntmSnap (t : Nat) : Statement (.ntmSnap t) := of_none rfl
theorem ttoArmWrite (n : Nat) (v : Word) (t : Nat) : Statement (.ttoArmWrite n v t) := of_none rfl
theorem ttoEdge (n : Nat) (t : Nat) : Statement (.ttoEdge n t) := of_none rfl
theorem ppsCapture (t : Nat) : Statement (.ppsCapture t) := of_none rfl
theorem ppsRawLoRead : Statement (.ppsRawLoRead) := of_none rfl
theorem doorbell (who : Master) (ch : Nat) (v : Nat) : Statement (.doorbell who ch v) := of_none rfl
theorem cplrpWrite (who : Master) (ch : Nat) (v : Nat) : Statement (.cplrpWrite who ch v) := of_none rfl
theorem descriptorTake (e : Env) : Statement (.descriptorTake e) := of_env rfl id
theorem moderationTimer (ch : Nat) : Statement (.moderationTimer ch) := of_none rfl
theorem deferExpired (ch : Nat) (tag : Nat) (t : Nat) : Statement (.deferExpired ch tag t) := of_none rfl
theorem mbxChannelReset (who : Master) (ch : Nat) : Statement (.mbxChannelReset who ch) := of_none rfl
theorem pendClear (who : Master) (mask : Nat) : Statement (.pendClear who mask) := of_none rfl
theorem stateGet (d : Desc) (e : Env) : Statement (.stateGet d e) := of_both rfl rfl
theorem perfSet (d : Desc) (e : Env) : Statement (.perfSet d e) := of_both rfl rfl
theorem serviceEnter (d : Desc) (e : Env) : Statement (.serviceEnter d e) := of_both rfl rfl
theorem serviceExit (d : Desc) (e : Env) : Statement (.serviceExit d e) := of_both rfl rfl
theorem standstillSet (d : Desc) (e : Env) : Statement (.standstillSet d e) := of_both rfl rfl
theorem standstillHoldExpiry (e : Env) : Statement (.standstillHoldExpiry e) := of_env rfl id
theorem lightOn (d : Desc) (e : Env) : Statement (.lightOn d e) := of_both rfl rfl
theorem lightOff (d : Desc) (e : Env) : Statement (.lightOff d e) := of_both rfl rfl
theorem reset (d : Desc) (e : Env) : Statement (.reset d e) := of_both rfl rfl
theorem resetDelay : Statement (.resetDelay) := of_none rfl
theorem sleep (d : Desc) (e : Env) : Statement (.sleep d e) := of_both rfl rfl
theorem sleepGo (t : Nat) : Statement (.sleepGo t) := of_none rfl
theorem handshakeAnswer (block : Nat) (ans : Nat) (code : Nat) (t : Nat) : Statement (.handshakeAnswer block ans code t) := of_none rfl
theorem handshakeDelayExpiry (block : Nat) (t : Nat) : Statement (.handshakeDelayExpiry block t) := of_none rfl
theorem sleepEntry : Statement (.sleepEntry) := of_none rfl
theorem bindingInfo (d : Desc) (e : Env) : Statement (.bindingInfo d e) := of_both rfl rfl
theorem tipinSelect (d : Desc) (e : Env) : Statement (.tipinSelect d e) := of_both rfl rfl
theorem imageBegin (d : Desc) (e : Env) : Statement (.imageBegin d e) := of_both rfl rfl
theorem imageData (d : Desc) (e : Env) : Statement (.imageData d e) := of_both rfl rfl
theorem imageEnd (d : Desc) (e : Env) : Statement (.imageEnd d e) := of_both rfl rfl
theorem streamStatus (d : Desc) (e : Env) : Statement (.streamStatus d e) := of_both rfl rfl
theorem directSet (d : Desc) (e : Env) : Statement (.directSet d e) := of_both rfl rfl
theorem zonePut (d : Desc) (e : Env) : Statement (.zonePut d e) := of_both rfl rfl
theorem zoneGatherTimeout (ch : Nat) : Statement (.zoneGatherTimeout ch) := of_none rfl
theorem zoneClearAll (d : Desc) (e : Env) : Statement (.zoneClearAll d e) := of_both rfl rfl
theorem zoneStatus (d : Desc) (e : Env) : Statement (.zoneStatus d e) := of_both rfl rfl
theorem znePublish (v : Word) (t : Nat) : Statement (.znePublish v t) := of_none rfl
theorem levelStaleTimer (t : Nat) : Statement (.levelStaleTimer t) := of_none rfl
theorem glyphLoad (d : Desc) (e : Env) : Statement (.glyphLoad d e) := of_both rfl rfl
theorem glyphPlace (d : Desc) (e : Env) : Statement (.glyphPlace d e) := of_both rfl rfl
theorem glyphHide (d : Desc) (e : Env) : Statement (.glyphHide d e) := of_both rfl rfl
theorem envscaleSet (d : Desc) (e : Env) : Statement (.envscaleSet d e) := of_both rfl rfl
theorem meshSelect (d : Desc) (e : Env) : Statement (.meshSelect d e) := of_both rfl rfl
theorem pitchUpdate (d : Desc) (e : Env) : Statement (.pitchUpdate d e) := of_both rfl rfl
theorem levelStatus (d : Desc) (e : Env) : Statement (.levelStatus d e) := of_both rfl rfl
theorem commit (d : Desc) (e : Env) : Statement (.commit d e) := of_both rfl rfl
theorem timingSet (d : Desc) (e : Env) : Statement (.timingSet d e) := of_both rfl rfl
theorem phaseSet (d : Desc) (e : Env) : Statement (.phaseSet d e) := of_both rfl rfl
theorem frameGet (d : Desc) (e : Env) : Statement (.frameGet d e) := of_both rfl rfl
theorem calStatus (d : Desc) (e : Env) : Statement (.calStatus d e) := of_both rfl rfl
theorem calRound (d : Desc) (e : Env) : Statement (.calRound d e) := of_both rfl rfl
theorem calResetLane (d : Desc) (e : Env) : Statement (.calResetLane d e) := of_both rfl rfl
theorem wearPass (d : Desc) (e : Env) : Statement (.wearPass d e) := of_both rfl rfl
theorem diagSummary (d : Desc) (e : Env) : Statement (.diagSummary d e) := of_both rfl rfl
theorem pixelQuery (d : Desc) (e : Env) : Statement (.pixelQuery d e) := of_both rfl rfl
theorem groupStatus (d : Desc) (e : Env) : Statement (.groupStatus d e) := of_both rfl rfl
theorem windowMap (d : Desc) (e : Env) : Statement (.windowMap d e) := of_both rfl rfl
theorem recStatus (d : Desc) (e : Env) : Statement (.recStatus d e) := of_both rfl rfl
theorem dumpClear (d : Desc) (e : Env) : Statement (.dumpClear d e) := of_both rfl rfl
theorem ckuScan (d : Desc) (e : Env) : Statement (.ckuScan d e) := of_both rfl rfl
theorem timeGet (d : Desc) (e : Env) : Statement (.timeGet d e) := of_both rfl rfl
theorem domainSelect (d : Desc) (e : Env) : Statement (.domainSelect d e) := of_both rfl rfl
theorem ttoArm (d : Desc) (e : Env) : Statement (.ttoArm d e) := of_both rfl rfl
theorem rtcAlarm (d : Desc) (e : Env) : Statement (.rtcAlarm d e) := of_both rfl rfl
theorem faultGet (d : Desc) (e : Env) : Statement (.faultGet d e) := of_both rfl rfl
theorem faultClear (d : Desc) (e : Env) : Statement (.faultClear d e) := of_both rfl rfl
theorem severitySet (d : Desc) (e : Env) : Statement (.severitySet d e) := of_both rfl rfl
theorem fenderStatus (d : Desc) (e : Env) : Statement (.fenderStatus d e) := of_both rfl rfl
theorem fallbackOff (d : Desc) (e : Env) : Statement (.fallbackOff d e) := of_both rfl rfl
theorem safeTest (d : Desc) (e : Env) : Statement (.safeTest d e) := of_both rfl rfl
theorem laneStatus (d : Desc) (e : Env) : Statement (.laneStatus d e) := of_both rfl rfl
theorem laneTrain (d : Desc) (e : Env) : Statement (.laneTrain d e) := of_both rfl rfl
theorem laneTest (d : Desc) (e : Env) : Statement (.laneTest d e) := of_both rfl rfl
theorem laneTestEnd (n : Nat) : Statement (.laneTestEnd n) := of_none rfl
theorem tileSet (d : Desc) (e : Env) : Statement (.tileSet d e) := of_both rfl rfl
theorem tileResume (d : Desc) (e : Env) : Statement (.tileResume d e) := of_both rfl rfl
theorem tileRefsel (d : Desc) (e : Env) : Statement (.tileRefsel d e) := of_both rfl rfl
theorem pairStatus (d : Desc) (e : Env) : Statement (.pairStatus d e) := of_both rfl rfl
theorem pairHandover (d : Desc) (e : Env) : Statement (.pairHandover d e) := of_both rfl rfl
theorem ptnDigest (d : Desc) (e : Env) : Statement (.ptnDigest d e) := of_both rfl rfl
theorem ptnAdopt (d : Desc) (e : Env) : Statement (.ptnAdopt d e) := of_both rfl rfl
theorem ptnBarrier (d : Desc) (e : Env) : Statement (.ptnBarrier d e) := of_both rfl rfl
theorem lcGet (d : Desc) (e : Env) : Statement (.lcGet d e) := of_both rfl rfl
theorem lcAdvance (d : Desc) (e : Env) : Statement (.lcAdvance d e) := of_both rfl rfl
theorem fwSelect (d : Desc) (e : Env) : Statement (.fwSelect d e) := of_both rfl rfl
theorem tmxSelect (d : Desc) (e : Env) : Statement (.tmxSelect d e) := of_both rfl rfl
theorem lanePllLock : Statement (.lanePllLock) := of_none rfl
theorem lanePllLoss (e : Env) : Statement (.lanePllLoss e) := of_env rfl id
theorem tlkTrainWrite (n : Nat) : Statement (.tlkTrainWrite n) := of_none rfl
theorem tsbReceive (n : Nat) (set : Bytes) (err : Bool) : Statement (.tsbReceive n set err) := of_none rfl
theorem trainAttemptTimeout (n : Nat) : Statement (.trainAttemptTimeout n) := of_none rfl
theorem trainIdleEnd (n : Nat) : Statement (.trainIdleEnd n) := of_none rfl
theorem rxSyncAcquire (n : Nat) : Statement (.rxSyncAcquire n) := of_none rfl
theorem laneRxLoss (n : Nat) : Statement (.laneRxLoss n) := of_none rfl
theorem laneErrSecond (counts : List Nat) : Statement (.laneErrSecond counts) := of_none rfl
theorem slipWrite (n : Nat) : Statement (.slipWrite n) := of_none rfl
theorem txOnWrite (n : Nat) (on : Bool) : Statement (.txOnWrite n on) := of_none rfl
theorem rxOnWrite (n : Nat) (on : Bool) : Statement (.rxOnWrite n on) := of_none rfl
theorem loopbackWrite (n : Nat) (lb : Nat) : Statement (.loopbackWrite n lb) := of_none rfl
theorem prbsWrite (n : Nat) (pat : Nat) : Statement (.prbsWrite n pat) := of_none rfl
theorem inservWrite (n : Nat) (on : Bool) : Statement (.inservWrite n on) := of_none rfl
theorem bcastPlate (all : Bool) (lane : Nat) (cause : Nat) : Statement (.bcastPlate all lane cause) := of_none rfl
theorem bcastCoast (all : Bool) (lane : Nat) (cause : Nat) : Statement (.bcastCoast all lane cause) := of_none rfl
theorem bcastWipe (all : Bool) (lane : Nat) (cause : Nat) : Statement (.bcastWipe all lane cause) := of_none rfl
theorem snapReq (id : Nat) : Statement (.snapReq id) := of_none rfl
theorem cmdqPush (all : Bool) (lane : Nat) (opc : Nat) (len : Nat) : Statement (.cmdqPush all lane opc len) := of_none rfl
theorem darkrowGo (lane : Nat) (phase : Nat) (row : Nat) : Statement (.darkrowGo lane phase row) := of_none rfl
theorem ackTimeout (n : Nat) : Statement (.ackTimeout n) := of_none rfl
theorem lstat (n : Nat) (pkt : UpPkt) : Statement (.lstat n pkt) := of_none rfl
theorem ftel (n : Nat) (t : Nat) (pkt : UpPkt) (drop : Nat) : Statement (.ftel n t pkt drop) := of_none rfl
theorem ack (n : Nat) (pkt : UpPkt) : Statement (.ack n pkt) := of_none rfl
theorem snapr (n : Nat) (pkt : UpPkt) : Statement (.snapr n pkt) := of_none rfl
theorem classqRead : Statement (.classqRead) := of_none rfl
theorem updDataWrite (data : Nat) : Statement (.updDataWrite data) := of_none rfl
theorem atEnWrite (on : Bool) : Statement (.atEnWrite on) := of_none rfl
theorem wearPassTimer (e : Env) : Statement (.wearPassTimer e) := of_env rfl id
theorem snsCalTimer : Statement (.snsCalTimer) := of_none rfl
theorem snsCalStepDone (elem : Nat) (corr : Word) : Statement (.snsCalStepDone elem corr) := of_none rfl
theorem snsCalStepTimeout : Statement (.snsCalStepTimeout) := of_none rfl
theorem fenderIngress (t : Nat) : Statement (.fenderIngress t) := of_none rfl
theorem fenderZoneApply (zid : Nat) (t : Nat) : Statement (.fenderZoneApply zid t) := of_none rfl
theorem fenderVerdict (t : Nat) : Statement (.fenderVerdict t) := of_none rfl
theorem fenderHeartbeat (t : Nat) : Statement (.fenderHeartbeat t) := of_none rfl
theorem fenderLostTimer : Statement (.fenderLostTimer) := of_none rfl
theorem fenderClkCheck (byFender : Bool) : Statement (.fenderClkCheck byFender) := of_none rfl
theorem darkPathTimer : Statement (.darkPathTimer) := of_none rfl
theorem emberEdge : Statement (.emberEdge) := of_none rfl
theorem tgenTestTimer : Statement (.tgenTestTimer) := of_none rfl
theorem tgenPulseEnd (lowOk : Bool) (highOk : Bool) : Statement (.tgenPulseEnd lowOk highOk) := of_none rfl
theorem fbCheckTimer (mids : List Mid) : Statement (.fbCheckTimer mids) := of_none rfl
theorem fbPulseTimer (ch : Nat) : Statement (.fbPulseTimer ch) := of_none rfl
theorem fbPulseEnd (ch : Nat) (mid : Mid) : Statement (.fbPulseEnd ch mid) := of_none rfl
theorem faultMessage (e : Env) (m : FMsg) (more : List FMsg) : Statement (.faultMessage e m more) := of_env rfl (fun h => by simp only [Instr.wellFormed, Bool.and_eq_true] at h; simp only [h])
theorem fclClearWrite : Statement (.fclClearWrite) := of_none rfl
theorem ashDump (e : Env) : Statement (.ashDump e) := of_env rfl id
theorem lockstepMismatch (part : Nat) : Statement (.lockstepMismatch part) := of_none rfl
theorem watchdogExpiry (tgt : Nat) : Statement (.watchdogExpiry tgt) := of_none rfl
theorem wdkickWrite (tgt : Nat) (v : Nat) (t : Nat) : Statement (.wdkickWrite tgt v t) := of_none rfl
theorem wdogEnWrite (tgt : Nat) (v : Word) (t : Nat) : Statement (.wdogEnWrite tgt v t) := of_none rfl
theorem s1RunWrite (who : Master) (run : Bool) : Statement (.s1RunWrite who run) := of_none rfl
theorem irqAccept (tgt : Nat) : Statement (.irqAccept tgt) := of_none rfl
theorem mret (tgt : Nat) : Statement (.mret tgt) := of_none rfl
theorem fret (tgt : Nat) : Statement (.fret tgt) := of_none rfl
theorem setpWrite (who : Master) (w : Nat) (v : Word) : Statement (.setpWrite who w v) := of_none rfl
theorem clrpWrite (who : Master) (w : Nat) (v : Word) : Statement (.clrpWrite who w v) := of_none rfl
theorem srcTargetWrite (who : Master) (src : Nat) (v : Word) : Statement (.srcTargetWrite who src v) := of_none rfl
theorem wfi (tgt : Nat) : Statement (.wfi tgt) := of_none rfl
theorem coreWake (tgt : Nat) (src : Nat) : Statement (.coreWake tgt src) := of_none rfl
theorem strandedTimer (src : Nat) : Statement (.strandedTimer src) := of_none rfl
theorem plChangeDone : Statement (.plChangeDone) := of_none rfl
theorem domainPowerUp (dom : Nat) (ready : Bool) : Statement (.domainPowerUp dom ready) := of_none rfl
theorem domoffWrite (mask : Nat) (t : Nat) : Statement (.domoffWrite mask t) := of_none rfl
theorem padrelWrite : Statement (.padrelWrite) := of_none rfl
theorem fbOffreqWrite : Statement (.fbOffreqWrite) := of_none rfl
theorem thmSample (n : Nat) (meas : Int) (rise : Int) (stuck : Bool) (t : Nat) : Statement (.thmSample n meas rise stuck t) := of_none rfl
theorem damperEscalate (t : Nat) : Statement (.damperEscalate t) := of_none rfl
theorem damperDwell (t : Nat) : Statement (.damperDwell t) := of_none rfl
theorem sensorSelfTest (failed : Nat) : Statement (.sensorSelfTest failed) := of_none rfl
theorem mrcWgoWrite (e : Env) : Statement (.mrcWgoWrite e) := of_env rfl id
theorem mrcBurstDone (e : Env) (failAt : Option Nat) : Statement (.mrcBurstDone e failAt) := of_env rfl id
theorem evrWrite (e : Env) (fails : List Bool) : Statement (.evrWrite e fails) := of_env rfl id
theorem evrRetry (e : Env) (fails : List Bool) : Statement (.evrRetry e fails) := of_env rfl id
theorem ckuGo (who : Master) (n : Nat) : Statement (.ckuGo who n) := of_none rfl
theorem ckuScanDone (n : Nat) : Statement (.ckuScanDone n) := of_none rfl
theorem ckuInitWrite (n : Nat) : Statement (.ckuInitWrite n) := of_none rfl
theorem ckuDataWrite (n : Nat) (v : Word) : Statement (.ckuDataWrite n v) := of_none rfl
theorem lockSet (who : Master) (addr : Nat) (v : Word) : Statement (.lockSet who addr v) := of_none rfl
theorem registerWrite (who : Master) (addr : Nat) (v : Word) : Statement (.registerWrite who addr v) := of_none rfl
theorem hello (lane : Nat) (t : Nat) (f : PtnFrame) : Statement (.hello lane t f) := of_none rfl
theorem helloTimer : Statement (.helloTimer) := of_none rfl
theorem digest (lane : Nat) (t : Nat) (f : PtnFrame) : Statement (.digest lane t f) := of_none rfl
theorem adopt (lane : Nat) (f : PtnFrame) : Statement (.adopt lane f) := of_none rfl
theorem barrier (lane : Nat) (f : PtnFrame) : Statement (.barrier lane f) := of_none rfl
theorem stage (lane : Nat) (f : PtnFrame) : Statement (.stage lane f) := of_none rfl
theorem zpub (lane : Nat) (t : Nat) (f : PtnFrame) : Statement (.zpub lane t f) := of_none rfl
theorem pitch (lane : Nat) (t : Nat) (f : PtnFrame) : Statement (.pitch lane t f) := of_none rfl
theorem updq (lane : Nat) (f : PtnFrame) : Statement (.updq lane f) := of_none rfl
theorem gov (lane : Nat) (f : PtnFrame) : Statement (.gov lane f) := of_none rfl
theorem tcmd (lane : Nat) (f : PtnFrame) : Statement (.tcmd lane f) := of_none rfl
theorem handover (lane : Nat) (t : Nat) (f : PtnFrame) : Statement (.handover lane t f) := of_none rfl
theorem taken (lane : Nat) (t : Nat) (f : PtnFrame) : Statement (.taken lane t f) := of_none rfl
theorem partnerLinkLoss (t : Nat) : Statement (.partnerLinkLoss t) := of_none rfl
theorem withdrawTimeout (t : Nat) : Statement (.withdrawTimeout t) := of_none rfl
theorem tilePowerUp (n : Nat) : Statement (.tilePowerUp n) := of_none rfl
theorem tileLinePacket (n : Nat) (port : Nat) (p : LinePkt) : Statement (.tileLinePacket n port p) := of_none rfl
theorem tilePhaseBoundary (n : Nat) (meas : List Nat) : Statement (.tilePhaseBoundary n meas) := of_none rfl
theorem flip (n : Nat) (port : Nat) (b : BSet) : Statement (.flip n port b) := of_none rfl
theorem seam (n : Nat) (port : Nat) (b : BSet) : Statement (.seam n port b) := of_none rfl
theorem abort (n : Nat) (port : Nat) (b : BSet) : Statement (.abort n port b) := of_none rfl
theorem snap (n : Nat) (port : Nat) (b : BSet) : Statement (.snap n port b) := of_none rfl
theorem plate (n : Nat) (port : Nat) (b : BSet) : Statement (.plate n port b) := of_none rfl
theorem coast (n : Nat) (port : Nat) (b : BSet) : Statement (.coast n port b) := of_none rfl
theorem switch (n : Nat) (port : Nat) (b : BSet) : Statement (.switch n port b) := of_none rfl
theorem tilePortAutoSwitch (n : Nat) : Statement (.tilePortAutoSwitch n) := of_none rfl
theorem cfg (n : Nat) (port : Nat) (c : CSet) : Statement (.cfg n port c) := of_none rfl
theorem wipe (n : Nat) (port : Nat) (c : CSet) : Statement (.wipe n port c) := of_none rfl
theorem resume (n : Nat) (port : Nat) (c : CSet) : Statement (.resume n port c) := of_none rfl
theorem selwr (n : Nat) (port : Nat) (c : CSet) : Statement (.selwr n port c) := of_none rfl
theorem probes (n : Nat) (port : Nat) (c : CSet) : Statement (.probes n port c) := of_none rfl
theorem darkrow (n : Nat) (port : Nat) (c : CSet) : Statement (.darkrow n port c) := of_none rfl
theorem refsel (n : Nat) (port : Nat) (c : CSet) : Statement (.refsel n port c) := of_none rfl
theorem platecap (n : Nat) (port : Nat) (c : CSet) : Statement (.platecap n port c) := of_none rfl
theorem tileCoastExpiry (n : Nat) : Statement (.tileCoastExpiry n) := of_none rfl
theorem tileNobcastTimeout (n : Nat) : Statement (.tileNobcastTimeout n) := of_none rfl
theorem tileSyncLoss (n : Nat) : Statement (.tileSyncLoss n) := of_none rfl
theorem tileSupplyLoss (n : Nat) : Statement (.tileSupplyLoss n) := of_none rfl
theorem tilePlateCheck (n : Nat) : Statement (.tilePlateCheck n) := of_none rfl
theorem tileFreeFtel (n : Nat) : Statement (.tileFreeFtel n) := of_none rfl
theorem pairActChange (level : Bool) : Statement (.pairActChange level) := of_none rfl
theorem ptnBarrierTimeout : Statement (.ptnBarrierTimeout) := of_none rfl
theorem pairHandoverTimeout : Statement (.pairHandoverTimeout) := of_none rfl
theorem handshakeNoanswer (block : Nat) (t : Nat) : Statement (.handshakeNoanswer block t) := of_none rfl
theorem pmicEnLowWait : Statement (.pmicEnLowWait) := of_none rfl
theorem ttoPulseEnd (n : Nat) : Statement (.ttoPulseEnd n) := of_none rfl
theorem dpauseExpiry (e : Env) : Statement (.dpauseExpiry e) := of_env rfl id
theorem tsaReceive (n : Nat) (set : Bytes) (err : Bool) : Statement (.tsaReceive n set err) := of_none rfl
theorem tileLoopbackExit (n : Nat) : Statement (.tileLoopbackExit n) := of_none rfl
theorem mkaFrame (port : Nat) (sak : Option MkaSak) : Statement (.mkaFrame port sak) := of_none rfl
theorem ethFrameDiscard (port : Nat) (why : RxDrop) : Statement (.ethFrameDiscard port why) := of_none rfl

end Sys2Proof.Laws.Operands
end

