-- ==== Sys2Proof/Tests/Slice0.lean ====
section
/-! SUPPORT. The model's own tests: an ill-formed term for each check of WellFormed, for every statement a concrete state
and operands that meet its hypotheses together, and the worked examples of the manual. -/

open Sys2Proof Sys2Proof.Machine

namespace Sys2Proof.Tests

set_option Elab.async false

/-! ### Well-formed and ill-formed commands: each check refuses a term that breaks it and nothing else -/

def goodD : Desc := ⟨0, 0, 0, 0, 0, zeroBytes 44, 0, 0⟩
def goodE : Env := ⟨0, 0⟩
def goodH : HatchHdr := ⟨0, 0, 0, 0, 0, 0, 0, 0, 0, 0, 0⟩
def goodL : LinePkt := ⟨0, 0, 0, zeroBytes 256, 0, false⟩
def goodB : BSet := ⟨zeroBytes 6, 0, false⟩
def goodC : CSet := ⟨0, [], 0, false⟩
def goodF : PtnFrame := ⟨0, [], 0, true⟩
def goodM : FMsg := ⟨0, 0, 0, none⟩
def goodU : UpPkt := ⟨[], 0, false⟩
def goodA : AvtpPkt := ⟨0, 0, false, 0, 0, false, false, false, 0, []⟩
def goodK : MkaSak := ⟨false, 0, 0, zeroBytes 16⟩
def badD : Desc := { goodD with ch := 5 }
def badE : Env := { goodE with vhold := 65536 }
def badH : HatchHdr := { goodH with port := 2 }
def badL : LinePkt := { goodL with crc := 2 ^ 32 }
def badB : BSet := { goodB with chk := 256 }
def badC : CSet := { goodC with tag := 256 }
def badF : PtnFrame := { goodF with tag := 2 ^ 64 }
def badM : FMsg := { goodM with source := 512 }
def badU : UpPkt := { goodU with crc := 2 ^ 32 }
def badA : AvtpPkt := { goodA with widthCode := 4 }
def badK : Option MkaSak := some { goodK with an := 4 }

theorem test_descriptor_check : descOk goodD = true ∧
    ([{ goodD with ch := 5 }, { goodD with slot := 64 }, { goodD with tag := 65536 }, { goodD with flags := 256 },
      { goodD with len := 256 }, { goodD with params := zeroBytes 43 }, { goodD with deadline := 2 ^ 32 }, { goodD with atag := 2 ^ 64 }] : List Desc).all (fun x => !descOk x) = true := by decide +kernel

theorem test_surroundings_check : envOk goodE = true ∧
    ([{ goodE with vhold := 65536 }] : List Env).all (fun x => !envOk x) = true := by decide +kernel

theorem test_hatch_header_check : hatchOk goodH = true ∧
    ([{ goodH with port := 2 }, { goodH with srcIp := 2 ^ 32 }, { goodH with srcPort := 65536 }, { goodH with udpLen := 65536 },
      { goodH with magic := 65536 }, { goodH with ver := 256 }, { goodH with seq := 2 ^ 32 }, { goodH with len := 65536 },
      { goodH with status := 256 }, { goodH with resv := 256 }, { goodH with addr := 2 ^ 32 }] : List HatchHdr).all (fun x => !hatchOk x) = true := by decide +kernel

theorem test_line_packet_check : linePktOk goodL = true ∧
    ([{ goodL with seq := 2 ^ 32 }, { goodL with line := 256 }, { goodL with flags := 256 }, { goodL with codes := zeroBytes 255 },
      { goodL with crc := 2 ^ 32 }] : List LinePkt).all (fun x => !linePktOk x) = true := by decide +kernel

theorem test_broadcast_set_check : bsetOk goodB = true ∧
    ([{ goodB with args := zeroBytes 5 }, { goodB with chk := 256 }] : List BSet).all (fun x => !bsetOk x) = true := by decide +kernel

theorem test_command_set_check : csetOk goodC = true ∧
    ([{ goodC with tag := 256 }, { goodC with payload := zeroBytes 261 }, { goodC with crc := 2 ^ 32 }] : List CSet).all (fun x => !csetOk x) = true := by decide +kernel

theorem test_partner_frame_check : ptnFrameOk goodF = true ∧
    ([{ goodF with cnt := 2 ^ 32 }, { goodF with tag := 2 ^ 64 }] : List PtnFrame).all (fun x => !ptnFrameOk x) = true := by decide +kernel

theorem test_fault_message_check : fmsgOk goodM = true ∧
    ([{ goodM with source := 512 }, { goodM with kind := 128 }, { goodM with detail := 65536 }, { goodM with ext := some (2 ^ 32) }] : List FMsg).all (fun x => !fmsgOk x) = true := by decide +kernel

theorem test_upstream_packet_check : Instr.wellFormed (let x := goodU; .ack 0 x) = true ∧
    ([{ goodU with payload := zeroBytes 289 }, { goodU with crc := 2 ^ 32 }] : List UpPkt).all (fun x => !Instr.wellFormed (.ack 0 x)) = true := by
  decide +kernel

theorem test_video_packet_check : Instr.wellFormed (let x := goodA; .avtpPacket 0 0 x) = true ∧
    ([{ goodA with sid := 2 ^ 64 }, { goodA with seqNo := 256 }, { goodA with pt := 2 ^ 32 }, { goodA with widthCode := 4 },
      { goodA with row := 4096 }] : List AvtpPkt).all (fun x => !Instr.wellFormed (.avtpPacket 0 0 x)) = true := by
  decide +kernel

theorem test_mka_key_check : Instr.wellFormed (let x := goodK; .mkaFrame 0 (some x)) = true ∧
    ([{ goodK with an := 4 }, { goodK with sci := 2 ^ 64 }, { goodK with sak := zeroBytes 24 }] : List MkaSak).all (fun x => !Instr.wellFormed (.mkaFrame 0 (some x))) = true := by
  decide +kernel

theorem test_wellFormed_terms_1 : ([.bindingLoad goodE, .lightReqRise goodE, .lightReqFall goodE, .safeInNFall goodE, .startTestsDone goodE 0,
   .contentStart goodE, .tileLineRender false 0 0 0, .renderDeadlineMiss false 0, .rasEvtFire 0,
   .avtpPacket 0 0 goodA, .hatchCmd goodH [], .hatchRead goodH 0 0, .hatchWrite goodH [],
   .spiRead (zeroBytes 8) false, .spiWrite (zeroBytes 8) [] 0 false, .canBeamFrame 0 false [], .ethLink 0 0,
   .gptpFrame 0 0 false, .arpRequest 0 0 0 0, .icmpEcho 0 0 0 [], .ntmApplyStep 0 0, .ntmApplySet 0 0,
   .activeDomainWrite 0 0, .domainStateWrite 0 0 0, .ttoArmWrite 0 0 0, .ttoEdge 0 0, .doorbell .s0 0 0,
   .cplrpWrite .s0 0 0, .descriptorTake goodE, .moderationTimer 0, .deferExpired 0 0 0,
   .mbxChannelReset .s0 0, .pendClear .s0 0, .stateGet goodD goodE, .perfSet goodD goodE,
   .serviceEnter goodD goodE, .serviceExit goodD goodE, .standstillSet goodD goodE,
   .standstillHoldExpiry goodE, .lightOn goodD goodE, .lightOff goodD goodE, .reset goodD goodE,
   .sleep goodD goodE, .handshakeAnswer 0 1 0 0, .handshakeDelayExpiry 0 0, .bindingInfo goodD goodE,
   .tipinSelect goodD goodE, .imageBegin goodD goodE, .imageData goodD goodE, .imageEnd goodD goodE,
   .streamStatus goodD goodE, .directSet goodD goodE, .zonePut goodD goodE, .zoneGatherTimeout 0,
   .zoneClearAll goodD goodE, .zoneStatus goodD goodE, .glyphLoad goodD goodE, .glyphPlace goodD goodE,
   .glyphHide goodD goodE, .envscaleSet goodD goodE, .meshSelect goodD goodE, .pitchUpdate goodD goodE,
   .levelStatus goodD goodE, .commit goodD goodE, .timingSet goodD goodE, .phaseSet goodD goodE,
   .frameGet goodD goodE, .calStatus goodD goodE, .calRound goodD goodE, .calResetLane goodD goodE] : List Instr).all Instr.wellFormed = true := by decide +kernel

theorem test_wellFormed_terms_2 : ([.wearPass goodD goodE, .diagSummary goodD goodE, .pixelQuery goodD goodE, .groupStatus goodD goodE,
   .windowMap goodD goodE, .recStatus goodD goodE, .dumpClear goodD goodE, .ckuScan goodD goodE,
   .timeGet goodD goodE, .domainSelect goodD goodE, .ttoArm goodD goodE, .rtcAlarm goodD goodE,
   .faultGet goodD goodE, .faultClear goodD goodE, .severitySet goodD goodE, .fenderStatus goodD goodE,
   .fallbackOff goodD goodE, .safeTest goodD goodE, .laneStatus goodD goodE, .laneTrain goodD goodE,
   .laneTest goodD goodE, .laneTestEnd 0, .tileSet goodD goodE, .tileResume goodD goodE,
   .tileRefsel goodD goodE, .pairStatus goodD goodE, .pairHandover goodD goodE, .ptnDigest goodD goodE,
   .ptnAdopt goodD goodE, .ptnBarrier goodD goodE, .lcGet goodD goodE, .lcAdvance goodD goodE,
   .fwSelect goodD goodE, .tmxSelect goodD goodE, .lanePllLoss goodE, .tlkTrainWrite 0,
   .tsbReceive 0 (zeroBytes 7) false, .trainAttemptTimeout 0, .trainIdleEnd 0, .rxSyncAcquire 0,
   .laneRxLoss 0, .laneErrSecond [], .slipWrite 0, .txOnWrite 0 false, .rxOnWrite 0 false, .loopbackWrite 0 0,
   .prbsWrite 0 0, .inservWrite 0 false, .bcastPlate false 0 0, .bcastCoast false 0 0, .bcastWipe false 0 0,
   .snapReq 0, .cmdqPush false 0 0 0, .darkrowGo 0 0 0, .ackTimeout 0, .lstat 0 goodU, .ftel 0 0 goodU 0,
   .ack 0 goodU, .snapr 0 goodU, .updDataWrite 0, .wearPassTimer goodE, .snsCalStepDone 0 0,
   .fenderZoneApply 0 0, .fbCheckTimer [.low, .low], .fbPulseTimer 0, .fbPulseEnd 0 .low,
   .faultMessage goodE goodM [], .ashDump goodE, .lockstepMismatch 0, .watchdogExpiry 0] : List Instr).all Instr.wellFormed = true := by decide +kernel

theorem test_wellFormed_terms_3 : ([.wdkickWrite 0 0 0, .wdogEnWrite 0 0 0, .irqAccept 0, .mret 0, .fret 0, .setpWrite .s0 0 0,
   .clrpWrite .s0 0 0, .srcTargetWrite .s0 0 0, .wfi 0, .coreWake 0 0, .strandedTimer 0,
   .domainPowerUp 0 false, .domoffWrite 0 0, .thmSample 0 0 0 false 0, .sensorSelfTest 0, .mrcWgoWrite goodE,
   .mrcBurstDone goodE none, .evrWrite goodE [], .evrRetry goodE [], .ckuGo .s0 0, .ckuScanDone 0,
   .ckuInitWrite 0, .ckuDataWrite 0 0, .lockSet .s0 0 0, .registerWrite .s0 0 0, .hello 64 0 goodF,
   .digest 64 0 goodF, .adopt 64 goodF, .barrier 64 goodF, .stage 64 goodF, .zpub 64 0 goodF,
   .pitch 64 0 goodF, .updq 64 goodF, .gov 64 goodF, .tcmd 64 goodF, .handover 64 0 goodF, .taken 64 0 goodF,
   .tilePowerUp 0, .tileLinePacket 0 0 goodL, .tilePhaseBoundary 0 [], .flip 0 0 goodB, .seam 0 0 goodB,
   .abort 0 0 goodB, .snap 0 0 goodB, .plate 0 0 goodB, .coast 0 0 goodB, .switch 0 0 goodB,
   .tilePortAutoSwitch 0, .cfg 0 0 goodC, .wipe 0 0 goodC, .resume 0 0 goodC, .selwr 0 0 goodC,
   .probes 0 0 goodC, .darkrow 0 0 goodC, .refsel 0 0 goodC, .platecap 0 0 goodC, .tileCoastExpiry 0,
   .tileNobcastTimeout 0, .tileSyncLoss 0, .tileSupplyLoss 0, .tilePlateCheck 0, .tileFreeFtel 0,
   .handshakeNoanswer 0 0, .ttoPulseEnd 0, .dpauseExpiry goodE, .tsaReceive 0 (zeroBytes 7) false,
   .tileLoopbackExit 0, .mkaFrame 0 none, .ethFrameDiscard 0 .ip] : List Instr).all Instr.wellFormed = true := by decide +kernel

theorem test_illFormed_terms_refused_1 : ([.bindingLoad badE, .lightReqRise badE, .lightReqFall badE, .safeInNFall badE, .startTestsDone badE 0,
   .startTestsDone goodE 8, .contentStart badE, .tileLineRender false 128 0 0, .renderDeadlineMiss false 128,
   .rasEvtFire 4, .avtpPacket 2 0 goodA, .avtpPacket 0 0 badA, .hatchCmd badH [],
   .hatchCmd goodH [zeroBytes 63], .hatchRead badH 0 0, .hatchRead goodH 65536 0, .hatchRead goodH 0 65536,
   .hatchWrite badH [], .spiRead [] false, .spiWrite [] [] 0 false, .spiWrite (zeroBytes 8) [] (2 ^ 32) false,
   .canBeamFrame (2 ^ 29) false [], .canBeamFrame 0 false (zeroBytes 65), .ethLink 2 0, .ethLink 0 4,
   .gptpFrame 2 0 false, .arpRequest 2 0 0 0, .arpRequest 0 (2 ^ 32) 0 0, .arpRequest 0 0 (2 ^ 48) 0,
   .arpRequest 0 0 0 (2 ^ 32), .icmpEcho 2 0 0 [], .icmpEcho 0 (2 ^ 32) 0 [], .icmpEcho 0 0 (2 ^ 32) [],
   .ntmApplyStep 2 0, .ntmApplySet 2 0, .activeDomainWrite 2 0, .domainStateWrite 2 0 0,
   .domainStateWrite 0 4 0, .ttoArmWrite 4 0 0, .ttoEdge 4 0, .doorbell .s0 5 0, .doorbell .s0 0 65536,
   .cplrpWrite .s0 5 0, .cplrpWrite .s0 0 65536, .descriptorTake badE, .moderationTimer 5,
   .deferExpired 5 0 0, .deferExpired 0 65536 0, .mbxChannelReset .s0 5, .pendClear .s0 32,
   .stateGet badD goodE, .stateGet goodD badE, .perfSet badD goodE, .perfSet goodD badE,
   .serviceEnter badD goodE, .serviceEnter goodD badE, .serviceExit badD goodE, .serviceExit goodD badE,
   .standstillSet badD goodE, .standstillSet goodD badE] : List Instr).all (fun i => !i.wellFormed) = true := by decide +kernel

theorem test_illFormed_terms_refused_2 : ([.standstillHoldExpiry badE, .lightOn badD goodE, .lightOn goodD badE, .lightOff badD goodE,
   .lightOff goodD badE, .reset badD goodE, .reset goodD badE, .sleep badD goodE, .sleep goodD badE,
   .handshakeAnswer 32 1 0 0, .handshakeAnswer 0 0 0 0, .handshakeAnswer 0 4 0 0, .handshakeAnswer 0 1 256 0,
   .handshakeDelayExpiry 32 0, .bindingInfo badD goodE, .bindingInfo goodD badE, .tipinSelect badD goodE,
   .tipinSelect goodD badE, .imageBegin badD goodE, .imageBegin goodD badE, .imageData badD goodE,
   .imageData goodD badE, .imageEnd badD goodE, .imageEnd goodD badE, .streamStatus badD goodE,
   .streamStatus goodD badE, .directSet badD goodE, .directSet goodD badE, .zonePut badD goodE,
   .zonePut goodD badE, .zoneGatherTimeout 5, .zoneClearAll badD goodE, .zoneClearAll goodD badE,
   .zoneStatus badD goodE, .zoneStatus goodD badE, .glyphLoad badD goodE, .glyphLoad goodD badE,
   .glyphPlace badD goodE, .glyphPlace goodD badE, .glyphHide badD goodE, .glyphHide goodD badE,
   .envscaleSet badD goodE, .envscaleSet goodD badE, .meshSelect badD goodE, .meshSelect goodD badE,
   .pitchUpdate badD goodE, .pitchUpdate goodD badE, .levelStatus badD goodE, .levelStatus goodD badE,
   .commit badD goodE, .commit goodD badE, .timingSet badD goodE, .timingSet goodD badE, .phaseSet badD goodE,
   .phaseSet goodD badE, .frameGet badD goodE, .frameGet goodD badE, .calStatus badD goodE,
   .calStatus goodD badE, .calRound badD goodE] : List Instr).all (fun i => !i.wellFormed) = true := by decide +kernel

theorem test_illFormed_terms_refused_3 : ([.calRound goodD badE, .calResetLane badD goodE, .calResetLane goodD badE, .wearPass badD goodE,
   .wearPass goodD badE, .diagSummary badD goodE, .diagSummary goodD badE, .pixelQuery badD goodE,
   .pixelQuery goodD badE, .groupStatus badD goodE, .groupStatus goodD badE, .windowMap badD goodE,
   .windowMap goodD badE, .recStatus badD goodE, .recStatus goodD badE, .dumpClear badD goodE,
   .dumpClear goodD badE, .ckuScan badD goodE, .ckuScan goodD badE, .timeGet badD goodE, .timeGet goodD badE,
   .domainSelect badD goodE, .domainSelect goodD badE, .ttoArm badD goodE, .ttoArm goodD badE,
   .rtcAlarm badD goodE, .rtcAlarm goodD badE, .faultGet badD goodE, .faultGet goodD badE,
   .faultClear badD goodE, .faultClear goodD badE, .severitySet badD goodE, .severitySet goodD badE,
   .fenderStatus badD goodE, .fenderStatus goodD badE, .fallbackOff badD goodE, .fallbackOff goodD badE,
   .safeTest badD goodE, .safeTest goodD badE, .laneStatus badD goodE, .laneStatus goodD badE,
   .laneTrain badD goodE, .laneTrain goodD badE, .laneTest badD goodE, .laneTest goodD badE, .laneTestEnd 66,
   .tileSet badD goodE, .tileSet goodD badE, .tileResume badD goodE, .tileResume goodD badE,
   .tileRefsel badD goodE, .tileRefsel goodD badE, .pairStatus badD goodE, .pairStatus goodD badE,
   .pairHandover badD goodE, .pairHandover goodD badE, .ptnDigest badD goodE, .ptnDigest goodD badE,
   .ptnAdopt badD goodE, .ptnAdopt goodD badE] : List Instr).all (fun i => !i.wellFormed) = true := by decide +kernel

theorem test_illFormed_terms_refused_4 : ([.ptnBarrier badD goodE, .ptnBarrier goodD badE, .lcGet badD goodE, .lcGet goodD badE,
   .lcAdvance badD goodE, .lcAdvance goodD badE, .fwSelect badD goodE, .fwSelect goodD badE,
   .tmxSelect badD goodE, .tmxSelect goodD badE, .lanePllLoss badE, .tlkTrainWrite 66,
   .tsbReceive 66 (zeroBytes 7) false, .tsbReceive 0 [] false, .trainAttemptTimeout 66, .trainIdleEnd 66,
   .rxSyncAcquire 66, .laneRxLoss 66, .laneErrSecond (List.replicate 133 0), .slipWrite 66,
   .txOnWrite 66 false, .rxOnWrite 66 false, .loopbackWrite 66 0, .loopbackWrite 0 4, .prbsWrite 66 0,
   .prbsWrite 0 4, .inservWrite 64 false, .bcastPlate false 64 0, .bcastPlate false 0 256,
   .bcastCoast false 64 0, .bcastCoast false 0 256, .bcastWipe false 64 0, .bcastWipe false 0 256,
   .snapReq 256, .cmdqPush false 64 0 0, .cmdqPush false 0 256 0, .cmdqPush false 0 0 512, .darkrowGo 64 0 0,
   .darkrowGo 0 256 0, .darkrowGo 0 0 128, .ackTimeout 64, .lstat 64 goodU, .lstat 0 badU, .ftel 64 0 goodU 0,
   .ftel 0 0 badU 0, .ftel 0 0 goodU (2 ^ 32), .ack 64 goodU, .ack 0 badU, .snapr 64 goodU, .snapr 0 badU,
   .updDataWrite 65536, .wearPassTimer badE, .snsCalStepDone 16 0, .fenderZoneApply 64 0, .fbCheckTimer [],
   .fbPulseTimer 2, .fbPulseEnd 2 .low, .faultMessage badE goodM [], .faultMessage goodE badM [],
   .faultMessage goodE goodM [badM]] : List Instr).all (fun i => !i.wellFormed) = true := by decide +kernel

theorem test_illFormed_terms_refused_5 : ([.ashDump badE, .lockstepMismatch 2, .watchdogExpiry 2, .wdkickWrite 2 0 0, .wdkickWrite 0 (2 ^ 32) 0,
   .wdogEnWrite 2 0 0, .irqAccept 2, .mret 2, .fret 2, .setpWrite .s0 6 0, .clrpWrite .s0 6 0,
   .srcTargetWrite .s0 192 0, .wfi 2, .coreWake 2 0, .coreWake 0 192, .strandedTimer 192,
   .domainPowerUp 10 false, .domoffWrite 1024 0, .thmSample 9 0 0 false 0, .sensorSelfTest 512,
   .mrcWgoWrite badE, .mrcBurstDone badE none, .evrWrite badE [], .evrRetry badE [], .ckuGo .s0 2,
   .ckuScanDone 2, .ckuInitWrite 2, .ckuDataWrite 2 0, .lockSet .s0 2 0, .lockSet .s0 (2 ^ 32) 0,
   .registerWrite .s0 2 0, .registerWrite .s0 (2 ^ 32) 0, .hello 63 0 goodF, .hello 64 0 badF,
   .digest 63 0 goodF, .digest 64 0 badF, .adopt 63 goodF, .adopt 64 badF, .barrier 63 goodF,
   .barrier 64 badF, .stage 63 goodF, .stage 64 badF, .zpub 63 0 goodF, .zpub 64 0 badF, .pitch 63 0 goodF,
   .pitch 64 0 badF, .updq 63 goodF, .updq 64 badF, .gov 63 goodF, .gov 64 badF, .tcmd 63 goodF,
   .tcmd 64 badF, .handover 63 0 goodF, .handover 64 0 badF, .taken 63 0 goodF, .taken 64 0 badF,
   .tilePowerUp 64, .tileLinePacket 64 0 goodL, .tileLinePacket 0 2 goodL, .tileLinePacket 0 0 badL] : List Instr).all (fun i => !i.wellFormed) = true := by decide +kernel

theorem test_illFormed_terms_refused_6 : ([.tilePhaseBoundary 64 [], .flip 64 0 goodB, .flip 0 2 goodB, .flip 0 0 badB, .seam 64 0 goodB,
   .seam 0 2 goodB, .seam 0 0 badB, .abort 64 0 goodB, .abort 0 2 goodB, .abort 0 0 badB, .snap 64 0 goodB,
   .snap 0 2 goodB, .snap 0 0 badB, .plate 64 0 goodB, .plate 0 2 goodB, .plate 0 0 badB, .coast 64 0 goodB,
   .coast 0 2 goodB, .coast 0 0 badB, .switch 64 0 goodB, .switch 0 2 goodB, .switch 0 0 badB,
   .tilePortAutoSwitch 64, .cfg 64 0 goodC, .cfg 0 2 goodC, .cfg 0 0 badC, .wipe 64 0 goodC, .wipe 0 2 goodC,
   .wipe 0 0 badC, .resume 64 0 goodC, .resume 0 2 goodC, .resume 0 0 badC, .selwr 64 0 goodC,
   .selwr 0 2 goodC, .selwr 0 0 badC, .probes 64 0 goodC, .probes 0 2 goodC, .probes 0 0 badC,
   .darkrow 64 0 goodC, .darkrow 0 2 goodC, .darkrow 0 0 badC, .refsel 64 0 goodC, .refsel 0 2 goodC,
   .refsel 0 0 badC, .platecap 64 0 goodC, .platecap 0 2 goodC, .platecap 0 0 badC, .tileCoastExpiry 64,
   .tileNobcastTimeout 64, .tileSyncLoss 64, .tileSupplyLoss 64, .tilePlateCheck 64, .tileFreeFtel 64,
   .handshakeNoanswer 32 0, .ttoPulseEnd 4, .dpauseExpiry badE, .tsaReceive 66 (zeroBytes 7) false,
   .tsaReceive 0 [] false, .tileLoopbackExit 64, .mkaFrame 2 none] : List Instr).all (fun i => !i.wellFormed) = true := by decide +kernel

theorem test_illFormed_terms_refused_7 : ([.mkaFrame 0 badK, .ethFrameDiscard 2 .ip] : List Instr).all (fun i => !i.wellFormed) = true := by decide +kernel

/-! ### Witnesses: states and operands that meet the hypotheses of each statement -/

/-- A state in which the device is in `d`. -/
def devIn (d : DevState) : State := { State.reset with dev := { Dev.cold with state := d } }

/-- The pilot at a point of the way up, PORST_N released. -/
def pilotAt (w : WayUp) : State := { State.reset with pilot := { Pilot.cold with porst := true, wayUp := w } }

/-- The same with LIGHT_REQ high. -/
def lightAt (w : WayUp) : State :=
  { State.reset with pilot := { Pilot.cold with porst := true, lightReq := true, wayUp := w } }

theorem witness_StepRunsFrontCommand :
    ({ State.reset with pending := [.fcntRead, .rtcTick] } : State).pending = [.fcntRead, .rtcTick] := rfl

theorem witness_StepRunsFrontCommand_idle : State.reset.pending = [] := rfl

theorem witness_StepKeepsCanonical : Canonical State.reset ∧ step State.reset = .next State.reset :=
  ⟨⟨by decide, by simp [SMap.Sorted, State.reset]⟩, rfl⟩

theorem witness_CommandsLeaveQueueAndPart :
    exec .padrelWrite State.reset = .next State.reset := rfl

theorem witness_WakeSourcesStartTheWayUp :
    (State.reset.dev.state = .pilot ∧ State.reset.pilot.barred = false) ∧
      (let s := { State.reset with pilot := { Pilot.cold with lightReq := true } }
       s.dev.state = .pilot ∧ s.pilot.barred = false ∧ s.pilot.porst = false ∧ s.pilot.wayUp = .idle ∧
         wakeSource s = some 3) ∧
      ((lightAt .retryWait).dev.state = .pilot ∧ (lightAt .retryWait).pilot.barred = false ∧
        wakeSource (lightAt .retryWait) = some 3) ∧
      ((lightAt .lowWait).pilot.barred = false ∧ wakeSource (lightAt .lowWait) = some 3) ∧
      (let s := wr Reg.PWC_P_WAKE_WAKE_EN 1 (pilotAt .idle)
       s.dev.state = .pilot ∧ s.pilot.barred = false ∧ s.pilot.porst = true ∧ s.pilot.wayUp = .idle ∧
         s.pilot.lightReq = false ∧ rd s Reg.PWC_P_WAKE_WAKE_EN = 1) ∧
      (let s := pilotAt .idle |> wr Reg.PWC_P_WAKE_ALARM_EN 1 |> wr Reg.PWC_P_ALARM_SEC 7 |> wr Reg.PWC_P_RTC_SEC 7
       s.dev.state = .pilot ∧ s.pilot.barred = false ∧ s.pilot.porst = true ∧ s.pilot.wayUp = .idle ∧
         s.pilot.lightReq = false ∧ s.pilot.wakePin = false ∧ rd s Reg.PWC_P_WAKE_ALARM_EN = 1 ∧
         rd s Reg.PWC_P_ALARM_SEC ≠ 0 ∧ rd s Reg.PWC_P_RTC_SEC = rd s Reg.PWC_P_ALARM_SEC) ∧
      ((pilotAt .idle).pilot.sFallback = false ∧ (pilotAt .idle).pwc.hs = none) := by decide

/-- A device in `d` whose pilot has PMIC_EN and PG_CORE high and its recovery timer running. -/
def poweredIn (d : DevState) : State :=
  { devIn d with pilot := { Pilot.cold with porst := true, pmicEn := true, pgCore := true, refOk := true, recovOn := true } }

theorem witness_WayUpGoesOn :
    ((pilotAt .waitPg).dev.state = .pilot ∧ (pilotAt .waitPg).pilot.wayUp = .waitPg ∧
        (pilotAt .waitPg).pilot.attempt < 2) ∧
      (let s := { pilotAt .waitPg with pilot := { (pilotAt .waitPg).pilot with attempt := 2 } }
       s.dev.state = .pilot ∧ s.pilot.wayUp = .waitPg ∧ 2 ≤ s.pilot.attempt) ∧
      ((pilotAt .waitRef).dev.state = .pilot ∧ (pilotAt .waitRef).pilot.wayUp = .waitRef) := by decide

theorem witness_SupplyTakesTheDeviceDown :
    (devIn .lit).dev.state ≠ .off ∧ (devIn .off).dev.state = .off ∧
      ((poweredIn .lit).pilot.pmicEn = true ∧ (poweredIn .lit).pilot.pgCore = true) := by decide

theorem witness_ResetsAndPilotClocks :
    (let s := { poweredIn .standby with dev := { Dev.cold with state := .standby, resetDue := some 4 } }
     s.dev.resetDue = some 4 ∧ mainOn s.dev.state = true) ∧
      ((poweredIn .halt).pilot.recovOn = true ∧ (poweredIn .halt).dev.state = .halt ∧ (poweredIn .halt).pilot.recov < 3) ∧
      (let s := { poweredIn .fallback with pilot := { (poweredIn .fallback).pilot with recov := 3 } }
       s.pilot.recovOn = true ∧ s.dev.state = .fallback ∧ 3 ≤ s.pilot.recov) ∧
      ((devIn .pilot).dev.state ≠ .off ∧ mainOn (devIn .pilot).dev.state = false ∧ mainOn (devIn .lit).dev.state = true) ∧
      (let s := { devIn .standby with dev := { Dev.cold with state := .standby, rc := true } }
       s.dev.rc = true ∧ s.dev.state = .standby ∧ s.pilot.lightReq = false) ∧
      (mainOn (poweredIn .standby).dev.state = true ∧ (poweredIn .standby).pilot.refOk = true ∧
        rd (poweredIn .standby) Reg.TLK_STATUS_PLL_LOCK = 0) := by decide


/-- A device at a step of BOOT. -/
def bootAt (k : Nat) : State := { State.reset with dev := { Dev.cold with state := .boot, bootStep := k } }

theorem witness_BootRuns :
    ((bootAt 0).dev.state = .boot ∧ (bootAt 0).dev.bootStep = 0) ∧
      ((bootAt 1).dev.state = .boot ∧ (bootAt 1).dev.bootStep = 1 ∧ (bootAt 1).sec.marker = none) ∧
      (let s := { bootAt 1 with sec := { Sec.cold with marker := some 2 } }
       s.dev.state = .boot ∧ s.dev.bootStep = 1 ∧ s.sec.marker = some 2 ∧ s.sec.wipes = []) ∧
      ((bootAt 2).dev.state = .boot ∧ (bootAt 2).dev.bootStep = 2 ∧ bindingOk (bootAt 2) (bindingArea (bootAt 2)) = false ∧
        NothingWaits (bootAt 2)) := by
  unfold NothingWaits; decide

/-- A bound device in `d` with LIGHT_REQ high and auto-light set in its DEVICE record. -/
def autoIn (d : DevState) : State :=
  wr Reg.SEC_BOOT_BIND 1 { devIn d with
    pilot := { Pilot.cold with lightReq := true }, sec := { Sec.cold with sections := [(0x0D, [1])] } }

/-- A device in `d` with LIGHT_REQ high and the FB0 timer running. -/
def timerIn (d : DevState) : State :=
  { devIn d with pilot := { Pilot.cold with lightReq := true, fbTimer := true } }

theorem witness_LightReqDrivesTheFallbackBeam :
    ((timerIn .standby).dev.state ≠ .off ∧ (timerIn .standby).pilot.lightReq = true ∧
        autoLight (timerIn .standby) = false) ∧
      ((autoIn .lit).dev.state = .lit ∧ (autoIn .lit).pilot.lightReq = true ∧ autoLight (autoIn .lit) = true ∧
        pairOp (autoIn .lit) = false ∧ NothingWaits (autoIn .lit)) ∧
      ((timerIn .halt).pilot.fbTimer = true ∧ (timerIn .halt).pilot.lightReq = true ∧
        rasterState (timerIn .halt).dev.state = false ∧ (timerIn .halt).dev.state ≠ .off ∧
        fbWithheld (timerIn .halt) = false ∧ (timerIn .halt).pilot.fbPulse = none) ∧
      ((devIn .standby).dev.state = .standby ∧ (devIn .lit).dev.state ≠ .standby) ∧
      ((devIn .fallback).dev.state ≠ .off ∧ (devIn .fallback).pilot.fbPulse = none) := by
  unfold NothingWaits; decide

/-- A device in LIT with FB0 lit and a test pulse `p` on it. -/
def pulsing (p : Option (Nat × Bool)) : State :=
  wr Reg.PWC_P_FB_ON 1 { devIn .fallback with pilot := { Pilot.cold with fbPulse := p } }

theorem witness_FallbackBeamTests :
    ((devIn .lit).dev.state ≠ .off ∧ mainOn (devIn .lit).dev.state = true ∧ (devIn .lit).waits = [] ∧
        (∀ c, c < 5 → rd (devIn .lit) (Reg.HIF_MB_CTRL_RESET c) = 0) ∧ (devIn .lit).pilot.fbPulse = none ∧
        fbOn (devIn .lit) = 0) ∧
      ((pulsing none).pilot.fbHigh.length = 2 ∧ bit (fbOn (pulsing none)) 0 = true ∧
        (pulsing none).pilot.fbPulse = none ∧ (pulsing none).dev.state ≠ .off) ∧
      ((pulsing (some (0, true))).pilot.fbPulse = some (0, true) ∧ fbWithheld (pulsing (some (0, true))) = false) ∧
      ((pulsing (some (0, false))).pilot.fbPulse = some (0, false) ∧ fbWithheld (pulsing (some (0, false))) = false) := by
  decide

theorem witness_SafeInLeadsToFallback :
    ((devIn .lit).pilot.safeArmed = true ∧ rasterState (devIn .lit).dev.state = true ∧ severity (devIn .lit) 0x040 = 3 ∧
        pairOp (devIn .lit) = false ∧ NothingWaits (devIn .lit)) ∧
      ((devIn .standby).pilot.safeArmed = true ∧ (devIn .standby).dev.state = .standby ∧
        severity (devIn .standby) 0x040 = 3 ∧ NothingWaits (devIn .standby)) ∧
      ({ Pilot.cold with safeArmed := false } : Pilot).safeArmed = false ∧ mainOn (devIn .lit).dev.state = true := by
  unfold NothingWaits; decide

/-- An MU1610 in PRELIT whose start tests run, with no lane in its tile map missing and the fender ready. -/
def testing (rerun : Bool) : State :=
  { devIn .prelit with dev := { Dev.cold with state := .prelit, tests := true, rerun := rerun, sPlate := rerun } }
    |> wr Reg.FST_RUN 1 |> wr Reg.FST_CFGOK 1 |> wr (Reg.TLK_LN_STATUS_INSERV 0) 1 |> wr (Reg.TPR_TL_STATUS_PLATEV 0) 1

theorem witness_StartTestsDecideLight :
    (let s := testing false
     s.dev.state = .prelit ∧ s.dev.tests = true ∧ pairOp s = false ∧ NothingWaits s ∧ s.dev.rerun = false ∧
       startStepSeen s = 0 ∧ severity s 0x183 = 3 ∧ rd s Reg.FCL_STATUS_VALID = 0) ∧
      (let s := testing true
       s.dev.state = .prelit ∧ s.dev.tests = true ∧ pairOp s = false ∧ NothingWaits s ∧ s.dev.rerun = true ∧
         startStepSeen s = 0) ∧
      (let s := wr Reg.FST_RUN 0 (testing false)
       s.dev.state = .prelit ∧ s.dev.tests = true ∧ pairOp s = false ∧ NothingWaits s ∧ startStepSeen s = 1 ∧
         severity s 0x183 = 3 ∧ rd s Reg.FCL_STATUS_VALID = 0) := by
  unfold NothingWaits; decide

theorem witness_FaultLatchRecords :
    (let s := devIn .standby
     mainOn s.dev.state = true ∧ msgKnown ⟨0x020, 0x06, 1, none⟩ = true ∧ pairOp s = false ∧ severity s 0x020 = 0) ∧
      (let s := devIn .standby
       msgKnown ⟨0x000, 0x01, 1, none⟩ = true ∧ severity s 0x000 = 1 ∧ rd s Reg.FCL_STATUS_VALID = 0) ∧
      (let s := wr Reg.FCL_STATUS_VALID 1 (devIn .standby)
       mainOn s.dev.state = true ∧ pairOp s = false ∧ severity s 0x000 = 1 ∧ rd s Reg.FCL_STATUS_VALID = 1) := by decide


/-- A descriptor on CH0, slot 0, with a completion asked for and the parameter bytes `p`. -/
def descOf (ch len : Nat) (p : Bytes) : Desc :=
  { ch := ch, slot := 0, tag := 7, flags := 2, len := len, params := padTo 44 p, deadline := 0, atag := 0 }

theorem witness_CompletionRecord :
    (⟨0x0101, 4, 0, 7, true, false, false⟩ : Cpl).ch < 5 ∧ (⟨0x0101, 4, 0, 7, true, false, false⟩ : Cpl).cpl = true ∧
      (⟨0x0101, 4, 0, 7, false, false, false⟩ : Cpl).cpl = false := by decide

theorem witness_RingPointerWrites :
    mainOn (devIn .standby).dev.state = true ∧ doorbellRight .host 0 = true ∧
      diff16 64 (rd (devIn .standby) (Reg.HIF_MB_CMDRP_COUNT 0)) ≤ 64 ∧
      diff16 64 (rd (devIn .standby) (Reg.HIF_MB_CMDWP_WP 0)) ≤ diff16 64 (rd (devIn .standby) (Reg.HIF_MB_CMDRP_COUNT 0)) ∧
      64 < diff16 65 (rd (devIn .standby) (Reg.HIF_MB_CMDRP_COUNT 0)) ∧ doorbellRight .host 4 = false ∧
      cplrpRight .host 1 = true ∧ diff16 0 (rd (devIn .standby) (Reg.HIF_MB_CPLRP_RP 1)) ≤ unconsumed (devIn .standby) 1 ∧
      unconsumed (devIn .standby) 1 < diff16 1 (rd (devIn .standby) (Reg.HIF_MB_CPLRP_RP 1)) ∧
      cplrpRight .host 2 = false := by decide

/-- A device in STANDBY with the host awake or asleep, `n` unconsumed completions on CH0, PEND bit 0 set and a window open on
CH0 and on CH4. -/
def windowed (awake : Bool) (n : Nat) : State :=
  { devIn .standby with mbx := { Mbx.cold with awake := awake, release := awake, windows := [(0, ⟨1⟩), (4, ⟨1⟩)] } }
    |> wr (Reg.HIF_MB_CPLWP_COUNT 0) n |> wr Reg.HIF_MB_IRQ_PEND 1 |> wr (Reg.HIF_MB_MOD_COUNT 0) 4

theorem witness_ModerationAndHostAwake :
    (mainOn (windowed true 2).dev.state = true ∧ (SMap.find (windowed true 2).mbx.windows 4).isSome = true ∧
        held (windowed true 2) 4 = false) ∧
      ((SMap.find (windowed false 2).mbx.windows 0).isSome = true ∧ (windowed false 2).mbx.awake = false) ∧
      ((windowed true 2).mbx.awake = true ∧ (windowed true 2).mbx.release = true) ∧
      (∀ c, c < 5 → unconsumed (windowed true 0) c = 0) ∧
      (bit (rd (windowed true 2) Reg.HIF_MB_IRQ_PEND) 0 = true ∧ unconsumed (windowed true 2) 0 ≠ 0 ∧
        unconsumed (windowed true 2) 0 < clampN 1 64 (rd (windowed true 2) (Reg.HIF_MB_MOD_COUNT 0))) := by decide

theorem witness_ChannelResetAndExpiry :
    (mainOn (devIn .standby).dev.state = true ∧ cplrpRight .host 1 = true ∧ (devIn .standby).waits = [] ∧
        (devIn .standby).mbx.deferred = [] ∧ (∀ k, k < 5 → k ≠ 1 → rd (devIn .standby) (Reg.HIF_MB_CTRL_RESET k) = 0)) ∧
      (let w : Waiter := ⟨⟨0x0109, 1, 0, 7, true, false, false⟩, true, .sleep 0⟩
       ({ devIn .standby with waits := [w] } : State).waits = [w] ∧ w.cpl.ch = 1) ∧
      (let q : Deferred := ⟨0x0104, descOf 1 0 [], 0, 10, 0⟩
       ({ devIn .standby with mbx := { Mbx.cold with deferred := [q] } } : State).mbx.deferred = [q] ∧ q.d.ch = 1 ∧
         q.deadline ≤ max 0 10) := by decide

/-- A device in STANDBY, unbound, with the descriptor bytes `b` at the head of CH0. -/
def posted (b : Bytes) : State :=
  { devIn .standby with mem := Memory.put [] 0x21F00000 b } |> wr (Reg.HIF_MB_CMDWP_WP 0) 1

theorem witness_DescriptorTakeRunsItsRow :
    nextChannel (atTime 0 (posted [1, 1, 7, 0, 2])) = some 0 ∧
      leAt (headOf (atTime 0 (posted [1, 1, 7, 0, 2])) 0) 0 2 = 0x0101 ∧
      (mailboxInstr 0x0101 (descOf 0 0 []) ⟨0, 0⟩).isSome = true := by decide

theorem witness_DescriptorChecksInOrder :
    (let s := autoIn .standby
     let r := (cmdOf 0x0101).map (fun x => (soundDesc x.1.used (descOf 0 60 []), soundDesc x.1.used (descOf 0 0 []),
       channelOk x.2 s 2, channelOk x.2 s 0, decide (judge x.1 x.2 (descOf 0 4 []) s = .bad)))
     serves s 0 = true ∧ serves s 2 = true ∧ r = some (false, true, false, true, true)) ∧
      (let s := devIn .standby
       let r := (cmdOf 0x0104).map (fun x => (soundDesc x.1.used (descOf 0 0 []), channelOk x.2 s 0,
         authAsked x.2 (descOf 0 0 []), dAuth (descOf 0 0 []), decide (judge x.1 x.2 (descOf 0 0 []) s = .done)))
       r = some (true, true, true, false, true)) ∧
      (let s := autoIn .standby
       let r := (cmdOf 0x0603).map (fun x => (soundDesc x.1.used (descOf 3 16 []), channelOk x.2 s 3,
         authAsked x.2 (descOf 3 16 []), decide (judge x.1 x.2 (descOf 3 16 []) s = .held 5 6), dDefer (descOf 3 16 [])))
       serves s 3 = true ∧ r = some (true, true, false, true, false)) := by decide

/-- A device in LIT whose raster runs and stands in line `l`, with one mesh in its binding and GO at `go`. -/
def rasterAt (l go : Nat) : State :=
  { devIn .lit with sec := { Sec.cold with sections := [(0x04, List.replicate 4420 0)] } }
    |> wr Reg.RAS_CTRL_RUN 1 |> wr Reg.RAS_POS_LINE l |> wr Reg.RAS_COMMIT_GO go |> wr Reg.PWC_STATUS_PL 1

theorem rasterAt_inRange : setInRange (rasterAt 127 1) (shadowSet (rasterAt 127 1)) = true := by
  decide +kernel

/-- The same with a shadow out of range. -/
def outOfRange (l go : Nat) : State := wr Reg.RAS_SH_MESH_MESH 5 (rasterAt l go)

theorem witness_CommitSamplesTheShadows :
    (let s := rasterAt 127 1
     rasterOn s = true ∧ lineNow s = 127 ∧ s.ras.sampled = false ∧ s.ras.stag = none ∧ isStandby s = false ∧
       role s ≠ 1 ∧ rd s Reg.RAS_COMMIT_GO = 1 ∧ modeCap s = 3 ∧ NoneRuns s ∧
       levelCovers s (rd s Reg.RAS_SH_TIMING_MODE) = true ∧ timingDiffers s (shadowSet s) = false) ∧
      (let s := outOfRange 127 1
       rasterOn s = true ∧ lineNow s = 127 ∧ rd s Reg.RAS_COMMIT_GO = 1 ∧ setInRange s (shadowSet s) = false ∧ NoneRuns s) ∧
      (let s := wr Reg.PWC_STATUS_PL 0 (rasterAt 127 1)
       setInRange s (shadowSet s) = true ∧ levelCovers s (rd s Reg.RAS_SH_TIMING_MODE) = false) := by
  unfold NoneRuns; decide +kernel

theorem witness_CommitGoAndCancel :
    (let s := rasterAt 130 0
     mainOn s.dev.state = true ∧ rasterOn s = true ∧ isStandby s = false ∧ rd s Reg.RAS_COMMIT_GO = 0 ∧ lineNow s ≠ 127) ∧
      (let s := wr Reg.RAS_CTRL_RUN 0 (rasterAt 254 0)
       mainOn s.dev.state = true ∧ rasterOn s = false ∧ modeCap s = 3 ∧ setInRange s (shadowSet s) = true) ∧
      (let s := wr Reg.RAS_CTRL_RUN 0 (outOfRange 254 0)
       mainOn s.dev.state = true ∧ rasterOn s = false ∧ setInRange s (shadowSet s) = false) ∧
      (let s := rasterAt 3 1
       rd s Reg.RAS_COMMIT_GO = 1 ∧ lineNow s ≠ 127 ∧ NoneRuns s) := by
  unfold NoneRuns; decide +kernel

theorem witness_PhaseCapturesAndEvents :
    (let s := wr (Reg.RAS_EVT_EN 2) 1 (rasterAt 3 0)
     mainOn s.dev.state = true ∧ rasterOn s = true ∧ lineNow s ≠ 0xFF ∧ rd s (Reg.RAS_EVT_EN 2) = 1 ∧
       rd s (Reg.RAS_EVT_EN 1) = 0) ∧
      (mainOn (devIn .standby).dev.state = true ∧ rasterOn (devIn .standby) = false) := by decide

theorem witness_LinesFollowOneAnother :
    (rasterAt 134 0).mbx.withdraw = false ∧ rasterOn (rasterAt 134 0) = true ∧ rasterOn (devIn .lit) = false ∧
      (devIn .lit).mbx.withdraw = false := by decide

theorem witness_ContentStartRendersOrTransfers :
    (let s := rasterAt 128 0
     rasterOn s = true ∧ lineNow s = 128 ∧ s.ras.csDone = false ∧ NoneRuns s ∧ NothingWaits s ∧ s.ras.stag = none ∧
       s.ras.seam = false ∧ joinKnown s = false) ∧
      (let s := { rasterAt 128 0 with ras := { Ras.cold with stag := some [], seam := true } }
       rasterOn s = true ∧ lineNow s = 128 ∧ s.ras.csDone = false ∧ NoneRuns s ∧ NothingWaits s ∧ s.ras.stag = some [] ∧
         s.ras.seam = true ∧ rd s Reg.RAS_STATUS_SEAM_WAIT = 0 ∧ s.dev.entering = none) := by
  unfold NoneRuns NothingWaits; decide

/-- The slot of a raster whose lane 0 is up, with the seam, the withdrawal and the start frame as given. -/
def slotAt (seam gone start : Bool) : State :=
  { rasterAt 128 0 with ras := { Ras.cold with seam := seam, withdrawn := gone, startFrame := start } }
    |> wr Reg.TPR_CTRL_EN 1 |> wr (Reg.TLK_LN_STATUS_LINK 0) 2

theorem witness_SlotsCountAndCarryOneSet :
    (let s := slotAt false false false
     rasterOn s = true ∧ lineNow s = 128 ∧ s.ras.slotDone = false ∧ s.ras.startFrame = false ∧ s.ras.seam = false ∧
       s.ras.withdrawn = false ∧ s.ptn.abort = false ∧ muted s = false ∧ rd s Reg.TPR_CTRL_EN = 1 ∧ 0 ∈ upLanes s) ∧
      ((slotAt true false false).ras.seam = true ∧ (slotAt true false false).ras.startFrame = false) ∧
      ((slotAt false true false).ras.withdrawn = true ∧ (slotAt false true false).ras.startFrame = false) ∧
      ((slotAt false false true).ras.startFrame = true ∧ joinKnown (slotAt false false true) = false ∧
        rasterOn (slotAt false false true) = true ∧ lineNow (slotAt false false true) = 128) := by decide

/-- A raster in line `l` whose engines render, with tile line `k` next on both. -/
def renderAt (l k : Nat) : State :=
  { rasterAt l 0 with gte := { Gte.cold with active := true, nextE := k, nextW := k } }

theorem witness_TileLinesInTimeAndLate :
    (let s := renderAt 119 127
     rasterOn s = true ∧ s.gte.active = true ∧ lineNow s ≠ 0xFF ∧ 127 = nextLine s true ∧ 127 ≤ renderPos s) ∧
      (let s := renderAt 128 0
       rasterOn s = true ∧ s.gte.active = true ∧ lineNow s ≠ 0xFF ∧ renderPos s < 1) ∧
      (let s := renderAt 9 10
       rasterOn s = true ∧ s.gte.active = true ∧ lineNow s ≠ 0xFF ∧ s.cor.line ≤ 10 ∧ 10 + 7 ≤ renderPos s ∧
         lineNow s < 128 ∧ s.ras.withdrawn = false) := by decide

/-- A bound device in LIT whose port 0 is up and whose stream 0 is 64 samples by 16 rows, 16 bits wide, with a frame being
written that holds every row but the last. -/
def streaming : State :=
  { autoIn .lit with gte := { Gte.cold with streams := [(0, ⟨some ⟨1, 77, List.range 15, 4, false, false, false⟩, none⟩)] } }
    |> wr Reg.ETH_CTRL_EN0 1 |> wr (Reg.ETH_P_STATUS_LINK 0) 1 |> wr (Reg.ETH_P_STATUS_SA 0) 1 |> wr (Reg.GTE_SCFG_EN 0) 1
    |> wr (Reg.GTE_SCFG_WM1 0) 63 |> wr (Reg.GTE_SCFG_HM1 0) 15

/-- The packet that ends that frame. -/
def lastPkt : AvtpPkt := ⟨0, 5, true, 77, 0, false, false, true, 15, List.replicate 64 0xABCD⟩

theorem witness_BaseFramesArriveAndAge :
    (let s := streaming
     portUp s 0 = true ∧ macsecBars s 0 = false ∧ streamOf s 0 = some 0 ∧
       (streamSt s 0).writing = some ⟨1, 77, List.range 15, 4, false, false, false⟩ ∧ lastPkt.widthCode = rd s (Reg.GTE_SCFG_FMT 0) ∧
       lastPkt.row < streamH s 0 ∧ lastPkt.samples.length = streamW s 0 ∧ 0 < streamW s 0 ∧ s.eccBad = [] ∧
       (List.range 15).length + 1 = streamH s 0) ∧
      (rasterOn (renderAt 3 0) = true ∧ (renderAt 3 0).gte.source ≠ .direct) := by decide

/-- A bound device in STANDBY with both links up and an address and a peer on port 0. -/
def linked : State :=
  autoIn .standby |> wr Reg.ETH_CTRL_EN0 1 |> wr (Reg.ETH_P_STATUS_LINK 0) 1 |> wr (Reg.ETH_P_STATUS_SA 0) 1
    |> wr (Reg.ETH_P_PEER0_ADDR 0) 9 |> wr (Reg.ETH_P_IPADDR_ADDR 0) 8

/-- A hatch request from that peer with `len` payload bytes to address `a`. -/
def hatchOf (len a : Nat) : HatchHdr :=
  { port := 0, srcIp := 9, srcPort := 50000, udpLen := 16 + len, magic := 0x4854, ver := 1, seq := 3, len := len,
    status := 0, resv := 0, addr := a }

theorem witness_HatchAnswersEachRequestOnce : HatchReaches (hatchOf 64 0) linked :=
  ⟨by decide +kernel, by decide +kernel, by decide +kernel⟩


theorem witness_HatchMovesDescriptorsAndWords :
    (HatchServed (hatchOf 64 0) linked ∧ (hatchOf 64 0).addr = 0 ∧ (hatchOf 64 0).len = 64 * 1 ∧ linked.eccBad = [] ∧
        diff16 (rd linked (Reg.HIF_MB_CMDWP_WP 1)) (rd linked (Reg.HIF_MB_CMDRP_COUNT 1)) + 1 ≤ 64) ∧
      (HatchServed (hatchOf 4 8) linked ∧ winRegion 8 = winRegion (8 + 4 * 1 - 4) ∧ (hostFetches 8 1 linked).2.1 = false) ∧
      (HatchServed (hatchOf 8 0x10FF8) linked ∧ (hatchOf 8 0x10FF8).addr = 0x10000 + 0xFF8 ∧ 0xFF8 + 8 ≤ 0x1000) ∧
      (let h := { hatchOf 64 0 with srcIp := 7 }
       hatchHears linked h.port = true ∧ macsecBars linked h.port = false ∧ hatchPeer linked h = false) := by
  unfold HatchServed HatchReaches; decide +kernel

/-- A five-byte SPI header with its CRC-8. -/
def spiHdr (b : Bytes) : Bytes := b ++ leBytes 1 (crc8 b)

theorem witness_SpiTransactions :
    (let hdr := spiHdr [0x40, 0, 0, 0, 8]
     (devIn .pilot).dev.state ≠ .off ∧ byteAt hdr 5 = crc8 (hdr.take 5) ∧ byteAt hdr 0 / 64 = 1 ∧ beAt hdr 1 4 % 4 = 0 ∧
       (hostFetches (beAt hdr 1 4) (byteAt hdr 0 % 64 + 1) (devIn .pilot)).2.1 = false) ∧
      (mainOn (devIn .standby).dev.state = true ∧ byteAt [0x40, 0, 0, 0, 8, 0] 5 ≠ crc8 [0x40, 0, 0, 0, 8]) ∧
      (let hdr := spiHdr [0x80, 0, 1, 0x0F, 0xFC]
       byteAt hdr 5 = crc8 (hdr.take 5) ∧ byteAt hdr 0 / 64 = 2 ∧ byteAt hdr 0 % 64 + 1 = 1 ∧ beAt hdr 1 4 % 4 = 0 ∧
         0x10000 ≤ beAt hdr 1 4 ∧ beAt hdr 1 4 + 4 * 1 ≤ 0x11000 ∧ (devIn .standby).eccBad = []) := by decide +kernel

/-- A device in STANDBY whose CAN port is on and takes identifier 5, with status frames configured. -/
def canned : State :=
  devIn .standby |> wr Reg.HIF_CAN_CTRL_EN 1 |> wr Reg.HIF_CAN_CTRL_STPER 1 |> wr Reg.HIF_CAN_STID_EN 1
    |> wr (Reg.HIF_CAN_FILT_ID_EN 0) 1 |> wr (Reg.HIF_CAN_FILT_ID_ID 0) 5 |> wr (Reg.HIF_CAN_FILT_MASK_MASK 0) 0x7FF

/-- The 24 bytes of a beam frame with FRESH 1, and the MAC that verifies it on `canned`. -/
def beamFrame : Bytes :=
  let b : Bytes := [1, 3, 7, 2] ++ zeroBytes 16 ++ [1, 0, 0, 0]
  b ++ padTo 8 (Config.cmac (SMap.getD canned.sec.keys 3 []) (leBytes 4 5 ++ b))

theorem padTo_length (n : Nat) (b : Bytes) : (padTo n b).length = n := by simp [padTo, zeroBytes]; omega

theorem beamFrame_mac : canMacOk canned 5 false beamFrame = true := by
  have h := padTo_length 8 (Config.cmac (SMap.getD canned.sec.keys 3 [])
    (leBytes 4 5 ++ ([1, 3, 7, 2] ++ zeroBytes 16 ++ [1, 0, 0, 0])))
  have h24 : (([1, 3, 7, 2] ++ zeroBytes 16 ++ [1, 0, 0, 0] : Bytes)).length = 24 := rfl
  simp only [canMacOk, beamFrame, List.take_left' h24, List.drop_left' h24, b2n]
  rw [List.take_of_length_le (by rw [h])]
  simp

theorem witness_CanFramesBecomeDescriptors :
    (canMacOk canned 5 false beamFrame = true ∧ canOn canned = true ∧ canMatch canned 5 false = true ∧ beamFrame.length = 32 ∧ canned.eccBad = [] ∧
        diff16 (rd canned (Reg.HIF_MB_CMDWP_WP 2)) (rd canned (Reg.HIF_MB_CMDRP_COUNT 2)) < 64 ∧
        rd canned Reg.HIF_CAN_FRESH_LAST < leAt beamFrame 20 4 ∧ byteAt beamFrame 3 < 4) ∧
      canMatch canned 6 false = false ∧
      (rd canned Reg.HIF_CAN_STID_EN = 1 ∧ rd canned Reg.HIF_CAN_CTRL_STPER ≠ 0) ∧
      (mainOn (wr Reg.HIF_CAN_STAT_BUS 2 canned).dev.state = true ∧
        rd (wr Reg.HIF_CAN_STAT_BUS 2 canned) Reg.HIF_CAN_STAT_BUS = 2) ∧
      leAt (zeroBytes 32) 20 4 ≤ rd canned Reg.HIF_CAN_FRESH_LAST ∧ (zeroBytes 32).length = 32 := by
  have h : beamFrame.length = 32 := by
    rw [beamFrame, List.length_append, padTo_length]; rfl
  refine ⟨⟨beamFrame_mac, by decide, by decide, h, by decide, by decide, ?_, ?_⟩, by decide, by decide, by decide,
    by decide, by decide⟩
  · show rd canned Reg.HIF_CAN_FRESH_LAST < 1; decide
  · show 2 < 4; decide

theorem witness_EthernetPortsAnswer :
    portUp linked 0 = true ∧ macsecBars linked 0 = false ∧ rd linked (Reg.ETH_P_IPADDR_ADDR 0) ≠ 0 ∧
      SMap.getD linked.links.sas 0 [] = [] := by decide

theorem witness_DomainViewsAreSteered :
    mainOn (devIn .standby).dev.state = true ∧ incOk (stagedInc (devIn .standby) 1) = true ∧
      incOk (stagedInc (wr (Reg.NTM_D_INC_INT_VALUE 1) 5 (devIn .standby)) 1) = false ∧
      rd (wr (Reg.NTM_D_STATE_STATE 0) 1 (devIn .standby)) (Reg.NTM_D_STATE_STATE 0) = 1 := by decide +kernel

/-- A device in STANDBY with domain 0 valid and output 0 set to start at 5 s with the period and width given. -/
def ttoAt (per width : Nat) : State :=
  devIn .standby |> wr (Reg.NTM_D_STATE_STATE 0) 1 |> wr (Reg.NTM_TTO_START_SL_VALUE 0) 5
    |> wr (Reg.NTM_TTO_PERIOD_VALUE 0) per |> wr (Reg.NTM_TTO_WIDTH_VALUE 0) width

theorem witness_TtoArmIsRefusedInThreeCases :
    mainOn (ttoAt 1000 8).dev.state = true ∧ (ttoAt 1000 8).now ≤ 3 ∧ bit (0x80000000 : Word).toNat 31 = true ∧
      (¬ttoStart (ttoAt 1000 8) 0 ≤ timeNow (atTime 3 (ttoAt 1000 8)) 0 ∧ domValid (ttoAt 1000 8) 0 = true ∧
        ¬rd (ttoAt 1000 8) (Reg.NTM_TTO_PERIOD_VALUE 0) ≤ rd (ttoAt 1000 8) (Reg.NTM_TTO_WIDTH_VALUE 0)) ∧
      domValid (ttoAt 1000 8) 1 = false ∧
      rd (ttoAt 1000 1000) (Reg.NTM_TTO_PERIOD_VALUE 0) ≤ rd (ttoAt 1000 1000) (Reg.NTM_TTO_WIDTH_VALUE 0) ∧
      ttoStart (devIn .standby) 0 ≤ timeNow (atTime 3 (devIn .standby)) 0 := by decide +kernel

theorem witness_TtoEdgesAndPulses :
    (let s := wr (Reg.NTM_TTO_CTRL_EN 0) 1 (devIn .standby)
     ttoFree s = true ∧ rd s (Reg.NTM_TTO_CTRL_EN 0) = 1 ∧ (ttoOf s 0).pulse = false ∧ (ttoOf s 0).k = 0 ∧
       ttoStart s 0 + (ttoOf s 0).k * rd s (Reg.NTM_TTO_PERIOD_VALUE 0) ≤
         timeNow (atTime 3 s) (rd s (Reg.NTM_TTO_CTRL_DOM 0))) ∧
      timeNow (atTime 3 (ttoAt 1000 8)) 0 < ttoStart (ttoAt 1000 8) 0 ∧
      (ttoOf (setTto 0 ⟨1, true⟩ (devIn .standby)) 0).pulse = true := by decide +kernel

theorem witness_PpsEdgeIsCaptured : mainOn (devIn .standby).dev.state = true ∧ (devIn .standby).now ≤ 3 := by decide

/-- The checks of R318 on a descriptor but for its tag. -/
def runsB (opc : Nat) (d : Desc) (e : Env) (s : State) : Bool :=
  match cmdOf opc with
  | some (c, r) => serves s d.ch && soundDesc c.used d && channelOk r (atTime e.t s) d.ch && (!authAsked r d || dAuth d) &&
      decide (judge c r d (taken opc d e s) = .run) && (bound s || !needsBinding opc)
  | none => false

theorem runs_of_runsB {opc : Nat} {d : Desc} {e : Env} {s : State} (h : runsB opc d e s = true)
    (ht : dAuth d = true → tagOk opc d (atTime e.t s) = true) : Runs opc d e s := by
  unfold runsB at h
  split at h
  · next c r hc =>
    have hr : r.opc = opc := by
      unfold cmdOf at hc
      split at hc
      · next _ _ _ hx => simp only [Option.some.injEq, Prod.mk.injEq] at hc; rw [← hc.2]; simpa using List.find?_some hx
      · cases hc
    simp only [Bool.and_eq_true, Bool.or_eq_true, Bool.not_eq_true', decide_eq_true_eq] at h
    obtain ⟨⟨⟨⟨⟨h1, h2⟩, h3⟩, h4⟩, h5⟩, h6⟩ := h
    refine ⟨c, r, hc, h1, h2, h3, fun ha => ?_, h5, h6⟩
    rw [hr]
    have hd : dAuth d = true := h4.resolve_left (by simp [ha])
    exact ⟨hd, ht hd⟩
  · cases h

/-- A descriptor with AUTH set and the tag that verifies in `s`. -/
def signed (opc : Nat) (d : Desc) (s : State) : Desc :=
  let d := { d with flags := d.flags ||| 8 }
  let cnt := (rd s (Reg.HIF_MB_AUTHCNT_COUNT d.ch) + 1) % 2 ^ 32
  { d with atag := leAt (Config.cmac (tagKey s d.ch) (leBytes 4 cnt ++ descHead opc d)) 0 8 }

theorem signed_tagOk (opc : Nat) (d : Desc) (s : State) (t : Nat) : tagOk opc (signed opc d s) (atTime t s) = true := by
  simp only [tagOk, beq_iff_eq]; rfl

theorem runs_signed {opc : Nat} {d : Desc} {e : Env} {s : State} (h : runsB opc (signed opc d s) e s = true) :
    Runs opc (signed opc d s) e s := runs_of_runsB h (fun _ => signed_tagOk opc d s e.t)

theorem runs_plain {opc : Nat} {d : Desc} {e : Env} {s : State} (h : runsB opc d e s = true) (hd : dAuth d = false) :
    Runs opc d e s := runs_of_runsB h (fun ha => absurd ha (by simp [hd]))

/-- The instant 5 and a full hold-up capacitor. -/
def env5 : Env := ⟨5, 65535⟩

/-- Opcodes, LENs and parameters of the commands that only report. -/
def reports : List (Nat × Nat × Bytes) :=
  [(0x0101, 0, []), (0x0201, 4, []), (0x0301, 4, []), (0x0403, 4, []), (0x0604, 0, []), (0x0704, 0, []), (0x0801, 4, [8]),
   (0x0801, 4, [0xFF]), (0x0901, 0, []), (0x0902, 4, []), (0x0903, 4, []), (0x0A01, 8, []), (0x0A02, 0, []), (0x0B01, 4, []),
   (0x0B04, 4, [9]), (0x0C01, 0, []), (0x0C04, 0, []), (0x0D01, 4, []), (0x0E01, 0, []), (0x0F01, 0, [])]

theorem reports_run : (reports.all fun x =>
    runsB x.1 (descOf 1 x.2.1 x.2.2) env5 (autoIn .lit) && !dAuth (descOf 1 x.2.1 x.2.2)) = true := by decide +kernel

theorem witness_ReportsEndAtOnce : ∀ x ∈ reports, Runs x.1 (descOf 1 x.2.1 x.2.2) env5 (autoIn .lit) := fun x hx =>
  have h := List.all_eq_true.mp reports_run x hx
  runs_plain (Bool.and_eq_true_iff.mp h).1 (by simpa using (Bool.and_eq_true_iff.mp h).2)

/-- A bound device in `d` with one mesh, level 1 and the raster in line `l`, or stopped. -/
def boundRaster (d : DevState) (l : Option Nat) : State :=
  let s := { autoIn d with sec := { Sec.cold with sections := [(0x04, List.replicate 4420 0), (0x0D, [1])] } }
  match l with
  | some l => s |> wr Reg.PWC_STATUS_PL 1 |> wr Reg.RAS_CTRL_RUN 1 |> wr Reg.RAS_POS_LINE l
  | none => wr Reg.PWC_STATUS_PL 1 s

/-- Opcodes, LENs and parameters of the shadow commands, with COMMIT at `k`. -/
def shadowWords (k : Byte) : List (Nat × Nat × Bytes) :=
  [(0x0302, 8, [0, 0, 0, 0, 0, k]), (0x0502, 17, [1, 1, 0, 0, 0, 0, 0, 0, 0, 0x10, 0, 0, 0, 0, 0, 0, k]), (0x0503, 2, [3, k]),
   (0x0601, 3, [0, 1, k]), (0x0602, 2, [0, k]), (0x0702, 4, [0, 0, 4, k])]

theorem shadows_run : ((shadowWords 0 ++ shadowWords 1 ++ [(0x0701, 0, [])]).all fun x =>
    runsB x.1 (signed x.1 (descOf 1 x.2.1 x.2.2) (boundRaster .lit (some 9))) env5 (boundRaster .lit (some 9))) = true := by
  decide +kernel

theorem witness_ShadowCommandsAndCommit :
    (∀ x ∈ shadowWords 0 ++ shadowWords 1 ++ [(0x0701, 0, [])],
        Runs x.1 (signed x.1 (descOf 1 x.2.1 x.2.2) (boundRaster .lit (some 9))) env5 (boundRaster .lit (some 9))) ∧
      (let s := boundRaster .lit (some 9)
       rasterOn s = true ∧ isStandby s = false ∧ rd s Reg.RAS_COMMIT_GO = 0 ∧ lineNow s ≠ 127 ∧ s.ras.stag = none) :=
  ⟨fun x hx => runs_signed (List.all_eq_true.mp shadows_run x hx), by decide +kernel⟩

theorem witness_ShadowCommandsAndCommit_others :
    (let s := { boundRaster .lit (some 9) with sec := { Sec.cold with sections := [(0x10, [0, 0, 0, 0])] } }
     let d := descOf 1 12 [1, 1, 0, 0, 0, 0, 0, 0, 1, 0, 1, 0]
     Runs 0x0501 (signed 0x0501 d s) env5 s ∧ (glyphSource (taken 0x0501 (signed 0x0501 d s) env5 s) (signed 0x0501 d s)).isSome) ∧
      (let s := boundRaster .lit none
       Runs 0x0202 (signed 0x0202 (descOf 1 4 [0, 0]) s) env5 s ∧ s.ras.stag = none) ∧
      (let s := { boundRaster .lit none with ras := { Ras.cold with stag := some [] } }
       Runs 0x0202 (signed 0x0202 (descOf 1 4 [0, 1]) s) env5 s ∧ s.ras.stag = some []) ∧
      Runs 0x0703 (descOf 1 4 [9]) env5 (boundRaster .lit (some 9)) :=
  ⟨⟨runs_signed (by decide +kernel), by decide +kernel⟩, ⟨runs_signed (by decide +kernel), rfl⟩,
    ⟨runs_signed (by decide +kernel), rfl⟩, runs_plain (by decide +kernel) (by decide)⟩

/-- A bound device in `d` that stands still, at level `pl`, LIGHT_REQ low. -/
def stillIn (d : DevState) (pl : Nat) : State :=
  wr Reg.PWC_STATUS_PL pl (wr Reg.SEC_BOOT_BIND 1 { devIn d with mbx := { Mbx.cold with standstill := some 3 } })

theorem witness_DeviceCommandsMoveTheDevice :
    (NothingWaits (stillIn .standby 0) ∧ NothingWaits (stillIn .standby 1) ∧ NothingWaits (stillIn .lit 1) ∧
        NothingWaits (stillIn .service 1) ∧ NothingWaits (devIn .halt)) ∧
      Runs 0x0102 (descOf 1 4 [2]) env5 (stillIn .standby 0) ∧
      (Runs 0x0103 (signed 0x0103 (descOf 1 0 []) (stillIn .standby 0)) env5 (stillIn .standby 0) ∧
        rd (stillIn .standby 0) Reg.PWC_STATUS_PL <
          effLevel (taken 0x0103 (signed 0x0103 (descOf 1 0 []) (stillIn .standby 0)) env5 (stillIn .standby 0)) .service) ∧
      (Runs 0x0106 (signed 0x0106 (descOf 1 0 []) (stillIn .standby 1)) env5 (stillIn .standby 1) ∧
        effLevel (taken 0x0106 (signed 0x0106 (descOf 1 0 []) (stillIn .standby 1)) env5 (stillIn .standby 1)) .prelit ≤
          rd (stillIn .standby 1) Reg.PWC_STATUS_PL ∧ (stillIn .standby 1).pilot.safeLow = false ∧
        rasterOn (stillIn .standby 1) = false) ∧
      Runs 0x0103 (signed 0x0103 (descOf 1 0 []) (stillIn .lit 1)) env5 (stillIn .lit 1) ∧
      Runs 0x0104 (signed 0x0104 (descOf 1 0 []) (stillIn .service 1)) env5 (stillIn .service 1) ∧
      Runs 0x0107 (signed 0x0107 (descOf 1 0 []) (stillIn .lit 1)) env5 (stillIn .lit 1) ∧
      Runs 0x0105 (signed 0x0105 (descOf 1 4 [1, 0, 0x64, 0]) (stillIn .lit 1)) env5 (stillIn .lit 1) ∧
      Runs 0x0105 (signed 0x0105 (descOf 1 4 [0, 0, 0x64, 0]) (stillIn .lit 1)) env5 (stillIn .lit 1) ∧
      Runs 0x0108 (signed 0x0108 (descOf 0 0 []) (devIn .halt)) env5 (devIn .halt) ∧
      Runs 0x0109 (descOf 1 4 [9]) env5 (stillIn .standby 0) :=
  ⟨⟨⟨rfl, rfl⟩, ⟨rfl, rfl⟩, ⟨rfl, rfl⟩, ⟨rfl, rfl⟩, ⟨rfl, rfl⟩⟩, runs_plain (by decide +kernel) (by decide),
    ⟨runs_signed (by decide +kernel), by decide +kernel⟩,
    ⟨runs_signed (by decide +kernel), by decide +kernel, by decide, by decide⟩, runs_signed (by decide +kernel),
    runs_signed (by decide +kernel), runs_signed (by decide +kernel), runs_signed (by decide +kernel),
    runs_signed (by decide +kernel), runs_signed (by decide +kernel), runs_plain (by decide +kernel) (by decide)⟩

theorem witness_standstillExpires : (stillIn .service 1).mbx.standstill = some 3 ∧ 3 ≤ max (stillIn .service 1).now 5 ∧
    (stillIn .service 1).dev.entering = none ∧ scBusy (stillIn .service 1) = false ∧
    (stillIn .lit 1).dev.state ≠ .service := by decide


/-- A bound solo device in LIT whose raster runs, with the zones `zs` held and `g` gathered on CH1. -/
def zoned (zs : List (Nat × Zone)) (g : List (Nat × List (Cpl × Bytes))) : State :=
  { boundRaster .lit (some 9) with zne := { Zne.cold with zones := zs }, mbx := { Mbx.cold with gathers := g } }

/-- A zone observed at 5 ns, protected or not. -/
def zoneAt (prot : Bool) (tobs : Nat) : Zone := ⟨zeroBytes 48, tobs, prot, false, 1, 0, 0, 0, 0⟩

/-- A ZONE_PUT on CH1 of an elliptic zone 3, with `f` as its ZFLAGS, signed in `s`. -/
def putOf (f : Byte) (s : State) : Desc :=
  signed 0x0401 (descOf 1 44 ([3, f] ++ zeroBytes 6 ++ [9] ++ zeroBytes 9 ++ [16, 0, 16, 0])) s

theorem witness_ZonePutsGatherAndPublish :
    (let s := zoned [] []
     let d := putOf 0 s
     let p := putOf 0x80 s
     (Runs 0x0401 d env5 s ∧ zonePutValid (taken 0x0401 d env5 s) d.ch (expandZone d.params) = true ∧
         (gathered s d.ch).length < 64 ∧ bit (p8 d 1) 7 = false) ∧
       (Runs 0x0401 p env5 s ∧ zonePutValid (taken 0x0401 p env5 s) p.ch (expandZone p.params) = true ∧ gathered s p.ch = [] ∧
         bit (p8 p 1) 7 = true ∧ pairOp s = false ∧ dClear (expandZone p.params) = false ∧
         SMap.find s.zne.zones (dZid (expandZone p.params)) = none)) ∧
      (let s := zoned [] [(1, [(⟨0x0401, 1, 0, 7, true, false, false⟩, [3])])]
       let d := putOf 0 s
       Runs 0x0401 d env5 s ∧ zonePutValid (taken 0x0401 d env5 s) d.ch (expandZone d.params) = false ∧
         bit (p8 d 1) 7 = false ∧ gathered s d.ch ≠ [] ∧
         gathered s 1 = [(⟨0x0401, 1, 0, 7, true, false, false⟩, [3])]) ∧
      (let s := zoned [] []
       let d := putOf 1 s
       Runs 0x0401 d env5 s ∧ zonePutValid (taken 0x0401 d env5 s) d.ch (expandZone d.params) = false ∧
         gathered s d.ch = []) ∧
      (let s := zoned [(3, zoneAt false 0), (4, zoneAt true 0)] []
       let d := signed 0x0402 (descOf 1 12 [0, 0, 0, 0, 1]) s
       Runs 0x0402 d env5 s ∧ gathered s d.ch = [] ∧ pairOp s = false ∧ p32 d 4 < 1000000000 ∧
         extendTime (p32 d 0) (p32 d 4) (netNow (taken 0x0402 d env5 s)) ≤ netNow (taken 0x0402 d env5 s) + 2000000 ∧
         SMap.Sorted s.zne.zones ∧ ∀ z ∈ s.zne.zones, z.1 < 64) :=
  ⟨⟨⟨runs_signed (by decide +kernel), by decide +kernel⟩, ⟨runs_signed (by decide +kernel), by decide +kernel⟩⟩,
    ⟨runs_signed (by decide +kernel), by decide +kernel⟩, ⟨runs_signed (by decide +kernel), by decide +kernel⟩,
    ⟨runs_signed (by decide +kernel), by unfold SMap.Sorted; decide +kernel⟩⟩

/-- The same with the staging window at `b`. -/
def stagedZone (zs : List (Nat × Zone)) (b : Bytes) : State := { zoned zs [] with mem := Memory.put [] 0x40071000 b }

theorem witness_PublishesApplyAtomically :
    (let s := zoned [] []
     mainOn s.dev.state = true ∧ (0x05000001 : Word).toNat % 128 = 1 ∧ rasterOn s = true ∧ rd s Reg.ZNE_STATUS_PUB_BUSY = 0 ∧
       s.eccBad = [] ∧ dClear (stagedDesc s 0) = false ∧ SMap.find s.zne.zones (dZid (stagedDesc s 0)) = none) ∧
      (let s := stagedZone [(0, zoneAt true 0)] [0, 0, 8, 0, 0, 0, 0, 0, 9]
       ∃ z, SMap.find s.zne.zones (dZid (stagedDesc s 0)) = some z ∧ z.tobs < dTobs (stagedDesc s 0) 4 (netNow (atTime 5 s)) ∧
         dClear (stagedDesc s 0) = true ∧ SMap.Sorted s.zne.zones) ∧
      (let s := zoned [(0, zoneAt true 7)] []
       ∃ z, SMap.find s.zne.zones (dZid (stagedDesc s 0)) = some z ∧
         dTobs (stagedDesc s 0) 4 (netNow (atTime 5 s)) ≤ z.tobs) ∧
      ((0 : Word).toNat % 128 = 0 ∧ 64 < (65 : Word).toNat % 128 ∧ rasterOn (devIn .lit) = false) := by
  refine ⟨by decide +kernel, ⟨zoneAt true 0, ?_⟩, ⟨zoneAt true 7, by decide +kernel⟩, by decide +kernel⟩
  unfold SMap.Sorted; decide +kernel

theorem witness_PitchAndItsStaleTimer :
    (let s := zoned [] []
     let d := signed 0x0603 (descOf 1 16 [0, 0, 0, 0, 9]) s
     Runs 0x0603 d env5 s ∧ pairOp s = false ∧ role s ≠ 1 ∧ s.zne.pitch = none ∧ rasterOn s = true ∧ s.zne.lvlUp = false ∧
       s.zne.pitchAt + msTicks (clampN 10 1000 (rd s Reg.ZNE_LVL_STALE_MS)) ≤ max s.now 300000000) ∧
      (let s := { zoned [] [] with zne := { Zne.cold with pitch := some ⟨9, 0, 0⟩ } }
       let d := signed 0x0603 (descOf 1 16 [0, 0, 0, 0, 9]) s
       Runs 0x0603 d env5 s ∧ pairOp s = false ∧ role s ≠ 1 ∧ s.zne.pitch = some ⟨9, 0, 0⟩ ∧
         extendTime (p32 d 0) (p32 d 4) (netNow (taken 0x0603 d env5 s)) ≤ 9) :=
  ⟨⟨runs_signed (by decide +kernel), by decide +kernel⟩, ⟨runs_signed (by decide +kernel), by decide +kernel⟩⟩


/-- A bound device in STANDBY with the image transfer `i` open, and hold-up of 1,000 µF above 1 V. -/
def imaging (i : Option Transfer) : State :=
  { boundRaster .standby none with image := i } |> wr Reg.MRC_HOLDCFG_CUF 1000 |> wr Reg.MRC_HOLDCFG_VMIN 1000

/-- A transfer of 64 zero bytes to the customer area from CH1 with the blocks `b` and the CRC-32 `c` over it. -/
def transferOf (target c : Nat) (b : List Nat) : Transfer := ⟨1, target, 0, 64, c, 0, b⟩

/-- IMAGE_BEGIN, IMAGE_DATA and IMAGE_END on CH1, signed in `s`. -/
def imageDesc (opc len : Nat) (p : Bytes) (s : State) : Desc := signed opc (descOf 1 len p) s

/-- The CRC-32 of 64 zero bytes. -/
def crc64 : Nat := crc32 (zeroBytes 64)

/-- IMAGE_END meets the hypotheses for the transfer `i`. -/
theorem imageEnd_runs : ([transferOf 0x30 0 [32], transferOf 0x30 0 [0, 32], transferOf 0x10 crc64 [0, 32],
    transferOf 0x30 crc64 [0, 32]].all fun i =>
      runsB 0x0205 (imageDesc 0x0205 0 [] (imaging (some i))) env5 (imaging (some i))) = true := by decide +kernel

theorem witness_ImageTransfers :
    (let s := imaging none
     Runs 0x0203 (imageDesc 0x0203 16 [0x30, 0, 0, 0, 64] s) env5 s ∧ s.image = none ∧
       targetLocked s (p8 (imageDesc 0x0203 16 [0x30, 0, 0, 0, 64] s) 0) = false) ∧
      (let s := imaging (some { transferOf 0x30 0 [] with ch := 0 })
       Runs 0x0203 (imageDesc 0x0203 16 [0x30, 0, 0, 0, 64] s) env5 s ∧ s.image = some { transferOf 0x30 0 [] with ch := 0 }) ∧
      (let s := imaging (some (transferOf 0x30 0 []))
       Runs 0x0204 (imageDesc 0x0204 36 [32, 0, 0, 0, 9] s) env5 s ∧ s.image = some (transferOf 0x30 0 [])) ∧
      (∀ i ∈ [transferOf 0x30 0 [32], transferOf 0x30 0 [0, 32], transferOf 0x10 crc64 [0, 32], transferOf 0x30 crc64 [0, 32]],
        Runs 0x0205 (imageDesc 0x0205 0 [] (imaging (some i))) env5 (imaging (some i))) ∧
      (let s := imaging (some (transferOf 0x30 crc64 [0, 32]))
       let d := imageDesc 0x0205 0 [] s
       crc32 (ldBytes s 0x20000000 64) = crc64 ∧ s.mrc.run = none ∧
         holdCovers (holdMeasure env5 (taken 0x0205 d env5 s)) 1 = true ∧
         holdCovers (holdMeasure ⟨5, 0⟩ (taken 0x0205 d ⟨5, 0⟩ s)) 1 = false ∧
         imageChecked s (transferOf 0x30 crc64 [0, 32]) (zeroBytes 64) = true ∧
         imageChecked s (transferOf 0x10 crc64 [0, 32]) (zeroBytes 64) = false) :=
  ⟨⟨runs_signed (by decide +kernel), by decide +kernel⟩, ⟨runs_signed (by decide +kernel), rfl⟩,
    ⟨runs_signed (by decide +kernel), rfl⟩, fun i hi => runs_signed (List.all_eq_true.mp imageEnd_runs i hi),
    by decide +kernel⟩

theorem witness_imageEndUncovered :
    (let s := imaging (some (transferOf 0x30 crc64 [0, 32]))
     Runs 0x0205 (imageDesc 0x0205 0 [] s) ⟨5, 0⟩ s ∧ NoneRuns s) :=
  ⟨runs_signed (by decide +kernel), by unfold NoneRuns; decide⟩

/-- The same device with calibration and wear on or off, a round or a pass running or none, CKU1 scanning or not. -/
def measuring (on : Nat) (busy : Bool) : State :=
  let s := imaging none
  let s := if busy then { s with sns := { s.sns with round := some ⟨3, 0, false⟩ }, cor := { Cor.cold with pass := some ⟨[9], 0⟩ } }
    else s
  s |> wr Reg.SNS_CTRL_CAL_EN on |> wr Reg.COR_CTRL_WEAR_EN on |> wr (Reg.CKU_STATUS_BUSY 1) (b2n busy)

/-- Opcodes, LENs and parameters of these commands. -/
def diagWords : List (Nat × Nat × Bytes) :=
  [(0x0802, 0, []), (0x0804, 0, []), (0x0803, 4, [1]), (0x0A03, 0, []), (0x0A04, 8, [0, 0, 0, 0x20, 64]),
   (0x0B03, 20, [2, 1]), (0x0B03, 20, [2, 0])]

theorem diag_run : ([(0, false), (1, false), (1, true)].all fun m => diagWords.all fun x =>
    runsB x.1 (signed x.1 (descOf 1 x.2.1 x.2.2) (measuring m.1 m.2)) env5 (measuring m.1 m.2)) = true := by decide +kernel

theorem witness_DiagnosisAndTimeCommands :
    (∀ m ∈ [(0, false), (1, false), (1, true)], ∀ x ∈ diagWords,
        Runs x.1 (signed x.1 (descOf 1 x.2.1 x.2.2) (measuring m.1 m.2)) env5 (measuring m.1 m.2)) ∧
      (let s := measuring 1 false
       rd s Reg.SNS_CTRL_CAL_EN = 1 ∧ s.sns.round = none ∧ rd s Reg.COR_CTRL_WEAR_EN = 1 ∧ s.cor.pass = none ∧
         s.mrc.run = none ∧ rd s (Reg.CKU_STATUS_BUSY 1) = 0 ∧ dumpHeld s = none) ∧
      ((measuring 1 true).sns.round = some ⟨3, 0, false⟩ ∧ (measuring 1 true).cor.pass = some ⟨[9], 0⟩ ∧
        rd (measuring 1 true) (Reg.CKU_STATUS_BUSY 1) ≠ 0 ∧ rd (measuring 0 false) Reg.SNS_CTRL_CAL_EN = 0 ∧
        rd (measuring 0 false) Reg.COR_CTRL_WEAR_EN = 0) ∧
      (let s := measuring 1 false
       holdCovers (holdMeasure env5 (taken 0x0804 (signed 0x0804 (descOf 1 0 []) s) env5 s)) 512 = true ∧
         holdCovers (holdMeasure env5 (taken 0x0803 (signed 0x0803 (descOf 1 4 [1]) s) env5 s)) 1536 = true) ∧
      (let s := wr (Reg.NTM_D_STATE_STATE 1) 1 (measuring 1 false)
       Runs 0x0B02 (signed 0x0B02 (descOf 1 4 [1]) s) env5 s) ∧
      (let h := [0x41, 0x53, 0x48, 0x44, 1] ++ zeroBytes 55
       let s := { measuring 1 false with mem := Memory.put [] 0x30B00000 (h ++ leBytes 4 (crc32 h)) }
       Runs 0x0A03 (signed 0x0A03 (descOf 1 0 []) s) env5 s ∧ (dumpHeld s).isSome = true ∧ s.mrc.run = none ∧
         holdCovers (holdMeasure env5 (taken 0x0A03 (signed 0x0A03 (descOf 1 0 []) s) env5 s)) 1 = true) :=
  ⟨fun m hm x hx => runs_signed (List.all_eq_true.mp (List.all_eq_true.mp diag_run m hm) x hx), by decide +kernel,
    by decide +kernel, by decide +kernel, runs_signed (by decide +kernel), runs_signed (by decide +kernel),
    by decide +kernel⟩


/-- A bound device in PRELIT with S_PLATE. -/
def plated : State :=
  let s := autoIn .prelit
  { s with dev := { s.dev with sPlate := true } }

theorem witness_SafetyCommands :
    (Runs 0x0C02 (signed 0x0C02 (descOf 1 0 []) (autoIn .lit)) env5 (autoIn .lit) ∧ (autoIn .lit).dev.state ≠ .prelit) ∧
      (Runs 0x0C02 (signed 0x0C02 (descOf 1 0 []) plated) env5 plated ∧ plated.dev.state = .prelit ∧ plated.dev.sPlate = true) ∧
      (Runs 0x0C03 (descOf 1 4 [0x40, 0, 3]) env5 (autoIn .standby) ∧ rd (autoIn .standby) Reg.FCL_CTRL_LOCK = 0) ∧
      (let s := wr Reg.FCL_CTRL_LOCK 1 (autoIn .standby)
       Runs 0x0C03 (descOf 1 4 [0x40, 0, 3]) env5 s ∧ rd s Reg.FCL_CTRL_LOCK ≠ 0) ∧
      Runs 0x0C05 (signed 0x0C05 (descOf 1 0 []) (stillIn .standby 0)) env5 (stillIn .standby 0) ∧
      (Runs 0x0C06 (descOf 1 0 []) env5 (autoIn .service) ∧ fenderRuns (autoIn .service) = false) :=
  ⟨⟨runs_signed (by decide +kernel), by decide⟩, ⟨runs_signed (by decide +kernel), rfl, rfl⟩,
    ⟨runs_plain (by decide +kernel) (by decide), by decide⟩, ⟨runs_plain (by decide +kernel) (by decide), by decide⟩,
    runs_signed (by decide +kernel), runs_plain (by decide +kernel) (by decide), by decide⟩

/-- A device in SERVICE with a LANE_TEST of lane 2 waiting. -/
def laneTesting2 : State := { devIn .service with waits := [⟨⟨0x0D03, 1, 0, 7, true, false, false⟩, false, .laneTest 2⟩] }

theorem witness_LaneAndTileCommands_lanes :
    (Runs 0x0D02 (descOf 1 4 [2]) env5 (autoIn .service) ∧ inService (autoIn .service) 2 = false ∧
        linkOf (autoIn .service) 2 ≠ 1) ∧
      (Runs 0x0D03 (descOf 1 8 [2, 3, 1, 0, 1]) env5 (autoIn .service) ∧ p8 (descOf 1 8 [2, 3, 1, 0, 1]) 0 < 64) ∧
      (NoneRuns { laneTesting2 with waits := [] } ∧
        laneTesting2.waits = [⟨⟨0x0D03, 1, 0, 7, true, false, false⟩, false, .laneTest 2⟩] ∧
        rd laneTesting2 (Reg.TLK_LN_CTRL_LB 2) ≠ 3) ∧ (devIn .service).waits = [] :=
  ⟨⟨runs_plain (by decide +kernel) (by decide), by decide, by decide⟩,
    ⟨runs_plain (by decide +kernel) (by decide), by decide⟩, by unfold NoneRuns; decide, rfl⟩

/-- A bound solo device in LIT with lane 2 in service, its tile at state `st`, and TPR on. -/
def tiled (st : Nat) : State :=
  autoIn .lit |> wr Reg.TPR_CTRL_EN 1 |> wr (Reg.TLK_LN_STATUS_INSERV 2) 1 |> wr (Reg.TPR_TL_STATUS_STATE 2) st

/-- Opcodes, LENs and parameters of the tile commands. -/
def tileWords : List (Nat × Nat × Bytes) :=
  [(0x0D04, 4, [2, 1]), (0x0D04, 4, [2, 2]), (0x0D04, 4, [2, 3]), (0x0D05, 4, [2]), (0x0D06, 4, [2, 1, 1]), (0x0D06, 4, [2, 0, 0])]

theorem tiles_run : ([0, 1].all fun st => tileWords.all fun x =>
    runsB x.1 (signed x.1 (descOf 1 x.2.1 x.2.2) (tiled st)) env5 (tiled st)) = true := by decide +kernel

theorem witness_LaneAndTileCommands_tiles :
    (∀ st ∈ [0, 1], ∀ x ∈ tileWords, Runs x.1 (signed x.1 (descOf 1 x.2.1 x.2.2) (tiled st)) env5 (tiled st)) ∧
      (pairOp (tiled 0) = false ∧ role (tiled 0) = 0 ∧ tileStays (tiled 0) 2 1 = false ∧ tileStays (tiled 0) 2 2 = false ∧
        tileStays (tiled 0) 2 3 = false ∧ tileStays (tiled 1) 2 2 = true ∧ pairOp (tiled 1) = false ∧ role (tiled 1) = 0 ∧
        rd (tiled 0) Reg.TPR_CTRL_EN = 1 ∧ (tiled 0).tpr.queue.length < 32) :=
  ⟨fun st hs x hx => runs_signed (List.all_eq_true.mp (List.all_eq_true.mp tiles_run st hs) x hx), by decide +kernel⟩


/-- The active of a pair in LIT with partner lane 64 up. -/
def active : State :=
  autoIn .lit |> wr Reg.ITC_STATUS_PAIR 1 |> wr Reg.PTN_STATUS_ROLE 1 |> wr Reg.PTN_CTRL_EN 1
    |> wr (Reg.TLK_LN_STATUS_LINK 64) 2

/-- The same where the partner has reached barrier 9 of KIND 2. -/
def activeMet : State := { active with ptn := { Ptn.cold with peerAt := [(2, 9, 77)] } }

/-- A command of that device that waits. -/
def activeWaiting (k : WaitKind) : State := { active with waits := [⟨⟨0x0E12, 4, 0, 7, true, false, false⟩, false, k⟩] }

theorem witness_PairLifeCycleAndTestCommands_pair :
    (Runs 0x0E02 (signed 0x0E02 (descOf 1 0 []) active) env5 active ∧ rd active Reg.PTN_CTRL_EN = 1 ∧ linkOf active 64 = 2) ∧
      Runs 0x0E10 (descOf 4 24 []) env5 active ∧ Runs 0x0E11 (descOf 4 16 []) env5 active ∧
      (Runs 0x0E12 (descOf 4 8 [2, 9]) env5 active ∧ (2, 9) ∉ active.ptn.reached ∧ active.ptn.peerAt = []) ∧
      (Runs 0x0E12 (descOf 4 8 [2, 9]) env5 activeMet ∧ (2, 9) ∉ activeMet.ptn.reached ∧
        rd activeMet Reg.PTN_CTRL_EN = 1 ∧ linkOf activeMet 64 = 2 ∧ activeMet.ptn.peerAt = [(2, 9, 77)]) ∧
      NoneRuns { activeWaiting (.barrier 2 9) with waits := [] } ∧ NoneRuns { activeWaiting .handover with waits := [] } :=
  ⟨⟨runs_signed (by decide +kernel), by decide, by decide⟩, runs_plain (by decide +kernel) (by decide),
    runs_plain (by decide +kernel) (by decide), ⟨runs_plain (by decide +kernel) (by decide), by decide, rfl⟩,
    ⟨runs_plain (by decide +kernel) (by decide), by decide, by decide, by decide, rfl⟩,
    by unfold NoneRuns; decide, by unfold NoneRuns; decide⟩

theorem witness_PairLifeCycleAndTestCommands_lc :
    (let s := imaging none
     let d := signed 0x0F02 (descOf 1 4 [2]) s
     Runs 0x0F02 d env5 s ∧ NothingWaits s ∧ (rd s Reg.SEC_LC_CODE, p8 d 0) ∈ [(0, 1), (0, 2), (1, 2), (2, 3), (1, 3)] ∧
       s.mrc.run = none ∧ holdCovers (holdMeasure env5 (taken 0x0F02 d env5 s)) 64 = true) ∧
      (let s := imaging none
       let d := signed 0x0F02 (descOf 1 4 [3]) s
       Runs 0x0F02 d env5 s ∧ NothingWaits s ∧
         (rd s Reg.SEC_LC_CODE, p8 d 0) ∉ [(0, 1), (0, 2), (1, 2), (2, 3), (1, 3)]) ∧
      (let s := imaging none
       Runs 0x0F03 (signed 0x0F03 (descOf 1 4 [1]) s) env5 s) ∧
      (let s := wr Reg.SEC_LC_CODE 1 (imaging none)
       Runs 0x0F04 (descOf 1 4 [0, 63]) env5 s ∧ Runs 0x0F04 (descOf 1 4 [1, 7]) env5 s ∧ rd s Reg.SEC_LC_CODE = 1) ∧
      (let s := wr Reg.SEC_LC_CODE 2 (imaging none)
       Runs 0x0F04 (descOf 1 4 [0, 8]) env5 s ∧ rd s Reg.SEC_LC_CODE = 2) :=
  ⟨⟨runs_signed (by decide +kernel), ⟨rfl, rfl⟩, by decide +kernel⟩,
    ⟨runs_signed (by decide +kernel), ⟨rfl, rfl⟩, by decide +kernel⟩, runs_signed (by decide +kernel),
    ⟨runs_plain (by decide +kernel) (by decide), runs_plain (by decide +kernel) (by decide), by decide +kernel⟩,
    runs_plain (by decide +kernel) (by decide), by decide +kernel⟩


/-- A device in STANDBY whose blocks `l` PWC still asks and whose blocks `dl` have answered DELAY, for sleep or a domain. -/
def asking (l : List Nat) (dl : List (Nat × Nat)) (dom : Option Nat) : State :=
  let s := devIn .standby
  { s with pwc := { s.pwc with hs := some ⟨l, dl, 0, dom⟩ } }

/-- The same with a SLEEP that waits. -/
def askingSleep : State :=
  { asking [3, 4] [] none with waits := [⟨⟨0x0109, 1, 0, 7, true, false, false⟩, true, .sleep 0⟩] }

theorem witness_SleepDomainsLevelsAndDamper_handshakes :
    ((devIn .standby).dev.state = .standby ∧ (devIn .standby).pwc.hs = none ∧ (devIn .lit).dev.state ≠ .standby) ∧
      (let s := asking [3, 4] [] none
       s.pwc.hs = some ⟨[3, 4], [], 0, none⟩ ∧ 3 ∈ [3, 4] ∧ refusal s 3 = none ∧
         max s.now 5 + msTicks 9 ≤ 0 + msTicks 10 ∧ 0 + msTicks 10 < max s.now 5 + msTicks 10 ∧ s.waits = [] ∧ NoneRuns s ∧
         rd s Reg.PWC_DOMOFF_MAP = 0) ∧
      (let s := wr Reg.PWC_DOMOFF_MAP (2 ^ 5) (asking [0xD] [] (some 5))
       s.pwc.hs = some ⟨[0xD], [], 0, some 5⟩ ∧ refusal s 0xD = none ∧ s.waits = [] ∧ rd s Reg.PWC_DOMOFF_MAP = 2 ^ 5) ∧
      (askingSleep.pwc.hs = some ⟨[3, 4], [], 0, none⟩ ∧
        askingSleep.waits = [⟨⟨0x0109, 1, 0, 7, true, false, false⟩, true, .sleep 0⟩] ∧ NothingWaits askingSleep ∧
        NoneRuns { askingSleep with waits := [] } ∧ rd askingSleep Reg.PWC_DOMOFF_MAP = 0) ∧
      (asking [] [(3, 9)] none).pwc.hs = some ⟨[], [(3, 9)], 0, none⟩ ∧
      (let s := asking [] [] none
       s.pwc.hs = some ⟨[], [], 0, none⟩ ∧ s.dev.state = .standby ∧ s.waits = [] ∧ NoneRuns s ∧ wakeSource s = none) ∧
      (let s := wr Reg.PWC_DOMST_MAP 0x3FF (devIn .standby)
       mainOn s.dev.state = true ∧ s.pwc.hs = none ∧ s.waits = [] ∧ rd s Reg.PWC_DOMOFF_MAP = 0 ∧
         bit (rd s Reg.PWC_DOMST_MAP) 9 = true) ∧
      (mainOn (devIn .lit).dev.state = true ∧ bit (rd (devIn .lit) Reg.PWC_DOMLOCK_MAP) 9 = false ∧
        bit (rd (devIn .lit) Reg.PWC_DOMST_MAP) 9 = false) ∧
      bit (rd (wr Reg.PWC_DOMLOCK_MAP 4 (devIn .lit)) Reg.PWC_DOMLOCK_MAP) 2 = true := by
  unfold NoneRuns NothingWaits; decide +kernel

/-- A device in STANDBY that changes to level `l`, or waits for it to enter `r`. -/
def levelling (l : Nat) (r : Option DevState) : State :=
  let s := devIn .standby
  { s with pwc := { s.pwc with plTo := some l }, dev := { s.dev with raising := r } } |> wr Reg.PWC_PLREQ_SB l

/-- A device in LIT with sensor limits set, the damper at `step`, sensor 2 hot since instant 1, and cool since `c`. -/
def damped (step : Nat) (c : Option Nat) : State :=
  let s := devIn .lit
  { s with thm := { s.thm with sensors := SMap.put s.thm.sensors 2 ⟨true, some 1⟩, coolAt := c } }
    |> wr Reg.THM_CTRL_EN 1 |> wr Reg.THM_STATUS_STEP step
    |> forEach (List.range 9) (fun n s => s |> wri (Reg.THM_S_LIM0_WARN n) 900 |> wri (Reg.THM_S_LIM0_THROTTLE n) 1000
        |> wri (Reg.THM_S_LIM1_CRIT n) 1200)

theorem witness_SleepDomainsLevelsAndDamper_levels :
    (let s := wr Reg.PWC_STATUS_PL 3 (levelling 1 none)
     s.pwc.plTo = some 1 ∧ s.waits = [] ∧ NoneRuns s ∧ s.dev.raising = none ∧ s.dev.state = .standby ∧
       rd s Reg.PWC_PLREQ_SB = 1) ∧
      (∀ d ∈ [DevState.prelit, .service],
        let s := levelling 3 (some d)
        s.pwc.plTo = some 3 ∧ s.waits = [] ∧ NoneRuns s ∧ s.dev.raising = some d ∧ s.dev.state = .standby ∧ effLevel s d ≤ 3 ∧
          NothingWaits s ∧ s.pilot.safeLow = false ∧ rasterOn s = false) ∧
      (devIn .standby).pwc.plTo = none := by
  unfold NoneRuns NothingWaits; decide +kernel

theorem witness_SleepDomainsLevelsAndDamper_damper :
    (∀ n ∈ [0, 6, 8],
        let s := damped 0 none
        mainOn s.dev.state = true ∧ rd s Reg.THM_CTRL_EN = 1 ∧ sensorBroken s n = false ∧
          (250 : Int) < rdi s (Reg.THM_S_LIM1_CRIT n) ∧ (1000 : Int) < rdi s (Reg.THM_S_LIM1_CRIT n) ∧
          (250 : Int) < rdi s (Reg.THM_S_LIM0_WARN n) ∧ (250 : Int) < rdi s (Reg.THM_S_LIM0_THROTTLE n) ∧
          rdi s (Reg.THM_S_LIM0_THROTTLE n) ≤ 1000 ∧ rd s Reg.THM_STATUS_STEP = 0) ∧
      (∀ k ∈ [1, 2],
        let s := damped k none
        mainOn s.dev.state = true ∧ rd s Reg.THM_STATUS_STEP = k ∧ s.thm.coolAt = none ∧
          (∀ tm ∈ [5, 100000000000], (List.range 9).find? (fun n => match (sensorOf s n).since with
            | some x => decide (x + msTicks (clampN 100 60000 (rd s Reg.THM_ESC_ESC_MS)) ≤ max s.now tm)
            | none => false) = if tm = 5 then none else some 2)) ∧
      (∀ k ∈ [1, 2, 3],
        let s := damped k (some 7)
        mainOn s.dev.state = true ∧ rd s Reg.THM_STATUS_STEP = k ∧ s.thm.coolAt = some 7 ∧
          7 + msTicks (1000 * max 1 (rd s Reg.THM_ESC_DWELL_S)) ≤ max s.now 100000000000000) ∧
      (∀ n, n < 9 → sensorBroken (damped 0 none) n = false) := by
  decide +kernel


/-- A training set whose byte 1 is `d`, of lane `n`, with flags `fl` and its CHK. -/
def setOf (d : Byte) (n fl : Nat) : Bytes :=
  let b := [d, BitVec.ofNat 8 n, BitVec.ofNat 8 fl, 1, 0x4A, 0x4A]
  b ++ leBytes 1 (trainChk b)

/-- A device in STANDBY with lane 2 in training. -/
def training2 (tr : Training) : State :=
  { devIn .standby with lanes := SMap.put [] 2 { laneInit with training := some tr } }

theorem witness_LanesTrainAndFail :
    (let s := devIn .standby
     mainOn s.dev.state = true ∧ laneExists s 2 = true ∧ laneExists s 65 = true ∧ inService s 2 = false ∧ linkOf s 2 ≠ 1) ∧
      inService (wr (Reg.TLK_LN_STATUS_INSERV 2) 1 (devIn .standby)) 2 = true ∧
      (laneOf (training2 ⟨1, 0, false, true⟩) 2).training = some ⟨1, 0, false, true⟩ ∧
      (∀ r ∈ [false, true], ∀ k ∈ [0, 15],
        let s := training2 ⟨1, k, r, false⟩
        mainOn s.dev.state = true ∧ laneExists s 2 = true ∧ (laneOf s 2).training = some ⟨1, k, r, false⟩ ∧ NoneRuns s) ∧
      (∀ n ∈ [2, 3], ∀ fl ∈ [0, 2], trainSetOk 0xB5 (setOf 0xB5 n fl) false = true ∧
        bits (byteAt (setOf 0xB5 n fl) 2) 3 5 = 0 ∧ byteAt (setOf 0xB5 n fl) 1 = n ∧
        bits (byteAt (setOf 0xB5 n fl) 2) 0 1 = tsaPort (training2 ⟨1, 0, false, false⟩) 2) ∧
      bit (byteAt (setOf 0xB5 2 2) 2) 1 = true ∧
      (laneOf (training2 ⟨3, 0, false, false⟩) 2).training = some ⟨3, 0, false, false⟩ ∧
      (let s := { devIn .standby with pilot := { Pilot.cold with refOk := true } } |> wr Reg.TLK_CTRL_PLL_EN 1
       mainOn s.dev.state = true ∧ rd s Reg.TLK_CTRL_PLL_EN = 1 ∧ s.pilot.refOk = true) ∧
      (∀ d ∈ [DevState.lit, .standby],
        let s := wr Reg.TLK_STATUS_PLL_LOCK 1 (devIn d)
        rd s Reg.TLK_STATUS_PLL_LOCK = 1 ∧ severity s 0x0B0 = 3 ∧ NothingWaits s ∧ NoneRuns s ∧ pairOp s = false ∧
          (rasterState s.dev.state = true ∨ s.dev.state = .standby)) := by
  unfold NoneRuns NothingWaits; decide +kernel

/-- A device in SERVICE whose lane `n` has RXST `rx`, LINK `link` and LB `lb`. -/
def laneAt (n rx link lb : Nat) : State :=
  devIn .service |> wr (Reg.TLK_LN_STATUS_RXST n) rx |> wr (Reg.TLK_LN_STATUS_LINK n) link |> wr (Reg.TLK_LN_CTRL_LB n) lb

/-- A tile of lane 2 with power whose far end is `f`. -/
def farAt (f : FarEnd) : State :=
  { devIn .service with tiles := SMap.put [] 2 { tileInit with powered := true, far := f } }

theorem witness_LanesSyncSleepAndTest :
    (let s := laneAt 2 1 2 0
     mainOn s.dev.state = true ∧ laneExists s 2 = true ∧ rd s (Reg.TLK_LN_STATUS_RXST 2) = 1 ∧
       rd s (Reg.TLK_LN_CTRL_AUTOALIGN 2) = 1 ∧ inService s 2 = false ∧ rd s (Reg.TLK_LN_CTRL_LB 2) ≠ 3 ∧ linkOf s 2 = 2) ∧
      (∀ v ∈ [0, 1],
        let s := wr (Reg.TLK_LN_STATUS_INSERV 2) v (laneAt 2 2 2 0)
        rd s (Reg.TLK_LN_STATUS_RXST 2) = 2 ∧ inService s 2 = decide (v = 1)) ∧
      rd (wr (Reg.TLK_LN_CTRL_AUTOALIGN 65) 0 (laneAt 65 1 0 0)) (Reg.TLK_LN_CTRL_AUTOALIGN 65) = 0 ∧
      (mainOn (laneAt 65 1 0 0).dev.state = true ∧ laneExists (laneAt 65 1 0 0) 65 = true ∧ 64 ≤ 65) ∧
      rd (laneAt 2 1 2 3) (Reg.TLK_LN_CTRL_LB 2) = 3 ∧
      (∀ fl ∈ [0, 2, 4], trainSetOk 0x4A (setOf 0x4A 2 fl) false = true ∧ bits (byteAt (setOf 0x4A 2 fl) 2) 4 4 = 0) ∧
      (bits (byteAt (setOf 0x4A 2 0) 2) 1 2 = 0 ∧ bits (byteAt (setOf 0x4A 2 2) 2) 1 2 = 1 ∧
        bit (byteAt (setOf 0x4A 2 4) 2) 2 = true) ∧
      (∀ f ∈ [⟨true, false, false⟩, ⟨true, false, true⟩],
        let s := farAt f
        2 < laneCount s ∧ (tileOf s 2).powered = true ∧ tileOn s 2 = true ∧ (tileOf s 2).far = f) := by
  decide +kernel


/-- A device in LIT with lane 2 in service, or not, TPR's record of it `l`, and TPR on. -/
def tprAt (on : Bool) (l : TprLane) : State :=
  let s := devIn .lit
  { s with tpr := { s.tpr with lanes := SMap.put [] 2 l } } |> wr Reg.TPR_CTRL_EN 1
    |> wr (Reg.TLK_LN_STATUS_INSERV 2) (b2n on)

/-- An upstream packet of TYPE `type` with its CRC. -/
def upOf (type : Nat) (p : Bytes) : UpPkt := ⟨p, crc32 (leBytes 1 type ++ leBytes 2 p.length ++ p), false⟩

theorem upOf_ok {type len : Nat} {p : Bytes} (h : p.length = len) : upOk type len (upOf type p) = true := by
  subst h; simp [upOk, upOf]

/-- A lane whose set REFSEL with TAG 9 has been sent `k` times, or PROBES. -/
def sentLane (opc k : Nat) : TprLane := { tprLaneInit with sent := [⟨⟨opc, 9, [1, 0, 0, 0]⟩, k, false⟩] }

/-- A line status of raster line `l` for SEQ 0. -/
def lstatOf (l : Byte) : UpPkt := upOf 1 [0, 0, l, 1, 4, 0, 0, 0]

/-- The same device, every other line of content 0 having been received well, with the lane judged. -/
def judged : State :=
  let s := tprAt true { tprLaneInit with lines := 127, sending := true, autoRes := true }
  { s with gte := { s.gte with active := true } }

theorem witness_TprSetsAndAnswers_lanes :
    (let s := tprAt true tprLaneInit
     2 < laneCount s ∧ pairOp s = false ∧ (tprLane s 2).sent = [] ∧ mainOn s.dev.state = true ∧ inService s 2 = true ∧
       rd s Reg.TPR_CTRL_EN = 1 ∧ s.tpr.queue.length < 32 ∧ serviceLanes s ≠ [] ∧ role s = 0) ∧
      inService (tprAt false tprLaneInit) 2 = false ∧
      (∀ k ∈ [1, 3],
        let s := tprAt true (sentLane 7 k)
        (tprLane s 2).sent = [⟨⟨7, 9, [1, 0, 0, 0]⟩, k, false⟩] ∧ seqPassed s ⟨7, 9, [1, 0, 0, 0]⟩ = false) ∧
      (tprLane (tprAt true (sentLane 5 1)) 2).sent = [⟨⟨5, 9, [1, 0, 0, 0]⟩, 1, false⟩] ∧
      (∀ r ∈ [0, 3, 4], upOk 3 4 (upOf 3 [7, 9, r, 0]) = true) ∧ upOk 3 4 (upOf 4 [7, 9, 0, 0]) = false := by
  decide +kernel

theorem witness_TprSetsAndAnswers_answers :
    (upOk 4 16 (upOf 4 (zeroBytes 16)) = true ∧ byteAt (zeroBytes 16) 0 = rd (tprAt true tprLaneInit) Reg.TPR_SNAP_ID ∧
        upOk 4 16 (upOf 3 (zeroBytes 16)) = false) ∧
      (upOk 1 8 (lstatOf 5) = true ∧ byteAt (lstatOf 5).payload 2 ≠ 127 ∧ upOk 1 8 (upOf 2 (zeroBytes 8)) = false) ∧
      (let s := judged
       let l := tprLane s 2
       let p := lstatOf 127
       upOk 1 8 p = true ∧ inService s 2 = true ∧ byteAt p.payload 2 = 127 ∧
         (l.lineOk && bit (byteAt p.payload 3) 0 && leAt p.payload 0 2 == s.gte.seq % 65536) = true ∧ l.lines = 127 ∧
         l.sending = true ∧ linesGo s = true ∧ role s = 0 ∧ l.autoRes = true ∧ rd s Reg.TPR_CTRL_AUTORES = 1 ∧
         l.autoAt = [] ∧ 0 < rd s Reg.TPR_CFG_AUTOMAX ∧
         mapBit s Reg.FCL_DEGMAP_LO_MAP Reg.FCL_DEGMAP_HI_MAP 2 = false) := by
  decide +kernel


/-- The payload of an FTEL of a LIVE tile with SEQ `sq`, signature `sig` and EVENT `ev`. -/
def ftelBytes (sq sig ev : Nat) : Bytes :=
  leBytes 4 sq ++ leBytes 4 sig ++ leBytes 1 ev ++ zeroBytes 5 ++ leBytes 2 10000 ++ leBytes 2 10000 ++ zeroBytes 270

/-- TPR's record of a lane that expects the signature 77 for SEQ 0. -/
def expecting : TprLane := { tprLaneInit with sigs := [(0, 77)] }

/-- A device in STANDBY with a calibration round at channel `c`, pauses `p`, and the damper at step `k`. -/
def calibrating (c k : Nat) (pz : Bool) (p : List Nat) : State :=
  let s := devIn .standby
  { s with sns := { s.sns with round := some ⟨c, 0, pz⟩ }, thm := { s.thm with paused := p } } |> wr Reg.THM_STATUS_STEP k

theorem witness_TelemetryAndCalibration_ftel (sq sig ev : Nat) : upOk 2 288 (upOf 2 (ftelBytes sq sig ev)) = true :=
  upOf_ok (by simp only [ftelBytes, leBytes, zeroBytes, List.length_append, List.length_replicate]; rfl)

theorem witness_TelemetryAndCalibration :
    (∀ q ∈ [(0, 77), (0, 78), (5, 77)],
        let s := tprAt true expecting
        2 < laneCount s ∧ mainOn s.dev.state = true ∧
          inService s 2 = true ∧ (tprLane s 2).resumeSeq = none ∧ rd s Reg.RAS_FCNT_FCNT = 0 ∧
          (tprLane s 2).afterSeam = false ∧ (tprLane s 2).lastSig = none ∧ tileState s 2 = 3 ∧
          expSig s 2 0 = some 77 ∧ byteAt (ftelBytes q.1 q.2 0) 8 = 0 ∧ byteAt (ftelBytes q.1 q.2 0) 9 = 0) ∧
      upOk 2 288 (upOf 2 (zeroBytes 4)) = false ∧
      (let s := devIn .standby |> wr Reg.SNS_CTRL_EN 1 |> wr Reg.SNS_CTRL_CAL_EN 1
       mainOn s.dev.state = true ∧ rd s Reg.SNS_CTRL_EN = 1 ∧ rd s Reg.SNS_CTRL_CAL_EN = 1 ∧ s.sns.round = none) ∧
      (∀ k ∈ [0, 1],
        let s := calibrating 7 k false []
        s.sns.round = some ⟨7, 0, false⟩ ∧ (calChannels s).find? (fun c => decide (7 < c)) = some 8 ∧ damper s = k ∧
          s.thm.paused = [] ∧ calHeld s = false) ∧
      (let s := calibrating 8 0 false []
       s.sns.round = some ⟨8, 0, false⟩ ∧ (calChannels s).find? (fun c => decide (8 < c)) = none ∧ NoneRuns s ∧
         calHeld s = false) ∧
      (let s := { calibrating 3 0 false [] with dev := { Dev.cold with state := .lit } } |> wr Reg.RAS_CTRL_RUN 1
         |> wr Reg.RAS_POS_LINE 0xFF
       s.sns.round = some ⟨3, 0, false⟩ ∧ calHeld s = true) ∧
      ((calibrating 3 1 true [1]).sns.round = some ⟨3, 0, true⟩ ∧ (calibrating 3 1 true [1]).thm.paused = [1]) ∧
      ((calibrating 3 0 false []).thm.paused = [] ∧ (calibrating 3 1 false [4]).thm.paused = [4] ∧
        (calibrating 3 1 false [4]).mrc.wait = []) := by
  unfold NoneRuns; decide +kernel

/-- A device in `d` with the raster running or not, whose update queue holds `k` entries. -/
def updating (d : DevState) (run k : Nat) : State :=
  let s := devIn d
  { s with cor := { s.cor with queue := List.replicate k ⟨false, 0, 0⟩ } } |> wr Reg.RAS_CTRL_RUN run
    |> wr Reg.COR_UPD_IDX_IDX 5

theorem witness_UpdatesAndWearPasses_queue (k : Nat) :
    let s := updating .lit 1 k
    mainOn s.dev.state = true ∧ pairOp s = false ∧ rd s Reg.COR_UPD_IDX_IDX = 5 ∧ 5 < pixelCount s ∧
      rasterOn s = true ∧ s.cor.queue.length = k :=
  ⟨rfl, rfl, rfl, show 5 < 64 * 16384 by decide, rfl, List.length_replicate⟩

theorem witness_UpdatesAndWearPasses :
      (let s := updating .standby 0 0
       mainOn s.dev.state = true ∧ pairOp s = false ∧ rd s Reg.COR_UPD_IDX_IDX < pixelCount s ∧ rasterOn s = false ∧
         s.eccBad = [] ∧ inService s (rd s Reg.COR_UPD_IDX_IDX / 16384) = false ∧ rd s Reg.COR_UPD_IDX_REPAIR = 0) ∧
      (let s := { wr Reg.COR_UPD_IDX_IDX 0xFFFFF (devIn .lit) with part := .mu1610 }
       pixelCount s ≤ rd s Reg.COR_UPD_IDX_IDX ∧ mainOn s.dev.state = true ∧ pairOp s = false) ∧
      (let s := updating .lit 1 0
       rasterOn s = true ∧ 2 ^ 31 ≤ (rd s Reg.COR_UPD_AT_FCNT + 2 ^ 32 - (s.gte.seq + 1) % 2 ^ 32) % 2 ^ 32) ∧
      (∀ b ∈ [false, true],
        let s := measuring 1 b
        mainOn s.dev.state = true ∧ s.dev.state ≠ .boot ∧ s.dev.state ≠ .halt ∧ rd s Reg.COR_CTRL_WEAR_EN = 1 ∧
          s.cor.pass.isSome = b ∧ s.mrc.run = none ∧ holdCovers (holdMeasure env5 (atTime env5.t s)) 512 = true) := by
  decide +kernel


/-- A device in LIT with the raster at line `l`, whose fender runs, with lane 0 in service and its tile LIVE. -/
def fendered (l : Nat) : State :=
  rasterAt l 0 |> wr Reg.FST_RUN 1 |> wr Reg.FST_CFGOK 1 |> wr (Reg.TLK_LN_STATUS_INSERV 0) 1
    |> wr (Reg.TPR_TL_STATUS_STATE 0) 0

/-- The body of a copy of a ZONE_PUT of a protected elliptic zone 3 with `f` as its further flags. -/
def copyBody (f : Byte) : Bytes := zeroBytes 8 ++ [3, 2 + f] ++ zeroBytes 6 ++ [9] ++ zeroBytes 9 ++ [16, 0, 16, 0] ++ zeroBytes 22

/-- That copy with the tag that verifies. -/
def copyOf (f : Byte) : Ingress :=
  ⟨0x0401, false, copyBody f, leAt (Config.cmac (SMap.getD Sec.cold.keys 2 []) (leBytes 4 7 ++ copyBody f)) 0 8, 7⟩

/-- The fender with that copy in its queue and the taps `ts`. -/
def ingressed (f : Byte) (ts : List (Nat × Nat)) : State :=
  let s := fendered 9
  { s with fender := { s.fender with ingress := [copyOf f], taps := ts } }

theorem witness_FenderJudgesAndTests_tag (f : Byte) (ts : List (Nat × Nat)) :
    copyTagOk (ingressed f ts) (copyOf f) = true := by
  simp only [copyTagOk, copyOf, Bool.false_eq_true, if_false, beq_iff_eq]; rfl

theorem witness_FenderJudgesAndTests_ingress (f : Byte) (ts : List (Nat × Nat)) :
    (ingressed f ts).fender.ingress = [copyOf f] ∧ (ingressed f ts).fender.taps = ts := ⟨rfl, rfl⟩

/-- The state in which that copy is judged at instant 5. -/
def judging (f : Byte) (ts : List (Nat × Nat)) : State :=
  let s := ingressed f ts
  { atTime 5 s with fender := { s.fender with ingress := [] } }

theorem witness_FenderJudgesAndTests_copies :
    (let s := ingressed 0 []
     fenderRuns s = true ∧ rasterOn s = true ∧ (copyOf 0).opc ≠ 0x0402 ∧
       (copyOf 0).zpub = false) ∧
      (let d := expandZone ((copyBody 0).drop 8)
       let c := expandZone ((copyBody 8).drop 8)
       dProt d = true ∧ dProt c = true ∧ copyFresh (judging 0 []) d = true ∧ copyFresh (judging 8 []) c = true ∧
         dClear d = false ∧ dClear c = true ∧
         dZid d = 3 ∧ dTobs d 4 (netNow (judging 0 [(3, 589824)])) = 589824 ∧ copyFresh (judging 0 [(3, 589824)]) d = true) ∧
      (fenderRuns (devIn .standby) = false ∧ rasterOn (devIn .standby) = false) ∧
      (let s := { fendered 9 with fender := { Fender.cold with waiting := [([3], 7)] } }
       s.fender.waiting = [([3], 7)] ∧ 7 + usTicks (safetyAt s 0x24 2) ≤ max s.now 900 ∧
         max s.now 5 < 7 + usTicks (safetyAt s 0x24 2) ∧ 4 ≠ dZid [3]) := by
  decide +kernel

/-- An elliptic zone about the field's first corner, 4000/16 pixels wide. -/
def wideZone : Bytes := [3, 0, 2, 0] ++ zeroBytes 16 ++ leBytes 2 4000 ++ leBytes 2 4000 ++ zeroBytes 24

/-- A content of which COR has emitted every line, its first row lit, with the zones `zs` held by the fender. -/
def judgedContent (zs : List (Nat × Bytes)) : State :=
  let s := wr Reg.FST_SEQ_SEQ 1 (fendered 126)
  { s with
    gte := { s.gte with active := true, codes := [(0, List.replicate 128 9)] }
    cor := { s.cor with line := 128 }, fender := { s.fender with held := zs } }

theorem witness_FenderJudgesAndTests_verdict :
    (∀ zs ∈ [[], [(3, wideZone)]],
        let s := judgedContent zs
        fenderRuns s = true ∧ rasterOn s = true ∧ s.gte.active = true ∧ s.cor.line = 128 ∧ s.ras.withdrawn = false ∧
          rd s Reg.FST_SEQ_SEQ ≠ s.gte.seq ∧ s.fender.held = zs ∧ safetyAt s 0x23 1 = 0 ∧ s.fender.slip = false) ∧
      (let s := judgedContent [(3, wideZone)]
       ∃ c ∈ cells s, cellJudged s wideZone c.1 c.2 = true ∧ ∃ v ∈ cellCodes s c.1 c.2, safetyAt s 2 1 < v) :=
  ⟨by decide +kernel, (0, 0), by decide +kernel, by decide +kernel, 9, by decide +kernel, by decide +kernel⟩

theorem witness_FenderJudgesAndTests_outputs :
    (let s := fendered 9
     fenderRuns s = true ∧ rasterOn s = true ∧ s.fender.test = none ∧ nextLive s s.fender.lastLane = some 0) ∧
      (let s := wr Reg.PWC_TGEN_EN 4 (fendered 129)
       129 ≤ lineNow s ∧ lineNow s ≤ 134 ∧ s.fender.pulse = none ∧ nextGroup s = some 2) ∧
      (let s := { wr Reg.PWC_TGEN_EN 1 (fendered 9) with fender := { Fender.cold with pulse := some 2 } }
       s.fender.pulse = some 2 ∧ s.waits = [] ∧ NoneRuns s ∧ tgenHigh { s with fender := Fender.cold } 2 = false) ∧
      (let s := { wr Reg.PWC_TGEN_EN 5 (fendered 9) with fender := { Fender.cold with pulse := some 2 } }
       s.fender.pulse = some 2 ∧ tgenHigh { s with fender := Fender.cold } 2 = true) := by
  unfold NoneRuns; decide +kernel


/-- A device in STANDBY with source `src` pending and enabled for target `tgt`, of the fast class or not. -/
def pended (src tgt fast : Nat) : State :=
  devIn .standby |> wr (Reg.ITC_PEND_MAP (src / 32)) (2 ^ (src % 32)) |> wr (Reg.ITC_EN_MAP (src / 32)) (2 ^ (src % 32))
    |> wr (Reg.ITC_SRC_TARGET src) tgt |> wr (Reg.ITC_SRC_CLASS src) fast

/-- Core 0 as it runs: MIE set, distinct registers and bank. -/
def running : Core :=
  { Core.cold with pc := 0x100, mstatus := 8, x := [(1, 11), (16, 16)], bank := [(0, 7), (1, 21)] }

/-- Source 0x20 pending for core 0, which runs and may take both classes, with the choice `k` standing. -/
def choosing (fast : Nat) (k : Option Nat) : State :=
  wr (Reg.ITC_T_CTRL_FIE 0) 1 { pended 0x20 0 fast with core0 := { running with choice := k } }

theorem witness_CoresAndInterrupts_delivery :
    (∀ f ∈ [0, 1],
        let s := choosing f none
        sleepSt s 0 = 0 ∧ mainOn s.dev.state = true ∧ (coreOf s 0).choice = none ∧ irqBest s 0 = some 0x20 ∧
          irqFast s 0x20 = decide (f = 1)) ∧
      ((devIn .standby).core0.choice = none ∧ irqBest (devIn .standby) 0 = none ∧ sleepSt (devIn .standby) 0 = 0) ∧
      ((coreOf (choosing 0 (some 0x20)) 0).choice = some 0x20 ∧ irqFast (choosing 0 (some 0x20)) 0x20 = false) ∧
      (let s := wr (Reg.ITC_T_ACTIVE_NACT 1) 1 (devIn .standby)
       rd s (Reg.ITC_T_ACTIVE_NACT 1) ≠ 0 ∧ rd s (Reg.ITC_T_ACTIVE_FACT 1) = 0) ∧
      rd (wr (Reg.ITC_T_ACTIVE_FACT 1) 1 (devIn .standby)) (Reg.ITC_T_ACTIVE_FACT 1) ≠ 0 ∧
      (let s := wr (Reg.ITC_T_SLEEP_ST 0) 1 (choosing 0 none)
       wakesFor s 0 0x20 = true ∧ sleepSt s 0 = 1) ∧
      (let s := wr (Reg.ITC_T_SLEEP_ST 0) 2 (choosing 0 none) |> wr (Reg.ITC_WATCH_EN 15) 1 |> wr (Reg.ITC_WATCH_SOURCE 15) 0x20
       wakesFor s 0 0x20 = true ∧ sleepSt s 0 = 2) ∧
      wakesFor (devIn .standby) 1 255 = false ∧
      (sleepSt (devIn .standby) 0 ≠ 3 ∧ sleepSt (devIn .standby) 1 = 3) ∧
      (rd (wr (Reg.ITC_T_WDOG_EN 1) 1 (devIn .standby)) (Reg.ITC_T_WDOG_EN 1) ≠ 0 ∧
        rd (devIn .standby) (Reg.ITC_T_WDOG_EN 1) = 0 ∧ 1 ≤ (0x80000001 : Word).toNat % 65536 ∧
        (10000 : Word).toNat % 65536 ≤ 10000) := by
  decide +kernel

/-- A device in STANDBY with the header and body of an S1 image of four zero bytes in eMRAM, whose CRC-32 is `c`. -/
def imaged (c : Nat) : State :=
  let b := leBytes 4 0x4D4B5331 ++ leBytes 4 4 ++ leBytes 4 0x101FFFFF ++ leBytes 4 c
  { devIn .standby with mem := Memory.put [] 0x30C00000 b }

theorem witness_CoresAndInterrupts_writes :
    (irqKnown 0xBF = true ∧ s1Source (devIn .standby) 0xBF = false ∧ s1Right (devIn .standby) 2 ≠ 2 ∧
        (1 : Word).toNat % 2 = 1 ∧ (2 : Word).toNat % 2 = 0) ∧
      (let s := wr (Reg.ITC_T_SLEEP_ST 0) 2 (pended 0x20 1 0)
       stranded s 0x20 = true ∧ irqTarget s 0x20 = 1 ∧ sleepSt s 0 = 2) ∧
      (let s := { pended 0x20 0 0 with sec := { Sec.cold with sections := [(0x0F, List.replicate 256 0xFF)] } }
         |> wr (Reg.ITC_T_SLEEP_ST 0) 2 |> wr (Reg.ITC_T_SLEEP_ST 1) 0
       stranded s 0x20 = true ∧ irqTarget s 0x20 = 0 ∧ s1Source s 0x20 = true ∧ sleepSt s 1 ≠ 3) ∧
      (let s := wr (Reg.ITC_T_SLEEP_ST 0) 2 (pended 0x20 0 0)
       stranded s 0x20 = true ∧ irqTarget s 0x20 = 0 ∧ s1Source s 0x20 = false ∧ sleepSt s 0 = 2) ∧
      stranded (devIn .standby) 255 = false ∧
      (let s := imaged (crc32 (zeroBytes 4))
       let hdr := ldBytes s 0x30C00000 16
       rd s (Reg.ITC_T_CTRL_RUN 1) = 0 ∧ leAt hdr 0 4 = 0x4D4B5331 ∧ s.core1.barred = false ∧ leAt hdr 4 4 = 4 ∧
         leAt hdr 8 4 = 0x101FFFFF ∧ crc32 (ldBytes s 0x30C00010 (leAt hdr 4 4)) = leAt hdr 12 4 ∧ Memory.wf s.mem = true) ∧
      (let s := imaged 0
       let hdr := ldBytes s 0x30C00000 16
       leAt hdr 0 4 = 0x4D4B5331 ∧ crc32 (ldBytes s 0x30C00010 (leAt hdr 4 4)) ≠ leAt hdr 12 4) ∧
      leAt (ldBytes (devIn .standby) 0x30C00000 16) 0 4 ≠ 0x4D4B5331 := by
  decide +kernel


/-- A device in STANDBY with a hold-up capacitor of `c` µF that counts above 1 V. -/
def heldUp (c : Nat) : State := wr Reg.MRC_HOLDCFG_CUF c (wr Reg.MRC_HOLDCFG_VMIN 1000 (devIn .standby))

/-- The same with a burst of `n` lines from S0's RAM described in MRC. -/
def burstAsked (c n : Nat) : State :=
  heldUp c |> wr Reg.MRC_WSRC_ADDR 0x10000000 |> wr Reg.MRC_WDST_ADDR 0xA80000 |> wr Reg.MRC_WLEN_LINES n
    |> wr Reg.MRC_WPROT_AREA 0

/-- A burst of two lines of 0x55 from MRC.WGO. -/
def twoLines : Burst := ⟨0, 0, [(0xA80000, List.replicate 128 0x55)], 2, .wgo⟩

/-- A fault event of source 0x100 in the staging queue. -/
def queued : EvEntry := ⟨7, 1, 2, msgWord ⟨0x100, 0x3A, 3, none⟩, none, 0, 9⟩

/-- The recorder runs with a full front matter and `l` queued. -/
def recording (c : Nat) (l : List EvEntry) : State :=
  wr Reg.EVR_STATUS_RUN 1 (wr Reg.EVR_STATUS_FRONTFULL 1 { heldUp c with evr := { (heldUp c).evr with queue := l, seq := 5 } })

theorem witness_BurstsRecordsAndWrites_bursts :
    (rd (wr Reg.MRC_WGO_GO 1 (devIn .standby)) Reg.MRC_WGO_GO ≠ 0 ∧ rd (burstAsked 0 2) Reg.MRC_WGO_GO = 0) ∧
      wgoResult (burstAsked 0 0) ≠ 0 ∧ mainOn (devIn .pilot).dev.state = false ∧
      (let s := burstAsked 1000 2
       wgoResult s = 0 ∧ s.mrc.run = none ∧ 4 ∉ s.thm.paused ∧ holdCovers (holdMeasure env5 s) 2 = true) ∧
      (let s := burstAsked 0 2
       wgoResult s = 0 ∧ s.mrc.run = none ∧ 4 ∉ s.thm.paused ∧ holdCovers (holdMeasure env5 s) 2 = false) ∧
      (let s := { burstAsked 0 2 with mrc := ⟨some twoLines, [], 1⟩ }
       wgoResult s = 0 ∧ s.mrc.run ≠ none ∧ s.mrc.run = some twoLines ∧ twoLines.why = .wgo ∧
         twoLines.parts = [(0xA80000, List.replicate 128 0x55)] ∧ s.cor.pass = none ∧ s.mrc.wait = [] ∧ s.sec.wipes = [] ∧
         damper s = 0 ∧ 1 < (List.replicate 128 (0x55 : Byte)).length / 64) := by
  decide +kernel

theorem witness_BurstsRecordsAndWrites_records :
    (let s := recording 0 [queued]
     rd s Reg.EVR_STATUS_RUN ≠ 0 ∧ s.mrc.run = none ∧ s.dump.fatal = none ∧ mainOn s.dev.state = true ∧
       s.evr.queue ≠ [] ∧ holdCovers (holdMeasure env5 s) 1 = false) ∧
      (let s := recording 1000 [queued]
       let a := 0x30A88000 + 32 * rd s Reg.EVR_WSLOT_SLOT
       s.evr.queue = queued :: [] ∧ holdCovers (holdMeasure env5 s) 1 = true ∧ rd s Reg.EVR_STATUS_FRONTFULL ≠ 0 ∧
         s.evr.episode = 0 ∧ s.evr.seq < 2 ^ 32 ∧ Memory.wf s.mem = true ∧ rd s Reg.EVR_WSLOT_SLOT < 8192 ∧
         eccBadIn s (a + 32) 32 = false) ∧
      (recording 0 []).evr.queue = [] ∧ (recording 0 []).evr.holdUp = false ∧ (recording 0 []).dump.fatal = none := by
  decide +kernel

/-- A FATAL of the core waits for its dump, with a capacitor of `c` µF and the header `h` stored. -/
def dying (c : Nat) (h : Bytes) : State :=
  { heldUp c with dump := { (heldUp c).dump with fatal := some (msgWord ⟨0x180, 0x4C, 0, none⟩, 5, zeroBytes 320) },
                  mem := Memory.put [] 0x30B00000 h }

/-- A short dump's header. -/
def aHeader : Bytes := dumpHeader State.reset 2 7 0x2000 0 0 0

theorem witness_BurstsRecordsAndWrites_dumps :
    (∀ c ∈ [0, 1, 1000], (dying c []).mrc.run = none ∧ mainOn (dying c []).dev.state = true ∧ (dying c []).mrc.wait = [] ∧
        NoneRuns (dying c []) ∧ dumpHeld (dying c []) = none) ∧
      holdCovers (holdMeasure env5 (dying 1000 [])) 16384 = true ∧
      holdCovers (holdMeasure env5 (dying 1 [])) 16384 = false ∧ holdCovers (holdMeasure env5 (dying 1 [])) 128 = true ∧
      holdCovers (holdMeasure env5 (dying 0 [])) 128 = false ∧
      (dumpHeld (dying 1 aHeader) = some aHeader ∧ holdCovers (holdMeasure env5 (dying 1 aHeader)) 1 = true) := by
  unfold NoneRuns; decide +kernel

/-- Unit `n` is to scan `len` bytes of eMRAM from 0x30000000 on for `who`; the word `bad` is uncorrectable. -/
def scanning (n len : Nat) (bad : List Nat) : State :=
  let s := wr (Reg.CKU_ADDR_VALUE n) 0x30000000 (wr (Reg.CKU_LEN_VALUE n) len { devIn .standby with eccBad := bad })
  setCku n { ckuOf s n with scan := some ⟨.s0, 0x30000000, len⟩ } s

theorem witness_BurstsRecordsAndWrites_units :
    ∀ n < 2,
      (rd (wr (Reg.CKU_STATUS_BUSY n) 1 (devIn .standby)) (Reg.CKU_STATUS_BUSY n) ≠ 0 ∧
        rd (scanning n 16 []) (Reg.CKU_STATUS_BUSY n) = 0 ∧ scanRange 0x30000000 16 = true ∧
        scanRange (rd (scanning n 9 []) (Reg.CKU_ADDR_VALUE n)) (rd (scanning n 9 []) (Reg.CKU_LEN_VALUE n)) = false) ∧
      (let s := { scanning 1 16 [] with sec := { Sec.cold with sections := [(0x0F, zeroBytes 16 ++ List.replicate 32 2)] } }
       s1Right s 0x12 = 2 ∧ scanRight s .s1 0x30000000 16 = false) ∧
      s1Right (devIn .standby) 0x12 ≠ 2 ∧ (ckuOf (devIn .standby) n).scan = none ∧
      ((ckuOf (scanning n 16 []) n).scan = some ⟨.s0, 0x30000000, 16⟩ ∧
        (scanning n 16 []).thm.paused.contains (2 + n) = false ∧ damper (scanning n 16 []) = 0 ∧
        NoneRuns (scanning n 16 []) ∧ firstBad (scanning n 16 []) 0x30000000 16 = none ∧
        firstBad (scanning n 16 [0x30000008]) 0x30000000 16 = some 0x30000008) := by
  unfold NoneRuns; decide +kernel

theorem witness_BurstsRecordsAndWrites_stores :
    (rasterOn (wr Reg.RAS_CTRL_RUN 1 (devIn .lit)) = true ∧ rasterOn (devIn .standby) = false) ∧
      (s1Store (devIn .standby) 0x20000000 = false ∧ eccBadAt (devIn .standby) 0x21FFFFFC = false ∧
        eccBadAt { devIn .standby with eccBad := [0x20000000] } 0x20000004 = true) ∧
      (s1Right (devIn .standby) (blockOf 0x40000000) ≠ 2 ∧ s1Fixed 0x40000000 = false) ∧
      (rd (devIn .standby) Reg.MRC_CTRL_LOCK = 0 ∧ Reg.MRC_HOLDCFG_CUF.addr = 4 * 0x10040002 ∧
        rd (devIn .standby) Reg.MRC_HOLDCFG_CUF = (0x17700000 : Word).toNat % 65536 ∧
        rd (devIn .standby) Reg.MRC_HOLDCFG_VMIN = (0x17700000 : Word).toNat / 65536 ∧
        rd (wr Reg.MRC_CTRL_LOCK 1 (devIn .standby)) Reg.MRC_CTRL_LOCK ≠ 0 ∧
        rd (devIn .standby) Reg.MRC_HOLDCFG_CUF ≠ (1 : Word).toNat % 65536) ∧
      (Reg.ITC_CTRL_LOCK.addr = 4 * 0x10008000 ∧ lockOf 0x40040000 = none) := by
  decide +kernel


/-- A frame of TYPE `ty` with the right tag under the keys of `s`. -/
def framed (s : State) (ty cnt : Nat) (p : Bytes) : PtnFrame :=
  let f : PtnFrame := ⟨cnt, p, 0, true⟩
  { f with tag := leAt (Config.cmac (SMap.getD s.sec.keys 7 []) (tagMsg ty f)) 0 8 }

theorem framed_ok (s : State) (ty cnt : Nat) (p : Bytes) : ptnTagOk s ty (framed s ty cnt p) = true := by
  unfold ptnTagOk; exact beq_self_eq_true _

/-- A device of a pair in `d` with role `r` and partner lane 64 up. -/
def paired (d : DevState) (r : Nat) : State :=
  wr Reg.PTN_STATUS_ROLE r { active with dev := { Dev.cold with state := d } }

/-- The same as a healthy device. -/
def sound (d : DevState) (r : Nat) : State :=
  wr Reg.PTN_STATUS_READY 1 { paired d r with ptn := { Ptn.cold with skewOk := 8, rxCnt := some 4 } }

/-- HELLO of a partner in `d` with role `r`. -/
def helloFrom (d : DevState) (r : Nat) : Bytes := helloPayload (paired d r)

/-- HELLO with other CRCs. -/
def helloOther (w r : Nat) : Bytes := leBytes 4 w ++ leBytes 1 r ++ [0, 0, 1] ++ leBytes 4 1 ++ zeroBytes 4

theorem witness_PartnersExchangeAndChangeRoles_frames :
    (ptnHears (devIn .lit) 64 = false ∧ ptnHears (sound .lit 2) 64 = true ∧ (sound .lit 2).ptn.rxCnt = some 4 ∧
        role (sound .lit 1) ≠ 2) ∧
      (∀ ty c p, ptnTagOk (sound .lit 2) ty (framed (sound .lit 2) ty c p) = true ∧
        (framed (sound .lit 2) ty c p).cnt = c ∧ (framed (sound .lit 2) ty c p).crcOk = true) :=
  ⟨by decide +kernel, fun _ _ _ => ⟨framed_ok _ _ _ _, rfl, rfl⟩⟩

/-- A partner's HELLO carries the CRC-32 values that it computes. -/
theorem helloFrom_crcs (d : DevState) (r : Nat) :
    (helloOf (helloFrom d r)).bindCrc = bindCrcOf (paired d r) ∧ (helloOf (helloFrom d r)).calCrc = calCrcOf (paired d r) := by
  generalize hs : paired d r = s
  have h : ∀ (a b c : Bytes) (v : Nat), v < 2 ^ 32 → a.length = 8 → leAt (a ++ leBytes 4 v ++ b) 8 4 = v := by
    intro a b c v hv ha
    rw [List.append_assoc, ← ha, leAt_append, leAt_leBytes]
    exact Nat.mod_eq_of_lt hv
  have k : ∀ (a : Bytes) (v : Nat), v < 2 ^ 32 → a.length = 12 → leAt (a ++ leBytes 4 v) 12 4 = v := by
    intro a v hv ha
    have := leAt_leBytes 4 v []
    rw [← ha, leAt_append]
    rw [List.append_nil] at this
    rw [this]
    exact Nat.mod_eq_of_lt hv
  refine ⟨?_, ?_⟩
  · simp only [helloFrom, hs, helloPayload, helloOf]
    exact h _ _ [] _ (crc32_lt _) (by simp [leBytes])
  · simp only [helloFrom, hs, helloPayload, helloOf]
    exact k _ _ (crc32_lt _) (by simp [leBytes])

theorem witness_PartnersExchangeAndChangeRoles_forming :
    ((paired .standby 0).dev.state = .standby ∧ role (paired .standby 0) = 0 ∧ NoneRuns (paired .standby 0) ∧
        (paired .standby 0).ptn.mute = false ∧ (paired .standby 0).pilot.pairId = false) ∧
      (let p := helloOf (helloFrom .standby 1)
       p.bindCrc = bindCrcOf (paired .standby 0) ∧ p.calCrc = calCrcOf (paired .standby 0) ∧ p.role = 1 ∧
         p.domain = activeDom (paired .standby 0) ∧ p.stateW % 16 = 3) ∧
      (let p := helloOf (helloOther 3 0)
       p.bindCrc ≠ bindCrcOf (paired .standby 0) ∧ p.role ≠ 1 ∧ p.domain = activeDom (paired .standby 0) ∧
         p.stateW % 16 = 3 ∧ (paired .standby 0).ptn.peer = none) :=
  ⟨by unfold NoneRuns; decide +kernel, by
    have h := helloFrom_crcs .standby 1
    exact ⟨h.1, h.2, by decide +kernel, by decide +kernel, by decide +kernel⟩, by decide +kernel⟩

theorem witness_PartnersExchangeAndChangeRoles_following :
    (role (sound .lit 1) = 1 ∧ (helloOf (helloOther 5 2)).role = 2) ∧
      (∀ d ∈ [DevState.lit, .prelit, .standby],
        role (sound d 2) = 2 ∧ (sound d 2).ptn.mute = false ∧ NoneRuns (sound d 2) ∧ NothingWaits (sound d 2) ∧
          (sound d 2).dev.entering = none ∧ (sound d 2).dev.raising = none ∧ (sound d 2).dev.sPlate = false ∧
          (sound d 2).dev.tests = false ∧ (sound d 2).pilot.safeLow = false) ∧
      (let s := wr Reg.RAS_CTRL_RUN 0 (wr Reg.PWC_STATUS_PL 1 (sound .standby 2))
       rasterOn s = false ∧ effLevel s .prelit ≤ rd s Reg.PWC_STATUS_PL) ∧
      (∀ n ∈ [3, 5], (helloOf (helloOther n 1)).role = 1 ∧ (helloOf (helloOther n 1)).stateW / 64 % 2 = 0 ∧
        (helloOf (helloOther n 1)).stateW % 16 = n ∧ (helloOf (helloOther n 1)).domain = activeDom (sound .lit 2)) ∧
      (let p := helloOf (leBytes 4 5 ++ [1, 0, 1, 0] ++ zeroBytes 8)
       p.role = 1 ∧ p.stateW % 16 = 5 ∧ p.domain % 2 ≠ activeDom (sound .lit 2) ∧ p.domain < 2) := by
  unfold NoneRuns NothingWaits; decide +kernel

/-- A healthy standby in line `l` of a running raster, the sample taken, with one mesh in its binding. -/
def following (l : Nat) : State :=
  let s := wr Reg.RAS_CTRL_RUN 1 (wr Reg.RAS_POS_LINE l (sound .lit 2))
  { s with ras := { s.ras with sampled := true }, sec := { s.sec with sections := [(0x04, List.replicate 4420 0)] } }

/-- STAGE with the shadows as they stand. -/
def aStage : Bytes := stagePayload (following 127) (shadowSet (following 127))

/-- One part of a publish of one descriptor of an unprotected zone. -/
def aZpub (total line : Nat) : Bytes := leBytes 4 1 ++ leBytes 1 line ++ [1] ++ leBytes 1 (16 * total) ++ [0] ++ zeroBytes 64

/-- One UPDQ entry. -/
def anUpdq : Bytes := leBytes 4 7 ++ leBytes 2 1 ++ zeroBytes 2 ++ leBytes 4 5 ++ leBytes 2 3

theorem witness_PartnersExchangeAndChangeRoles_standby :
    (let s := wr Reg.PWC_STATUS_PL 1 (following 127)
     rasterOn s = true ∧ lineNow s = 127 ∧ s.ras.sampled = true ∧ setInRange s (stageSet s aStage) = true ∧
       levelCovers s (setGet (stageSet s aStage) Reg.RAS_SH_TIMING_MODE) = true ∧ lineNow (following 5) ≠ 127) ∧
      (byteAt (aZpub 2 9) 6 / 16 = 2 ∧ byteAt (aZpub 1 9) 6 / 16 = 1 ∧ byteAt (aZpub 1 9) 4 = 9 ∧
        (following 5).gte.active = false) ∧
      (let s := { following 5 with gte := { (following 5).gte with active := true, nextE := 10 } }
       s.gte.active = true ∧ 9 < max s.gte.nextE s.gte.nextW ∧ lineNow s < 128) ∧
      ((following 5).zne.pitch = none ∧
        (∀ u ∈ updqEntries anUpdq, u.idx < pixelCount (following 5)) ∧
        (following 5).cor.queue.length + (updqEntries anUpdq).length ≤ 256) ∧
      (diff16 (rd (following 5) (Reg.HIF_MB_CMDWP_WP 4)) (rd (following 5) (Reg.HIF_MB_CMDRP_COUNT 4)) < 64 ∧
        64 ≤ diff16 (rd (wr (Reg.HIF_MB_CMDWP_WP 4) 64 (following 5)) (Reg.HIF_MB_CMDWP_WP 4))
          (rd (following 5) (Reg.HIF_MB_CMDRP_COUNT 4))) := by
  decide +kernel

/-- The standby with lane 3 in service and its tile coasting for its lane. -/
def evident : State :=
  sound .lit 2 |> wr (Reg.TLK_LN_STATUS_INSERV 3) 1 |> wr (Reg.TPR_TL_STATUS_STATE 3) 1 |> wr (Reg.TPR_TL_STATUS_CAUSE 3) 2
    |> wr Reg.PTN_STATUS_LINK 1 |> wr Reg.TPR_CTRL_EN 1

theorem witness_PartnersExchangeAndChangeRoles_roles :
    (let s := sound .lit 2
     role s = 2 ∧ rd s Reg.PTN_STATUS_READY ≠ 0 ∧ s.dev.sPlate = false ∧ s.dev.state ≠ .fallback ∧ s.dev.state ≠ .halt ∧
       max 1 (rd s Reg.PTN_LIMIT_SKEWFR) ≤ s.ptn.skewOk ∧ coasting s = [] ∧ coasting evident = [3] ∧ rd (paired .lit 2) Reg.PTN_STATUS_READY = 0) ∧
      (∀ r ∈ [1, 3], let s := { sound .lit r with ptn := { Ptn.cold with asked := some 2 } }
        s.ptn.asked = some 2 ∧ role s = r ∧ NoneRuns s ∧ s.dev.sPlate = false) ∧
      (pairOp evident = true ∧ mainOn evident.dev.state = true ∧ rd evident Reg.PTN_STATUS_LINK ≠ 0 ∧ role evident = 2 ∧
        rasterState evident.dev.state = true ∧ tileEvidence evident = true ∧ tileEvidence (sound .lit 2) = false) ∧
      (linkOf (sound .lit 1) 64 = 2 ∧ rd (sound .lit 1) Reg.PTN_CTRL_EN ≠ 0) := by
  unfold NoneRuns; decide +kernel


/-- Lane 3 with the powered tile `x`. -/
def withTile (x : Tile) : State := { devIn .lit with tiles := [(3, { x with powered := true })] }

/-- A broadcast set with a right CHK. -/
def bset (k : Nat) (args : Bytes) : BSet := ⟨args, setChk k args, false⟩

/-- A tile in `st` whose back buffer holds every row of SEQ `q`, with one code, and which has acted on FLIP 6. -/
def gathered (st : TState) (q : Nat) : Tile :=
  { tileInit with state := st, supply := true, backSeq := (List.range 128).map (fun r => (r, q)), back := [(5, 77)],
                  lastEvt := 1, lastSeq := 6 }

/-- A line packet of SEQ 7 with a right CRC. -/
def goodLine (l : Nat) (codes : Bytes) : LinePkt :=
  ⟨7, l, 0, codes, crc32 (leBytes 4 7 ++ leBytes 1 l ++ leBytes 1 0 ++ codes), false⟩

theorem goodLine_good {l : Nat} (codes : Bytes) (h : l ≤ 127) : lineGood (goodLine l codes) = true := by
  simp [lineGood, goodLine, h]

/-- A dual-ported tile. -/
def dual (bad : Nat) (q : Option LinePkt) : Tile := { tileInit with role := 1, badRun := bad, otherRun := bad, other := q, crcB := [(9, 1)] }

theorem witness_TilesTakeLinesAndBroadcasts_sets :
    (3 < laneCount State.reset ∧ laneCount State.reset ≤ 64 ∧ tileOf (withTile tileInit) 3 = { tileInit with powered := true } ∧
        (tileOf State.reset 3).powered = false) ∧
      (∀ k ∈ [0x1C, 0xDC, 0xFE, 0x5C, 0x7C, 0x9C, 0xF7], (bset k [7, 0, 0, 0, 1, 5]).chk = setChk k [7, 0, 0, 0, 1, 5] ∧
        (bset k []).err = false ∧ (0 : Nat) ≠ setChk k [9]) ∧
      (leAt [7, 0, 0, 0, 1, 5] 0 4 = 7 ∧ byteAt [1] 0 % 2 ≠ (dual 0 none).port ∧ byteAt [0] 0 % 2 = (dual 0 none).port) := by
  decide +kernel

theorem witness_TilesTakeLinesAndBroadcasts_flip :
    (∀ st ∈ [TState.live, .coast, .dark, .plate], ∀ q ∈ [7, 6, 5],
        (let x := gathered st q
         x.refPend = none ∧ x.probes = [] ∧ x.darkRow = none ∧ x.selPend = [] ∧ x.sets = ⟨false, false, false⟩ ∧
           x.plateCap = none ∧ x.state = st ∧ x.supply = true)) ∧
      (∀ r < 128, SMap.find (gathered .live 7).backSeq r = some 7) ∧
      ({ gathered .dark 7 with sets := ⟨false, false, true⟩, resume := some 7 } : Tile).sets = ⟨false, false, true⟩ ∧
      (¬ (∀ r < 128, SMap.find (gathered .live 6).backSeq r = some 7) ∧
        ∀ r < 128, SMap.find { gathered .live 6 with lastEvt := 2 }.backSeq r = some 6) ∧
      (¬ (∀ r < 128, SMap.find (gathered .live 5).backSeq r = some 7) ∧ (gathered .live 5).lastEvt ≠ 2) := by
  decide +kernel

theorem witness_TilesTakeLinesAndBroadcasts_lines :
    lineGood (goodLine 9 (List.replicate 256 1)) = true ∧ lineGood ⟨7, 200, 0, [], 0, false⟩ = false ∧
      ((dual 0 none).role = 1 ∧ (1 : Nat) ≠ (dual 0 none).port) ∧
      (let x := dual 1 (some (goodLine 9 []))
       x.other = some (goodLine 9 []) ∧ (goodLine 9 []).line = 9 ∧ 0 < x.badRun ∧ portCrc x (1 - 0 % 2) 9 ≠ none ∧
         portCrc { x with crcA := [(9, 5)] } (1 - 1 % 2) 9 ≠ none ∧ SMap.find x.backSeq 9 ≠ some 7) ∧
      SMap.Sorted (gathered .live 7).back :=
  ⟨goodLine_good _ (by decide), by decide, by decide, by decide +kernel, by simp [SMap.Sorted, gathered]⟩

/-- A tile in `st` with the sets `p` and `c` pending and a plate that passes or fails its check. -/
def setsPend (st : TState) (p c v : Bool) (crc : Nat) : Tile :=
  { tileInit with state := st, supply := true, sets := ⟨false, p, c⟩, plateV := v, plate := [(0, 1)], plateCrc := crc }

theorem setsPend_plate (st : TState) (p c v : Bool) (crc : Nat) :
    (setsPend st p c v crc).plateSeq = 0 ∧ (setsPend st p c v crc).plate = [(0, 1)] ∧
      (setsPend st p c v crc).plateCrc = crc := ⟨rfl, rfl, rfl⟩

theorem witness_TilesTakeLinesAndBroadcasts_goodPlate :
    displaySig (setsPend .live true false true (displaySig 0 [(0, 1)])).plateSeq
      (setsPend .live true false true (displaySig 0 [(0, 1)])).plate =
      (setsPend .live true false true (displaySig 0 [(0, 1)])).plateCrc := by
  rw [(setsPend_plate _ _ _ _ _).1, (setsPend_plate _ _ _ _ _).2.1, (setsPend_plate _ _ _ _ _).2.2]

theorem witness_TilesTakeLinesAndBroadcasts_phases :
    (∀ st ∈ [TState.live, .coast, .dark, .plate],
        let x := setsPend st true false false 0
        x.probes = [] ∧ x.darkRow = none ∧ x.refPend = none ∧ x.sets.wipe = false ∧ x.sets.plate = true ∧ x.plateV = false) ∧
      (setsPend .live false true false 0).sets = ⟨false, false, true⟩ ∧
      (let x := { gathered .live 7 with probes := [⟨6, 40, 1, 0⟩] }
       x.probes = [⟨6, 40, 1, 0⟩] ∧ (6 : Nat) = x.lastSeq ∧ (0 : Nat) = x.phase ∧ x.lastEvt ≠ 0) ∧
      ({ gathered .live 7 with darkRow := some (2, 0, 6) } : Tile).darkRow = some (2, 0, 6) :=
  ⟨by decide, by decide, by decide, rfl⟩

theorem witness_TilesTakeLinesAndBroadcasts_badPlate :
    displaySig (setsPend .live true false true 0).plateSeq (setsPend .live true false true 0).plate ≠
      (setsPend .live true false true 0).plateCrc ∨
    displaySig (setsPend .live true false true 1).plateSeq (setsPend .live true false true 1).plate ≠
      (setsPend .live true false true 1).plateCrc := by
  by_cases h : displaySig (setsPend .live true false true 0).plateSeq (setsPend .live true false true 0).plate =
      (setsPend .live true false true 0).plateCrc
  · right
    intro g
    have : (setsPend .live true false true 0).plateCrc = (setsPend .live true false true 1).plateCrc := h.symm.trans g
    exact absurd this (by decide)
  · exact .inl h


/-- A command set with a right CRC. -/
def cset (opc : Nat) (p : Bytes) : CSet := { tag := 9, payload := p, crc := csetCrc opc ⟨9, p, 0, false⟩, err := false }

/-- Payloads that the sets of OPC 1 to 8 take. -/
def fitting : List (Nat × Bytes) :=
  [(1, leBytes 2 1000 ++ leBytes 2 0x0501 ++ [1, 0, 0, 0]), (2, []), (3, leBytes 4 7), (4, leBytes 4 7 ++ [127, 124, 4, 0, 0xE4]),
    (5, leBytes 4 7 ++ leBytes 4 0x00FFFFFF), (6, leBytes 4 7 ++ [127, 3, 0, 0]), (7, [1, 0, 0, 0]), (8, leBytes 4 7)]

theorem witness_TilesTakeCommandsAndFallBack_sets :
    (3 < laneCount State.reset ∧ (tileOf (withTile tileInit) 3).powered = true ∧ (tileOf (withTile tileInit) 3).port = 0 ∧
        (tileOf State.reset 3).powered = false) ∧
      (∀ q ∈ fitting, (cset q.1 q.2).crc = csetCrc q.1 (cset q.1 q.2) ∧ (cset q.1 q.2).err = false) ∧
      (cset 1 []).crc ≠ csetCrc 2 (cset 1 []) ∧
      (let pl := leBytes 2 1000 ++ leBytes 2 0x0501 ++ [1, 0, 0, 0]
       pl.length = 8 ∧ 10 ≤ leAt pl 0 2 ∧ leAt pl 0 2 ≤ 1000 ∧ timingOk (leAt pl 2 2) = true ∧ byteAt pl 4 ≤ 1 ∧
         leAt pl 2 2 = tileInit.timing ∧ leAt pl 2 2 ≠ ({ tileInit with timing := 0x0601 } : Tile).timing) ∧
      (let pl := leBytes 4 7 ++ [127, 124, 4, 0, 0xE4]
       byteAt pl 6 ≠ 0 ∧ byteAt pl 4 ≤ 127 ∧ byteAt pl 5 + byteAt pl 6 ≤ 128 ∧ pl.length = 8 + (byteAt pl 6 + 3) / 4 ∧
         leAt pl 0 4 ≠ 0 ∧ leAt ([0, 0, 0, 0, 127, 124, 4, 0, 0xE4] : Bytes) 0 4 = 0) ∧
      (let pl := leBytes 4 7 ++ leBytes 4 0x00FFFFFF
       4 ≤ pl.length ∧ pl.length % 4 = 0 ∧ (pl.length - 4) / 4 = 1 ∧
         ¬ ((gathered .live 7).lastEvt ≠ 0 ∧ seqLe 7 (gathered .live 7).lastSeq = true) ∧
         ((gathered .live 7).lastEvt ≠ 0 ∧ seqLe 6 (gathered .live 7).lastSeq = true)) ∧
      64 < (({ tileInit with probes := List.replicate 64 ⟨7, 0, 0, 0⟩ } : Tile).probes.filter (fun p => p.seq == 7)).length + 1 := by
  decide +kernel

theorem witness_TilesTakeCommandsAndFallBack_events :
    (let x := dual 2 none
     x.role = 1 ∧ (if x.port = 0 then x.crcB else x.crcA) ≠ [] ∧ 2 ≤ x.otherRun ∧ x.sync = false ∧ ¬ ({ x with sync := true, otherRun := 1 } : Tile).sync = false ∧
        ({ x with sync := true, otherRun := 1 } : Tile).otherRun < 2) ∧
      (tileInit.role ≠ 1 ∧ tileInit.state = .dark ∧ tileInit.plateV = false ∧ tileInit.sync = false ∧
        ({ tileInit with sync := true } : Tile).sync = true) := by
  decide

/-! ### The manual's worked examples, at the values that it states -/

/-- Bytes of halfwords. -/
def halves (l : List Nat) : Bytes := l.flatMap (leBytes 2)

/-- The zone descriptor of chapter 04's example: an ellipse, movable, SOFT 8 pixels, MARGIN 2 pixels. -/
def carDesc (cx vx : Nat) : Bytes :=
  leBytes 2 5 ++ leBytes 2 4 ++ zeroBytes 8 ++ leBytes 4 cx ++ leBytes 4 3200 ++ halves [384, 160, 0] ++ zeroBytes 10 ++
    halves [vx, 0, 0, 0] ++ [32, 8] ++ zeroBytes 2

/-- A content of that example whose t_mid lies `te` ns after TOBS. -/
def carFrame (te : Nat) : ZneFrame :=
  { tShow := te, tMid := 10000000 + te, period := 1000000, spec := true, horizon := 24, k := 0x40, m0 := 0x10, gmargin := 0,
    steps := 0 }

def carZone (desc : Bytes) : Zone :=
  { desc := desc, tobs := 10000000, prot := false, stale := false, setver := 0, te := 0, vx := 0, vy := 0, vm := 0 }

/-- Chapter 04: te, the extrapolated centre and the margin of the two descriptors, and M = 0x0111 one step up the ramp. -/
theorem test_worked_speculation :
    (let z := zoneView (carFrame 9219988) (carZone (carDesc 19200 64512)); (z.te, z.vx, z.vm) = (9219, 18610, 117)) ∧
      (let z := zoneView (carFrame 9707782) (carZone (carDesc 19120 65408)); (z.te, z.vx, z.vm) = (9707, 19043, 91)) ∧
      capQ (nextQ 0x1000 0 1) = 0x0111 := by decide +kernel

/-- The lamp of chapter 05's example: the tables that the pixel takes, its word and its v5. -/
def corLamp : State :=
  { State.reset with gte := { State.reset.gte with dt := [(40, 720)], seq := 0x186A1 }
                     cor := { State.reset.cor with v5 := [(661068, 525775)] } }
    |> wr Reg.COR_LIMIT_KMAX 0x10000
    |> stBytes (0x40081000 + 0x40 * 5 + 16) (halves [16672, 16704])
    |> stBytes (0x40081C00 + 0x20 * 3)
        (halves [100, 16384, 600, 17408, 800, 17920, 900, 18000, 1000, 18000, 1100, 18000, 1200, 18000, 1300, 18000])
    |> stBytes (0x40082000 + 0x80 * 5 + 44) (halves [17152])
    |> stBytes (calAddr 661068) (leBytes 4 0x8A451630)

/-- Chapter 05: the pixel's factors and its code. -/
theorem test_worked_correction :
    pixIdx 40 44 76 = 661068 ∧ calAddr 661068 = 0x21A85930 ∧ gbin corLamp 0 5 525775 = 16673 ∧ gtherm corLamp 3 40 = 17715 ∧
      corFactor corLamp 0x8A451630 40 525775 = 20382 ∧ corCode corLamp 40 44 76 = 40880 := by decide +kernel

/-- Chapter 06: the delays of three lanes. -/
theorem test_worked_flight :
    (let s := setDelays (State.reset |> wr (Reg.TLK_LN_FLIGHT_FLIGHT 0) 41 |> wr (Reg.TLK_LN_FLIGHT_EN 0) 1
        |> wr (Reg.TLK_LN_FLIGHT_FLIGHT 40) 117 |> wr (Reg.TLK_LN_FLIGHT_EN 40) 1
        |> wr (Reg.TLK_LN_FLIGHT_FLIGHT 63) 88 |> wr (Reg.TLK_LN_FLIGHT_EN 63) 1);
      rd s Reg.TLK_FLIGHTMAX_FMAX = 0x75 ∧ rd s (Reg.TLK_LN_FLIGHT_DELAY 0) = 0xA ∧ rd s (Reg.TLK_LN_FLIGHT_DELAY 40) = 0 ∧
        rd s (Reg.TLK_LN_FLIGHT_DELAY 63) = 4) := by decide +kernel

/-- Chapter 08: the slot, phase and thresholds of the probe, and the word after the class. -/
theorem test_worked_probe :
    (let s := { State.reset with gte := { State.reset.gte with seq := 0x4128D } };
      slotPlace s 18 = (70, 37, 18) ∧ c400 s = 1734 ∧ cmin s = 7) ∧ wordAfter 0x7C320540 1 1 = 0x4548 := by decide +kernel

/-- Chapter 09: the step to 1,030.0565 s misses two edges of TTO0, whose next one is then at 1,030.060 s. -/
theorem test_worked_tto :
    (let s := ttoMiss 0 1030056500000 0 (setTto 0 ⟨4, false⟩ (State.reset |> wr (Reg.NTM_TTO_CTRL_EN 0) 1
        |> wr (Reg.NTM_TTO_START_SL_VALUE 0) 1030 |> wr (Reg.NTM_TTO_PERIOD_VALUE 0) 10000000));
      rd s (Reg.NTM_TTO_MISSED_VALUE 0) = 2 ∧ rd s (Reg.NTM_TTO_CTRL_EN 0) = 1 ∧ s.inbox.length = 1 ∧
        ttoEdgeAt s 0 (ttoOf s 0).k = some 1030060000000) := by decide +kernel

/-- Chapter 11: the completion record of the glyph placement, in ring slot 51 of CH1. -/
theorem test_worked_record :
    (let s := wr (Reg.HIF_MB_CPLWP_COUNT 1) 0x0233 (devIn .lit);
      ldBytes (complete ⟨0x0502, 1, 18, 0x0117, true, false, false⟩ 0 0x00052A31 1 s) (cplSlotAddr 1 0x0233) 16 =
        [0x02, 0x05, 0x17, 0x01, 0x00, 0x05, 0x01, 0x12, 0x31, 0x2A, 0x05, 0x00, 0x01, 0x00, 0x00, 0x00]) := by
  decide +kernel

/-- Chapters 14, 16 and 18: message words. -/
theorem test_worked_messages :
    ([⟨0x0B1, 0x26, 40, none⟩, ⟨0x140, 0x40, 5, none⟩, ⟨0x180, 0x4C, 0, none⟩, ⟨0x152, 0x46, 2, none⟩] : List FMsg).map msgWord =
      [0x58A60028, 0xA0400005, 0xC04C0000, 0xA9460002] := by decide +kernel

/-- Chapter 17: the energy at 10.00 V, and the needs of the full and of the short dump. -/
theorem test_worked_holdup : holdE 10000 470 6000 = 0x38EC ∧ holdNeed 16384 = 19761 ∧ holdNeed 128 = 254 := by decide +kernel

end Sys2Proof.Tests
end

section
namespace Sys2Proof.Machine

/-! ### Registers: reading through a frame -/

section Frames

variable {fs : List Fld} {s t : State}

/-- A field outside the frame's list reads as before. -/
theorem RegsBut.rd_eq (h : RegsBut fs s t) (f : Fld) (hf : ∀ g ∈ fs, f.key ≠ g.key := by decide) : rd t f = rd s f :=
  h f hf

/-- A further step that touches fields of the list only keeps the frame. -/
theorem RegsBut.step {gs : List Fld} {u : State} (h : RegsBut fs s t) (k : RegsBut gs t u)
    (hg : ∀ f ∈ gs, f ∈ fs := by decide) : RegsBut fs s u :=
  h.trans (k.mono hg)

/-- A frame speaks of the register table only, so states with the same table can take the places of its ends. -/
theorem RegsBut.congr {s' t' : State} (h : RegsBut fs s t) (hs : s'.regs = s.regs) (ht : t'.regs = t.regs) :
    RegsBut fs s' t' :=
  fun f hf => (rd_of_regs ht f).trans ((h f hf).trans (rd_of_regs hs f).symm)

/-- A saturating counter that neither end of a frame touches still counts one. -/
theorem Counts.congr {f : Fld} {s' t' : State} (h : Counts f s t) (hs : rd s' f = rd s f) (ht : rd t' f = rd t f) :
    Counts f s' t' := by
  unfold Counts at *; rw [hs, ht, h]

/-- A saturating counter never exceeds its largest value and counts one at a time. -/
theorem counts_satInc_one (f : Fld) (s : State) : Counts f s (satInc f 1 s) := by
  have hp : 0 < 2 ^ f.width := Nat.two_pow_pos _
  simp only [Counts, satInc, satAdd, rd_wr_same]
  exact Nat.mod_eq_of_lt (by omega)

end Frames

/-! ### Memory: reads after one store -/

theorem ldByte_stBytes_at (s : State) (a : Nat) (bs : Bytes) {i : Nat} (h : i < bs.length) :
    ldByte (stBytes a bs s) (a + i) = bs.getD i 0 := by
  simp [ldByte, stBytes, Memory.get_put, h, Memory.unlisted]

theorem ldByte_stBytes_off (s : State) (a : Nat) (bs : Bytes) {x : Nat} (h : x < a ∨ a + bs.length ≤ x) :
    ldByte (stBytes a bs s) x = ldByte s x := by
  have : ¬ (a ≤ x ∧ x < a + bs.length) := by omega
  simp [ldByte, stBytes, Memory.get_put, this]

theorem length_spread (a n : Nat) (cs : List Host.Cell) : (Memory.spread a n cs).length = n := by
  induction n generalizing a cs with
  | zero => simp [Memory.spread]
  | succ k ih =>
    cases cs with
    | nil => simp [Memory.spread]
    | cons c cs => simp only [Memory.spread]; split <;> simp [ih]

@[simp] theorem length_ldBytes (s : State) (a n : Nat) : (ldBytes s a n).length = n := length_spread _ _ _

@[simp] theorem length_leBytes (n v : Nat) : (leBytes n v).length = n := by
  induction n generalizing v with
  | zero => rfl
  | succ n ih => simp [leBytes, ih]

@[simp] theorem length_zeroBytes (n : Nat) : (zeroBytes n).length = n := List.length_replicate

/-! ### Lines of the eMRAM (R486) -/

/-- Lines change memory, its check bits and the line count only. -/
theorem writeLines_frame (parts : List (Nat × Bytes)) (s : State) :
    writeLines parts s = { s with regs := (writeLines parts s).regs, mem := (writeLines parts s).mem,
                                  eccBad := (writeLines parts s).eccBad } ∧
      RegsBut [Reg.MRC_LINES_VALUE] s (writeLines parts s) := by
  refine forEach_invariant s (fun t => t = { s with regs := t.regs, mem := t.mem, eccBad := t.eccBad } ∧
    RegsBut [Reg.MRC_LINES_VALUE] s t) parts _ ?_ ⟨rfl, RegsBut.refl _ _⟩
  rintro p t ⟨ht, hr⟩
  refine ⟨?_, RegsBut.wr (t := { t with mem := _, eccBad := _ }) hr (by simp)⟩
  rw [ht]; rfl

section

variable (parts : List (Nat × Bytes)) (s : State)

@[simp] theorem writeLines_pilot : (writeLines parts s).pilot = s.pilot := by rw [(writeLines_frame parts s).1]
@[simp] theorem writeLines_cor : (writeLines parts s).cor = s.cor := by rw [(writeLines_frame parts s).1]
@[simp] theorem writeLines_waits : (writeLines parts s).waits = s.waits := by rw [(writeLines_frame parts s).1]
@[simp] theorem writeLines_inbox : (writeLines parts s).inbox = s.inbox := by rw [(writeLines_frame parts s).1]
@[simp] theorem writeLines_mrc : (writeLines parts s).mrc = s.mrc := by rw [(writeLines_frame parts s).1]
@[simp] theorem writeLines_evr : (writeLines parts s).evr = s.evr := by rw [(writeLines_frame parts s).1]
@[simp] theorem writeLines_sec : (writeLines parts s).sec = s.sec := by rw [(writeLines_frame parts s).1]

end

section OneRun

variable (off : Nat) (bytes : Bytes) (s : State)

theorem ldByte_writeLines_at {i : Nat} (h : i < bytes.length) :
    ldByte (writeLines [(off, bytes)] s) (0x30000000 + off + i) = bytes.getD i 0 :=
  ldByte_stBytes_at s _ bytes h

theorem memBut_writeLines : MemBut (0x30000000 + off) bytes.length s (writeLines [(off, bytes)] s) :=
  fun _ hx => ldByte_stBytes_off s _ bytes hx

theorem lines_writeLines : rd (writeLines [(off, bytes)] s) Reg.MRC_LINES_VALUE =
    (rd s Reg.MRC_LINES_VALUE + bytes.length / 64) % 2 ^ 32 := rd_wr_same _ _ _

theorem eccBad_writeLines : (writeLines [(off, bytes)] s).eccBad =
    s.eccBad.filter (fun w => !(0x30000000 + off ≤ w && w < 0x30000000 + off + bytes.length)) := rfl

/-- The runs of a burst are written one after the other. -/
theorem writeLines_cons (p : Nat × Bytes) (parts : List (Nat × Bytes)) :
    writeLines (p :: parts) s = writeLines parts (writeLines [p] s) := rfl

end OneRun

/-- A line that fails its verify twice counts two failures, is the last result and is reported with its number. -/
theorem verifyFailed_eq (off : Nat) (s : State) : verifyFailed off s =
    { wr Reg.MRC_STATUS_LAST 2 (satInc Reg.MRC_VERCNT_LOW 2 s) with
      inbox := s.inbox ++ [⟨0x111, 0x3D, off / 64 % 65536, none⟩] } := by
  have := raise_known (wr Reg.MRC_STATUS_LAST 2 (satInc Reg.MRC_VERCNT_LOW 2 s)) (source := 0x111)
    (detail := bits off 6 16) (r := ⟨0x111, 0x3D, 1, 0⟩) (by decide)
  have hd : bits off 6 16 % 65536 = off / 64 % 65536 := by simp [bits]
  rw [hd] at this
  exact this

/-! ### The hold-up check (R489, R491) -/

section HoldUp

variable (who : Nat) (loud : Bool) (s : State)

/-- A deferral touches three fields and, where it is reported, leaves one message. -/
theorem holdDefer_frame :
    holdDefer who loud s = { s with regs := (holdDefer who loud s).regs
                                    inbox := if loud then s.inbox ++ [⟨0x112, 0x3E, who % 65536, none⟩] else s.inbox } ∧
    RegsBut [Reg.MRC_STATUS_LAST, Reg.MRC_STATUS_DEFER, Reg.MRC_VERCNT_HIGH] s (holdDefer who loud s) := by
  have hr : RegsBut [Reg.MRC_STATUS_LAST, Reg.MRC_STATUS_DEFER, Reg.MRC_VERCNT_HIGH] s
      (satInc Reg.MRC_VERCNT_HIGH 1 (wr Reg.MRC_STATUS_DEFER 1 (wr Reg.MRC_STATUS_LAST 1 s))) :=
    (((RegsBut.refl s _).wr (by simp)).wr (by simp)).wr (by simp)
  cases loud with
  | false => exact ⟨rfl, hr⟩
  | true => exact ⟨rfl, hr⟩

/-- A deferral is the last result, raises DEFER and counts. -/
theorem holdDefer_sets : rd (holdDefer who loud s) Reg.MRC_STATUS_LAST = 1 ∧
    rd (holdDefer who loud s) Reg.MRC_STATUS_DEFER = 1 ∧ Counts Reg.MRC_VERCNT_HIGH s (holdDefer who loud s) := by
  have hregs : (holdDefer who loud s).regs =
      (satInc Reg.MRC_VERCNT_HIGH 1 (wr Reg.MRC_STATUS_DEFER 1 (wr Reg.MRC_STATUS_LAST 1 s))).regs := by
    cases loud <;> rfl
  refine ⟨?_, ?_, ?_⟩
  · rw [rd_of_regs hregs, satInc, rd_wr_ne _ _ _ _ (by decide), rd_wr_ne _ _ _ _ (by decide)]; exact rd_wr_same _ _ _
  · rw [rd_of_regs hregs, satInc, rd_wr_ne _ _ _ _ (by decide)]; exact rd_wr_same _ _ _
  · refine (counts_satInc_one _ _).congr ?_ (rd_of_regs hregs _)
    rw [rd_wr_ne _ _ _ _ (by decide), rd_wr_ne _ _ _ _ (by decide)]

end HoldUp

end Sys2Proof.Machine
end

section
namespace Sys2Proof.Machine

/-! ### MRC.WGO (R488, R489, R491) -/

/-- The burst that the MRC registers describe. -/
def wgoBurst (s : State) : Burst :=
  ⟨s.mrc.next, 0, [(rd s Reg.MRC_WDST_ADDR, ldBytes s (rd s Reg.MRC_WSRC_ADDR) (64 * rd s Reg.MRC_WLEN_LINES))],
    rd s Reg.MRC_WLEN_LINES, .wgo⟩

/-- The state in which an accepted burst is requested: its number is taken and GO reads 1. -/
def wgoTaken (e : Env) (s : State) : State := wr Reg.MRC_WGO_GO 1 (takeBurstId (atTime e.t s))

/-- A burst that waits for the one in progress or for the end of a pause. -/
def queueBurst (b : Burst) (s : State) : State := { s with mrc := { s.mrc with wait := s.mrc.wait ++ [b] } }

theorem startBurst_covered {e : Env} {b : Burst} {s : State} (h : holdCovers (holdMeasure e s) b.lines = true) :
    startBurst e b s = runBurst b (holdMeasure e s) := by
  simp only [startBurst, h, if_true]

theorem startBurst_deferred {e : Env} {b : Burst} {s : State} (h : holdCovers (holdMeasure e s) b.lines = false)
    (hb : b.why = .wgo) : startBurst e b s = wr Reg.MRC_WGO_GO 0 (holdDefer b.who true (holdMeasure e s)) := by
  simp only [startBurst, h, hb, if_false, Bool.false_eq_true]

section Wgo

variable {e : Env} {s : State}

theorem doMrcWgoWrite_ignored (h : mainOn s.dev.state = false ∨ rd s Reg.MRC_WGO_GO ≠ 0) : doMrcWgoWrite e s = s := by
  rcases h with h | h <;> simp [doMrcWgoWrite, rdb, h]

theorem doMrcWgoWrite_refused (hm : mainOn s.dev.state = true) (hg : rd s Reg.MRC_WGO_GO = 0) (hr : wgoResult s ≠ 0) :
    doMrcWgoWrite e s = wr Reg.MRC_STATUS_LAST (wgoResult s) s := by
  simp [doMrcWgoWrite, rdb, hm, hg, hr]

theorem doMrcWgoWrite_accepted (hm : mainOn s.dev.state = true) (hg : rd s Reg.MRC_WGO_GO = 0) (hr : wgoResult s = 0) :
    doMrcWgoWrite e s = if s.thm.paused.contains 4 || s.mrc.run.isSome then queueBurst (wgoBurst s) (wgoTaken e s)
      else startBurst e (wgoBurst s) (wgoTaken e s) := by
  have hp : (wgoTaken e s).thm.paused = s.thm.paused := rfl
  have hn : (wgoTaken e s).mrc.run = s.mrc.run := rfl
  have h : doMrcWgoWrite e s = if (wgoTaken e s).thm.paused.contains 4 then queueBurst (wgoBurst s) (wgoTaken e s)
      else requestBurst e (wgoBurst s) (wgoTaken e s) := by
    simp only [doMrcWgoWrite, rdb, hm, hg, hr, bne_self_eq_false, Bool.not_true, Bool.or_self, Bool.false_eq_true, if_false]
    rfl
  rw [h, hp, requestBurst, hn]
  cases s.thm.paused.contains 4 <;> cases s.mrc.run <;> rfl

/-- The number that a refusal gives is one of RANGE and PROT. -/
theorem wgoResult_le (s : State) : wgoResult s ≤ 4 := by
  unfold wgoResult; dsimp only; split_ifs <;> omega

theorem wgoTaken_frame : RegsBut [Reg.MRC_WGO_GO] s (wgoTaken e s) :=
  RegsBut.wr (t := takeBurstId (atTime e.t s)) (fun _ _ => rfl) (by simp)

theorem holdCovers_wgoTaken (n : Nat) :
    holdCovers (holdMeasure e (wgoTaken e s)) n = holdCovers (holdMeasure e s) n :=
  holdCovers_congr e n (rd_wr_ne _ _ _ _ (by decide)) (rd_wr_ne _ _ _ _ (by decide))

theorem mrcWgoWrite_refuses (hm : mainOn s.dev.state = true) (hg : rd s Reg.MRC_WGO_GO = 0) (hr : wgoResult s ≠ 0) :
    ∃ t, exec (.mrcWgoWrite e) s = .next t ∧ rd t Reg.MRC_STATUS_LAST = wgoResult s ∧
      OnlyRegs [Reg.MRC_STATUS_LAST] s t := by
  refine ⟨_, congrArg Host.Outcome.next (doMrcWgoWrite_refused hm hg hr), ?_, rfl, (RegsBut.refl s _).wr (by simp)⟩
  exact (rd_wr_same _ _ _).trans (Nat.mod_eq_of_lt (lt_of_le_of_lt (wgoResult_le s) (by decide)))

theorem mrcWgoWrite_starts (hm : mainOn s.dev.state = true) (hg : rd s Reg.MRC_WGO_GO = 0) (hr : wgoResult s = 0)
    (hrun : s.mrc.run = none) (hp : 4 ∉ s.thm.paused) (hc : holdCovers (holdMeasure e s) (rd s Reg.MRC_WLEN_LINES) = true) :
    ∃ t, exec (.mrcWgoWrite e) s = .next t ∧
      t.mrc = { s.mrc with run := some (wgoBurst s), next := s.mrc.next + 1 } ∧ rd t Reg.MRC_WGO_GO = 1 ∧
      rd t Reg.MRC_STATUS_BUSY = 1 ∧ t = { atTime e.t s with regs := t.regs, mrc := t.mrc } ∧
      RegsBut [Reg.MRC_WGO_GO, Reg.MRC_STATUS_BUSY, Reg.MRC_HOLDST_VMEAS, Reg.MRC_HOLDE_VALUE] s t := by
  have ht : doMrcWgoWrite e s = runBurst (wgoBurst s) (holdMeasure e (wgoTaken e s)) := by
    rw [doMrcWgoWrite_accepted hm hg hr, if_neg (by simp [hrun, hp])]
    exact startBurst_covered ((holdCovers_wgoTaken _).trans hc)
  have hgo := wgoTaken_frame (e := e) (s := s)
  have hh := (holdMeasure_frame (wgoTaken e s) e).2
  have hu : RegsBut [Reg.MRC_STATUS_BUSY] (holdMeasure e (wgoTaken e s))
      (runBurst (wgoBurst s) (holdMeasure e (wgoTaken e s))) :=
    RegsBut.wr (t := { holdMeasure e (wgoTaken e s) with mrc := _ }) (fun _ _ => rfl) (by simp)
  refine ⟨_, congrArg Host.Outcome.next ht, rfl, ?_, rd_wr_same _ _ _, rfl, ?_⟩
  · rw [hu.rd_eq _, hh.rd_eq _]; exact rd_wr_same _ _ _
  · exact (((RegsBut.refl s _).step hgo).step hh).step hu

theorem mrcWgoWrite_defers (hm : mainOn s.dev.state = true) (hg : rd s Reg.MRC_WGO_GO = 0) (hr : wgoResult s = 0)
    (hrun : s.mrc.run = none) (hp : 4 ∉ s.thm.paused)
    (hc : holdCovers (holdMeasure e s) (rd s Reg.MRC_WLEN_LINES) = false) :
    ∃ t, exec (.mrcWgoWrite e) s = .next t ∧
      (rd t Reg.MRC_STATUS_LAST = 1 ∧ rd t Reg.MRC_STATUS_DEFER = 1 ∧ Counts Reg.MRC_VERCNT_HIGH s t) ∧
      rd t Reg.MRC_WGO_GO = 0 ∧
      t = { atTime e.t s with regs := t.regs, mrc := { s.mrc with next := s.mrc.next + 1 }
                              inbox := s.inbox ++ [⟨0x112, 0x3E, 0, none⟩] } ∧
      RegsBut [Reg.MRC_WGO_GO, Reg.MRC_STATUS_LAST, Reg.MRC_STATUS_DEFER, Reg.MRC_VERCNT_HIGH,
        Reg.MRC_HOLDST_VMEAS, Reg.MRC_HOLDE_VALUE] s t := by
  have ht : doMrcWgoWrite e s = wr Reg.MRC_WGO_GO 0 (holdDefer 0 true (holdMeasure e (wgoTaken e s))) := by
    rw [doMrcWgoWrite_accepted hm hg hr, if_neg (by simp [hrun, hp])]
    exact startBurst_deferred ((holdCovers_wgoTaken _).trans hc) rfl
  have hgo := wgoTaken_frame (e := e) (s := s)
  have hh := (holdMeasure_frame (wgoTaken e s) e).2
  obtain ⟨hd, hdr⟩ := holdDefer_frame 0 true (holdMeasure e (wgoTaken e s))
  obtain ⟨h1, h2, h3⟩ := holdDefer_sets 0 true (holdMeasure e (wgoTaken e s))
  have hz : RegsBut [Reg.MRC_WGO_GO] _ (wr Reg.MRC_WGO_GO 0 (holdDefer 0 true (holdMeasure e (wgoTaken e s)))) :=
    (RegsBut.refl _ _).wr (by simp)
  refine ⟨_, congrArg Host.Outcome.next ht, ⟨?_, ?_, h3.congr ?_ (hz.rd_eq _)⟩, rd_wr_same _ _ _, ?_,
    ((((RegsBut.refl s _).step hgo).step hh).step hdr).step hz⟩
  · rw [hz.rd_eq _, h1]
  · rw [hz.rd_eq _, h2]
  · rw [hh.rd_eq _, hgo.rd_eq _]
  · rw [hd]; rfl

theorem mrcWgoWrite_queues (hm : mainOn s.dev.state = true) (hg : rd s Reg.MRC_WGO_GO = 0) (hr : wgoResult s = 0)
    (hw : s.mrc.run ≠ none ∨ 4 ∈ s.thm.paused) : ∃ t, exec (.mrcWgoWrite e) s = .next t ∧
      t.mrc = { s.mrc with wait := s.mrc.wait ++ [wgoBurst s], next := s.mrc.next + 1 } ∧ rd t Reg.MRC_WGO_GO = 1 ∧
      t = { atTime e.t s with regs := t.regs, mrc := t.mrc } ∧ RegsBut [Reg.MRC_WGO_GO] s t := by
  have hc : (s.thm.paused.contains 4 || s.mrc.run.isSome) = true := by
    rcases hw with hw | hw
    · simp [Option.isSome_iff_ne_none.mpr hw]
    · simp [hw]
  have ht : doMrcWgoWrite e s = queueBurst (wgoBurst s) (wgoTaken e s) := by
    rw [doMrcWgoWrite_accepted hm hg hr, if_pos hc]
  exact ⟨_, congrArg Host.Outcome.next ht, rfl, rd_wr_same _ _ _, rfl, wgoTaken_frame⟩

end Wgo

/-! ### The end of a burst (R486) -/

section BurstDone

variable {e : Env} {s : State}

/-- With no burst in progress and no wipe waiting the row only moves the instant. -/
theorem doMrcBurstDone_idle (f : Option Nat) (hr : s.mrc.run = none) (hw : s.sec.wipes = []) :
    doMrcBurstDone e f s = atTime e.t s := by
  have hn : (atTime e.t s).mrc.run = none := hr
  have hz : (atTime e.t s).sec.wipes = [] := hw
  simp only [doMrcBurstDone, hn, wipeNext, hz]
  rfl

/-- The state in which the lines of the burst in progress are written. -/
def burstEnds (e : Env) (s : State) : State :=
  wr Reg.MRC_STATUS_BUSY 0 { atTime e.t s with mrc := { s.mrc with run := none } }

/-- Nothing else of MRC stands behind the burst in progress: no wear pass, no waiting burst, no wipe, and no damper step
asks for a pause. -/
structure BurstAlone (s : State) : Prop where
  pass  : s.cor.pass = none
  wait  : s.mrc.wait = []
  wipes : s.sec.wipes = []
  step  : damper s = 0

/-- Where nothing stands behind it, a burst of MRC.WGO ends with GO reading 0 and nothing more. -/
theorem afterBurst_wgo_alone {b : Burst} {ok : Bool} (hb : b.why = .wgo) (ha : BurstAlone s) (hr : s.mrc.run = none) :
    (let u := afterBurst e b ok s
     let u := drainWait e u.mrc.wait u
     let u := if u.thm.paused.contains 0 then u else wearNext e u
     wipeNext e u) = wr Reg.MRC_WGO_GO 0 s := by
  obtain ⟨hpass, hwait, hwipes, hstep⟩ := ha
  have hd : damper (wr Reg.MRC_WGO_GO 0 s) = 0 := (rd_wr_ne _ _ _ _ (by decide)).trans hstep
  have h1 : afterBurst e b ok s = wr Reg.MRC_WGO_GO 0 s := by simp [afterBurst, hb, startPause, hd]
  have h2 : drainWait e [] (wr Reg.MRC_WGO_GO 0 s) = wr Reg.MRC_WGO_GO 0 s := rfl
  have h3 : wearNext e (wr Reg.MRC_WGO_GO 0 s) = wr Reg.MRC_WGO_GO 0 s := by simp [wearNext, hpass]
  have h4 : wipeNext e (wr Reg.MRC_WGO_GO 0 s) = wr Reg.MRC_WGO_GO 0 s := by simp [wipeNext, hr, hwipes]
  simp only [h1, wr_mrc, hwait, h2, h3, ite_self, h4]

/-- What stands behind a burst is seen in four places of the state. -/
theorem BurstAlone.congr {t : State} (h : BurstAlone s) (hc : t.cor = s.cor) (hw : t.mrc.wait = s.mrc.wait)
    (hz : t.sec = s.sec) (hd : damper t = damper s) : BurstAlone t :=
  ⟨by rw [hc]; exact h.pass, by rw [hw]; exact h.wait, by rw [hz]; exact h.wipes, by rw [hd]; exact h.step⟩

section Ends

variable {b : Burst} (hr : s.mrc.run = some b) (hb : b.why = .wgo) (ha : BurstAlone s)
include hr hb ha

/-- The lines of a burst that stands alone are all written. -/
theorem doMrcBurstDone_written :
    doMrcBurstDone e none s = wr Reg.MRC_WGO_GO 0 (wr Reg.MRC_STATUS_LAST 0 (writeLines b.parts (burstEnds e s))) := by
  have hn : (atTime e.t s).mrc.run = some b := hr
  rw [← afterBurst_wgo_alone (e := e) (ok := true) hb (ha.congr _ _ _ _) _]
  · simp only [doMrcBurstDone, hn]; rfl
  · simp [burstEnds]
  · simp [burstEnds]
  · simp [burstEnds]
  · exact (rd_wr_ne _ _ _ _ (by decide)).trans
      (((writeLines_frame _ _).2.rd_eq _).trans (rd_wr_ne _ _ _ _ (by decide)))
  · simp [burstEnds]

/-- Line `i` of a burst that stands alone fails its verify; those before it are written. -/
theorem doMrcBurstDone_failed {i off : Nat} (ho : lineOffset b.parts i = some off) :
    doMrcBurstDone e (some i) s =
      wr Reg.MRC_WGO_GO 0 (verifyFailed off (writeLines (takeLines b.parts i) (burstEnds e s))) := by
  have hn : (atTime e.t s).mrc.run = some b := hr
  rw [← afterBurst_wgo_alone (e := e) (ok := false) hb (ha.congr _ _ _ _) _]
  · simp only [doMrcBurstDone, hn, ho]; rfl
  · simp [burstEnds, verifyFailed]
  · simp [burstEnds, verifyFailed]
  · simp [burstEnds, verifyFailed]
  · rw [verifyFailed_eq]
    exact (rd_wr_ne _ _ _ _ (by decide)).trans ((rd_wr_ne _ _ _ _ (by decide)).trans
      (((writeLines_frame _ _).2.rd_eq _).trans (rd_wr_ne _ _ _ _ (by decide))))
  · simp [burstEnds, verifyFailed]

end Ends

/-- What the end of a burst from MRC.WGO shows: MRC is free, GO and BUSY read 0 and LAST gives the result. -/
def WgoEnded (last : Nat) (s t : State) : Prop :=
  t.mrc = { s.mrc with run := none } ∧ rd t Reg.MRC_WGO_GO = 0 ∧ rd t Reg.MRC_STATUS_BUSY = 0 ∧
    rd t Reg.MRC_STATUS_LAST = last

theorem burstEnds_frame (e : Env) (s : State) : RegsBut [Reg.MRC_STATUS_BUSY] s (burstEnds e s) :=
  RegsBut.wr (t := { atTime e.t s with mrc := _ }) (fun _ _ => rfl) (by simp)

section OneRun

variable {b : Burst} {off : Nat} {bytes : Bytes} (hr : s.mrc.run = some b) (hb : b.why = .wgo)
  (hp : b.parts = [(off, bytes)]) (ha : BurstAlone s)
include hr hb hp ha

theorem mrcBurstDone_writes : ∃ t, exec (.mrcBurstDone e none) s = .next t ∧ WgoEnded 0 s t ∧
    (∀ i, i < bytes.length → ldByte t (0x30000000 + off + i) = bytes.getD i 0) ∧
    MemBut (0x30000000 + off) bytes.length s t ∧
    rd t Reg.MRC_LINES_VALUE = (rd s Reg.MRC_LINES_VALUE + bytes.length / 64) % 2 ^ 32 ∧
    t = { atTime e.t s with
          regs := t.regs, mem := t.mem, mrc := t.mrc
          eccBad := s.eccBad.filter (fun w => !(0x30000000 + off ≤ w && w < 0x30000000 + off + bytes.length)) } ∧
    RegsBut [Reg.MRC_WGO_GO, Reg.MRC_STATUS_BUSY, Reg.MRC_STATUS_LAST, Reg.MRC_LINES_VALUE] s t := by
  have ht := doMrcBurstDone_written (e := e) hr hb ha
  rw [hp] at ht
  have hB := burstEnds_frame e s
  obtain ⟨hw, hwr⟩ := writeLines_frame [(off, bytes)] (burstEnds e s)
  have hL := lines_writeLines off bytes (burstEnds e s)
  have hM := memBut_writeLines off bytes (burstEnds e s)
  have hA := fun i => ldByte_writeLines_at off bytes (burstEnds e s) (i := i)
  have hE := eccBad_writeLines off bytes (burstEnds e s)
  generalize writeLines [(off, bytes)] (burstEnds e s) = u at *
  have hl : RegsBut [Reg.MRC_STATUS_LAST] u (wr Reg.MRC_STATUS_LAST 0 u) := (RegsBut.refl _ _).wr (by simp)
  have hg : RegsBut [Reg.MRC_WGO_GO] _ (wr Reg.MRC_WGO_GO 0 (wr Reg.MRC_STATUS_LAST 0 u)) :=
    (RegsBut.refl _ _).wr (by simp)
  refine ⟨_, congrArg Host.Outcome.next ht, ⟨?_, rd_wr_same _ _ _, ?_, ?_⟩, hA, hM, ?_, ?_, ?_⟩
  · exact congrArg State.mrc hw
  · rw [hg.rd_eq _, hl.rd_eq _, hwr.rd_eq _]; exact rd_wr_same _ _ _
  · rw [hg.rd_eq _]; exact rd_wr_same _ _ _
  · rw [hg.rd_eq _, hl.rd_eq _, hL, hB.rd_eq _]
  · have : u.eccBad = s.eccBad.filter (fun w => !(0x30000000 + off ≤ w && w < 0x30000000 + off + bytes.length)) := hE
    rw [← this]; rw [hw]; rfl
  · exact ((((RegsBut.refl s _).step hB).step hwr).step hl).step hg

/-- In a burst of one run, the lines before line `i` are the first `64 i` bytes of it. -/
theorem mrcBurstDone_fails {i : Nat} (hi : i < bytes.length / 64) : ∃ t, exec (.mrcBurstDone e (some i)) s = .next t ∧
    WgoEnded 2 s t ∧ (∀ k, k < 64 * i → ldByte t (0x30000000 + off + k) = bytes.getD k 0) ∧
    MemBut (0x30000000 + off) (64 * i) s t ∧
    rd t Reg.MRC_VERCNT_LOW = min 0xFFFF (rd s Reg.MRC_VERCNT_LOW + 2) ∧
    t = { atTime e.t s with
          regs := t.regs, mem := t.mem, mrc := t.mrc, eccBad := t.eccBad
          inbox := s.inbox ++ [⟨0x111, 0x3D, (off + 64 * i) / 64 % 65536, none⟩] } ∧
    RegsBut [Reg.MRC_VERCNT_LOW, Reg.MRC_WGO_GO, Reg.MRC_STATUS_BUSY, Reg.MRC_STATUS_LAST, Reg.MRC_LINES_VALUE] s t := by
  have ht := doMrcBurstDone_failed (e := e) (i := i) (off := off + 64 * i) hr hb ha (by rw [hp]; simp [lineOffset, hi])
  rw [hp, show takeLines [(off, bytes)] i = [(off, bytes.take (64 * i))] by simp [takeLines, hi], verifyFailed_eq] at ht
  have hlen : (bytes.take (64 * i)).length = 64 * i := by rw [List.length_take]; omega
  have hB := burstEnds_frame e s
  obtain ⟨hw, hwr⟩ := writeLines_frame [(off, bytes.take (64 * i))] (burstEnds e s)
  have hM := memBut_writeLines off (bytes.take (64 * i)) (burstEnds e s)
  have hA := fun k => ldByte_writeLines_at off (bytes.take (64 * i)) (burstEnds e s) (i := k)
  rw [hlen] at hM hA
  have hI := writeLines_inbox [(off, bytes.take (64 * i))] (burstEnds e s)
  generalize writeLines [(off, bytes.take (64 * i))] (burstEnds e s) = u at *
  have hv : RegsBut [Reg.MRC_VERCNT_LOW] u (satInc Reg.MRC_VERCNT_LOW 2 u) := RegsBut.wr (RegsBut.refl _ _) (by simp)
  have hl : RegsBut [Reg.MRC_STATUS_LAST] _ (wr Reg.MRC_STATUS_LAST 2 (satInc Reg.MRC_VERCNT_LOW 2 u)) :=
    (RegsBut.refl _ _).wr (by simp)
  have hg : RegsBut [Reg.MRC_WGO_GO] (wr Reg.MRC_STATUS_LAST 2 (satInc Reg.MRC_VERCNT_LOW 2 u)) (wr Reg.MRC_WGO_GO 0
      { wr Reg.MRC_STATUS_LAST 2 (satInc Reg.MRC_VERCNT_LOW 2 u) with
        inbox := u.inbox ++ [⟨0x111, 0x3D, (off + 64 * i) / 64 % 65536, none⟩] }) :=
    RegsBut.wr (t := { wr Reg.MRC_STATUS_LAST 2 (satInc Reg.MRC_VERCNT_LOW 2 u) with inbox := _ })
      (fun _ _ => rfl) (by simp)
  refine ⟨_, congrArg Host.Outcome.next ht, ⟨?_, rd_wr_same _ _ _, ?_, ?_⟩, ?_, hM, ?_, ?_, ?_⟩
  · exact congrArg State.mrc hw
  · rw [hg.rd_eq _, hl.rd_eq _, hv.rd_eq _, hwr.rd_eq _]; exact rd_wr_same _ _ _
  · rw [hg.rd_eq _]; exact rd_wr_same _ _ _
  · intro k hk
    rw [List.getD_eq_getElem?_getD, ← List.getElem?_take_of_lt hk, ← List.getD_eq_getElem?_getD]
    exact hA k hk
  · rw [hg.rd_eq _, hl.rd_eq _, satInc, rd_wr_same, hwr.rd_eq _, hB.rd_eq _, satAdd]
    exact Nat.mod_eq_of_lt (by norm_num [Reg.MRC_VERCNT_LOW])
  · rw [hI, hw]; rfl
  · exact (((((RegsBut.refl s _).step hB).step hwr).step hv).step hl).step hg

end OneRun

end BurstDone
end Sys2Proof.Machine
end

section
namespace Sys2Proof.Machine

/-! ### Half a line (R496) -/

theorem getD_ldBytes {s : State} {n i : Nat} (a : Nat) (hw : Memory.wf s.mem = true) (h : i < n) :
    (ldBytes s a n).getD i 0 = ldByte s (a + i) := by
  simp [ldBytes_eq s a n hw, List.getD_eq_getElem?_getD, h]

/-- Of a run that repeats the bytes that stand there but for `n` bytes from its byte `k`, only those change. -/
theorem memBut_writeLines_part {s : State} {off k n : Nat} {bytes : Bytes}
    (h : ∀ j, j < bytes.length → (j < k ∨ k + n ≤ j) → bytes.getD j 0 = ldByte s (0x30000000 + off + j)) :
    MemBut (0x30000000 + off + k) n s (writeLines [(off, bytes)] s) := by
  intro x hx
  by_cases hin : 0x30000000 + off ≤ x ∧ x < 0x30000000 + off + bytes.length
  · obtain ⟨j, rfl⟩ := Nat.exists_eq_add_of_le hin.1
    rw [ldByte_writeLines_at off bytes s (by omega), h j (by omega) (by omega)]
  · exact memBut_writeLines off bytes s x (by omega)

section WriteHalf

variable {s : State} {off : Nat} {b : Bytes} (hoff : off % 32 = 0) (hb : b.length = 32) (hw : Memory.wf s.mem = true)

/-- A verified half is a line whose other half repeats what stands there. -/
theorem writeHalf_ok : writeHalf off b true s = writeLines [(off / 64 * 64,
    if off % 64 = 0 then b ++ (ldBytes s (0x30000000 + off / 64 * 64) 64).drop 32
    else (ldBytes s (0x30000000 + off / 64 * 64) 64).take 32 ++ b)] s := rfl

/-- A verified half writes one line. -/
theorem writeHalf_frame (off : Nat) (b : Bytes) (s : State) :
    writeHalf off b true s = { s with regs := (writeHalf off b true s).regs, mem := (writeHalf off b true s).mem,
                                      eccBad := (writeHalf off b true s).eccBad } ∧
      RegsBut [Reg.MRC_LINES_VALUE] s (writeHalf off b true s) := writeLines_frame _ s

include hoff hb hw

/-- Half a line stores its 32 bytes and leaves the other half as it stands. -/
theorem writeHalf_bytes : (∀ i, i < 32 → ldByte (writeHalf off b true s) (0x30000000 + off + i) = b.getD i 0) ∧
    MemBut (0x30000000 + off) 32 s (writeHalf off b true s) := by
  rw [writeHalf_ok]
  by_cases hlo : off % 64 = 0
  · have hl : off / 64 * 64 = off := by omega
    rw [if_pos hlo, hl]
    have hlen : (b ++ (ldBytes s (0x30000000 + off) 64).drop 32).length = 64 := by simp [hb]
    refine ⟨fun i hi => ?_, memBut_writeLines_part (k := 0) (fun j hj hout => ?_)⟩
    · rw [ldByte_writeLines_at _ _ _ (by omega), List.getD_append _ _ _ _ (by omega)]
    · rw [List.getD_append_right _ _ _ _ (by omega), hb, ← getD_ldBytes (n := 64) _ hw (by omega),
        List.getD_eq_getElem?_getD, List.getElem?_drop, ← List.getD_eq_getElem?_getD]
      congr 1; omega
  · have hl : off / 64 * 64 = off - 32 := by omega
    rw [if_neg hlo, hl]
    have ht : ((ldBytes s (0x30000000 + (off - 32)) 64).take 32).length = 32 := by simp
    have hlen : ((ldBytes s (0x30000000 + (off - 32)) 64).take 32 ++ b).length = 64 := by simp [hb]
    have ha : 0x30000000 + off = 0x30000000 + (off - 32) + 32 := by omega
    rw [ha]
    refine ⟨fun i hi => ?_, memBut_writeLines_part (k := 32) (fun j hj hout => ?_)⟩
    · rw [Nat.add_assoc _ 32 i, ldByte_writeLines_at _ _ _ (by omega), List.getD_append_right _ _ _ _ (by omega), ht]
      congr 1; omega
    · rw [List.getD_append _ _ _ _ (by omega), ← getD_ldBytes (n := 64) _ hw (by omega),
        List.getD_eq_getElem?_getD, List.getElem?_take_of_lt (by omega), ← List.getD_eq_getElem?_getD]

end WriteHalf

/-! ### The running pages (R494, R496) -/

/-- The slot that follows depends on the bad-line map only. -/
theorem goodSlot_congr {s t : State} (sl n : Nat)
    (h : ∀ x, 0x30AC8000 ≤ x → x < 0x30AC8200 → ldByte t x = ldByte s x) : goodSlot t sl n = goodSlot s sl n := by
  have hb : ∀ i, lineBad t ((sl + i) % 8192 / 2) = lineBad s ((sl + i) % 8192 / 2) := by
    intro i
    rw [lineBad, lineBad, h _ (by omega) (by omega)]
  simp only [goodSlot, hb]

theorem goodSlot_lt (s : State) (sl n : Nat) : goodSlot s sl n < 8192 := by
  unfold goodSlot
  cases (List.range n).find? _ <;> exact Nat.mod_lt _ (by decide)

theorem length_evRecord (q : EvEntry) (seq flags : Nat) : (evRecord q seq flags).length = 32 := by
  simp [evRecord]

/-! ### The head entry (R491, R493, R496) -/

section Recorder

variable {e : Env} {fails : List Bool} {s : State}

theorem exec_evrRetry : exec (.evrRetry e fails) s = .next (if s.evr.holdUp then evTry e fails s else s) := rfl

/-- EVR may write: it runs, MRC is free, no dump is due and the main domain is powered. -/
def EvFree (s : State) : Prop :=
  rd s Reg.EVR_STATUS_RUN ≠ 0 ∧ s.mrc.run = none ∧ s.dump.fatal = none ∧ mainOn s.dev.state = true

theorem evTry_idle (h : ¬ EvFree s ∨ s.evr.queue = []) : evTry e fails s = atTime e.t s := by
  by_cases hf : EvFree s
  · have hq : (atTime e.t s).evr.queue = [] := h.resolve_left (not_not.mpr hf)
    simp only [evTry, hq, ite_self]
  · have hc : (!rdb s Reg.EVR_STATUS_RUN || s.mrc.run.isSome || s.dump.fatal.isSome || !mainOn s.dev.state) = true := by
      by_contra hn
      simp [rdb] at hn
      exact hf ⟨hn.1.1.1, hn.1.1.2, hn.1.2, hn.2⟩
    exact if_pos hc

/-- The state in which the record of the head entry is written. -/
def evCovered (e : Env) (s : State) : State :=
  let u := holdMeasure e (atTime e.t s)
  wr Reg.MRC_STATUS_LAST 0 { u with evr := { u.evr with holdUp := false } }

theorem evCovered_frame (e : Env) (s : State) :
    RegsBut [Reg.MRC_STATUS_LAST, Reg.MRC_HOLDST_VMEAS, Reg.MRC_HOLDE_VALUE] s (evCovered e s) :=
  RegsBut.wr (t := { holdMeasure e (atTime e.t s) with evr := _ })
    ((holdMeasure_frame (atTime e.t s) e).2.mono (by decide)) (by simp)

/-- The state in which the check has deferred the head entry. -/
def evDeferred (e : Env) (s : State) : State :=
  { holdDefer 1 (!s.evr.holdUp) (holdMeasure e (atTime e.t s)) with evr := { s.evr with holdUp := true } }

theorem evTry_head {q : EvEntry} {rest : List EvEntry} (hf : EvFree s) (hq : s.evr.queue = q :: rest) :
    evTry e fails s = if holdCovers (holdMeasure e s) (if rd s Reg.EVR_STATUS_FRONTFULL = 0 then 2 else 1) then
      evBurst q fails (evCovered e s) else evDeferred e s := by
  obtain ⟨hrun, hmrc, hfatal, hmain⟩ := hf
  have hq' : (atTime e.t s).evr.queue = q :: rest := hq
  have hc : (!rdb s Reg.EVR_STATUS_RUN || s.mrc.run.isSome || s.dump.fatal.isSome || !mainOn s.dev.state) = false := by
    simp [rdb, hrun, hmrc, hfatal, hmain]
  have hl : (if rdb (atTime e.t s) Reg.EVR_STATUS_FRONTFULL then 1 else 2) =
      if rd s Reg.EVR_STATUS_FRONTFULL = 0 then 2 else 1 := by
    by_cases h : rd s Reg.EVR_STATUS_FRONTFULL = 0 <;> simp [rdb, h]
  have hc' : (!rdb (atTime e.t s) Reg.EVR_STATUS_RUN || (atTime e.t s).mrc.run.isSome ||
      (atTime e.t s).dump.fatal.isSome || !mainOn (atTime e.t s).dev.state) = false := hc
  simp only [evTry, hc', hq', hl, Bool.false_eq_true, if_false]
  rfl

theorem evrWrite_defers (hf : EvFree s) (hq : s.evr.queue ≠ [])
    (hc : holdCovers (holdMeasure e s) (if rd s Reg.EVR_STATUS_FRONTFULL = 0 then 2 else 1) = false) :
    ∃ t, exec (.evrWrite e fails) s = .next t ∧
      (rd t Reg.MRC_STATUS_LAST = 1 ∧ rd t Reg.MRC_STATUS_DEFER = 1 ∧ Counts Reg.MRC_VERCNT_HIGH s t) ∧
      t = { atTime e.t s with
            regs := t.regs, evr := { s.evr with holdUp := true }
            inbox := if s.evr.holdUp then s.inbox else s.inbox ++ [⟨0x112, 0x3E, 1, none⟩] } ∧
      RegsBut [Reg.MRC_STATUS_LAST, Reg.MRC_STATUS_DEFER, Reg.MRC_VERCNT_HIGH, Reg.MRC_HOLDST_VMEAS,
        Reg.MRC_HOLDE_VALUE] s t := by
  obtain ⟨q, rest, hq⟩ := List.exists_cons_of_ne_nil hq
  have ht : evTry e fails s = evDeferred e s := by rw [evTry_head hf hq, hc]; rfl
  have hh : RegsBut [Reg.MRC_HOLDST_VMEAS, Reg.MRC_HOLDE_VALUE] s (holdMeasure e (atTime e.t s)) :=
    (holdMeasure_frame (atTime e.t s) e).2
  obtain ⟨hd, hdr⟩ := holdDefer_frame 1 (!s.evr.holdUp) (holdMeasure e (atTime e.t s))
  obtain ⟨h1, h2, h3⟩ := holdDefer_sets 1 (!s.evr.holdUp) (holdMeasure e (atTime e.t s))
  refine ⟨_, congrArg Host.Outcome.next ht, ⟨h1, h2, h3.congr (hh.rd_eq _).symm rfl⟩, ?_,
    ((RegsBut.refl s _).step hh).step hdr⟩
  unfold evDeferred
  rw [hd]
  cases s.evr.holdUp <;> rfl

/-- With the front matter full, a record that verifies is written into its slot and nothing else is. -/
theorem evBurst_verified {q : EvEntry} (hfull : rd s Reg.EVR_STATUS_FRONTFULL ≠ 0) (hv : fails.getD 0 false = false)
    (hother : eccBadIn s (if rd s Reg.EVR_WSLOT_SLOT % 2 = 0 then 0x30A88000 + 32 * rd s Reg.EVR_WSLOT_SLOT + 32
      else 0x30A88000 + 32 * rd s Reg.EVR_WSLOT_SLOT - 32) 32 = false) :
    evBurst q fails s = evWritten (rd s Reg.EVR_WSLOT_SLOT) (writeHalf (0xA88000 + 32 * rd s Reg.EVR_WSLOT_SLOT)
      (evRecord q s.evr.seq (if s.evr.loss then 0x20 else 0)) true s) := by
  have hf : rdb s Reg.EVR_STATUS_FRONTFULL = true := by simp [rdb, hfull]
  have ho : 0x30000000 + (if rd s Reg.EVR_WSLOT_SLOT % 2 = 0 then 0xA88000 + 32 * rd s Reg.EVR_WSLOT_SLOT + 32
      else 0xA88000 + 32 * rd s Reg.EVR_WSLOT_SLOT - 32) = if rd s Reg.EVR_WSLOT_SLOT % 2 = 0
      then 0x30A88000 + 32 * rd s Reg.EVR_WSLOT_SLOT + 32 else 0x30A88000 + 32 * rd s Reg.EVR_WSLOT_SLOT - 32 := by
    split <;> omega
  have hs : ∀ b, writeSlot (rd s Reg.EVR_WSLOT_SLOT) b false s =
      (writeHalf (0xA88000 + 32 * rd s Reg.EVR_WSLOT_SLOT) b true s, true) := by
    intro b
    simp only [writeSlot, ho, hother, Bool.not_false, if_false, Bool.false_eq_true]
  simp only [evBurst, hf, hv, hs, b2n, Bool.not_true, Bool.false_and, Bool.false_eq_true, if_false, if_true, when_false,
    Nat.mul_zero, Nat.add_zero]

/-- Outside a loss episode the record in its slot moves NEWEST, the next number, the slot and the queue on, and nothing
else. -/
theorem evWritten_calm {q : EvEntry} {rest : List EvEntry} (slot : Nat) (hep : s.evr.episode = 0)
    (hq : s.evr.queue = q :: rest) (hlen : rest.length < 64) (hseq : s.evr.seq < 2 ^ 32) :
    (evWritten slot s).evr = { s.evr with queue := rest, seq := seqNext s.evr.seq, loss := false } ∧
      rd (evWritten slot s) Reg.EVR_NEWEST_SEQ = s.evr.seq ∧
      rd (evWritten slot s) Reg.EVR_WSLOT_SLOT = goodSlot s (slot + 1) 8192 ∧
      rd (evWritten slot s) Reg.EVR_STATUS_QLEVEL = rest.length ∧
      evWritten slot s = { s with regs := (evWritten slot s).regs, evr := (evWritten slot s).evr } ∧
      RegsBut [Reg.EVR_NEWEST_SEQ, Reg.EVR_WSLOT_SLOT, Reg.EVR_STATUS_QLEVEL] s (evWritten slot s) := by
  have ht : evWritten slot s = wr Reg.EVR_STATUS_QLEVEL rest.length (wr Reg.EVR_WSLOT_SLOT (goodSlot s (slot + 1) 8192)
      (wr Reg.EVR_NEWEST_SEQ s.evr.seq
        { s with evr := { s.evr with queue := rest, seq := seqNext s.evr.seq, loss := false } })) := by
    simp [evWritten, evEpisodeEnd, setQlevel, hep, hq]
  rw [ht]
  refine ⟨rfl, ?_, ?_, ?_, rfl, ?_⟩
  · rw [rd_wr_ne _ _ _ _ (by decide), rd_wr_ne _ _ _ _ (by decide), rd_wr_same]
    exact Nat.mod_eq_of_lt hseq
  · rw [rd_wr_ne _ _ _ _ (by decide), rd_wr_same]
    exact Nat.mod_eq_of_lt (goodSlot_lt _ _ _)
  · rw [rd_wr_same]
    exact Nat.mod_eq_of_lt (lt_trans hlen (by decide))
  · exact ((RegsBut.wr (t := { s with evr := _ }) (fun _ _ => rfl) (by simp)).wr (by simp)).wr (by simp)

/-- The record of the head entry is written under a check that covers its line, the front matter being full. -/
theorem evrWrite_records {q : EvEntry} {rest : List EvEntry} (hf : EvFree s) (hq : s.evr.queue = q :: rest)
    (hc : holdCovers (holdMeasure e s) 1 = true) (hfull : rd s Reg.EVR_STATUS_FRONTFULL ≠ 0)
    (hv : fails.getD 0 false = false) (hep : s.evr.episode = 0) (hlen : rest.length < 64) (hseq : s.evr.seq < 2 ^ 32)
    (hmem : Memory.wf s.mem = true) (hslot : rd s Reg.EVR_WSLOT_SLOT < 8192)
    (hother : eccBadIn s (if rd s Reg.EVR_WSLOT_SLOT % 2 = 0 then 0x30A88000 + 32 * rd s Reg.EVR_WSLOT_SLOT + 32
      else 0x30A88000 + 32 * rd s Reg.EVR_WSLOT_SLOT - 32) 32 = false) :
    ∃ t, exec (.evrWrite e fails) s = .next t ∧
      (∀ i, i < 32 → ldByte t (0x30A88000 + 32 * rd s Reg.EVR_WSLOT_SLOT + i) =
        (evRecord q s.evr.seq (if s.evr.loss then 0x20 else 0)).getD i 0) ∧
      MemBut (0x30A88000 + 32 * rd s Reg.EVR_WSLOT_SLOT) 32 s t ∧
      t.evr = { s.evr with queue := rest, seq := (s.evr.seq + 1) % (2 ^ 32 - 1), loss := false, holdUp := false } ∧
      rd t Reg.EVR_NEWEST_SEQ = s.evr.seq ∧
      rd t Reg.EVR_WSLOT_SLOT = goodSlot s (rd s Reg.EVR_WSLOT_SLOT + 1) 8192 ∧
      rd t Reg.EVR_STATUS_QLEVEL = rest.length ∧ rd t Reg.MRC_STATUS_LAST = 0 ∧
      t = { atTime e.t s with regs := t.regs, mem := t.mem, eccBad := t.eccBad, evr := t.evr } ∧
      RegsBut [Reg.EVR_NEWEST_SEQ, Reg.EVR_WSLOT_SLOT, Reg.EVR_STATUS_QLEVEL, Reg.MRC_STATUS_LAST, Reg.MRC_LINES_VALUE,
        Reg.MRC_HOLDST_VMEAS, Reg.MRC_HOLDE_VALUE] s t := by
  set slot := rd s Reg.EVR_WSLOT_SLOT with hslot_def
  set rec := evRecord q s.evr.seq (if s.evr.loss then 0x20 else 0) with hrec
  have hcov := evCovered_frame e s
  have hcl : rd (evCovered e s) Reg.MRC_STATUS_LAST = 0 := rd_wr_same _ _ _
  have hsl : rd (evCovered e s) Reg.EVR_WSLOT_SLOT = slot := hcov.rd_eq _
  have ht : evTry e fails s = evWritten slot (writeHalf (0xA88000 + 32 * slot) rec true (evCovered e s)) := by
    rw [evTry_head hf hq, if_neg hfull, hc, if_pos rfl, evBurst_verified (by rw [hcov.rd_eq _]; exact hfull) hv
      (by rw [hsl]; exact hother), hsl]
    rfl
  have haddr : 0x30000000 + (0xA88000 + 32 * slot) = 0x30A88000 + 32 * slot := by omega
  obtain ⟨hat, hbut⟩ := writeHalf_bytes (s := evCovered e s) (off := 0xA88000 + 32 * slot) (by omega)
    (length_evRecord q s.evr.seq (if s.evr.loss then 0x20 else 0)) hmem
  obtain ⟨hw, hwr⟩ := writeHalf_frame (0xA88000 + 32 * slot) rec (evCovered e s)
  rw [haddr] at hat hbut
  have hu : (writeHalf (0xA88000 + 32 * slot) rec true (evCovered e s)).evr = { s.evr with holdUp := false } :=
    congrArg State.evr hw
  generalize writeHalf (0xA88000 + 32 * slot) rec true (evCovered e s) = u at *
  have hgood : goodSlot u (slot + 1) 8192 = goodSlot s (slot + 1) 8192 :=
    goodSlot_congr _ _ (fun x h1 h2 => hbut x (by omega))
  obtain ⟨h1, h2, h3, h4, h5, h6⟩ := evWritten_calm (s := u) (q := q) (rest := rest) slot (by rw [hu]; exact hep)
    (by rw [hu]; exact hq) hlen (by rw [hu]; exact hseq)
  rw [hu] at h1 h2
  refine ⟨_, congrArg Host.Outcome.next ht, ?_, ?_, h1, h2, h3.trans hgood, h4, ?_, ?_,
    (((RegsBut.refl s _).step hcov).step hwr).step h6⟩
  · rw [h5]; exact hat
  · rw [h5]; exact hbut
  · rw [h6.rd_eq _, hwr.rd_eq _, hcl]
  · rw [h5, hw]; rfl

end Recorder
end Sys2Proof.Machine
end

section
namespace Sys2Proof.Machine

/-! ### Entering HALT (R430, R464) -/

/-- NoneRuns survives a step that keeps the waiters and touches no reset bit of a channel. -/
theorem NoneRuns.frame {s t : State} {fs : List Fld} (h : NoneRuns s) (hw : t.waits = s.waits) (hr : RegsBut fs s t)
    (hf : ∀ c < 5, ∀ g ∈ fs, (Reg.HIF_MB_CTRL_RESET c).key ≠ g.key := by decide) : NoneRuns t :=
  h.congr hw (fun c hc => hr _ (hf c hc))

theorem perfDone_none {s : State} (h : NoneRuns s) : perfDone s = s := finishKind_none s _ _ _ _ h

/-- The level in force is the one to reach: no change is in progress. -/
def levelReached (s : State) : State := { wr Reg.PWC_STATUS_PLBUSY 0 s with pwc := { s.pwc with plTo := none } }

/-- A change to the level `lvl` starts. -/
def levelStarted (lvl : Nat) (s : State) : State :=
  wr Reg.PWC_STATUS_PLBUSY 1 { s with pwc := { s.pwc with plTo := some lvl } }

theorem startLevel_cases (lvl : Nat) (s : State) : startLevel lvl s =
    if rd s Reg.PWC_STATUS_PL = lvl then perfDone (levelReached s)
    else if s.pwc.plTo = some lvl then s
    else Machine.when (rd s Reg.PWC_STATUS_PL < lvl) (writeVset (levelMv s.dev.state lvl)) (levelStarted lvl s) := rfl

/-- With no command waiting, the level of performance touches its own registers, PWC's own state and the wires. -/
theorem startLevel_frame {s : State} (lvl : Nat) (h : NoneRuns s) :
    startLevel lvl s = { s with regs := (startLevel lvl s).regs, pwc := (startLevel lvl s).pwc
                                tx := (startLevel lvl s).tx } ∧
      RegsBut [Reg.PWC_STATUS_PLBUSY, Reg.PWC_VSET_MV] s (startLevel lvl s) := by
  have hs : RegsBut [Reg.PWC_STATUS_PLBUSY, Reg.PWC_VSET_MV] s (levelStarted lvl s) :=
    RegsBut.wr (t := { s with pwc := _ }) (fun _ _ => rfl) (by simp)
  have hr : RegsBut [Reg.PWC_STATUS_PLBUSY] s (levelReached s) := RegsBut.wr (RegsBut.refl s _) (by simp)
  have hn : NoneRuns (levelReached s) := h.frame rfl hr
  rw [startLevel_cases]
  split
  · rw [perfDone_none hn]
    exact ⟨rfl, hr.mono (by simp)⟩
  · split
    · exact ⟨rfl, RegsBut.refl _ _⟩
    · cases decide (rd s Reg.PWC_STATUS_PL < lvl) with
      | true => exact ⟨rfl, hs.wr (by simp)⟩
      | false => exact ⟨rfl, hs⟩

theorem relevel_frame {s : State} (h : NoneRuns s) :
    relevel s = { s with regs := (relevel s).regs, pwc := (relevel s).pwc, tx := (relevel s).tx } ∧
      RegsBut [Reg.PWC_STATUS_PLBUSY, Reg.PWC_VSET_MV] s (relevel s) := startLevel_frame _ h

theorem setFaultN_frame (s : State) :
    setFaultN s = { s with regs := (setFaultN s).regs, pilot := { s.pilot with faultN := (setFaultN s).pilot.faultN } } ∧
      RegsBut [Reg.FCL_STATUS_FAULTN] s (setFaultN s) := by
  unfold setFaultN
  split
  · exact ⟨rfl, RegsBut.wr (t := { s with pilot := _ }) (fun _ _ => rfl) (by simp)⟩
  · exact ⟨rfl, fun _ _ => rfl⟩

theorem setEmber_frame (s : State) : OnlyRegs [Reg.FST_EMBER, Reg.FCL_STATUS_EMBER] s (setEmber s) :=
  ⟨rfl, ((RegsBut.refl s _).wr (by simp)).wr (by simp)⟩

theorem setIrqPin_frame (s : State) :
    setIrqPin s = { s with regs := (setIrqPin s).regs, tx := (setIrqPin s).tx } ∧
      RegsBut [Reg.HIF_MB_HOST_IRQ] s (setIrqPin s) := by
  unfold setIrqPin
  dsimp only
  split
  · exact ⟨rfl, RegsBut.refl _ _⟩
  · exact ⟨rfl, RegsBut.wr (RegsBut.refl s _) (by simp)⟩

/-- A change of the device state leaves everything but the device, the pilot's pins, the open image transfer and the
wires. -/
theorem setDev_frame (d : DevState) (s : State) :
    setDev d s = { s with regs := (setDev d s).regs, tx := (setDev d s).tx, image := none
                          dev := { s.dev with state := d, entering := none, raising := none }
                          pilot := { s.pilot with fbTimer := (setDev d s).pilot.fbTimer
                                                  faultN := (setDev d s).pilot.faultN } } ∧
      RegsBut [Reg.PWC_DOMST_MAP, Reg.FCL_STATUS_FAULTN, Reg.FST_EMBER, Reg.FCL_STATUS_EMBER, Reg.HIF_MB_HOST_IRQ]
        s (setDev d s) := by
  unfold setDev
  dsimp only
  generalize (!rasterState d && _ : Bool) = timer
  have h0 : RegsBut [Reg.PWC_DOMST_MAP] s (wr Reg.PWC_DOMST_MAP (stateDomains s d)
      { s with dev := { s.dev with state := d, entering := none, raising := none }
               image := none, pilot := { s.pilot with fbTimer := timer } }) :=
    RegsBut.wr (t := { s with dev := _, image := _, pilot := _ }) (fun _ _ => rfl) (by simp)
  have e0 : wr Reg.PWC_DOMST_MAP (stateDomains s d)
      { s with dev := { s.dev with state := d, entering := none, raising := none }
               image := none, pilot := { s.pilot with fbTimer := timer } } =
      { s with dev := { s.dev with state := d, entering := none, raising := none }
               image := none, pilot := { s.pilot with fbTimer := timer }
               regs := (wr Reg.PWC_DOMST_MAP (stateDomains s d) s).regs } := rfl
  generalize wr Reg.PWC_DOMST_MAP (stateDomains s d) { s with dev := _, image := _, pilot := _ } = a at *
  obtain ⟨e1, h1⟩ := setFaultN_frame a
  generalize setFaultN a = b at *
  obtain ⟨e2, h2⟩ := setEmber_frame b
  generalize setEmber b = c at *
  obtain ⟨e3, h3⟩ := setIrqPin_frame c
  refine ⟨?_, ((((RegsBut.refl s _).step h0).step h1).step h2).step h3⟩
  rw [e3, e2, e1, e0]

/-! ### The ash dump (R501 to R504) -/

/-- The device enters HALT after the dump routine, with no FATAL left to serve. -/
def haltEntered (s : State) : State :=
  { s with dump := { s.dump with fatal := none }, dev := { s.dev with sPlate := false } }
    |> setDev .halt |> startRecovery |> relevel
    |> wr Reg.EVR_STATUS_RUN (b2n (rdb s Reg.EVR_CTRL_EN && !rdb s Reg.EVR_STATUS_STOPPED))

/-- The fields that an entry to HALT may write. -/
def haltFields : List Fld :=
  [Reg.PWC_DOMST_MAP, Reg.FCL_STATUS_FAULTN, Reg.FST_EMBER, Reg.FCL_STATUS_EMBER, Reg.HIF_MB_HOST_IRQ,
    Reg.PWC_STATUS_PLBUSY, Reg.PWC_VSET_MV, Reg.EVR_STATUS_RUN]

/-- What HALT after a dump looks like beside memory and registers. -/
structure HaltReached (s t : State) : Prop where
  fatal  : t.dump.fatal = none
  state  : t.dev.state = .halt
  plate  : t.dev.sPlate = false
  evr    : t.evr = s.evr
  shadow : t.pilot.shadowSeq = s.pilot.shadowSeq
  mem    : t.mem = s.mem
  mrc    : t.mrc = s.mrc
  regs   : RegsBut haltFields s t

theorem haltEntered_reached {s : State} (h : NoneRuns s) : HaltReached s (haltEntered s) := by
  unfold haltEntered
  generalize hv : b2n (rdb s Reg.EVR_CTRL_EN && !rdb s Reg.EVR_STATUS_STOPPED) = v
  obtain ⟨e1, h1⟩ :=
    setDev_frame .halt { s with dump := { s.dump with fatal := none }, dev := { s.dev with sPlate := false } }
  generalize setDev .halt { s with dump := _, dev := _ } = a at *
  have ha : NoneRuns (startRecovery a) := h.frame (by rw [e1]; rfl) (t := startRecovery a) h1
  obtain ⟨e2, h2⟩ := relevel_frame ha
  have h3 : RegsBut [Reg.EVR_STATUS_RUN] (relevel (startRecovery a))
      (wr Reg.EVR_STATUS_RUN v (relevel (startRecovery a))) :=
    (RegsBut.refl _ _).wr (by simp)
  have hr : RegsBut haltFields s (wr Reg.EVR_STATUS_RUN v (relevel (startRecovery a))) :=
    (((RegsBut.refl s _).step (u := a) h1).step (u := relevel (startRecovery a)) h2).step h3
  generalize relevel (startRecovery a) = b at *
  exact ⟨(congrArg (·.dump.fatal) e2).trans (congrArg (·.dump.fatal) e1),
    (congrArg (·.dev.state) e2).trans (congrArg (·.dev.state) e1),
    (congrArg (·.dev.sPlate) e2).trans (congrArg (·.dev.sPlate) e1), (congrArg (·.evr) e2).trans (congrArg (·.evr) e1),
    (congrArg (·.pilot.shadowSeq) e2).trans (congrArg (·.pilot.shadowSeq) e1),
    (congrArg (·.mem) e2).trans (congrArg (·.mem) e1), (congrArg (·.mrc) e2).trans (congrArg (·.mrc) e1), hr⟩

/-- A dump of status `st` and length `len`: the body, then the header, then result 0. -/
def dumpPut (st len word statew : Nat) (body : Bytes) (s : State) : State :=
  wr Reg.MRC_STATUS_LAST 0
    (writeLines [(0xB00040, body), (0xB00000, dumpHeader s st 0 len word statew (crc32 body))] s)

/-- The body of a full dump. -/
def wholeBody (s : State) (cores : Bytes) : Bytes := padTo (0x100000 - 0x40) (dumpShort s cores ++ dumpRest s)

/-- The body of a short dump. -/
def shortBody (s : State) (cores : Bytes) : Bytes := padTo (0x2000 - 0x40) (dumpShort s cores)

theorem length_dumpHeader (s : State) (st skipped len word statew crc : Nat) :
    (dumpHeader s st skipped len word statew crc).length = 64 := by
  simp [dumpHeader]

section DumpWrite

variable {e : Env} {word statew : Nat} {cores : Bytes} {s : State}

/-- Where a dump is stored, the routine counts itself in its header if the hold-up covers one line (R504). -/
theorem dumpWrite_held {h : Bytes} (hh : dumpHeld s = some h) : dumpWrite e word statew cores s =
    shadowWrite (word / 2 ^ 23) word (if holdCovers (holdMeasure e s) 1
      then writeLines [(0xB00000, withSkipped h (min 0xFFFF (leAt h 6 2 + 1)))] (holdMeasure e s)
      else holdDefer 2 true (holdMeasure e s)) := by
  have hu : dumpHeld (holdMeasure e s) = some h := hh
  simp only [dumpWrite, hu]

/-- Where no dump is stored, the routine writes the larger of the two that the hold-up covers, or none (R504). -/
theorem dumpWrite_fresh (hh : dumpHeld s = none) : dumpWrite e word statew cores s =
    if holdCovers (holdMeasure e s) 16384 then
      dumpPut 1 0x100000 word statew (wholeBody (holdMeasure e s) cores) (holdMeasure e s)
    else if holdCovers (holdMeasure e s) 128 then
      dumpPut 2 0x2000 word statew (shortBody (holdMeasure e s) cores) (holdMeasure e s)
    else shadowWrite (word / 2 ^ 23) word (holdDefer 2 true (holdMeasure e s)) := by
  have hu : dumpHeld (holdMeasure e s) = none := hh
  simp only [dumpWrite, hu, dumpPut, wholeBody, shortBody]

theorem holdNeed_mono {m n : Nat} (h : m ≤ n) : holdNeed m ≤ holdNeed n := by
  unfold holdNeed; omega

/-- A hold-up that does not cover a burst does not cover a longer one. -/
theorem holdCovers_false_mono {m n : Nat} (h : m ≤ n) (hc : holdCovers s m = false) : holdCovers s n = false := by
  simp only [holdCovers, decide_eq_false_iff_not, not_le] at *
  exact lt_of_lt_of_le hc (holdNeed_mono h)

end DumpWrite

/-- What the dump routine leaves of everything but memory, the pilot's recorder shadow and the messages. -/
structure DumpWritten (s w : State) : Prop where
  mrc   : w.mrc = s.mrc
  evr   : w.evr = s.evr
  waits : w.waits = s.waits
  regs  : RegsBut [Reg.MRC_HOLDST_VMEAS, Reg.MRC_HOLDE_VALUE, Reg.MRC_LINES_VALUE, Reg.MRC_STATUS_LAST,
    Reg.MRC_STATUS_DEFER, Reg.MRC_VERCNT_HIGH] s w

/-- The bytes of a dump with the header `head` stand in its area and nothing else changed (R502, R504). -/
def DumpStored (head body : Bytes) (s t : State) : Prop :=
  (∀ i, i < 64 → ldByte t (0x30B00000 + i) = head.getD i 0) ∧
    (∀ i, i < body.length → ldByte t (0x30B00000 + 64 + i) = body.getD i 0) ∧
    MemBut 0x30B00000 (64 + body.length) s t

/-- Body and header lie one behind the other, so the header leaves the body as written. -/
theorem writeLines_dumpStored {head : Bytes} (body : Bytes) (hh : head.length = 64) (s : State) :
    DumpStored head body s (writeLines [(0xB00040, body), (0xB00000, head)] s) := by
  rw [writeLines_cons]
  have hB := memBut_writeLines 0xB00040 body s
  have hA := fun i => ldByte_writeLines_at 0xB00040 body s (i := i)
  generalize writeLines [(0xB00040, body)] s = u at *
  have hM := memBut_writeLines 0xB00000 head u
  refine ⟨fun i hi => ldByte_writeLines_at 0xB00000 head u (by omega), fun i hi => ?_, fun x hx => ?_⟩
  · rw [hM _ (by omega)]; exact hA i hi
  · rw [hM _ (by omega), hB _ (by omega)]

theorem holdMeasure_written (e : Env) (s : State) : DumpWritten s (holdMeasure e (atTime e.t s)) :=
  ⟨rfl, rfl, rfl, (holdMeasure_frame (atTime e.t s) e).2.mono (by decide)⟩

/-- Lines are among what the dump routine writes. -/
theorem DumpWritten.writeLines {s u : State} (h : DumpWritten s u) (parts : List (Nat × Bytes)) :
    DumpWritten s (writeLines parts u) :=
  ⟨by simp [h.mrc], by simp [h.evr], by simp [h.waits], h.regs.step (writeLines_frame parts u).2⟩

/-- A deferral is among what the dump routine writes. -/
theorem DumpWritten.holdDefer {s u : State} (h : DumpWritten s u) (who : Nat) (loud : Bool) :
    DumpWritten s (holdDefer who loud u) := by
  obtain ⟨he, hr⟩ := holdDefer_frame who loud u
  exact ⟨(congrArg (·.mrc) he).trans h.mrc, (congrArg (·.evr) he).trans h.evr, (congrArg (·.waits) he).trans h.waits,
    h.regs.step hr⟩

/-- A shadow entry touches the pilot only. -/
theorem DumpWritten.shadowWrite {s u : State} (h : DumpWritten s u) (source code : Nat) :
    DumpWritten s (shadowWrite source code u) := ⟨h.mrc, h.evr, h.waits, h.regs⟩

section AshDump

variable {e : Env} {s : State}

theorem doAshDump_none (hf : s.dump.fatal = none) : doAshDump e s = s := by
  simp only [doAshDump, hf]

theorem doAshDump_waits {f : Nat × Nat × Bytes} (hf : s.dump.fatal = some f)
    (h : s.mrc.run ≠ none ∨ mainOn s.dev.state = false) : doAshDump e s = s := by
  obtain ⟨word, statew, cores⟩ := f
  have hc : (s.mrc.run.isSome || !mainOn s.dev.state) = true := by
    rcases h with h | h
    · simp [Option.isSome_iff_ne_none.mpr h]
    · simp [h]
  simp only [doAshDump, hf, hc, if_true]

theorem length_withSkipped {h : Bytes} (hl : h.length = 64) (n : Nat) : (withSkipped h n).length = 64 := by
  simp [withSkipped, hl]

theorem length_dumpHeld {h : Bytes} (hh : dumpHeld s = some h) : h.length = 64 := by
  unfold dumpHeld at hh
  dsimp only at hh
  split at hh
  · rw [← Option.some.inj hh]; exact length_ldBytes _ _ _
  · exact absurd hh (by simp)

/-- The state `t` in HALT after a dump from `s`. -/
def Halted (s t : State) : Prop :=
  t.dump.fatal = none ∧ t.dev.state = .halt ∧ t.dev.sPlate = false ∧ t.evr = s.evr

section Ends

variable {word statew : Nat} {cores : Bytes} (hf : s.dump.fatal = some (word, statew, cores)) (hr : s.mrc.run = none)
  (hm : mainOn s.dev.state = true) (hw : s.mrc.wait = []) (hn : NoneRuns s)
include hf hr hm hw hn

/-- With nothing waiting in MRC the routine ends in HALT, which leaves memory and the dump's registers as written. -/
theorem ashDump_halts {w : State} (hd : dumpWrite e word statew cores (atTime e.t s) = w) (hk : DumpWritten s w) :
    ∃ t, exec (.ashDump e) s = .next t ∧ Halted s t ∧ t.mem = w.mem ∧ t.pilot.shadowSeq = w.pilot.shadowSeq ∧
      RegsBut haltFields w t := by
  have hh := haltEntered_reached (hn.frame hk.waits hk.regs)
  have hc : (s.mrc.run.isSome || !mainOn s.dev.state) = false := by simp [hr, hm]
  have ht : doAshDump e s = haltEntered w := by
    have hwait : w.mrc.wait = [] := by rw [hk.mrc, hw]
    simp only [doAshDump, hf, hc, hd, hwait, drainWait, Bool.false_eq_true, if_false]
    rfl
  exact ⟨_, congrArg Host.Outcome.next ht, ⟨hh.fatal, hh.state, hh.plate, hh.evr.trans hk.evr⟩, hh.mem, hh.shadow, hh.regs⟩

theorem ashDump_stores {st len : Nat} {body : Bytes} (hd : dumpWrite e word statew cores (atTime e.t s) =
      dumpPut st len word statew body (holdMeasure e (atTime e.t s))) :
    ∃ t, exec (.ashDump e) s = .next t ∧ Halted s t ∧ rd t Reg.MRC_STATUS_LAST = 0 ∧
      DumpStored (dumpHeader (holdMeasure e (atTime e.t s)) st 0 len word statew (crc32 body)) body s t := by
  have hs := writeLines_dumpStored body (length_dumpHeader (holdMeasure e (atTime e.t s)) st 0 len word statew (crc32 body))
    (holdMeasure e (atTime e.t s))
  have hk := (holdMeasure_written e s).writeLines
    [(0xB00040, body), (0xB00000, dumpHeader (holdMeasure e (atTime e.t s)) st 0 len word statew (crc32 body))]
  obtain ⟨t, ht, hhalt, hmem, -, hregs⟩ := ashDump_halts hf hr hm hw hn hd
    ⟨hk.mrc, hk.evr, hk.waits, RegsBut.wr hk.regs (by simp)⟩
  obtain ⟨h1, h2, h3⟩ := hs
  refine ⟨t, ht, hhalt, (hregs.rd_eq _).trans (rd_wr_same _ _ _), ?_⟩
  have hl : ∀ x, ldByte t x = ldByte (writeLines _ (holdMeasure e (atTime e.t s))) x :=
    fun x => congrArg (Memory.get · x) hmem
  exact ⟨fun i hi => (hl _).trans (h1 i hi), fun i hi => (hl _).trans (h2 i hi), fun x hx => (hl x).trans (h3 x hx)⟩

theorem ashDump_omits (hh : dumpHeld s = none) (hc : holdCovers (holdMeasure e s) 128 = false) :
    ∃ t, exec (.ashDump e) s = .next t ∧ Halted s t ∧ SameMem s t ∧
      (rd t Reg.MRC_STATUS_LAST = 1 ∧ rd t Reg.MRC_STATUS_DEFER = 1 ∧ Counts Reg.MRC_VERCNT_HIGH s t) ∧
      t.pilot.shadowSeq = s.pilot.shadowSeq + 1 := by
  have hc' : holdCovers (holdMeasure e (atTime e.t s)) 128 = false := hc
  have hd : dumpWrite e word statew cores (atTime e.t s) =
      shadowWrite (word / 2 ^ 23) word (holdDefer 2 true (holdMeasure e (atTime e.t s))) := by
    rw [dumpWrite_fresh (s := atTime e.t s) hh, holdCovers_false_mono (by decide) hc', hc']; rfl
  obtain ⟨t, ht, hhalt, hmem, hseq, hregs⟩ := ashDump_halts hf hr hm hw hn hd
    (((holdMeasure_written e s).holdDefer 2 true).shadowWrite _ _)
  obtain ⟨hdef, -⟩ := holdDefer_frame 2 true (holdMeasure e (atTime e.t s))
  obtain ⟨h1, h2, h3⟩ := holdDefer_sets 2 true (holdMeasure e (atTime e.t s))
  refine ⟨t, ht, hhalt, fun x => congrArg (Memory.get · x) (hmem.trans (congrArg (·.mem) hdef)), ⟨?_, ?_, ?_⟩, ?_⟩
  · exact (hregs.rd_eq _).trans h1
  · exact (hregs.rd_eq _).trans h2
  · exact h3.congr ((holdMeasure_frame (atTime e.t s) e).2.rd_eq _).symm (hregs.rd_eq _)
  · exact hseq.trans (congrArg (·.pilot.shadowSeq + 1) hdef)

theorem ashDump_skips {h : Bytes} (hh : dumpHeld s = some h) (hc : holdCovers (holdMeasure e s) 1 = true) :
    ∃ t, exec (.ashDump e) s = .next t ∧ Halted s t ∧
      (∀ i, i < 64 → ldByte t (0x30B00000 + i) = (withSkipped h (min 0xFFFF (leAt h 6 2 + 1))).getD i 0) ∧
      MemBut 0x30B00000 64 s t ∧ t.pilot.shadowSeq = s.pilot.shadowSeq + 1 := by
  have hc' : holdCovers (holdMeasure e (atTime e.t s)) 1 = true := hc
  have hlen := length_withSkipped (length_dumpHeld hh) (min 0xFFFF (leAt h 6 2 + 1))
  generalize hb : withSkipped h (min 0xFFFF (leAt h 6 2 + 1)) = head at *
  have hd : dumpWrite e word statew cores (atTime e.t s) =
      shadowWrite (word / 2 ^ 23) word (writeLines [(0xB00000, head)] (holdMeasure e (atTime e.t s))) := by
    rw [dumpWrite_held (s := atTime e.t s) hh, hc', if_pos rfl, hb]
  obtain ⟨t, ht, hhalt, hmem, hseq, -⟩ := ashDump_halts hf hr hm hw hn hd
    (((holdMeasure_written e s).writeLines _).shadowWrite _ _)
  have hl : ∀ x, ldByte t x = ldByte (writeLines [(0xB00000, head)] (holdMeasure e (atTime e.t s))) x :=
    fun x => congrArg (Memory.get · x) hmem
  have hM := memBut_writeLines 0xB00000 head (holdMeasure e (atTime e.t s))
  rw [hlen] at hM
  refine ⟨t, ht, hhalt, fun i hi => (hl _).trans ?_, fun x hx => (hl x).trans (hM x hx), ?_⟩
  · exact ldByte_writeLines_at 0xB00000 head _ (by omega)
  · exact hseq.trans (congrArg (·.shadowSeq + 1) (writeLines_pilot _ _))

end Ends

end AshDump
end Sys2Proof.Machine
end

section
namespace Sys2Proof.Machine

/-! ### The check-value units (R506, R507) -/

section Cku

variable {n : Nat} {s : State}

@[simp] theorem ckuOf_setCku_same (n : Nat) (c : Cku) (s : State) : ckuOf (setCku n c s) n = c := by
  unfold ckuOf setCku; split <;> rfl

theorem ckuOf_setCku_other (hn : n < 2) (c : Cku) (s : State) : ckuOf (setCku n c s) (1 - n) = ckuOf s (1 - n) := by
  interval_cases n <;> rfl

@[simp] theorem setCku_regs (n : Nat) (c : Cku) (s : State) : (setCku n c s).regs = s.regs := by
  unfold setCku; split <;> rfl

@[simp] theorem rd_setCku (n : Nat) (c : Cku) (s : State) (f : Fld) : rd (setCku n c s) f = rd s f :=
  rd_of_regs (setCku_regs n c s) f

/-- The unit is `c` and the other unit is as it was. -/
def CkuIs (n : Nat) (c : Cku) (s t : State) : Prop := ckuOf t n = c ∧ ckuOf t (1 - n) = ckuOf s (1 - n)

/-- Only the units and register fields of `fs` differ. -/
def CkuOnly (fs : List Fld) (s t : State) : Prop :=
  t = { s with regs := t.regs, cku0 := t.cku0, cku1 := t.cku1 } ∧ RegsBut fs s t

section CkuOnly

variable {fs : List Fld} {t : State} (h : CkuOnly fs s t)
include h

theorem CkuOnly.wr {f : Fld} (hf : f ∈ fs) (v : Nat) : CkuOnly fs s (wr f v t) := by
  obtain ⟨he, hr⟩ := h
  exact ⟨by conv_lhs => rw [he]
            rfl, hr.wr hf⟩

theorem CkuOnly.setCku (n : Nat) (c : Cku) : CkuOnly fs s (setCku n c t) := by
  obtain ⟨he, hr⟩ := h
  refine ⟨?_, fun f hf => (rd_setCku n c t f).trans (hr f hf)⟩
  unfold Machine.setCku
  split
  · conv_lhs => rw [he]
  · conv_lhs => rw [he]

theorem CkuOnly.mono {gs : List Fld} (hg : ∀ f ∈ fs, f ∈ gs) : CkuOnly gs s t := ⟨h.1, h.2.mono hg⟩

end CkuOnly

theorem CkuOnly.refl (fs : List Fld) (s : State) : CkuOnly fs s s := ⟨rfl, RegsBut.refl s fs⟩

/-- What RESULT shows of the running value (R506). -/
def ckuShown (n run : Nat) (s : State) : Nat :=
  (if rd s (Reg.CKU_CTRL_REFOUT n) ≠ 0 then reflect (rd s (Reg.CKU_WIDTH_WIDTH n)) (run % 2 ^ rd s (Reg.CKU_WIDTH_WIDTH n))
    else run % 2 ^ rd s (Reg.CKU_WIDTH_WIDTH n)) ^^^
  ((rd s (Reg.CKU_XOROUT_LO_VALUE n) + rd s (Reg.CKU_XOROUT_HI_VALUE n) * 2 ^ 32) % 2 ^ rd s (Reg.CKU_WIDTH_WIDTH n))

/-- RESULT shows the running value `run` with the parameters that stand in `s`. -/
def CkuShows (n run : Nat) (s t : State) : Prop :=
  rd t (Reg.CKU_RESULT_LO_VALUE n) = ckuShown n run s % 2 ^ 32 ∧
    rd t (Reg.CKU_RESULT_HI_VALUE n) = ckuShown n run s / 2 ^ 32 % 2 ^ 32

/-- The running value after bytes have fed the unit. -/
def ckuFed (n run : Nat) (bs : Bytes) (s : State) : Nat :=
  bs.foldl (fun r b => ckuByte (rd s (Reg.CKU_WIDTH_WIDTH n))
    (rd s (Reg.CKU_POLY_LO_VALUE n) + rd s (Reg.CKU_POLY_HI_VALUE n) * 2 ^ 32)
    (decide (rd s (Reg.CKU_CTRL_REFIN n) ≠ 0)) r b.toNat) (run % 2 ^ rd s (Reg.CKU_WIDTH_WIDTH n))

theorem setCkuResult_eq (n : Nat) (s : State) : setCkuResult n s =
    wr (Reg.CKU_RESULT_HI_VALUE n) (ckuShown n (ckuOf s n).run s / 2 ^ 32)
      (wr (Reg.CKU_RESULT_LO_VALUE n) (ckuShown n (ckuOf s n).run s) s) := by
  have h : rdb s (Reg.CKU_CTRL_REFOUT n) = decide (rd s (Reg.CKU_CTRL_REFOUT n) ≠ 0) := by
    by_cases h : rd s (Reg.CKU_CTRL_REFOUT n) = 0 <;> simp [rdb, h]
  simp only [setCkuResult, h, decide_eq_true_eq]
  rfl

/-- RESULT follows a unit that has just been set. -/
theorem setCku_result (hn : n < 2) (c : Cku) (s : State) :
    CkuIs n c s (setCkuResult n (setCku n c s)) ∧ CkuShows n c.run s (setCkuResult n (setCku n c s)) ∧
      CkuOnly [Reg.CKU_RESULT_LO_VALUE n, Reg.CKU_RESULT_HI_VALUE n] s (setCkuResult n (setCku n c s)) := by
  have hs : ckuShown n c.run (setCku n c s) = ckuShown n c.run s := by simp only [ckuShown, rd_setCku]
  rw [setCkuResult_eq, ckuOf_setCku_same, hs]
  have hne : (Reg.CKU_RESULT_LO_VALUE n).key ≠ (Reg.CKU_RESULT_HI_VALUE n).key := by
    simp only [Fld.key, Reg.CKU_RESULT_LO_VALUE, Reg.CKU_RESULT_HI_VALUE]; omega
  refine ⟨⟨ckuOf_setCku_same _ _ _, ckuOf_setCku_other hn c s⟩, ⟨?_, rd_wr_same _ _ _⟩,
    (((CkuOnly.refl _ s).setCku n c).wr (by simp) _).wr (by simp) _⟩
  rw [rd_wr_ne _ _ _ _ hne, rd_wr_same]; rfl

theorem ckuFeed_eq (n : Nat) (bs : Bytes) (s : State) : ckuFeed n bs s =
    setCkuResult n (setCku n { ckuOf s n with run := ckuFed n (ckuOf s n).run bs s } s) := by
  have h : rdb s (Reg.CKU_CTRL_REFIN n) = decide (rd s (Reg.CKU_CTRL_REFIN n) ≠ 0) := by
    by_cases h : rd s (Reg.CKU_CTRL_REFIN n) = 0 <;> simp [rdb, h]
  simp only [ckuFeed, h]
  rfl

theorem exec_ckuGo (who : Master) : exec (.ckuGo who n) s = .next (doCkuGo who n s) := rfl
/-! A unit that scans ignores writes. -/

section Busy

variable (hb : rd s (Reg.CKU_STATUS_BUSY n) ≠ 0)
include hb

theorem doCkuGo_busy : doCkuGo .s0 n s = s := by
  simp [doCkuGo, ckuBusy, rdb, hb]

theorem doCkuInitWrite_busy : doCkuInitWrite n s = s := by
  simp [doCkuInitWrite, ckuBusy, rdb, hb]

theorem doCkuDataWrite_busy (v : Word) : doCkuDataWrite n v s = s := by
  simp [doCkuDataWrite, ckuBusy, rdb, hb]

end Busy

/-- A scan that cannot start, or stops, sets ERR with its cause. -/
def ckuFail (n c : Nat) (s : State) : State := wr (Reg.CKU_STATUS_CAUSE n) c (wr (Reg.CKU_STATUS_ERR n) 1 s)

theorem ckuFail_shows {c : Nat} (n : Nat) (hc : c < 4) (s : State) : rd (ckuFail n c s) (Reg.CKU_STATUS_ERR n) = 1 ∧
    rd (ckuFail n c s) (Reg.CKU_STATUS_CAUSE n) = c ∧
    OnlyRegs [Reg.CKU_STATUS_ERR n, Reg.CKU_STATUS_CAUSE n] s (ckuFail n c s) := by
  have hne : (Reg.CKU_STATUS_ERR n).key ≠ (Reg.CKU_STATUS_CAUSE n).key := by
    simp only [Fld.key, Reg.CKU_STATUS_ERR, Reg.CKU_STATUS_CAUSE]; omega
  refine ⟨?_, ?_, rfl, ((RegsBut.refl s _).wr (by simp)).wr (by simp)⟩
  · exact (rd_wr_ne _ _ _ _ hne).trans (rd_wr_same _ _ _)
  · exact (rd_wr_same _ _ _).trans (Nat.mod_eq_of_lt hc)

/-! A unit that does not scan. -/

section Free

variable (hn : n < 2) (hm : mainOn s.dev.state = true)

include hm in
theorem doCkuGo_refused (h : n = 0 ∨ s1Right s 0x12 ≠ 2) (hn : n < 2) :
    exec (.ckuGo .s1 n) s = .next { s with inbox := s.inbox ++ [⟨0x001, 0x02, 0, none⟩] } := by
  have hn' : ¬ 1 < n := by omega
  have hc : (decide (n = 1) && s1Right s 0x12 == 2) = false := by
    rcases h with h | h <;> simp [h]
  rw [exec_ckuGo]
  simp [doCkuGo, hn', hm, hc, raise_known s (source := 0x001) (detail := 0) (r := ⟨0x001, 0x02, 1, 0⟩) (by decide)]

include hm in
theorem ckuGo_barred (hr : scanRange (rd s (Reg.CKU_ADDR_VALUE n)) (rd s (Reg.CKU_LEN_VALUE n)) = true) (h1 : n = 1)
    (hb : rd s (Reg.CKU_STATUS_BUSY n) = 0)
    (hp : s1Right s 0x12 = 2)
    (hs : scanRight s .s1 (rd s (Reg.CKU_ADDR_VALUE n)) (rd s (Reg.CKU_LEN_VALUE n)) = false) :
    ∃ t, exec (.ckuGo .s1 n) s = .next t ∧ rd t (Reg.CKU_STATUS_ERR n) = 1 ∧ rd t (Reg.CKU_STATUS_CAUSE n) = 3 ∧
      OnlyRegs [Reg.CKU_STATUS_ERR n, Reg.CKU_STATUS_CAUSE n] s t := by
  have hgo : doCkuGo .s1 n s = ckuStart .s1 n s := by
    subst h1
    simp [doCkuGo, ckuBusy, rdb, hb, hm, hp]
  have ht : doCkuGo .s1 n s = ckuFail n 3 s := by
    rw [hgo]; simp only [ckuStart, hr, hs]; rfl
  exact ⟨_, congrArg Host.Outcome.next ht, ckuFail_shows n (by decide) s⟩

variable (hb : rd s (Reg.CKU_STATUS_BUSY n) = 0)
include hn hm hb

theorem doCkuGo_s0 : doCkuGo .s0 n s = ckuStart .s0 n s := by
  simp [doCkuGo, ckuBusy, rdb, hb, hm, Nat.le_of_lt_succ hn]

theorem ckuGo_outside (hr : scanRange (rd s (Reg.CKU_ADDR_VALUE n)) (rd s (Reg.CKU_LEN_VALUE n)) = false) :
    ∃ t, exec (.ckuGo .s0 n) s = .next t ∧ rd t (Reg.CKU_STATUS_ERR n) = 1 ∧ rd t (Reg.CKU_STATUS_CAUSE n) = 1 ∧
      OnlyRegs [Reg.CKU_STATUS_ERR n, Reg.CKU_STATUS_CAUSE n] s t := by
  have ht : doCkuGo .s0 n s = ckuFail n 1 s := by
    rw [doCkuGo_s0 hn hm hb]; simp only [ckuStart, hr]; rfl
  exact ⟨_, congrArg Host.Outcome.next ht, ckuFail_shows n (by decide) s⟩

theorem ckuGo_starts (hr : scanRange (rd s (Reg.CKU_ADDR_VALUE n)) (rd s (Reg.CKU_LEN_VALUE n)) = true) :
    ∃ t, exec (.ckuGo .s0 n) s = .next t ∧
      CkuIs n { ckuOf s n with scan := some ⟨.s0, rd s (Reg.CKU_ADDR_VALUE n), rd s (Reg.CKU_LEN_VALUE n)⟩ } s t ∧
      rd t (Reg.CKU_STATUS_BUSY n) = 1 ∧ CkuOnly [Reg.CKU_STATUS_BUSY n] s t := by
  have ht : doCkuGo .s0 n s = wr (Reg.CKU_STATUS_BUSY n) 1 (setCku n { ckuOf s n with
      scan := some ⟨.s0, rd s (Reg.CKU_ADDR_VALUE n), rd s (Reg.CKU_LEN_VALUE n)⟩ } s) := by
    rw [doCkuGo_s0 hn hm hb]; simp only [ckuStart, hr, scanRight]; rfl
  refine ⟨_, congrArg Host.Outcome.next ht, ⟨ckuOf_setCku_same _ _ _, ckuOf_setCku_other hn _ _⟩, rd_wr_same _ _ _,
    ((CkuOnly.refl _ s).setCku n _).wr (by simp) _⟩

theorem ckuInitWrite_sets : ∃ t, exec (.ckuInitWrite n) s = .next t ∧
    (let v := (rd s (Reg.CKU_INIT_LO_VALUE n) + rd s (Reg.CKU_INIT_HI_VALUE n) * 2 ^ 32) % 2 ^ rd s (Reg.CKU_WIDTH_WIDTH n)
     CkuIs n { ckuOf s n with run := v } s t ∧ CkuShows n v s t ∧
       CkuOnly [Reg.CKU_RESULT_LO_VALUE n, Reg.CKU_RESULT_HI_VALUE n] s t) := by
  have ht : doCkuInitWrite n s = setCkuResult n (setCku n { ckuOf s n with
      run := (rd s (Reg.CKU_INIT_LO_VALUE n) + rd s (Reg.CKU_INIT_HI_VALUE n) * 2 ^ 32) %
        2 ^ rd s (Reg.CKU_WIDTH_WIDTH n) } s) := by
    simp [doCkuInitWrite, ckuBusy, rdb, hb, hm, Nat.le_of_lt_succ hn, cku64, ckuW]
  exact ⟨_, congrArg Host.Outcome.next ht, setCku_result hn _ s⟩

theorem ckuDataWrite_feeds (v : Word) : ∃ t, exec (.ckuDataWrite n v) s = .next t ∧
    (let r := ckuFed n (ckuOf s n).run (leBytes (rd s (Reg.CKU_CTRL_BYTES n) + 1) v.toNat) s
     CkuIs n { ckuOf s n with run := r } s t ∧ CkuShows n r s t ∧
       CkuOnly [Reg.CKU_RESULT_LO_VALUE n, Reg.CKU_RESULT_HI_VALUE n] s t) := by
  have ht : doCkuDataWrite n v s = ckuFeed n (leBytes (rd s (Reg.CKU_CTRL_BYTES n) + 1) v.toNat) s := by
    simp [doCkuDataWrite, ckuBusy, rdb, hb, hm, Nat.le_of_lt_succ hn]
  rw [ckuFeed_eq] at ht
  exact ⟨_, congrArg Host.Outcome.next ht, setCku_result hn _ s⟩

end Free

/-! ### The end of a scan (R507) -/

theorem doCkuScanDone_none (h : (ckuOf s n).scan = none) : doCkuScanDone n s = s := by
  simp only [doCkuScanDone, h]

/-- The scan of unit `n` is over. -/
def ckuStop (n : Nat) (s : State) : State :=
  wr (Reg.CKU_STATUS_BUSY n) 0 (setCku n { ckuOf s n with scan := none } s)

section ScanDone

variable {sc : Scan} (hn : n < 2) (hsc : (ckuOf s n).scan = some sc) (hp : s.thm.paused.contains (2 + n) = false)
  (hd : damper s = 0) (hr : NoneRuns s)

include hn in
/-- The bytes of a scan have fed the unit and the scan is over. -/
theorem ckuStop_feed (bs : Bytes) :
    CkuIs n ⟨ckuFed n (ckuOf s n).run bs s, none⟩ s (ckuStop n (ckuFeed n bs s)) ∧
      CkuShows n (ckuFed n (ckuOf s n).run bs s) s (ckuStop n (ckuFeed n bs s)) ∧
      rd (ckuStop n (ckuFeed n bs s)) (Reg.CKU_STATUS_BUSY n) = 0 ∧
      CkuOnly [Reg.CKU_STATUS_BUSY n, Reg.CKU_RESULT_LO_VALUE n, Reg.CKU_RESULT_HI_VALUE n] s
        (ckuStop n (ckuFeed n bs s)) := by
  have hu := setCku_result hn { ckuOf s n with run := ckuFed n (ckuOf s n).run bs s } s
  rw [← ckuFeed_eq] at hu
  generalize ckuFeed n bs s = u at *
  obtain ⟨⟨hsame, hother⟩, ⟨hlo, hhi⟩, honly⟩ := hu
  have hl : (Reg.CKU_RESULT_LO_VALUE n).key ≠ (Reg.CKU_STATUS_BUSY n).key := by
    simp only [Fld.key, Reg.CKU_RESULT_LO_VALUE, Reg.CKU_STATUS_BUSY]; omega
  have hh : (Reg.CKU_RESULT_HI_VALUE n).key ≠ (Reg.CKU_STATUS_BUSY n).key := by
    simp only [Fld.key, Reg.CKU_RESULT_HI_VALUE, Reg.CKU_STATUS_BUSY]; omega
  refine ⟨⟨?_, (ckuOf_setCku_other hn _ u).trans hother⟩, ⟨?_, ?_⟩, rd_wr_same _ _ _,
    ((honly.mono (by simp)).setCku n _).wr (by simp) _⟩
  · refine (ckuOf_setCku_same _ _ _).trans ?_
    rw [hsame]
  · rw [ckuStop, rd_wr_ne _ _ _ _ hl, rd_setCku, hlo]
  · rw [ckuStop, rd_wr_ne _ _ _ _ hh, rd_setCku, hhi]

/-- A step of the units alone leaves no command waiting where none waited. -/
theorem CkuOnly.noneRuns {fs : List Fld} {t : State} (h : CkuOnly fs s t) (hr : NoneRuns s)
    (hf : ∀ c < 5, ∀ g ∈ fs, (Reg.HIF_MB_CTRL_RESET c).key ≠ g.key) : NoneRuns t :=
  hr.frame (congrArg (·.waits) h.1) h.2 hf

section Unthrottled

include hn hsc hp hd

/-- Below damper step 1 a scan of sound words feeds its whole range and is over; CKU1 completes its command. -/
theorem doCkuScanDone_sound (hb : firstBad s sc.addr sc.len = none) : doCkuScanDone n s =
    (let u := ckuStop n (ckuFeed n (scanBytes s sc.addr sc.len) s)
     if n = 1 then finishKind (fun k => k == .ckuScan) 0 (rd u (Reg.CKU_RESULT_LO_VALUE 1)) 0 u else u) := by
  have hpart : (if 1 ≤ damper s then min sc.len 65536 else sc.len) = sc.len := by simp [hd]
  have hgo : (decide (1 < n) || s.thm.paused.contains (2 + n)) = false := by rw [hp]; simp; omega
  simp only [doCkuScanDone, hsc, hgo, hpart, hb, lt_irrefl, Bool.false_eq_true, if_false]
  rfl

/-- Below damper step 1 a scan stops on its first uncorrectable word; CKU1 completes its command. -/
theorem doCkuScanDone_unsound {x : Nat} (hb : firstBad s sc.addr sc.len = some x) : doCkuScanDone n s =
    (let u := raise (0x120 + 0x10 * n) (bits x 3 16) (wr (Reg.CKU_ERRADDR_ADDR n) x
       (ckuFail n 2 (ckuStop n (ckuFeed n (scanBytes s sc.addr (x - sc.addr)) s))))
     if n = 1 then finishKind (fun k => k == .ckuScan) 11 0 0 u else u) := by
  have hpart : (if 1 ≤ damper s then min sc.len 65536 else sc.len) = sc.len := by simp [hd]
  have hgo : (decide (1 < n) || s.thm.paused.contains (2 + n)) = false := by rw [hp]; simp; omega
  simp only [doCkuScanDone, hsc, hgo, hpart, hb, Bool.false_eq_true, if_false]
  rfl

include hr

theorem ckuScanDone_ends (hb : firstBad s sc.addr sc.len = none) : ∃ t, exec (.ckuScanDone n) s = .next t ∧
    CkuIs n ⟨ckuFed n (ckuOf s n).run (scanBytes s sc.addr sc.len) s, none⟩ s t ∧
    CkuShows n (ckuFed n (ckuOf s n).run (scanBytes s sc.addr sc.len) s) s t ∧
    rd t (Reg.CKU_STATUS_BUSY n) = 0 ∧
    CkuOnly [Reg.CKU_STATUS_BUSY n, Reg.CKU_RESULT_LO_VALUE n, Reg.CKU_RESULT_HI_VALUE n] s t := by
  have hu := ckuStop_feed hn (s := s) (scanBytes s sc.addr sc.len)
  have hnone : NoneRuns (ckuStop n (ckuFeed n (scanBytes s sc.addr sc.len) s)) :=
    hu.2.2.2.noneRuns hr (by interval_cases n <;> decide)
  have ht : doCkuScanDone n s = ckuStop n (ckuFeed n (scanBytes s sc.addr sc.len) s) := by
    rw [doCkuScanDone_sound hn hsc hp hd hb]
    simp only [finishKind_none _ _ _ _ _ hnone, ite_self]
  exact ⟨_, congrArg Host.Outcome.next ht, hu⟩

theorem ckuScanDone_stops {x : Nat} (hb : firstBad s sc.addr sc.len = some x) (hx : x < 2 ^ 32) :
    ∃ t, exec (.ckuScanDone n) s = .next t ∧
      CkuIs n ⟨ckuFed n (ckuOf s n).run (scanBytes s sc.addr (x - sc.addr)) s, none⟩ s t ∧
      CkuShows n (ckuFed n (ckuOf s n).run (scanBytes s sc.addr (x - sc.addr)) s) s t ∧
      rd t (Reg.CKU_STATUS_BUSY n) = 0 ∧ rd t (Reg.CKU_STATUS_ERR n) = 1 ∧ rd t (Reg.CKU_STATUS_CAUSE n) = 2 ∧
      rd t (Reg.CKU_ERRADDR_ADDR n) = x ∧
      t = { s with regs := t.regs, cku0 := t.cku0, cku1 := t.cku1
                   inbox := s.inbox ++ [⟨0x120 + 0x10 * n, 0x3F, x / 8 % 65536, none⟩] } ∧
      RegsBut [Reg.CKU_STATUS_BUSY n, Reg.CKU_STATUS_ERR n, Reg.CKU_STATUS_CAUSE n, Reg.CKU_ERRADDR_ADDR n,
        Reg.CKU_RESULT_LO_VALUE n, Reg.CKU_RESULT_HI_VALUE n] s t := by
  obtain ⟨⟨hsame, hother⟩, ⟨hlo, hhi⟩, hbusy, honly⟩ := ckuStop_feed hn (s := s) (scanBytes s sc.addr (x - sc.addr))
  have ht := doCkuScanDone_unsound hn hsc hp hd hb
  generalize ckuStop n (ckuFeed n (scanBytes s sc.addr (x - sc.addr)) s) = u at *
  obtain ⟨herr, hcause, -, hfail⟩ := ckuFail_shows n (c := 2) (by decide) u
  have haddr : RegsBut [Reg.CKU_ERRADDR_ADDR n] (ckuFail n 2 u) (wr (Reg.CKU_ERRADDR_ADDR n) x (ckuFail n 2 u)) :=
    (RegsBut.refl _ _).wr (by simp)
  have hrow : faultRow (0x120 + 0x10 * n) = some ⟨0x120 + 0x10 * n, 0x3F, 1, 0⟩ := by interval_cases n <;> decide
  have hbits : bits x 3 16 % 65536 = x / 8 % 65536 := by simp [bits]
  rw [raise_known _ hrow, hbits] at ht
  have hstop : RegsBut [Reg.CKU_STATUS_ERR n, Reg.CKU_STATUS_CAUSE n, Reg.CKU_ERRADDR_ADDR n] u
      (wr (Reg.CKU_ERRADDR_ADDR n) x (ckuFail n 2 u)) := (hfail.mono (by simp)).wr (by simp)
  have hnone : NoneRuns (wr (Reg.CKU_ERRADDR_ADDR n) x (ckuFail n 2 u)) :=
    (honly.noneRuns hr (by interval_cases n <;> decide)).frame rfl hstop (by interval_cases n <;> decide)
  have hin : (wr (Reg.CKU_ERRADDR_ADDR n) x (ckuFail n 2 u)).inbox = s.inbox := congrArg (·.inbox) honly.1
  simp only [hin, finishKind_none _ _ _ _ _ (NoneRuns.congr hnone (t := { wr (Reg.CKU_ERRADDR_ADDR n) x (ckuFail n 2 u) with
    inbox := s.inbox ++ [⟨0x120 + 0x10 * n, 0x3F, x / 8 % 65536, none⟩] }) rfl (fun _ _ => rfl)), ite_self] at ht
  refine ⟨_, congrArg Host.Outcome.next ht, ⟨hsame, hother⟩, ⟨?_, ?_⟩, ?_, ?_, ?_, ?_, ?_, ?_⟩
  · exact (hstop.rd_eq _ (by interval_cases n <;> decide)).trans hlo
  · exact (hstop.rd_eq _ (by interval_cases n <;> decide)).trans hhi
  · exact (hstop.rd_eq _ (by interval_cases n <;> decide)).trans hbusy
  · exact (haddr.rd_eq _ (by interval_cases n <;> decide)).trans herr
  · exact (haddr.rd_eq _ (by interval_cases n <;> decide)).trans hcause
  · exact (rd_wr_same _ _ _).trans (Nat.mod_eq_of_lt hx)
  · unfold ckuFail; rw [honly.1]; rfl
  · exact (honly.2.mono (by simp)).trans (hstop.mono (by simp))

end Unthrottled

end ScanDone

end Cku

end Sys2Proof.Machine
end

section
namespace Sys2Proof.Machine

/-! ### The stoker map (R16 to R18, R26) -/

section Bus

variable {s : State} {who : Master} {a w : Nat}

theorem exec_registerWrite (v : Word) : exec (.registerWrite who a v) s = .next (doRegisterWrite who a v s) := rfl

theorem exec_lockSet (v : Word) : exec (.lockSet who a v) s = .next (doLockSet who a v s) := rfl

theorem doRegisterWrite_ignored (v : Word) (h : who = .fender ∨ who = .host ∨ mainOn s.dev.state = false) :
    doRegisterWrite who a v s = s := by
  rcases h with rfl | rfl | h
  · exact ite_self _
  · exact ite_self _
  · simp [doRegisterWrite, h]

theorem doRegisterWrite_bus (v : Word) (hm : mainOn s.dev.state = true) (hw : who = .s0 ∨ who = .s1) :
    doRegisterWrite who a v s = busWrite who a v.toNat s := by
  rcases hw with rfl | rfl <;> simp [doRegisterWrite, hm]

/-- An access by S0 or S1 names a word, whichever of its bytes the address gives. -/
theorem busWrite_word (i : Nat) (hi : i < 4) (ha : a % 4 = 0) : busWrite who (a + i) w s = busWrite who a w s := by
  have h : (a + i) / 4 * 4 = a / 4 * 4 := by omega
  simp only [busWrite, h]

/-- The message of a bus error. -/
theorem busError_eq {source : Nat} {r : FaultRow} (h : faultRow source = some r) :
    busError source a s = { s with inbox := s.inbox ++ [⟨source, r.kind, a % 65536, none⟩] } := by
  rw [busError, raise_known s h, Nat.mod_mod]

/-- The stoker map: where a word address lies decides what a write does. -/
theorem busWrite_map (ha : a % 4 = 0) : busWrite who a w s =
    if a < 0x20000 then if who == .s1 then busError 0x001 a s else s
    else if 0x10000000 ≤ a ∧ a < 0x10100000 then if who == .s1 then busError 0x001 a s else stBytes a (leBytes 4 w) s
    else if 0x10100000 ≤ a ∧ a < 0x10200000 then stBytes a (leBytes 4 w) s
    else if 0x20000000 ≤ a ∧ a < 0x22000000 then storeWrite who a w s
    else if 0x40000000 ≤ a ∧ a < 0x40170000 then peripheralWrite who a w s
    else if 0x50000000 ≤ a ∧ a < 0x50010000 then if who == .s1 then busError 0x001 a s else s
    else busError 0x000 a s := by
  have hw : a / 4 * 4 = a := by omega
  simp only [busWrite, hw, Bool.and_eq_true, decide_eq_true_eq, id]

section Regions

variable (ha : a % 4 = 0)
include ha

theorem busWrite_unmapped (h : (0x20000 ≤ a ∧ a < 0x10000000) ∨ (0x10200000 ≤ a ∧ a < 0x20000000) ∨
    (0x22000000 ≤ a ∧ a < 0x40000000) ∨ (0x40170000 ≤ a ∧ a < 0x50000000) ∨ 0x50010000 ≤ a) :
    busWrite who a w s = busError 0x000 a s := by
  rw [busWrite_map ha]
  rw [if_neg (by omega), if_neg (by omega), if_neg (by omega), if_neg (by omega), if_neg (by omega), if_neg (by omega)]

theorem busWrite_rom (h : a < 0x20000 ∨ (0x50000000 ≤ a ∧ a < 0x50010000)) :
    busWrite who a w s = if who == .s1 then busError 0x001 a s else s := by
  rw [busWrite_map ha]
  rcases h with h | h
  · rw [if_pos h]
  · rw [if_neg (by omega), if_neg (by omega), if_neg (by omega), if_neg (by omega), if_neg (by omega), if_pos h]

theorem busWrite_ram0 (h : 0x10000000 ≤ a ∧ a < 0x10100000) :
    busWrite who a w s = if who == .s1 then busError 0x001 a s else stBytes a (leBytes 4 w) s := by
  rw [busWrite_map ha]
  rw [if_neg (by omega), if_pos h]

theorem busWrite_ram1 (h : 0x10100000 ≤ a ∧ a < 0x10200000) : busWrite who a w s = stBytes a (leBytes 4 w) s := by
  rw [busWrite_map ha]
  rw [if_neg (by omega), if_neg (by omega), if_pos h]

theorem busWrite_store (h : 0x20000000 ≤ a ∧ a < 0x22000000) : busWrite who a w s = storeWrite who a w s := by
  rw [busWrite_map ha]
  rw [if_neg (by omega), if_neg (by omega), if_neg (by omega), if_pos h]

theorem busWrite_peripheral (h : 0x40000000 ≤ a ∧ a < 0x40170000) : busWrite who a w s = peripheralWrite who a w s := by
  rw [busWrite_map ha]
  rw [if_neg (by omega), if_neg (by omega), if_neg (by omega), if_neg (by omega), if_pos h]

end Regions

/-- The four bytes at `a` take the word and nothing else changes. -/
def WordStored (a : Nat) (v : Word) (s t : State) : Prop :=
  (∀ i, i < 4 → ldByte t (a + i) = (leBytes 4 v.toNat).getD i 0) ∧ MemBut a 4 s t ∧ t = { s with mem := t.mem }

theorem stBytes_wordStored (a : Nat) (v : Word) (s : State) : WordStored a v s (stBytes a (leBytes 4 v.toNat) s) :=
  ⟨fun _ hi => ldByte_stBytes_at s a _ hi, fun _ hx => ldByte_stBytes_off s a _ hx, rfl⟩

/-! ### Words of the pixel store (R553) -/

/-- Half of a sound word is stored and its check bits stay good. -/
theorem psWrite_half (bs : Bytes) (hl : bs.length = 4) (ha : a % 4 = 0) (he : eccBadAt s a = false) :
    psWrite a bs s = stBytes a bs s := by
  have hw : (a + bs.length - 1) / 8 * 8 = a / 8 * 8 := by omega
  have hn : bs ≠ [] := by rintro rfl; simp at hl
  have hf : s.eccBad.filter (fun w => !(decide (a ≤ w) && decide (w + 8 ≤ a + bs.length))) = s.eccBad := by
    rw [List.filter_eq_self]
    intro w _
    simp; omega
  have he' : eccBadAt s ((a + bs.length - 1) / 8 * 8) = false := by
    rw [hw]; unfold eccBadAt at *; rwa [Nat.mul_div_cancel _ (by decide)]
  rw [psWrite_of_sound s a bs he he' hn, hf]
  rfl

/-- Half of an uncorrectable word keeps its bytes, and the store reports the word. -/
theorem psWrite_half_bad (bs : Bytes) (hl : bs.length = 4) (ha : a % 4 = 0) (he : eccBadAt s a = true) :
    SameMem s (psWrite a bs s) ∧ psWrite a bs s = { s with
      mem := (psWrite a bs s).mem, inbox := s.inbox ++ [⟨0x003, 0x04, a / 8 * 8 % 65536, none⟩] } := by
  have hn : bs.isEmpty = false := by cases bs <;> simp_all
  have hw : (a + bs.length - 1) / 8 * 8 = a / 8 * 8 := by omega
  have hhead : (eccBadAt s a && !(a == a / 8 * 8 && decide (a / 8 * 8 + 8 ≤ a + bs.length))) = true := by
    rw [he]; simp; omega
  have hlo : min (a + bs.length) (a / 8 * 8 + 8) = a + bs.length := by omega
  have hf : s.eccBad.filter (fun w => !(decide (a + bs.length ≤ w) && decide (w + 8 ≤ a + bs.length))) = s.eccBad := by
    rw [List.filter_eq_self]
    intro w _
    simp; omega
  have ht : psWrite a bs s = { s with
      mem := Memory.put s.mem (a + bs.length) []
      inbox := s.inbox ++ [⟨0x003, 0x04, a / 8 * 8 % 65536, none⟩] } := by
    have hr := raise_known (stBytes (a + bs.length) [] s) (source := 0x003) (detail := a / 8 * 8)
      (r := ⟨0x003, 0x04, 1, 0⟩) (by decide)
    simp only [psWrite, hn, hw, hhead, hlo, bne_self_eq_false, Bool.false_and, Bool.false_eq_true, if_false, if_true,
      Nat.sub_self, List.take_zero, hf, when_true, when_false]
    exact hr
  rw [ht]
  exact ⟨fun x => (ldByte_stBytes_off s (a + bs.length) [] (by simp; omega)), rfl⟩

/-! ### Registers behind a LOCK bit (R12, R13)

`lockOf` and `domOfBlock` are matched on values of `blockOf`, a subtraction of a large numeral that the kernel must never
unfold at a variable address. The next lemmas therefore rewrite a definition as a function, not at an argument. -/

theorem lockedAt_some {f : Fld} (h : lockOf a = some f) : lockedAt s a = rdb s f := by
  have hdef : lockedAt = lockedAt := rfl
  conv_rhs at hdef => delta lockedAt
  rw [hdef]
  beta_reduce
  rw [h]

theorem reachDomain_none (write : State → State) (h : domOfBlock (blockOf a + 1) = none) :
    reachDomain a write s = write s := by
  have hdef : reachDomain = reachDomain := rfl
  conv_rhs at hdef => delta reachDomain
  rw [hdef]
  beta_reduce
  rw [h]

theorem doLockSet_none (v : Word) (h : lockOf (a / 4 * 4) = none) : doLockSet who a v s = s := by
  have hdef : doLockSet = doLockSet := rfl
  conv_rhs at hdef => delta doLockSet
  rw [hdef]
  beta_reduce
  rw [h]

theorem doLockSet_some {f : Fld} (v : Word) (h : lockOf (a / 4 * 4) = some f) : doLockSet who a v s =
    if f.addr == a / 4 * 4 && bit v.toNat f.lo then doRegisterWrite who a v s else s := by
  have hdef : doLockSet = doLockSet := rfl
  conv_rhs at hdef => delta doLockSet
  rw [hdef]
  beta_reduce
  rw [h]

/-- A register write under a LOCK bit that the register itself does not hold. -/
theorem fieldsWrite_behind {f : Fld} {fs : List (Fld × FTy)} (h : lockOf a = some f) (ha : (f.addr == a) = false) :
    fieldsWrite who a w fs s = (s |> when (rdb s f && rwlDiffers s w fs) (lockedWrite a)
      |> forEach fs (valueWrite (rdb s f) who w) |> settleFields fs |> forEach fs (strobeWrite who w) |> afterWrite a) := by
  simp only [fieldsWrite, h, lockedAt_some h, ha, Bool.false_and, when_false]

/-- A register address behind no power domain and in no table window reaches the fields of its register. -/
theorem busWrite_register {fs : List (Fld × FTy)} (ha : a % 4 = 0) (hp : 0x40000000 ≤ a ∧ a < 0x40170000)
    (hdom : domOfBlock (blockOf a + 1) = none) (hgtw : ¬ (0x40060200 ≤ a ∧ a < 0x40060280))
    (hcor : ¬ (0x40081000 ≤ a ∧ a < 0x40083020)) (hzne : ¬ (0x40071000 ≤ a ∧ a < 0x40071C00))
    (htpr : ¬ (0x400B0400 ≤ a ∧ a < 0x400B0600)) (hf : fieldsAt a = some fs) :
    busWrite .s0 a w s = fieldsWrite .s0 a w fs s := by
  have hgtw' : (decide (0x40060200 ≤ a) && decide (a < 0x40060280)) = false := by simp; omega
  have hcor' : (decide (0x40081000 ≤ a) && decide (a < 0x40083020)) = false := by simp; omega
  have hzne' : (decide (0x40071000 ≤ a) && decide (a < 0x40071C00)) = false := by simp; omega
  have htpr' : (decide (0x400B0400 ≤ a) && decide (a < 0x400B0600)) = false := by simp; omega
  have hb : blockWrite .s0 a w s = fieldsWrite .s0 a w fs s := by
    simp only [blockWrite, hgtw', hcor', hzne', htpr', when_false, hf, Bool.false_eq_true, if_false]
  have hs : (Master.s0 == Master.s1) = false := by decide
  rw [busWrite_peripheral ha hp]
  simp only [peripheralWrite, reachDomain_none _ hdom, hb, hs, Bool.false_and, Bool.false_eq_true, if_false]

/-- A field whose table gives no range stores its part of the word. -/
theorem putField_plain {f : Fld} (hp : pipeStores f (bits w f.lo f.width) = none)
    (hl : linkStores f (bits w f.lo f.width) = none) (hs : sysStores s f w = none) :
    putField f w s = wr f (bits w f.lo f.width) s := by
  simp only [putField, fieldStores, hp, hl, hs]

/-- The fields of MRC's hold-up configuration. -/
def holdcfg : List (Fld × FTy) := [(Reg.MRC_HOLDCFG_VMIN, .rwl), (Reg.MRC_HOLDCFG_CUF, .rwl)]

theorem fieldsAt_holdcfg : fieldsAt Reg.MRC_HOLDCFG_CUF.addr = some holdcfg := by decide

theorem lockOf_holdcfg : lockOf Reg.MRC_HOLDCFG_CUF.addr = some Reg.MRC_CTRL_LOCK := by decide

theorem afterWrite_holdcfg : afterWrite Reg.MRC_HOLDCFG_CUF.addr s = s := by simp +decide [afterWrite]

theorem settleFields_holdcfg : settleFields holdcfg s = s := rfl

/-- A write to the hold-up configuration: unlocked both fields take their part of the word; locked nothing is stored, and a
word that differs from what stands there is reported. -/
theorem fieldsWrite_holdcfg : fieldsWrite .s0 Reg.MRC_HOLDCFG_CUF.addr w holdcfg s =
    if rdb s Reg.MRC_CTRL_LOCK then Machine.when (rwlDiffers s w holdcfg) (lockedWrite Reg.MRC_HOLDCFG_CUF.addr) s
    else wr Reg.MRC_HOLDCFG_CUF (bits w 0 16) (wr Reg.MRC_HOLDCFG_VMIN (bits w 16 16) s) := by
  have hvmin : ∀ u, putField Reg.MRC_HOLDCFG_VMIN w u = wr Reg.MRC_HOLDCFG_VMIN (bits w 16 16) u :=
    fun _ => putField_plain rfl rfl rfl
  have hcuf : ∀ u, putField Reg.MRC_HOLDCFG_CUF w u = wr Reg.MRC_HOLDCFG_CUF (bits w 0 16) u :=
    fun _ => putField_plain rfl rfl rfl
  have hstrobe : ∀ u, forEach holdcfg (strobeWrite .s0 w) u = u := fun _ => by simp [forEach, holdcfg, strobeWrite]
  have hvalue : ∀ l u, forEach holdcfg (valueWrite l .s0 w) u =
      if l then u else wr Reg.MRC_HOLDCFG_CUF (bits w 0 16) (wr Reg.MRC_HOLDCFG_VMIN (bits w 16 16) u) := by
    intro l u; cases l <;> simp [forEach, holdcfg, valueWrite, hvmin, hcuf]
  rw [fieldsWrite_behind lockOf_holdcfg (by decide)]
  cases h : rdb s Reg.MRC_CTRL_LOCK <;>
    simp [hvalue, hstrobe, settleFields_holdcfg, afterWrite_holdcfg]

/-- The report of a write to the locked hold-up configuration. -/
theorem lockedWrite_holdcfg : lockedWrite Reg.MRC_HOLDCFG_CUF.addr s =
    { s with inbox := s.inbox ++ [⟨0x11F, 0x5B, Reg.MRC_HOLDCFG_CUF.addr % 65536, none⟩] } :=
  raise_known s (r := ⟨0x11F, 0x5B, 1, 0⟩) (by decide)

theorem rwlDiffers_holdcfg : rwlDiffers s w holdcfg =
    (bits w 16 16 != rd s Reg.MRC_HOLDCFG_VMIN || bits w 0 16 != rd s Reg.MRC_HOLDCFG_CUF) := by
  simp only [rwlDiffers, holdcfg, List.any_cons, List.any_nil, beq_self_eq_true, Bool.true_and, Bool.or_false]
  rfl

/-- A write that reaches the hold-up configuration. -/
theorem busWrite_holdcfg : busWrite .s0 Reg.MRC_HOLDCFG_CUF.addr w s =
    fieldsWrite .s0 Reg.MRC_HOLDCFG_CUF.addr w holdcfg s :=
  busWrite_register (by decide) (by decide) (by decide) (by decide) (by decide) (by decide) (by decide) fieldsAt_holdcfg

/-- A register that holds its block's LOCK bit and nothing else. -/
structure LockRegister (f : Fld) : Prop where
  fields : fieldsAt f.addr = some [(f, .w1s)]
  lock   : lockOf f.addr = some f
  low    : f.lo = 0
  width  : f.width = 1
  swp    : sameFld f Reg.SWP_CTRL_LOCK = false
  stale  : sameFld f Reg.GTE_STALE_LOST_MS = false
  scfg   : inArray 4 Reg.GTE_SCFG_EN f = false
  after  : ∀ s, afterWrite f.addr s = s
  word   : f.addr % 4 = 0
  range  : 0x40000000 ≤ f.addr ∧ f.addr < 0x40170000
  domain : domOfBlock (blockOf f.addr + 1) = none
  gtw    : ¬ (0x40060200 ≤ f.addr ∧ f.addr < 0x40060280)
  cor    : ¬ (0x40081000 ≤ f.addr ∧ f.addr < 0x40083020)
  zne    : ¬ (0x40071000 ≤ f.addr ∧ f.addr < 0x40071C00)
  tpr    : ¬ (0x400B0400 ≤ f.addr ∧ f.addr < 0x400B0600)

theorem lockRegister_of_mem {f : Fld}
    (h : f ∈ [Reg.PWC_CTRL_LOCK, Reg.ITC_CTRL_LOCK, Reg.HIF_LINKCTRL_LOCK, Reg.MRC_CTRL_LOCK]) : LockRegister f := by
  simp only [List.mem_cons, List.not_mem_nil, or_false] at h
  rcases h with rfl | rfl | rfl | rfl
  all_goals exact ⟨by decide, by decide, by decide, by decide, by decide, by decide, by decide,
    fun _ => by simp +decide [afterWrite], by decide,
    by decide, by decide, by decide, by decide, by decide, by decide⟩

/-- A write to such a register sets the LOCK bit where the word does, and does nothing else. -/
theorem LockRegister.busWrite {f : Fld} (h : LockRegister f) :
    busWrite .s0 f.addr w s = if w % 2 = 1 then wr f 1 s else s := by
  rw [busWrite_register h.word h.range h.domain h.gtw h.cor h.zne h.tpr h.fields]
  have hbit : bit w f.lo = decide (w % 2 = 1) := by simp [bit, h.low]
  have hset : ∀ u, setLock f u = wr f 1 u := fun u => by simp [setLock, h.swp]
  simp [fieldsWrite, rwlDiffers, forEach, valueWrite, settleFields, strobeWrite, h.lock, h.stale, h.scfg, h.after, hbit,
    hset, Machine.when]

/-! ### What each class of address does with a write -/

section Writes

variable {v : Word}

/-- The write's bus error is reported and nothing else changes. -/
theorem registerWrite_told {source : Nat} {r : FaultRow} (hm : mainOn s.dev.state = true) (hw : who = .s0 ∨ who = .s1)
    (hf : faultRow source = some r) (h : busWrite who a v.toNat s = busError source a s) :
    exec (.registerWrite who a v) s = .next { s with inbox := s.inbox ++ [⟨source, r.kind, a % 65536, none⟩] } := by
  rw [exec_registerWrite, doRegisterWrite_bus v hm hw, h, busError_eq hf]

theorem registerWrite_stores (hm : mainOn s.dev.state = true) (hw : who = .s0 ∨ who = .s1)
    (h : busWrite who a v.toNat s = stBytes a (leBytes 4 v.toNat) s) :
    ∃ t, exec (.registerWrite who a v) s = .next t ∧ WordStored a v s t := by
  refine ⟨_, rfl, ?_⟩
  rw [doRegisterWrite_bus v hm hw, h]
  exact stBytes_wordStored a v s

theorem registerWrite_word (i : Nat) (hi : i < 4) (ha : a % 4 = 0) :
    exec (.registerWrite who (a + i) v) s = exec (.registerWrite who a v) s := by
  rw [exec_registerWrite, exec_registerWrite]
  cases who <;> simp only [doRegisterWrite, busWrite_word i hi ha]

/-- The running raster keeps the calibration store. -/
theorem storeWrite_calibration (ha : 0x21800000 ≤ a) (hb : a < 0x21C00000) (hr : rasterOn s = true) :
    storeWrite who a w s = busError 0x091 a s := by
  simp [storeWrite, ha, hb, hr]

theorem storeWrite_open (h : ¬ (0x21800000 ≤ a ∧ a < 0x21C00000 ∧ rasterOn s = true)) :
    storeWrite who a w s = if who == .s1 && !s1Store s a then busError 0x001 a s else psWrite a (leBytes 4 w) s := by
  have hc : (decide (0x21800000 ≤ a) && decide (a < 0x21C00000) && rasterOn s) = false := by
    rw [Bool.eq_false_iff]
    simpa [and_assoc] using h
  simp only [storeWrite, hc, Bool.false_eq_true, if_false]

/-- S0 stores into a sound word of the pixel store that is open to it. -/
theorem registerWrite_store_sound (hm : mainOn s.dev.state = true) (ha : a % 4 = 0)
    (h : 0x20000000 ≤ a ∧ a < 0x22000000) (hc : ¬ (0x21800000 ≤ a ∧ a < 0x21C00000 ∧ rasterOn s = true))
    (he : eccBadAt s a = false) : ∃ t, exec (.registerWrite .s0 a v) s = .next t ∧ WordStored a v s t := by
  refine registerWrite_stores hm (.inl rfl) ?_
  rw [busWrite_store ha h, storeWrite_open hc]
  exact psWrite_half _ (length_leBytes _ _) ha he

/-- S0's write into an uncorrectable word of the pixel store stores nothing and reports the word. -/
theorem registerWrite_store_bad (hm : mainOn s.dev.state = true) (ha : a % 4 = 0)
    (h : 0x20000000 ≤ a ∧ a < 0x22000000) (hc : ¬ (0x21800000 ≤ a ∧ a < 0x21C00000 ∧ rasterOn s = true))
    (he : eccBadAt s a = true) : ∃ t, exec (.registerWrite .s0 a v) s = .next t ∧ SameMem s t ∧
      t = { s with mem := t.mem, inbox := s.inbox ++ [⟨0x003, 0x04, a / 8 * 8 % 65536, none⟩] } := by
  obtain ⟨hmem, heq⟩ := psWrite_half_bad (leBytes 4 v.toNat) (length_leBytes _ _) ha he
  refine ⟨_, ?_, hmem, heq⟩
  rw [exec_registerWrite, doRegisterWrite_bus v hm (.inl rfl), busWrite_store ha h, storeWrite_open hc]
  rfl

/-- S1 without the right to a block reaches only the registers of R328 in it. -/
theorem peripheralWrite_barred (hr : s1Right s (blockOf a) ≠ 2) (hx : s1Fixed a = false) :
    peripheralWrite .s1 a w s = busError 0x001 a s := by
  have hpend : a ≠ Reg.HIF_MB_IRQ_PEND.addr := by
    rintro rfl
    simp [s1Fixed] at hx
  have hb : (Master.s1 == Master.s1 && s1Right s (blockOf a) != 2) = true := by simpa using hr
  simp only [peripheralWrite, hb, hpend, hx, Bool.false_eq_true, if_false, if_true]

theorem bits_low_half (v : Word) : bits v.toNat 0 16 = v.toNat % 65536 := by simp [bits]

theorem bits_high_half (v : Word) : bits v.toNat 16 16 = v.toNat / 65536 :=
  Nat.mod_eq_of_lt (by have := v.isLt; omega)

/-- The unlocked hold-up configuration takes both fields. -/
theorem registerWrite_holdcfg_open (hm : mainOn s.dev.state = true) (hl : rd s Reg.MRC_CTRL_LOCK = 0) :
    ∃ t, exec (.registerWrite .s0 Reg.MRC_HOLDCFG_CUF.addr v) s = .next t ∧
      rd t Reg.MRC_HOLDCFG_CUF = v.toNat % 65536 ∧ rd t Reg.MRC_HOLDCFG_VMIN = v.toNat / 65536 ∧
      OnlyRegs [Reg.MRC_HOLDCFG_CUF, Reg.MRC_HOLDCFG_VMIN] s t := by
  have hlock : rdb s Reg.MRC_CTRL_LOCK = false := by simp [rdb, hl]
  refine ⟨_, rfl, ?_⟩
  rw [doRegisterWrite_bus v hm (.inl rfl), busWrite_holdcfg, fieldsWrite_holdcfg, hlock, bits_low_half, bits_high_half,
    if_neg Bool.false_ne_true]
  refine ⟨?_, ?_, rfl, ((RegsBut.refl s _).wr (by simp)).wr (by simp)⟩
  · rw [rd_wr_same]
    exact Nat.mod_mod _ _
  · rw [rd_wr_ne _ _ _ _ (by decide), rd_wr_same]
    exact Nat.mod_eq_of_lt (by have := v.isLt; simp [Reg.MRC_HOLDCFG_VMIN]; omega)

/-- The locked hold-up configuration keeps its fields, silently where the word holds what stands there. -/
theorem registerWrite_holdcfg_locked (hm : mainOn s.dev.state = true) (hl : rd s Reg.MRC_CTRL_LOCK ≠ 0) :
    exec (.registerWrite .s0 Reg.MRC_HOLDCFG_CUF.addr v) s =
      if rd s Reg.MRC_HOLDCFG_CUF = v.toNat % 65536 ∧ rd s Reg.MRC_HOLDCFG_VMIN = v.toNat / 65536 then .next s
      else .next { s with inbox := s.inbox ++ [⟨0x11F, 0x5B, Reg.MRC_HOLDCFG_CUF.addr % 65536, none⟩] } := by
  have hlock : rdb s Reg.MRC_CTRL_LOCK = true := by simpa [rdb] using hl
  rw [exec_registerWrite, doRegisterWrite_bus v hm (.inl rfl), busWrite_holdcfg, fieldsWrite_holdcfg, hlock, if_pos rfl,
    rwlDiffers_holdcfg, bits_low_half, bits_high_half]
  by_cases h : rd s Reg.MRC_HOLDCFG_CUF = v.toNat % 65536 ∧ rd s Reg.MRC_HOLDCFG_VMIN = v.toNat / 65536
  · rw [if_pos h, h.1, h.2]
    simp
  · have hd : (v.toNat / 65536 != rd s Reg.MRC_HOLDCFG_VMIN || v.toNat % 65536 != rd s Reg.MRC_HOLDCFG_CUF) = true := by
      simp only [Bool.or_eq_true, bne_iff_ne]
      tauto
    rw [if_neg h, hd, when_true, lockedWrite_holdcfg]

/-- A write of LOCK_SET is a register write where its word sets the LOCK bit. -/
theorem LockRegister.lockSet {f : Fld} (h : LockRegister f) :
    exec (.lockSet .s0 f.addr v) s =
      if v.toNat % 2 = 1 then exec (.registerWrite .s0 f.addr v) s else .next s := by
  have hw : f.addr / 4 * 4 = f.addr := by have := h.word; omega
  have hbit : bit v.toNat f.lo = decide (v.toNat % 2 = 1) := by simp [bit, h.low]
  rw [exec_lockSet, doLockSet_some v (by rw [hw]; exact h.lock), hw, hbit, exec_registerWrite]
  by_cases hv : v.toNat % 2 = 1 <;> simp [hv]

theorem LockRegister.lockSet_sets {f : Fld} (h : LockRegister f) (hm : mainOn s.dev.state = true) (hv : v.toNat % 2 = 1) :
    ∃ t, exec (.lockSet .s0 f.addr v) s = .next t ∧ rd t f = 1 ∧ OnlyRegs [f] s t := by
  rw [h.lockSet, if_pos hv, exec_registerWrite, doRegisterWrite_bus v hm (.inl rfl), h.busWrite, if_pos hv]
  refine ⟨_, rfl, ?_, rfl, ?_⟩
  · simp [h.width]
  · exact (RegsBut.refl s _).wr (List.mem_singleton_self f)

end Writes

end Bus
end Sys2Proof.Machine
end

section
namespace Sys2Proof.Machine

/-! ### The obligation -/

/-- Settles O57: MRC's request and its end, the recorder, the dump routine, the check-value units and the stoker map, each by
the lemmas on it. Besides log entries 9 and 46 it rests on 26 (S0's writes to ROM and the fender's window), 72 (a burst that
waits in pause 4) and 77 (the source of LOCKED_WRITE). -/
theorem burstsRecordsAndWrites : Obligations.BurstsRecordsAndWrites := by
  unfold Obligations.BurstsRecordsAndWrites
  refine ⟨fun s e => ⟨?_, ?_, ?_, ?_, ?_, ?_, ?_⟩, fun s n hn hm => ⟨?_, ?_, ?_, ?_, ?_⟩,
    fun s k v => ⟨?_, fun hm => ⟨?_, ?_, ?_, ?_, ?_, ?_, ?_, ?_, ?_⟩⟩⟩
  -- MRC.WGO
  · intro hm
    refine ⟨fun hg => congrArg Host.Outcome.next (doMrcWgoWrite_ignored (.inr hg)), fun hg => ⟨fun hr => ?_,
      fun hr hrun hp => ⟨fun hc => ?_, fun hc => ?_⟩, fun hr hw => ?_⟩⟩
    · exact mrcWgoWrite_refuses hm hg hr
    · exact mrcWgoWrite_starts hm hg hr hrun hp hc
    · exact mrcWgoWrite_defers hm hg hr hrun hp hc
    · exact mrcWgoWrite_queues hm hg hr hw
  · exact fun hm => congrArg Host.Outcome.next (doMrcWgoWrite_ignored (.inl hm))
  -- the end of a burst
  · intro b off bytes hr hb hp hpass hwait hwipes hd
    have ha : BurstAlone s := ⟨hpass, hwait, hwipes, hd⟩
    exact ⟨mrcBurstDone_writes hr hb hp ha, fun i hi => mrcBurstDone_fails hr hb hp ha hi⟩
  · exact fun hr hw f => congrArg Host.Outcome.next (doMrcBurstDone_idle f hr hw)
  -- the recorder
  · intro fails
    refine ⟨fun h => congrArg Host.Outcome.next (evTry_idle h), fun h => ?_, fun h => ?_, fun hf hq hc => ?_,
      fun q rest hf hq hc hfull hv hep hlen hseq hmem hslot hother => ?_⟩
    · rw [exec_evrRetry, h]; rfl
    · rw [exec_evrRetry, h]; rfl
    · exact evrWrite_defers hf hq hc
    · exact evrWrite_records hf hq hc hfull hv hep hlen hseq hmem hslot hother
  -- the dump
  · exact fun hf => congrArg Host.Outcome.next (doAshDump_none hf)
  · intro word statew cores hf
    refine ⟨fun h => congrArg Host.Outcome.next (doAshDump_waits hf h), fun hr hm hw hn => ⟨fun hh hc => ?_,
      fun hh hc hc' => ?_, fun hh hc => ?_, fun h hh hc => ?_⟩⟩
    · exact ashDump_stores hf hr hm hw hn ((dumpWrite_fresh (s := atTime e.t s) hh).trans (if_pos hc))
    · exact ashDump_stores hf hr hm hw hn ((dumpWrite_fresh (s := atTime e.t s) hh).trans
        ((if_neg (Bool.eq_false_iff.mp hc)).trans (if_pos hc')))
    · exact ashDump_omits hf hr hm hw hn hh hc
    · exact ashDump_skips hf hr hm hw hn hh hc
  -- the check-value units
  · exact fun hb => ⟨congrArg Host.Outcome.next (doCkuGo_busy hb), congrArg Host.Outcome.next (doCkuInitWrite_busy hb),
      fun v => congrArg Host.Outcome.next (doCkuDataWrite_busy hb v)⟩
  · intro hb
    refine ⟨fun hr => ?_, fun hr => ?_, fun hr h1 hp hs => ?_, ?_, fun v => ?_⟩
    · exact ckuGo_outside hn hm hb hr
    · exact ckuGo_starts hn hm hb hr
    · exact ckuGo_barred hm hr h1 hb hp hs
    · exact ckuInitWrite_sets hn hm hb
    · exact ckuDataWrite_feeds hn hm hb v
  · exact fun h => doCkuGo_refused hm h hn
  · exact fun h => congrArg Host.Outcome.next (doCkuScanDone_none h)
  · intro sc hsc hp hd hr
    exact ⟨fun hb => ckuScanDone_ends hn hsc hp hd hr hb, fun x hb hx => ckuScanDone_stops hn hsc hp hd hr hb hx⟩
  -- the stoker map
  · exact fun who h => congrArg Host.Outcome.next (doRegisterWrite_ignored v h)
  all_goals have ha : 4 * k % 4 = 0 := by omega
  · refine fun who hw => ⟨fun i hi => registerWrite_word i hi ha, fun h1 h2 => ?_, fun h => ?_, fun h1 h2 hr => ?_⟩
    · exact registerWrite_stores hm hw (busWrite_ram1 ha ⟨h1, h2⟩)
    · exact registerWrite_told hm hw (r := ⟨0x000, 0x01, 1, 0⟩) (by decide) (busWrite_unmapped ha h)
    · exact registerWrite_told hm hw (r := ⟨0x091, 0x1B, 1, 1⟩) (by decide)
        ((busWrite_store ha (by omega)).trans (storeWrite_calibration h1 h2 hr))
  · exact fun h1 h2 => registerWrite_stores hm (.inl rfl) (busWrite_ram0 ha ⟨h1, h2⟩)
  · intro h
    rw [exec_registerWrite, doRegisterWrite_bus v hm (.inl rfl), busWrite_rom ha h]
    rfl
  · intro h
    refine registerWrite_told hm (.inr rfl) (r := ⟨0x001, 0x02, 1, 0⟩) (by decide) ?_
    by_cases h0 : 0x10000000 ≤ 4 * k ∧ 4 * k < 0x10100000
    · exact busWrite_ram0 ha h0
    · exact busWrite_rom ha (by omega)
  · refine fun h1 h2 hc => ⟨fun hs => ?_, fun he => ?_, fun he => ?_⟩
    · refine registerWrite_told hm (.inr rfl) (r := ⟨0x001, 0x02, 1, 0⟩) (by decide) ?_
      rw [busWrite_store ha ⟨h1, h2⟩, storeWrite_open hc, hs]
      rfl
    · exact registerWrite_store_sound hm ha ⟨h1, h2⟩ hc he
    · exact registerWrite_store_bad hm ha ⟨h1, h2⟩ hc he
  · exact fun h1 h2 hr hx => registerWrite_told hm (.inr rfl) (r := ⟨0x001, 0x02, 1, 0⟩) (by decide)
      ((busWrite_peripheral ha ⟨h1, h2⟩).trans (peripheralWrite_barred hr hx))
  · intro hk
    simp only [hk]
    refine ⟨registerWrite_holdcfg_open hm, fun hl => ⟨fun hc hv => ?_, fun h => ?_⟩⟩
    · rw [registerWrite_holdcfg_locked hm hl, if_pos ⟨hc, hv⟩]
    · rw [registerWrite_holdcfg_locked hm hl, if_neg (fun hn => h.elim (· hn.1) (· hn.2))]
  · intro f hf hk
    have hlock := lockRegister_of_mem hf
    simp only [hk]
    exact ⟨hlock.lockSet, hlock.lockSet_sets hm⟩
  · intro h
    rw [exec_lockSet, doLockSet_none v (by rw [Nat.div_mul_cancel (Nat.dvd_of_mod_eq_zero ha)]; exact h)]

end Sys2Proof.Machine
end

section
/-! PROOF. What every command keeps (O2): the part, the commands that wait behind it, and the canonical form of the memory
and of the register table. `Keeps` relates the state that a command runs on to every state that its meaning reaches on the
way. There is one lemma for each function of the model, `Keeps.f` for the function `f`, in the order of the model, and its
proof follows the function's definition: `h.f.g` is a run of `f` and then `g`, `.ite` is a choice, `.when`, `.forEach` and
`.foldl` are a guarded run and the loops, and `.frame` is a change of the parts that `Keeps` does not speak of. -/

namespace Sys2Proof.Machine

/-- What every meaning keeps of the state `s` that it runs on, whatever it does: the part, the commands that wait behind it,
and the canonical form of the memory and of the register table where `s` has it. -/
structure Keeps (s t : State) : Prop where
  part : t.part = s.part
  pending : t.pending = s.pending
  mem : Memory.wf s.mem = true → Memory.wf t.mem = true
  regs : SMap.Sorted s.regs → SMap.Sorted t.regs

theorem Keeps.refl (s : State) : Keeps s s := ⟨rfl, rfl, id, id⟩

theorem Keeps.canonical {s t : State} (h : Keeps s t) (hs : Canonical s) : Canonical t := ⟨h.mem hs.1, h.regs hs.2⟩

variable {s t : State}

/-! ### The rules of the operations -/

/-- A change of other parts of the state. -/
theorem Keeps.frame {now ntcFrom ntcOn rawHeld eccBad dev pilot pwc thm ras gte zne cor lanes tpr tiles far swp sns links
    ntm mbx image waits inbox fender core0 core1 mrc evr cku0 cku1 dump sec ptn tx freeCnt} (h : Keeps s t) :
    Keeps s ⟨t.part, t.pending, now, ntcFrom, ntcOn, rawHeld, t.regs, t.mem, eccBad, dev, pilot, pwc, thm, ras, gte, zne, cor,
      lanes, tpr, tiles, far, swp, sns, links, ntm, mbx, image, waits, inbox, fender, core0, core1, mrc, evr,
      cku0, cku1, dump, sec, ptn, tx, freeCnt⟩ :=
  ⟨h.part, h.pending, h.mem, h.regs⟩

/-- A state that occurs more than once. -/
theorem Keeps.of {u : State} (hf : Keeps s u → Keeps s t) (hu : Keeps s u) : Keeps s t := hf hu

theorem Keeps.ite {c : Prop} [Decidable c] {u : State} (ht : Keeps s t) (hu : Keeps s u) :
    Keeps s (if c then t else u) := by split <;> assumption

theorem Keeps.iteFst {α : Type} {c : Prop} [Decidable c] {p q : State × α} (hp : Keeps s p.1) (hq : Keeps s q.1) :
    Keeps s (if c then p else q).1 := by split <;> assumption

theorem Keeps.iteSnd {α : Type} {c : Prop} [Decidable c] {p q : α × State} (hp : Keeps s p.2) (hq : Keeps s q.2) :
    Keeps s (if c then p else q).2 := by split <;> assumption

theorem Keeps.iteSndSnd {α β : Type} {c : Prop} [Decidable c] {p q : α × β × State} (hp : Keeps s p.2.2)
    (hq : Keeps s q.2.2) : Keeps s (if c then p else q).2.2 := by split <;> assumption

theorem Keeps.atSnd {α : Type} {a : α} (h : Keeps s t) : Keeps s (a, t).2 := h

theorem Keeps.when {c : Bool} {f : State → State} (h : Keeps s t) (hf : ∀ {u}, Keeps s u → Keeps s (f u)) :
    Keeps s (when c f t) := .ite (hf h) h

theorem Keeps.forEach {α : Type} {l : List α} {f : α → State → State} (h : Keeps s t)
    (hf : ∀ {u} x, Keeps s u → Keeps s (f x u)) : Keeps s (forEach l f t) :=
  forEach_invariant t (Keeps s) l f (fun x _ => hf x) h

/-- The state `g` of what a fold carries along. -/
theorem Keeps.foldl {α β : Type} {g : β → State} {f : β → α → β} {l : List α} {b : β} (h : Keeps s (g b))
    (hf : ∀ {b} x, Keeps s (g b) → Keeps s (g (f b x))) : Keeps s (g (l.foldl f b)) := by
  induction l generalizing b with
  | nil => exact h
  | cons x l ih => exact ih (hf x h)

/-- A state that may not be there. -/
def KeepsSome (s : State) (o : Option State) : Prop := ∀ t ∈ o, Keeps s t

theorem KeepsSome.none : KeepsSome s none := by simp [KeepsSome]
theorem KeepsSome.some (h : Keeps s t) : KeepsSome s (some t) := by simpa [KeepsSome] using h

theorem KeepsSome.ite {c : Prop} [Decidable c] {o p : Option State} (ho : KeepsSome s o) (hp : KeepsSome s p) :
    KeepsSome s (if c then o else p) := by split <;> assumption

theorem KeepsSome.getD {o : Option State} (ho : KeepsSome s o) (h : Keeps s t) : Keeps s (o.getD t) := by
  cases o with
  | none => exact h
  | some u => exact ho u rfl

/-- A command of the opcode table that keeps it when it runs. -/
def KeepsCmd (c : Cmd) : Prop := ∀ {q d e s t}, Keeps s t → Keeps s (c.run q d e t)

theorem Keeps.wr {f v} (h : Keeps s t) : Keeps s (wr f v t) :=
  ⟨h.part, h.pending, h.mem, fun hs => regs_sorted_wr t f v (h.regs hs)⟩

theorem Keeps.stBytes {a bs} (h : Keeps s t) : Keeps s (stBytes a bs t) :=
  ⟨h.part, h.pending, fun hs => Memory.wf_put _ _ _ (h.mem hs), h.regs⟩

theorem Keeps.raiseExt {src d x} (h : Keeps s t) : Keeps s (raiseExt src d x t) := by
  unfold Machine.raiseExt
  split
  · exact h.frame
  · exact h

theorem Keeps.raise {src d} (h : Keeps s t) : Keeps s (raise src d t) := h.raiseExt

theorem Keeps.psWrite {a bs} (h : Keeps s t) : Keeps s (psWrite a bs t) :=
  .ite h (.when (.when (t := { t with mem := _, eccBad := _ })
    ⟨h.part, h.pending, fun hs => Memory.wf_put _ _ _ (h.mem hs), h.regs⟩ (·.raise)) (·.raise))

theorem Keeps.wri {f v} (h : Keeps s t) : Keeps s (wri f v t) := h.wr
theorem Keeps.satInc {f n} (h : Keeps s t) : Keeps s (satInc f n t) := h.wr
theorem Keeps.wrapInc {f n} (h : Keeps s t) : Keeps s (wrapInc f n t) := h.wr
theorem Keeps.setMapBit {lo hi k b} (h : Keeps s t) : Keeps s (setMapBit lo hi k b t) := .ite h.wr (.ite h.wr h)
theorem Keeps.setAct {f v} (h : Keeps s t) : Keeps s (setAct f v t) := h.frame
theorem Keeps.send {x} (h : Keeps s t) : Keeps s (send x t) := h.frame
theorem Keeps.atTime {n} (h : Keeps s t) : Keeps s (atTime n t) := h.frame
theorem Keeps.freeBelow {n} (h : Keeps s t) : Keeps s (freeBelow n t).2 := h.frame
theorem Keeps.fire {n} (h : Keeps s t) : Keeps s (fire n t) := .ite h.wr h

/-! ### What the functions of Flags keep -/

theorem Keeps.setFaultN (h : Keeps s t) : Keeps s (setFaultN t) :=
  .ite h.frame.wr h.frame

theorem Keeps.setEmber (h : Keeps s t) : Keeps s (setEmber t) :=
  h.wr.wr

/-! ### What the functions of Mailbox keep -/

theorem Keeps.setDefq (h : Keeps s t) : Keeps s (setDefq t) :=
  .forEach h (fun _ h => h.wr)

theorem Keeps.notifyPort {p} (h : Keeps s t) : Keeps s (notifyPort p t) :=
  .ite h h.frame.send

theorem Keeps.notify (h : Keeps s t) : Keeps s (notify t) :=
  h.notifyPort.notifyPort

theorem Keeps.setIrqPin (h : Keeps s t) : Keeps s (setIrqPin t) :=
  .ite h h.wr.send

theorem Keeps.setPend {c} (h : Keeps s t) : Keeps s (setPend c t) :=
  .setIrqPin (.when (.when h.frame.wr (·.notify)) (·.fire))

theorem Keeps.windowFire {c} (h : Keeps s t) : Keeps s (windowFire c t) :=
  .ite h.frame h.setPend

theorem Keeps.windowCount {c n} (h : Keeps s t) : Keeps s (windowCount c n t) :=
  .ite h.frame.windowFire h.frame

theorem Keeps.canResponse {opc tag status fresh} (h : Keeps s t) : Keeps s (canResponse opc tag status fresh t) :=
  .ite h.send h

theorem Keeps.afterRecord {q status} (h : Keeps s t) : Keeps s (afterRecord q status t) :=
  .of (fun hu => .ite h.wr (.ite (.setPend hu) (.ite (.wr (.windowCount hu)) (.windowCount hu))))
    (.ite h.canResponse.wr h)

theorem Keeps.complete {q status d0 d1} (h : Keeps s t) : Keeps s (complete q status d0 d1 t) :=
  .ite h.psWrite.wr.afterRecord h

theorem Keeps.channelDrop {c} (h : Keeps s t) : Keeps s (channelDrop c t) :=
  .wr (.forEach h.frame.wr.setDefq (fun _ h => h.complete))

theorem Keeps.channelSettle (h : Keeps s t) : Keeps s (channelSettle t) :=
  .forEach h (fun _ h => .ite h.channelDrop h)

theorem Keeps.finish {p status det} (h : Keeps s t) : Keeps s (finish p status det t) :=
  .channelSettle (.forEach h.frame (fun _ h => h.complete))

theorem Keeps.finishKind {p status d0 d1} (h : Keeps s t) : Keeps s (finishKind p status d0 d1 t) :=
  h.finish

theorem Keeps.doorbellWrite {c v} (h : Keeps s t) : Keeps s (doorbellWrite c v t) :=
  .ite (.fire (.when h.wr (·.satInc))) h.satInc.raise

theorem Keeps.doDoorbell {who c v} (h : Keeps s t) : Keeps s (doDoorbell who c v t) :=
  .ite h (.ite h.doorbellWrite (.ite h.raise h))

theorem Keeps.doCplrpWrite {who c v} (h : Keeps s t) : Keeps s (doCplrpWrite who c v t) :=
  .ite h (.ite (.ite h.wr h.satInc) (.ite h.raise h))

theorem Keeps.doModerationTimer {c} (h : Keeps s t) : Keeps s (doModerationTimer c t) :=
  .ite h.windowFire h

theorem Keeps.doChannelReset {who c} (h : Keeps s t) : Keeps s (doChannelReset who c t) :=
  .ite h (.ite h.wr.channelSettle (.ite h.raise h))

theorem Keeps.doPendClear {who mask} (h : Keeps s t) : Keeps s (doPendClear who mask t) :=
  .ite h (.setIrqPin (.forEach h.wr (fun _ h => .ite h h.frame.windowCount)))

theorem Keeps.doHostAwakeFall (h : Keeps s t) : Keeps s (doHostAwakeFall t) :=
  .ite h.frame.wr h

theorem Keeps.doHostAwakeRise (h : Keeps s t) : Keeps s (doHostAwakeRise t) :=
  .ite h.frame.wr h

theorem Keeps.doHostAwakeRelease (h : Keeps s t) : Keeps s (doHostAwakeRelease t) :=
  .ite (.setIrqPin (.when h.frame.wr.wr (·.notify))) h

/-! ### What the functions of Raster keep -/

theorem Keeps.setLockSt (h : Keeps s t) : Keeps s (setLockSt t) :=
  .ite h (.wr (.ite h.frame h))

theorem Keeps.shiftErr {d} (h : Keeps s t) : Keeps s (shiftErr d t) :=
  .ite h.wri.setLockSt h

theorem Keeps.slew (h : Keeps s t) : Keeps s (slew t) :=
  .ite h.frame.wri.setLockSt h.setLockSt

theorem Keeps.applySet {m fcnt} (h : Keeps s t) : Keeps s (applySet m fcnt t) :=
  .fire (.when h.frame.wr (·.wr))

theorem Keeps.setPending (h : Keeps s t) : Keeps s (setPending t) :=
  h.wr

theorem Keeps.refuse {cause} (h : Keeps s t) : Keeps s (refuse cause t) :=
  h.wr.wr.fire

theorem Keeps.commitStopped (h : Keeps s t) : Keeps s (commitStopped t).1 := by
  unfold Machine.commitStopped
  dsimp only
  split
  · exact h.frame.applySet
  · exact h.refuse

theorem Keeps.stageWaiters (h : Keeps s t) : Keeps s (stageWaiters t) :=
  h.frame

theorem Keeps.holdSet {m} (h : Keeps s t) : Keeps s (holdSet m t) :=
  .ite (.ite h.frame.stageWaiters.frame.wr h.frame.stageWaiters.frame.wr) h.frame.stageWaiters

theorem Keeps.refuseWaiters {cause} (h : Keeps s t) : Keeps s (refuseWaiters cause t) :=
  h.finish

theorem Keeps.sampleSet {m uncapped} (h : Keeps s t) : Keeps s (sampleSet m uncapped t) :=
  .ite h.refuse.refuseWaiters (.ite h.refuse.refuseWaiters h.frame.holdSet)

theorem Keeps.sendPtn {type payload} (h : Keeps s t) : Keeps s (sendPtn type payload t) :=
  .ite h.frame.send h

theorem Keeps.sendStage {m} (h : Keeps s t) : Keeps s (sendStage m t) :=
  .when h (·.sendPtn)

theorem Keeps.sampleNow (h : Keeps s t) : Keeps s (sampleNow t) :=
  .setPending (by
    split
    · exact .ite h.frame.sendStage.frame.wr h.frame.sendStage
    · exact .ite (by split; exacts [h.frame.frame.sampleSet, h.frame])
        (.ite h.frame.frame.wr.sampleSet.sendStage
           (by split; exacts [h.frame.frame.sampleSet.sendStage, .ite h.frame.frame h.frame])))

theorem Keeps.doCommitSample (h : Keeps s t) : Keeps s (doCommitSample t) :=
  .ite h.sampleNow h

theorem Keeps.goRunning (h : Keeps s t) : Keeps s (goRunning t) :=
  .ite h (.ite h.doCommitSample (.setPending (.wr (.when h.doCommitSample (·.wr)))))

theorem Keeps.doCommitGoWrite (h : Keeps s t) : Keeps s (doCommitGoWrite t) :=
  .ite h (.ite h.goRunning h.commitStopped)

theorem Keeps.doCommitCancel (h : Keeps s t) : Keeps s (doCommitCancel t) :=
  .ite h.wr.setPending.finish h

theorem Keeps.doPhaseWrite {v} (h : Keeps s t) : Keeps s (doPhaseWrite v t) :=
  .ite h h.frame.wr.shiftErr

theorem Keeps.copyCaptures (h : Keeps s t) : Keeps s (copyCaptures t) :=
  h.wr.wr.wr.wr.wr.wr

theorem Keeps.doFcntRead (h : Keeps s t) : Keeps s (doFcntRead t) :=
  .ite h.copyCaptures h

theorem Keeps.doRasEvtFire {n} (h : Keeps s t) : Keeps s (doRasEvtFire n t) :=
  .ite (.when h.fire (·.wr)) h

theorem Keeps.captureSlot (h : Keeps s t) : Keeps s (captureSlot t) :=
  h.frame.wr.wr

theorem Keeps.completeCommits {seam waited} (h : Keeps s t) : Keeps s (completeCommits seam waited t) :=
  h.finish

theorem Keeps.transferNow (h : Keeps s t) : Keeps s (transferNow t) := by
  unfold Machine.transferNow
  split
  · exact h
  · exact .ite h h.frame.applySet.setPending.completeCommits

theorem Keeps.startRaster (h : Keeps s t) : Keeps s (startRaster t) :=
  .ite h (.wr (.wr (.wr
       (.wr (.setLockSt (.wri (.wr (.frame (.frame (by split; exacts [h.frame.wr.applySet.setPending, h]))))))))))

/-! ### What the functions of Sets keep -/

theorem Keeps.sendBcast {kind args lanes} (h : Keeps s t) : Keeps s (sendBcast kind args lanes t) :=
  .when h (fun h => .forEach h (fun _ h => h.send))

theorem Keeps.sendThrice {kind args lanes} (h : Keeps s t) : Keeps s (sendThrice kind args lanes t) :=
  h.sendBcast.sendBcast.sendBcast

theorem Keeps.modTpr {n f} (h : Keeps s t) : Keeps s (modTpr n f t) :=
  h.frame

theorem Keeps.setCmdqLevel (h : Keeps s t) : Keeps s (setCmdqLevel t) :=
  h.wr

theorem Keeps.enqueue {lanes opc payload} (h : Keeps s t) : Keeps s (enqueue lanes opc payload t) :=
  .ite h.frame.setCmdqLevel h

theorem Keeps.sendTcmd {l lane c} (h : Keeps s t) : Keeps s (sendTcmd l lane c t) :=
  .ite h.sendPtn h

theorem Keeps.pushLanes {lanes tcmdLane opc payload} (h : Keeps s t) :
    Keeps s (pushLanes lanes tcmdLane opc payload t) :=
  .ite h h.sendTcmd.enqueue

theorem Keeps.pushSet {lane opc payload} (h : Keeps s t) : Keeps s (pushSet lane opc payload t) :=
  h.pushLanes

theorem Keeps.pushResume {lane sq} (h : Keeps s t) : Keeps s (pushResume lane sq t) :=
  h.pushSet

theorem Keeps.sendBarrier {kind op lane cause} (h : Keeps s t) : Keeps s (sendBarrier kind op lane cause t) :=
  h.sendPtn

theorem Keeps.demandSets {op cause lanes} (h : Keeps s t) : Keeps s (demandSets op cause lanes t) :=
  .of (fun hu => .ite h (.ite (.sendThrice hu) (.ite (.sendThrice hu) (.ite (.enqueue hu) hu))))
    (.forEach h (fun _ h => h.modTpr))

theorem Keeps.demand {op cause lane} (h : Keeps s t) : Keeps s (demand op cause lane t) :=
  .when h.demandSets (·.sendBarrier)

theorem Keeps.setFdark {n b} (h : Keeps s t) : Keeps s (setFdark n b t) :=
  h.setMapBit

theorem Keeps.updFdark {n} (h : Keeps s t) : Keeps s (updFdark n t) :=
  h.setFdark

theorem Keeps.setDeg {n b} (h : Keeps s t) : Keeps s (setDeg n b t) :=
  h.setMapBit

theorem Keeps.setTileState {n v} (h : Keeps s t) : Keeps s (setTileState n v t) :=
  h.wr.wr.updFdark

theorem Keeps.leaveService {n} (h : Keeps s t) : Keeps s (leaveService n t) :=
  h.wr.wr.setDeg.setTileState.modTpr

theorem Keeps.leaveAll (h : Keeps s t) : Keeps s (leaveAll t) :=
  .forEach h (fun _ h => h.leaveService)

/-! ### What the functions of Binding keep -/

theorem Keeps.setTmxFull (h : Keeps s t) : Keeps s (setTmxFull t) :=
  h.wr

theorem Keeps.storeMap {base b} (h : Keeps s t) : Keeps s (storeMap base b t) :=
  .forEach h (fun _ h => h.psWrite)

theorem Keeps.loadEnv {e k} (h : Keeps s t) : Keeps s (loadEnv e k t) :=
  h.storeMap.psWrite.psWrite.frame

theorem Keeps.stageTip {slot} (h : Keeps s t) : Keeps s (stageTip slot t) :=
  .frame (.wr (.when (.wr (.wr (.wr (.wr (.wr (.wr (.wr (.wr (.wr (.when h (·.loadEnv))))))))))) (·.wr.wr.wr)))

theorem Keeps.stageEntryTip {d} (h : Keeps s t) : Keeps s (stageEntryTip d t) := by
  unfold Machine.stageEntryTip
  dsimp only
  split
  · exact .ite h.stageTip.stageTip h.stageTip.finish
  · exact h.stageTip

/-! ### What the functions of Device keep -/

theorem Keeps.fbLight {mask} (h : Keeps s t) : Keeps s (fbLight mask t) :=
  .ite h.frame h.frame.wr

theorem Keeps.fbDark (h : Keeps s t) : Keeps s (fbDark t) :=
  h.frame.wr

theorem Keeps.testDone {k fail} (h : Keeps s t) : Keeps s (testDone k fail t) :=
  h.frame.finish

theorem Keeps.tgenForce {mask} (h : Keeps s t) : Keeps s (tgenForce mask t) :=
  h.frame

theorem Keeps.writeVset {mv} (h : Keeps s t) : Keeps s (writeVset mv t) :=
  h.wr.send

theorem Keeps.perfDone (h : Keeps s t) : Keeps s (perfDone t) :=
  h.finishKind

theorem Keeps.startLevel {lvl} (h : Keeps s t) : Keeps s (startLevel lvl t) :=
  .ite h.wr.frame.perfDone (.ite h (.when h.frame.wr (·.writeVset)))

theorem Keeps.relevel (h : Keeps s t) : Keeps s (relevel t) :=
  h.startLevel

theorem Keeps.zneStop (h : Keeps s t) : Keeps s (zneStop t) :=
  h.frame.psWrite.wr.wr.wr.wr.wr.wr.wr.wr.wr.wr.wr.wr.wr.wr.wr

theorem Keeps.setDev {d} (h : Keeps s t) : Keeps s (setDev d t) :=
  h.frame.wr.setFaultN.setEmber.setIrqPin

theorem Keeps.stopWaiters {fault} (h : Keeps s t) : Keeps s (stopWaiters fault t) :=
  .of (fun hu => .setPending (.finish (.finish (by
                  split
                  · exact .ite (.iteFst (.commitStopped hu) hu)
                      (.applySet (.frame (.iteFst (.commitStopped hu) hu)))
                  · exact .iteFst (.commitStopped hu) hu)))) (.wr (.forEach h.frame (fun _ h => h.complete)))

theorem Keeps.stopRaster {fault} (h : Keeps s t) : Keeps s (stopRaster fault t) :=
  .ite h h.wr.frame.stopWaiters.zneStop.wr.wr.wr.wr.wr.wr.wr

theorem Keeps.abortTransitions (h : Keeps s t) : Keeps s (abortTransitions t) :=
  h.frame.finishKind

theorem Keeps.enterSPlate {word} (h : Keeps s t) : Keeps s (enterSPlate word t) :=
  .relevel (.when h.demand.frame.wr.setDev.abortTransitions (·.stageEntryTip.goRunning))

theorem Keeps.fallbackOutputs (h : Keeps s t) : Keeps s (fallbackOutputs t) :=
  h.frame.wr.wr.fbLight.tgenForce.wr

theorem Keeps.startRecovery (h : Keeps s t) : Keeps s (startRecovery t) :=
  h.frame

theorem Keeps.enterFallbackState (h : Keeps s t) : Keeps s (enterFallbackState t) :=
  h.frame.wr.setDev.startRecovery.stopRaster.leaveAll.abortTransitions.finishKind.finishKind.relevel

theorem Keeps.enterSFallback (h : Keeps s t) : Keeps s (enterSFallback t) :=
  h.fallbackOutputs.enterFallbackState

theorem Keeps.arrive {d} (h : Keeps s t) : Keeps s (arrive d t) :=
  .of (fun hu => .ite hu.enterSFallback (.ite hu.finishKind hu.finishKind)) h.frame.setDev.relevel

theorem Keeps.arriveFromStandby {d} (h : Keeps s t) : Keeps s (arriveFromStandby d t) :=
  h.stageEntryTip.commitStopped.startRaster.arrive

theorem Keeps.leaveStandby {d} (h : Keeps s t) : Keeps s (leaveStandby d t) :=
  .ite h.frame.startLevel h.arriveFromStandby

theorem Keeps.enterRunning {d} (h : Keeps s t) : Keeps s (enterRunning d t) :=
  h.frame.stageEntryTip.goRunning

theorem Keeps.entryTransfer (h : Keeps s t) : Keeps s (entryTransfer t) := by
  unfold Machine.entryTransfer
  split
  · exact h.arrive
  · exact h

theorem Keeps.raiseSvn (h : Keeps s t) : Keeps s (raiseSvn t) :=
  h.frame.wr.wr

theorem Keeps.enterLit (h : Keeps s t) : Keeps s (enterLit t) :=
  h.frame.fbDark.setDev.raiseSvn.relevel.finish

theorem Keeps.enterStandby (h : Keeps s t) : Keeps s (enterStandby t) :=
  h.frame.wr.setDev.stopRaster.leaveAll.wr.abortTransitions.finishKind.finishKind.relevel

theorem Keeps.withdrawStandstill (h : Keeps s t) : Keeps s (withdrawStandstill t) :=
  .ite (.ite h.frame.frame h.frame.enterRunning) h.frame

theorem Keeps.settleWithdraw (h : Keeps s t) : Keeps s (settleWithdraw t) :=
  .ite (.ite h.frame.enterRunning h.frame) h

theorem Keeps.autoLightOn (h : Keeps s t) : Keeps s (autoLightOn t) :=
  .ite h.leaveStandby h

/-- The filters of a main-domain reset keep what they leave in order. -/
theorem Keeps.resetMain {d} (h : Keeps s t) : Keeps s (resetMain d t) :=
  .setTmxFull
    ⟨h.part, h.pending, fun hs => Memory.wf_filter _ _ (h.mem hs), fun hs => SMap.sorted_filter _ _ (h.regs hs)⟩

theorem Keeps.fallToPilot {cause} (h : Keeps s t) : Keeps s (fallToPilot cause t) :=
  .setFaultN (.when (by split; exacts [h.frame.resetMain.wr, h.frame.resetMain]) (·.wr))

/-! ### What the functions of Cores keep -/

theorem Keeps.setCore {t' c} (h : Keeps s t) : Keeps s (setCore t' c t) :=
  .ite h.frame h.frame

theorem Keeps.s1Reset (h : Keeps s t) : Keeps s (s1Reset t) :=
  h.setCore.wr.wr.wr.wr.wr

theorem Keeps.s1Start (h : Keeps s t) : Keeps s (s1Start t) :=
  .ite h (.ite h.stBytes.setCore.wr.wr h.raise)

theorem Keeps.s1Bar (h : Keeps s t) : Keeps s (s1Bar t) :=
  h.frame.s1Reset

theorem Keeps.doS1RunWrite {who run} (h : Keeps s t) : Keeps s (doS1RunWrite who run t) :=
  .ite h (.ite (.ite h h.s1Start) h.s1Reset)

theorem Keeps.clearPending {src} (h : Keeps s t) : Keeps s (clearPending src t) :=
  h.wr

theorem Keeps.takeVector {t' src} (h : Keeps s t) : Keeps s (takeVector t' src t) :=
  .ite h.clearPending.setCore.wr.wr h.clearPending.setCore.wr.wr

theorem Keeps.doIrqAccept {t'} (h : Keeps s t) : Keeps s (doIrqAccept t' t) :=
  .ite h (by split; exacts [h.setCore.satInc.wr.wr.takeVector, by split; exacts [h.takeVector, h]])

theorem Keeps.doMret {t'} (h : Keeps s t) : Keeps s (doMret t' t) :=
  .ite h.setCore.wr h

theorem Keeps.doFret {t'} (h : Keeps s t) : Keeps s (doFret t' t) :=
  .ite h.setCore.wr h

theorem Keeps.itcDenied {who off} (h : Keeps s t) : Keeps s (itcDenied who off t) :=
  .ite h.raise h

theorem Keeps.lateChoice {src} (h : Keeps s t) : Keeps s (lateChoice src t) :=
  .ite (.ite h.frame.setCore h.frame) h

theorem Keeps.doSetpWrite {who w v} (h : Keeps s t) : Keeps s (doSetpWrite who w v t) :=
  .ite h (.ite (.forEach h (fun _ h => h.fire)) h.itcDenied)

theorem Keeps.doClrpWrite {who w v} (h : Keeps s t) : Keeps s (doClrpWrite who w v t) :=
  .ite h (.ite (.forEach h (fun _ h => h.lateChoice.clearPending)) h.itcDenied)

theorem Keeps.enWrite {who w v} (h : Keeps s t) : Keeps s (enWrite who w v t) :=
  .wr (.forEach h (fun _ h => h.lateChoice))

theorem Keeps.doSrcTargetWrite {who src v} (h : Keeps s t) : Keeps s (doSrcTargetWrite who src v t) :=
  .ite h (.ite h.itcDenied (.ite h (.ite h.wr.wr (.wr (.when h.wr (·.setCore))))))

theorem Keeps.doWfi {t'} (h : Keeps s t) : Keeps s (doWfi t' t) :=
  .ite h.setCore.wr h

theorem Keeps.resumeCore {t'} (h : Keeps s t) : Keeps s (resumeCore t' t) :=
  .ite h.setCore.wr.wr.wr (.ite h.wr h)

theorem Keeps.doCoreWake {t' src} (h : Keeps s t) : Keeps s (doCoreWake t' src t) :=
  .ite h.resumeCore h

theorem Keeps.doStrandedTimer {src} (h : Keeps s t) : Keeps s (doStrandedTimer src t) :=
  .ite (.wr (.raise (.ite h.wr.resumeCore h.resumeCore))) h

theorem Keeps.doLockstep {part} (h : Keeps s t) : Keeps s (doLockstep part t) :=
  .ite h.raise h

theorem Keeps.doWatchdogExpiry {t'} (h : Keeps s t) : Keeps s (doWatchdogExpiry t' t) :=
  .ite h.raise h

theorem Keeps.doWdkick {t' v at'} (h : Keeps s t) : Keeps s (doWdkick t' v at' t) :=
  .ite h.atTime.setCore h

theorem Keeps.doWdogEnWrite {t' v at'} (h : Keeps s t) : Keeps s (doWdogEnWrite t' v at' t) :=
  .ite (.ite h (.ite (.setCore (.wr (.wr (.atTime (.iteSnd h h.frame))))) (.wr (.atTime (.iteSnd h h.frame))))) h

/-! ### What the functions of Correct keep -/

theorem Keeps.setDead (h : Keeps s t) : Keeps s (setDead t) :=
  h.wr

theorem Keeps.storeCorTables {b} (h : Keeps s t) : Keeps s (storeCorTables b t) :=
  h.stBytes

theorem Keeps.setWearA {i v} (h : Keeps s t) : Keeps s (setWearA i v t) :=
  h.frame

theorem Keeps.wearSample {lane i code} (h : Keeps s t) : Keeps s (wearSample lane i code t) :=
  .when h.frame.setWearA (·.satInc)

theorem Keeps.calEccSeen {i} (h : Keeps s t) : Keeps s (calEccSeen i t) :=
  .ite h.wr.wr.satInc.raise h

theorem Keeps.thermSeen {i} (h : Keeps s t) : Keeps s (thermSeen i t) :=
  .ite h.frame.raise h

theorem Keeps.corPixel {lane line p} (h : Keeps s t) : Keeps s (corPixel lane line p t).2 :=
  .when (.when h.calEccSeen.thermSeen (·.frame)) (·.wearSample)

theorem Keeps.setUpdLevel (h : Keeps s t) : Keeps s (setUpdLevel t) :=
  h.wr.wr

theorem Keeps.pushSel {i sel} (h : Keeps s t) : Keeps s (pushSel i sel t) :=
  .ite h.pushSet h

theorem Keeps.applyUpd {u} (h : Keeps s t) : Keeps s (applyUpd u t) :=
  .when (.wrapInc (.ite h.psWrite h.psWrite)) (·.pushSel)

theorem Keeps.pushUpd {u} (h : Keeps s t) : Keeps s (pushUpd u t) :=
  .ite h (.ite h.applyUpd.setDead (.ite h.wr.raise h.frame.setUpdLevel))

theorem Keeps.pairUpd {u} (h : Keeps s t) : Keeps s (pairUpd u t) :=
  .ite h (.sendPtn (.when h (·.wr.wr)))

theorem Keeps.ownUpd {u} (h : Keeps s t) : Keeps s (ownUpd u t) :=
  .ite h h.pairUpd.pushUpd

theorem Keeps.applyQueue (h : Keeps s t) : Keeps s (applyQueue t) :=
  .ite (.setUpdLevel (.setDead (.forEach h.frame (fun _ h => h.applyUpd)))) h

theorem Keeps.doUpdDataWrite {data} (h : Keeps s t) : Keeps s (doUpdDataWrite data t) :=
  .ite h.ownUpd h

theorem Keeps.doAtEnWrite {on} (h : Keeps s t) : Keeps s (doAtEnWrite on t) :=
  .ite h (.ite h.wr.frame.wr h.wr)

theorem Keeps.wearPixel {i} (h : Keeps s t) : Keeps s (wearPixel i t).2 :=
  .iteSnd (.atSnd h.raise) (.atSnd (.when (.when h (·.setWearA)) (·.ownUpd)))

theorem Keeps.wearRow {i n} (h : Keeps s t) : Keeps s (wearRow i n t).2 := by
  induction n generalizing i t with
  | zero => exact h
  | succ n ih => exact ih h.wearPixel

theorem Keeps.wearLane {lane} (h : Keeps s t) : Keeps s (wearLane lane t).2 := by
  refine .foldl (g := Prod.snd) h ?_
  intro acc l h
  simp only []
  exact h.wearRow

/-! ### What the functions of Nvm keep -/

theorem Keeps.holdMeasure {e} (h : Keeps s t) : Keeps s (holdMeasure e t) :=
  h.wr.wr

theorem Keeps.holdDefer {who loud} (h : Keeps s t) : Keeps s (holdDefer who loud t) :=
  .when h.wr.wr.satInc (·.raise)

theorem Keeps.writeLines {parts} (h : Keeps s t) : Keeps s (writeLines parts t) :=
  .forEach h (fun _ h => h.stBytes.frame.wrapInc)

theorem Keeps.verifyFailed {off} (h : Keeps s t) : Keeps s (verifyFailed off t) :=
  h.satInc.wr.raise

theorem Keeps.runBurst {b} (h : Keeps s t) : Keeps s (runBurst b t) :=
  h.frame.wr

theorem Keeps.wearGo {lanes deferred} (h : Keeps s t) : Keeps s (wearGo lanes deferred t) := by
  induction lanes generalizing deferred t with
  | nil => exact h.frame
  | cons n rest ih =>
    have hl : Keeps s (Machine.wearLane n t).2 := h.wearLane
    unfold Machine.wearGo
    generalize Machine.wearLane n t = p at hl ⊢
    obtain ⟨parts, u⟩ := p
    exact .ite hl.frame.runBurst (ih h.holdDefer.satInc)

theorem Keeps.wearEnd (h : Keeps s t) : Keeps s (wearEnd t) := by
  unfold Machine.wearEnd
  split
  · exact .ite h.frame.wr.wr.wrapInc.finishKind h
  · exact h

theorem Keeps.wearNext {e} (h : Keeps s t) : Keeps s (wearNext e t) := by
  unfold Machine.wearNext
  split
  · exact .ite h.wearEnd h.holdMeasure.wearGo.wearEnd
  · exact h

theorem Keeps.wearStart {e} (h : Keeps s t) : Keeps s (wearStart e t) :=
  .ite h (.wearNext (.when h.frame.wr (·.raise)))

theorem Keeps.startBurst {e b} (h : Keeps s t) : Keeps s (startBurst e b t) :=
  .of (fun hu => .ite h.holdMeasure.runBurst (by split; exacts [hu.wr, hu.finishKind, hu.finishKind, hu, hu]))
    h.holdMeasure.holdDefer

theorem Keeps.requestBurst {e b} (h : Keeps s t) : Keeps s (requestBurst e b t) :=
  .ite h.startBurst h.frame

theorem Keeps.takeBurstId (h : Keeps s t) : Keeps s (takeBurstId t) :=
  h.frame

theorem Keeps.drainWait {e l} (h : Keeps s t) : Keeps s (drainWait e l t) := by
  induction l generalizing t with
  | nil => exact h
  | cons b rest ih => exact .ite h (ih h.frame.startBurst)

theorem Keeps.lcFinish (h : Keeps s t) : Keeps s (lcFinish t) := by
  unfold Machine.lcFinish
  split
  · exact .ite h.frame.wr.setTmxFull.wr h.frame.wr.setTmxFull.frame
  · exact h

theorem Keeps.wipeNext {e} (h : Keeps s t) : Keeps s (wipeNext e t) :=
  .ite h (by split; exacts [h, h.takeBurstId.startBurst])

theorem Keeps.doMrcWgoWrite {e} (h : Keeps s t) : Keeps s (doMrcWgoWrite e t) :=
  .ite h (.ite h.wr (.ite h.atTime.takeBurstId.wr.frame h.atTime.takeBurstId.wr.requestBurst))

theorem Keeps.startPause {k} (h : Keeps s t) : Keeps s (startPause k t) :=
  .ite h.frame h

theorem Keeps.laneToWorking {n} (h : Keeps s t) : Keeps s (laneToWorking n t) :=
  h.psWrite.setDead

theorem Keeps.afterBurst {e b ok} (h : Keeps s t) : Keeps s (afterBurst e b ok t) := by
  unfold Machine.afterBurst
  dsimp only
  split
  · exact h.wr.startPause
  · exact h.finish
  · exact .finish (.when h (·.laneToWorking))
  · exact .ite (.ite h.startPause h.startPause.wearNext) h.wearEnd
  · exact .ite h.frame.lcFinish h.frame

theorem Keeps.doMrcBurstDone {e failAt} (h : Keeps s t) : Keeps s (doMrcBurstDone e failAt t) := by
  unfold Machine.doMrcBurstDone
  dsimp only
  split
  · exact h.atTime.wipeNext
  · exact .of (fun hu => .wipeNext (.ite hu (.wearNext hu)))
      (.drainWait (.afterBurst
          (by split; exacts [h.atTime.frame.wr.writeLines.verifyFailed, h.atTime.frame.wr.writeLines.wr])))

theorem Keeps.doWearPassTimer {e} (h : Keeps s t) : Keeps s (doWearPassTimer e t) :=
  .ite h.atTime.wearStart h

theorem Keeps.shadowWrite {source code} (h : Keeps s t) : Keeps s (shadowWrite source code t) :=
  h.frame

theorem Keeps.setQlevel (h : Keeps s t) : Keeps s (setQlevel t) :=
  h.wr

theorem Keeps.evLose (h : Keeps s t) : Keeps s (evLose t) :=
  h.frame.satInc.wr

theorem Keeps.evPush {m sev} (h : Keeps s t) : Keeps s (evPush m sev t) :=
  .ite h.evLose (.ite h.frame.setQlevel (.setQlevel (.when h.frame (·.evLose))))

theorem Keeps.evBootScan (h : Keeps s t) : Keeps s (evBootScan t) :=
  h.frame.wr.wr.wr.wr.wr

theorem Keeps.writeHalf {off b ok} (h : Keeps s t) : Keeps s (writeHalf off b ok t) :=
  .ite h.writeLines h.verifyFailed

theorem Keeps.writeSlot {slot b fails} (h : Keeps s t) : Keeps s (writeSlot slot b fails t).1 := by
  unfold Machine.writeSlot; dsimp only
  exact .iteFst h h.writeHalf

theorem Keeps.evStop {line} (h : Keeps s t) : Keeps s (evStop line t) :=
  .setQlevel (.when h.raise.shadowWrite.frame.wr.wr.satInc (·.wr))

theorem Keeps.evEpisodeEnd (h : Keeps s t) : Keeps s (evEpisodeEnd t) :=
  .ite h.frame.raise h

theorem Keeps.evWritten {slot} (h : Keeps s t) : Keeps s (evWritten slot t) :=
  h.frame.wr.wr.setQlevel.evEpisodeEnd

theorem Keeps.evBurst {q fails} (h : Keeps s t) : Keeps s (evBurst q fails t) :=
  .of (fun hu => .ite (.evWritten (.when hu (fun h => .ite h.wr.verifyFailed h.wr.writeLines)))
               (.ite (.evStop (.verifyFailed hu))
                  (.ite (.evWritten (.when (.writeSlot (.satInc (.writeLines hu)))
                       (fun h => .ite h.wr.verifyFailed h.wr.writeLines)))
                     (.evStop (.writeSlot (.satInc (.writeLines hu))))))) (.writeSlot (.ite h.writeHalf h))

theorem Keeps.evTry {e fails} (h : Keeps s t) : Keeps s (evTry e fails t) :=
  .ite h.atTime
    (by split; exacts [h.atTime, .ite h.atTime.holdMeasure.frame.wr.evBurst h.atTime.holdMeasure.holdDefer.frame])

theorem Keeps.doEvrWrite {e fails} (h : Keeps s t) : Keeps s (doEvrWrite e fails t) :=
  h.evTry

theorem Keeps.doEvrRetry {e fails} (h : Keeps s t) : Keeps s (doEvrRetry e fails t) :=
  .ite h.evTry h

theorem Keeps.dumpWrite {e word statew cores} (h : Keeps s t) : Keeps s (dumpWrite e word statew cores t) := by
  unfold Machine.dumpWrite
  dsimp only
  split
  · exact .shadowWrite (.ite h.holdMeasure.writeLines h.holdMeasure.holdDefer)
  · exact .ite h.holdMeasure.writeLines.wr (.ite h.holdMeasure.writeLines.wr h.holdMeasure.holdDefer.shadowWrite)

theorem Keeps.doAshDump {e} (h : Keeps s t) : Keeps s (doAshDump e t) := by
  unfold Machine.doAshDump
  split
  · exact h
  · exact .ite h h.atTime.dumpWrite.frame.setDev.startRecovery.relevel.wr.drainWait

theorem Keeps.setCku {n c} (h : Keeps s t) : Keeps s (setCku n c t) :=
  .ite h.frame h.frame

theorem Keeps.setCkuResult {n} (h : Keeps s t) : Keeps s (setCkuResult n t) :=
  h.wr.wr

theorem Keeps.ckuFeed {n bs} (h : Keeps s t) : Keeps s (ckuFeed n bs t) :=
  h.setCku.setCkuResult

theorem Keeps.doCkuInitWrite {n} (h : Keeps s t) : Keeps s (doCkuInitWrite n t) :=
  .ite h h.setCku.setCkuResult

theorem Keeps.doCkuDataWrite {n v} (h : Keeps s t) : Keeps s (doCkuDataWrite n v t) :=
  .ite h h.ckuFeed

theorem Keeps.ckuStart {who n} (h : Keeps s t) : Keeps s (ckuStart who n t) :=
  .ite h.wr.wr (.ite h.wr.wr h.setCku.wr)

theorem Keeps.doCkuGo {who n} (h : Keeps s t) : Keeps s (doCkuGo who n t) :=
  .ite h (by split; exacts [.ite h h.ckuStart, .ite (.ite h h.ckuStart) h.raise, h])

theorem Keeps.doCkuScanDone {n} (h : Keeps s t) : Keeps s (doCkuScanDone n t) := by
  unfold Machine.doCkuScanDone
  split
  · exact h
  · refine .ite h ?_
    dsimp only
    split
    · exact .ite h.ckuFeed.setCku.wr.wr.wr.wr.raise.finishKind h.ckuFeed.setCku.wr.wr.wr.wr.raise
    · exact .ite h.ckuFeed.setCku.startPause (.ite h.ckuFeed.setCku.wr.finishKind h.ckuFeed.setCku.wr)

/-! ### What the functions of Fault keep -/

theorem Keeps.fenderVerdictSeen {m sev} (h : Keeps s t) : Keeps s (fenderVerdictSeen m sev t) :=
  .ite h.frame.satInc.wr h

theorem Keeps.latchWarn {m sev} (h : Keeps s t) : Keeps s (latchWarn m sev t) :=
  .fire (.wr (.ite h.wr.satInc h.wr.wr.wr.wr.wr))

theorem Keeps.latch {m} (h : Keeps s t) : Keeps s (latch m t) :=
  .setEmber (.setFaultN (.evPush (.fenderVerdictSeen (by split; exacts [h.frame.wr.satInc, h.frame.wr.latchWarn]))))

theorem Keeps.degradeAct {m} (h : Keeps s t) : Keeps s (degradeAct m t) :=
  .ite (.forEach h (fun _ h => h.demand.setDeg)) h

theorem Keeps.sendHandover {reason} (h : Keeps s t) : Keeps s (sendHandover reason t) :=
  h.frame.sendPtn

theorem Keeps.withdraw (h : Keeps s t) : Keeps s (withdraw t) :=
  .ite h (.ite h.wr.sendHandover (.ite h.frame.wr.wr h))

theorem Keeps.reachSPlate {m} (h : Keeps s t) : Keeps s (reachSPlate m t) :=
  .ite h.frame.demand.finishKind h.enterSPlate

theorem Keeps.reactSafe {ms} (h : Keeps s t) : Keeps s (reactSafe ms t) := by
  unfold Machine.reactSafe
  split
  · exact h
  · exact .ite h (.ite h.withdraw.enterSFallback h.withdraw.reachSPlate)

theorem Keeps.abortDeferred (h : Keeps s t) : Keeps s (abortDeferred t) :=
  .forEach h.frame.setDefq (fun _ h => h.complete)

theorem Keeps.reactFatal {ms} (h : Keeps s t) : Keeps s (reactFatal ms t) := by
  unfold Machine.reactFatal
  split
  · exact h
  · exact .ite h (.wr (.abortDeferred (.when h.withdraw.frame.fallbackOutputs (·.enterFallbackState))))

theorem Keeps.reactS1 {m} (h : Keeps s t) : Keeps s (reactS1 m t) :=
  .ite h.s1Bar (.ite (.ite h.s1Bar h.s1Reset.s1Start) h)

theorem Keeps.reactPair {m} (h : Keeps s t) : Keeps s (reactPair m t) :=
  .ite h.sendHandover h

theorem Keeps.faultReact {ms} (h : Keeps s t) : Keeps s (faultReact ms t) :=
  .ite h (.setEmber (.setFaultN (.forEach (.forEach (.reactFatal (.reactSafe (.forEach (.forEach h (fun _ h => h.latch)) (fun _ h => h.degradeAct))))
        (fun _ h => h.reactS1)) (fun _ h => h.reactPair))))

theorem Keeps.doFaultMessage {e m more} (h : Keeps s t) : Keeps s (doFaultMessage e m more t) :=
  h.atTime.frame.faultReact

theorem Keeps.doSafeInNFall {e} (h : Keeps s t) : Keeps s (doSafeInNFall e t) :=
  .ite h (.faultReact (.setFaultN (.when h.atTime.frame (·.wr))))

theorem Keeps.doSafeInNRise (h : Keeps s t) : Keeps s (doSafeInNRise t) :=
  .ite h (.setFaultN (.when h.frame (·.wr)))

theorem Keeps.fclClear (h : Keeps s t) : Keeps s (fclClear t) :=
  h.frame.wr.wr.wr.wr.wr.wr.wr.wr.setFaultN.setEmber

theorem Keeps.doFclClearWrite (h : Keeps s t) : Keeps s (doFclClearWrite t) :=
  .ite h.fclClear h

theorem Keeps.leaveSPlate (h : Keeps s t) : Keeps s (leaveSPlate t) :=
  .ite (.finishKind (.forEach h.frame.wr.setFaultN.setEmber (fun _ h => h.pushResume)))
    (.finishKind (.forEach h.frame.wr.setFaultN.setEmber (fun _ h => h.pushResume)))

theorem Keeps.failStart {step} (h : Keeps s t) : Keeps s (failStart step t) :=
  h.finishKind.faultReact

theorem Keeps.startPassed (h : Keeps s t) : Keeps s (startPassed t) :=
  .ite h.leaveSPlate (.ite h.frame h.enterLit)

theorem Keeps.doStartTestsDone {e failStep} (h : Keeps s t) : Keeps s (doStartTestsDone e failStep t) :=
  .ite h (.ite h.atTime.startPassed h.atTime.failStart)

/-! ### What the functions of Power keep -/

theorem Keeps.startBoot {cause} (h : Keeps s t) : Keeps s (startBoot cause t) :=
  .setFaultN (by split; exacts [h.frame.resetMain.wr, h.frame.resetMain])

theorem Keeps.coldStart {d} (h : Keeps s t) : Keeps s (coldStart d t) := by
  have hr : Keeps s (Machine.resetMain d t) := h.resetMain
  exact .wr (.wr (.forEach ⟨hr.part, hr.pending, hr.mem, fun hs => SMap.sorted_filter _ _ (hr.regs hs)⟩ (fun _ h => h.wr)))

theorem Keeps.doVpilotEnterRange {pairId} (h : Keeps s t) : Keeps s (doVpilotEnterRange pairId t) :=
  .ite h.coldStart.frame.setFaultN h

theorem Keeps.doVpilotLeaveRange (h : Keeps s t) : Keeps s (doVpilotLeaveRange t) :=
  .ite h h.coldStart

theorem Keeps.beginWayUp {attempt} (h : Keeps s t) : Keeps s (beginWayUp attempt t) := by
  unfold Machine.beginWayUp
  split
  · exact .ite h.frame.wr h
  · exact h.frame

theorem Keeps.tryWayUp (h : Keeps s t) : Keeps s (tryWayUp t) :=
  .ite h.beginWayUp h

theorem Keeps.doPorstNLow (h : Keeps s t) : Keeps s (doPorstNLow t) :=
  .ite h h.fallToPilot.frame

theorem Keeps.doPorstNRise {lowForMs} (h : Keeps s t) : Keeps s (doPorstNRise lowForMs t) :=
  .ite h h.frame.tryWayUp

theorem Keeps.doPgCoreRise (h : Keeps s t) : Keeps s (doPgCoreRise t) :=
  .ite h.frame.satInc h

theorem Keeps.doPgCoreFall (h : Keeps s t) : Keeps s (doPgCoreFall t) :=
  .ite h.fallToPilot.frame h

theorem Keeps.doPgCoreTimeout (h : Keeps s t) : Keeps s (doPgCoreTimeout t) :=
  .ite (.ite h.frame (.setFaultN (.when h.frame.wr.shadowWrite (·.fbLight)))) h

theorem Keeps.doWakeRetryDelay (h : Keeps s t) : Keeps s (doWakeRetryDelay t) :=
  .ite h.frame.beginWayUp h

theorem Keeps.wayUpBoot {refOk} (h : Keeps s t) : Keeps s (wayUpBoot refOk t) :=
  h.frame.startBoot

theorem Keeps.doRefStable (h : Keeps s t) : Keeps s (doRefStable t) :=
  .ite h.wayUpBoot h

theorem Keeps.doRefTimeout (h : Keeps s t) : Keeps s (doRefTimeout t) :=
  .ite h.wayUpBoot.frame.wr.raise h

theorem Keeps.startNtc (h : Keeps s t) : Keeps s (startNtc t) :=
  h.frame

theorem Keeps.doRefRetry {runs} (h : Keeps s t) : Keeps s (doRefRetry runs t) :=
  .ite h.frame.startNtc.wr.autoLightOn h

theorem Keeps.doWakeInput (h : Keeps s t) : Keeps s (doWakeInput t) :=
  .ite h.frame.tryWayUp h

theorem Keeps.doRtcAlarmMatch (h : Keeps s t) : Keeps s (doRtcAlarmMatch t) :=
  .ite h.frame.tryWayUp h

theorem Keeps.doRtcTick (h : Keeps s t) : Keeps s (doRtcTick t) :=
  .ite h (.when h.wrapInc (·.wrapInc))

theorem Keeps.doPmicEnLowWait (h : Keeps s t) : Keeps s (doPmicEnLowWait t) :=
  .ite h.frame.tryWayUp h

theorem Keeps.doResetDelay (h : Keeps s t) : Keeps s (doResetDelay t) := by
  unfold Machine.doResetDelay
  split
  · exact .ite h.startBoot h
  · exact h

theorem Keeps.doRecoveryTimer (h : Keeps s t) : Keeps s (doRecoveryTimer t) :=
  .ite (.ite h.frame.startBoot h.frame) h

theorem Keeps.startHandshake {blocks dom} (h : Keeps s t) : Keeps s (startHandshake blocks dom t) :=
  h.frame.wr

theorem Keeps.endHandshake {result blk ans code} (h : Keeps s t) : Keeps s (endHandshake result blk ans code t) :=
  h.frame.wr.wr.wr.wr.wr.wr

theorem Keeps.sleepStart (h : Keeps s t) : Keeps s (sleepStart t) :=
  .ite h.startHandshake.wr.wr h

theorem Keeps.nextDomOff (h : Keeps s t) : Keeps s (nextDomOff t) :=
  .ite h (.ite h.sleepStart (by split; exacts [h.startHandshake, h]))

theorem Keeps.abortHandshake {result blk ans code} (h : Keeps s t) :
    Keeps s (abortHandshake result blk ans code t) := by
  unfold Machine.abortHandshake
  dsimp only
  split
  · exact h.endHandshake.wr.nextDomOff
  · exact h.endHandshake.finishKind.nextDomOff

theorem Keeps.doSleepGo {t'} (h : Keeps s t) : Keeps s (doSleepGo t' t) :=
  h.atTime.sleepStart

theorem Keeps.handshakeDone (h : Keeps s t) : Keeps s (handshakeDone t) := by
  unfold Machine.handshakeDone
  split
  · exact .ite (by split; exacts [h.endHandshake.wr.wr.nextDomOff, h]) h
  · exact h

theorem Keeps.doHandshakeAnswer {block ans code t'} (h : Keeps s t) :
    Keeps s (doHandshakeAnswer block ans code t' t) := by
  unfold Machine.doHandshakeAnswer
  dsimp only
  split
  · exact h.atTime
  · exact .ite h.atTime (.ite h.atTime.frame.handshakeDone
       (.ite (.ite h.atTime.abortHandshake h.atTime.frame) (.ite h.atTime.abortHandshake h.atTime)))

theorem Keeps.doHandshakeDelayExpiry {block t'} (h : Keeps s t) : Keeps s (doHandshakeDelayExpiry block t' t) := by
  unfold Machine.doHandshakeDelayExpiry
  dsimp only
  split
  · exact h.atTime
  · exact .ite h.atTime.frame h.atTime

theorem Keeps.doHandshakeNoanswer {block t'} (h : Keeps s t) : Keeps s (doHandshakeNoanswer block t' t) := by
  unfold Machine.doHandshakeNoanswer
  dsimp only
  split
  · exact h.atTime
  · exact .ite h.atTime.abortHandshake h.atTime

theorem Keeps.ttosOff (h : Keeps s t) : Keeps s (ttosOff t) :=
  .forEach h (fun _ h => h.send)

theorem Keeps.sleepAlarm (h : Keeps s t) : Keeps s (sleepAlarm t) :=
  .foldl (g := fun u => u) h (fun _ h => by split; exacts [.ite h h.wr.wr, h])

theorem Keeps.doSleepEntry (h : Keeps s t) : Keeps s (doSleepEntry t) := by
  unfold Machine.doSleepEntry
  split
  · exact h
  · exact .of (fun hu => .ite h (.ite (.frame hu) hu))
      (.fallToPilot (.wr (.when h.sleepAlarm.finishKind.endHandshake.wr.ttosOff (·.send))))

theorem Keeps.doDomoffWrite {mask t'} (h : Keeps s t) : Keeps s (doDomoffWrite mask t' t) :=
  .ite h h.atTime.wr.nextDomOff

theorem Keeps.doDomainPowerUp {dom ready} (h : Keeps s t) : Keeps s (doDomainPowerUp dom ready t) :=
  .ite h (.ite h.raise (.ite (by split; exacts [.ite h.abortHandshake h, h]) (.ite h.wr h.raise)))

theorem Keeps.doPadrelWrite (h : Keeps s t) : Keeps s (doPadrelWrite t) :=
  .ite h.wr h

theorem Keeps.doLightReqRise {e} (h : Keeps s t) : Keeps s (doLightReqRise e t) := by
  refine .ite h (.autoLightOn (.tryWayUp ?_))
  dsimp only; split
  · exact .ite (.abortHandshake (.when h.atTime.frame (·.fbLight))) (.when h.atTime.frame (·.fbLight))
  · exact .when h.atTime.frame (·.fbLight)

theorem Keeps.doLightReqFall {e} (h : Keeps s t) : Keeps s (doLightReqFall e t) :=
  .ite h (.ite h.atTime.frame.fbDark.enterStandby.wearStart h.atTime.frame.fbDark)

theorem Keeps.fbFailed {ch sw} (h : Keeps s t) : Keeps s (fbFailed ch sw t) :=
  .when h.shadowWrite (·.wr.raise)

theorem Keeps.preLight {ch mid} (h : Keeps s t) : Keeps s (preLight ch mid t) :=
  .ite h h.fbFailed

theorem Keeps.doFb0LightTimer {mid} (h : Keeps s t) : Keeps s (doFb0LightTimer mid t) :=
  .ite (.fbLight (.when h.frame (·.preLight))) h

theorem Keeps.doFbCheckTimer {mids} (h : Keeps s t) : Keeps s (doFbCheckTimer mids t) :=
  .ite h (.forEach h (fun _ h => .ite h (.testDone (.when h (·.fbFailed)))))

theorem Keeps.doFbPulseTimer {ch} (h : Keeps s t) : Keeps s (doFbPulseTimer ch t) :=
  .ite h.frame h

theorem Keeps.doFbPulseEnd {ch mid} (h : Keeps s t) : Keeps s (doFbPulseEnd ch mid t) := by
  unfold Machine.doFbPulseEnd
  split
  · exact h
  · refine .ite h (.when ?_ (·.fbLight))
    repeat' split
    exacts [h.frame, h.frame.fbFailed, h.frame, h.frame.fbFailed]

theorem Keeps.doFbOffreqWrite (h : Keeps s t) : Keeps s (doFbOffreqWrite t) :=
  .ite h.fbDark h

theorem Keeps.doPairActChange {level} (h : Keeps s t) : Keeps s (doPairActChange level t) :=
  .ite h (.ite h.frame h.frame.frame.fbLight)

theorem Keeps.doPlChangeDone (h : Keeps s t) : Keeps s (doPlChangeDone t) := by
  unfold Machine.doPlChangeDone; split
  · exact h
  · dsimp only; split
    · exact .leaveStandby (.frame (.perfDone (.when h.frame.wr.wr (·.writeVset))))
    · exact .relevel (.perfDone (.when h.frame.wr.wr (·.writeVset)))

theorem Keeps.modSensor {n f} (h : Keeps s t) : Keeps s (modSensor n f t) :=
  h.frame

theorem Keeps.damperUp {step n} (h : Keeps s t) : Keeps s (damperUp step n t) :=
  .ite (.relevel (.wr (.when (.when h.wr (·.wr)) (·.raise)))) h

theorem Keeps.breakSensor {n} (h : Keeps s t) : Keeps s (breakSensor n t) :=
  .ite h h.wr.raise

theorem Keeps.coolTrack (h : Keeps s t) : Keeps s (coolTrack t) :=
  h.frame

theorem Keeps.judgeReading {n used rise} (h : Keeps s t) : Keeps s (judgeReading n used rise t) :=
  .of (fun hu => .coolTrack (.ite (.ite (.raise (.damperUp hu)) hu) hu))
    (.ite (.when (.modSensor (.when h.wri.wri.wr (·.raise))) (fun h => .ite h.damperUp h.damperUp)) h.wri.wri)

theorem Keeps.useReading {n meas rise} (h : Keeps s t) : Keeps s (useReading n meas rise t) :=
  .ite h.judgeReading h.judgeReading

theorem Keeps.doThmSample {n meas rise stuck t'} (h : Keeps s t) : Keeps s (doThmSample n meas rise stuck t' t) :=
  .ite h (.useReading (.when h.atTime.wri (·.breakSensor)))

theorem Keeps.doDamperEscalate {t'} (h : Keeps s t) : Keeps s (doDamperEscalate t' t) :=
  .ite h.atTime (by split; exacts [h.atTime, .forEach h.atTime.damperUp (fun _ h => h.modSensor)])

theorem Keeps.doDamperDwell {t'} (h : Keeps s t) : Keeps s (doDamperDwell t' t) :=
  .ite h.atTime (.ite (.when (.relevel (.when (.when h.atTime.frame.wr (·.wr)) (·.wr))) (·.autoLightOn)) h.atTime)

theorem Keeps.doSensorSelfTest {failed} (h : Keeps s t) : Keeps s (doSensorSelfTest failed t) :=
  .ite (.forEach h (fun _ h => h.breakSensor.useReading)) h

/-! ### What the functions of RegRules keep -/

theorem Keeps.putField {f w} (h : Keeps s t) : Keeps s (putField f w t) := by
  unfold Machine.putField
  split
  · exact h.wr
  · exact h

theorem Keeps.settleFields {fs} (h : Keeps s t) : Keeps s (settleFields fs t) :=
  .forEach h (fun _ h => .ite h.wr (.ite (.when h (·.wr)) h))

theorem Keeps.putRwl {fs w} (h : Keeps s t) : Keeps s (putRwl fs w t) :=
  .settleFields (.forEach h (fun _ h => h.putField))

theorem Keeps.setLock {f} (h : Keeps s t) : Keeps s (setLock f t) :=
  .ite (.wr (.forEach h.wr (fun _ h => h.wr))) h.wr

/-! ### What the functions of Boot keep -/

theorem Keeps.doBootEntry {n pairId} (h : Keeps s t) : Keeps s (doBootEntry n pairId t) :=
  .ite (.evBootScan (.when (t := { t with mem := _, eccBad := _, now := _, pilot := _, dev := _ })
    ⟨h.part, h.pending, fun hs => Memory.wf_filter _ _ (h.mem hs), h.regs⟩ (·.startNtc))) h

theorem Keeps.loadLane {corr n} (h : Keeps s t) : Keeps s (loadLane corr n t) :=
  .ite h.psWrite h.psWrite.wr

theorem Keeps.imageEcc (h : Keeps s t) : Keeps s (imageEcc t) :=
  .forEach h (fun _ h => h.satInc.raise)

theorem Keeps.bootHalt (h : Keeps s t) : Keeps s (bootHalt t) :=
  h.frame.setDev.startRecovery

theorem Keeps.calCheck (h : Keeps s t) : Keeps s (calCheck t) :=
  .ite h.imageEcc.bootHalt (.setDead (.forEach h.imageEcc.frame (fun _ h => h.loadLane)))

theorem Keeps.fwRun {slot} (h : Keeps s t) : Keeps s (fwRun slot t) :=
  h.frame.wr.wr

theorem Keeps.fwCheck (h : Keeps s t) : Keeps s (fwCheck t) :=
  .ite h.fwRun.calCheck (.ite h.fwRun.raise.calCheck h.bootHalt)

theorem Keeps.doBootRomChecks (h : Keeps s t) : Keeps s (doBootRomChecks t) :=
  .ite (by split; exacts [.ite h.frame.raise h, h.fwCheck]) h

theorem Keeps.writeRegInit {b} (h : Keeps s t) : Keeps s (writeRegInit b t) :=
  .forEach h (fun _ h => by split; exacts [h.putRwl, h])

theorem Keeps.writeEq {used n e} (h : Keeps s t) : Keeps s (writeEq used n e t) :=
  .ite (.when h.wr.wr.wr.wr.wr.wr (·.wr)) h.wr.raise

theorem Keeps.setDelays (h : Keeps s t) : Keeps s (setDelays t) :=
  .forEach h.wr (fun _ h => h.wr)

theorem Keeps.writeEqTable {pair} (h : Keeps s t) : Keeps s (writeEqTable pair t) :=
  .setDelays (.forEach h (fun _ h => h.writeEq))

theorem Keeps.loadTables (h : Keeps s t) : Keeps s (loadTables t) :=
  .storeCorTables (.loadEnv (.storeMap (.forEach h (fun _ h => h.psWrite))))

theorem Keeps.loadSeverities (h : Keeps s t) : Keeps s (loadSeverities t) :=
  .forEach h (fun _ h => .ite h h.wr)

theorem Keeps.loadSafety (h : Keeps s t) : Keeps s (loadSafety t) :=
  .ite h.wr.wr.wr.wr.wr.wr.wr.frame.wr.wr h.wr.wr.wr.wr.wr.wr.wr.wr.raise

theorem Keeps.loadDevice (h : Keeps s t) : Keeps s (loadDevice t) :=
  h.frame.wr.wr.wr.wr.wr

theorem Keeps.lockAfterBind (h : Keeps s t) : Keeps s (lockAfterBind t) :=
  .forEach h (fun _ h => h.setLock)

theorem Keeps.loadBinding {b tips} (h : Keeps s t) : Keeps s (loadBinding b tips t) :=
  h.frame.wr.wr.wr.writeRegInit.writeEqTable.loadTables.loadSeverities.loadSafety.loadDevice.stageTip.commitStopped.lockAfterBind

theorem Keeps.bootStandby (h : Keeps s t) : Keeps s (bootStandby t) :=
  .setFaultN (.setEmber (.when h.frame.wr.wr.setDev.doPadrelWrite.relevel (·.raise)))

theorem Keeps.doBindingLoad {e} (h : Keeps s t) : Keeps s (doBindingLoad e t) :=
  .of (fun hu => .ite (.ite (.autoLightOn (.s1Start (.bootStandby (.loadBinding hu))))
                (.bootStandby (.setLock (.wr (.wr (.raise hu)))))) h) (.forEach h.atTime (fun _ h => h.raise))

/-! ### What the functions of Lanes keep -/

theorem Keeps.modLane {n f} (h : Keeps s t) : Keeps s (modLane n f t) :=
  h.frame

theorem Keeps.setLink {n v} (h : Keeps s t) : Keeps s (setLink n v t) :=
  h.wr.setMapBit

theorem Keeps.setRxst {n v} (h : Keeps s t) : Keeps s (setRxst n v t) :=
  h.wr.setMapBit

theorem Keeps.setTxst {n v} (h : Keeps s t) : Keeps s (setTxst n v t) :=
  h.wr

theorem Keeps.laneCfg {n} (h : Keeps s t) : Keeps s (laneCfg n t) :=
  h.raise

theorem Keeps.sendTsa {n ready felb} (h : Keeps s t) : Keeps s (sendTsa n ready felb t) :=
  h.send

theorem Keeps.startAttempt {n k} (h : Keeps s t) : Keeps s (startAttempt n k t) :=
  .sendTsa (.setLink (.wrapInc (.when h.modLane.wr.wr.setTxst (·.setRxst))))

theorem Keeps.doTlkTrainWrite {n} (h : Keeps s t) : Keeps s (doTlkTrainWrite n t) :=
  .ite h (.ite h.laneCfg h.startAttempt)

theorem Keeps.endTraining {n v} (h : Keeps s t) : Keeps s (endTraining n v t) :=
  h.modLane.setLink

theorem Keeps.trainDone {n status} (h : Keeps s t) : Keeps s (trainDone n status t) := by
  unfold Machine.trainDone
  exact h.finishKind

theorem Keeps.partnerUp {n} (h : Keeps s t) : Keeps s (partnerUp n t) :=
  .ite h.frame.wr h.frame.wr.frame

theorem Keeps.trained {n} (h : Keeps s t) : Keeps s (trained n t) :=
  .trainDone (.when h.endTraining.setTxst.fire (·.partnerUp))

theorem Keeps.tsbTraining {n b tr} (h : Keeps s t) : Keeps s (tsbTraining n b tr t) :=
  .ite h.wr.wr.wr.endTraining.raise.trainDone
    (.ite h.wr.wr.wr.trained (.ite h.wr.wr.wr.modLane (.ite h.wr.wr.wr.modLane.sendTsa h.wr.wr.wr.modLane)))

theorem Keeps.doTsbReceive {n set err} (h : Keeps s t) : Keeps s (doTsbReceive n set err t) := by
  refine .ite h ?_
  dsimp only; split
  · exact .ite h (.ite h.tsbTraining h.modLane)
  · exact .ite h.modLane.wr h

theorem Keeps.doTrainAttemptTimeout {n} (h : Keeps s t) : Keeps s (doTrainAttemptTimeout n t) := by
  unfold Machine.doTrainAttemptTimeout
  split
  · exact .ite h (.ite h.modLane h.endTraining.raise.trainDone)
  · exact h

theorem Keeps.doTrainIdleEnd {n} (h : Keeps s t) : Keeps s (doTrainIdleEnd n t) := by
  unfold Machine.doTrainIdleEnd
  split
  · exact .ite h.startAttempt h
  · exact h

theorem Keeps.doRxSyncAcquire {n} (h : Keeps s t) : Keeps s (doRxSyncAcquire n t) :=
  .ite h.setRxst.wr h

theorem Keeps.doLaneRxLoss {n} (h : Keeps s t) : Keeps s (doLaneRxLoss n t) :=
  .ite (.when (.when (.when h.setRxst (·.wr)) (·.wr)) (·.satInc.raise)) h

theorem Keeps.laneErrs {n cv disp} (h : Keeps s t) : Keeps s (laneErrs n cv disp t) :=
  .when h.satInc.satInc (·.raise)

theorem Keeps.doLaneErrSecond {counts} (h : Keeps s t) : Keeps s (doLaneErrSecond counts t) :=
  .ite (.forEach h (fun _ h => h.laneErrs)) h

theorem Keeps.doSlipWrite {n} (h : Keeps s t) : Keeps s (doSlipWrite n t) :=
  .ite h.modLane h

theorem Keeps.settleDirs {n} (h : Keeps s t) : Keeps s (settleDirs n t) :=
  .ite h.setTxst.setRxst h.setTxst.setRxst

theorem Keeps.doTxOnWrite {n on} (h : Keeps s t) : Keeps s (doTxOnWrite n on t) :=
  .ite h (.ite (.when h (·.laneCfg)) (.ite (.when h.wr (·.setTxst)) h.wr.endTraining.setTxst))

theorem Keeps.doRxOnWrite {n on} (h : Keeps s t) : Keeps s (doRxOnWrite n on t) :=
  .ite h (.ite (.when h (·.laneCfg)) (.ite (.when h.wr (·.setRxst)) h.wr.setRxst.wr))

theorem Keeps.setLoopback {n lb} (h : Keeps s t) : Keeps s (setLoopback n lb t) :=
  .when (.settleDirs (.when h.wr (·.modLane.wr.setLink))) (·.modLane.sendTsa)

theorem Keeps.doLoopbackWrite {n lb} (h : Keeps s t) : Keeps s (doLoopbackWrite n lb t) :=
  .ite h (.ite h.laneCfg h.setLoopback)

theorem Keeps.doPrbsWrite {n pat} (h : Keeps s t) : Keeps s (doPrbsWrite n pat t) :=
  .ite h (.ite h.laneCfg (.ite h h.wr.settleDirs))

theorem Keeps.doLaneTestEnd {n} (h : Keeps s t) : Keeps s (doLaneTestEnd n t) :=
  .ite h.setLoopback.wr.settleDirs.finishKind h

theorem Keeps.doLanePllLock (h : Keeps s t) : Keeps s (doLanePllLock t) :=
  .ite h.wr h

theorem Keeps.pllDown (h : Keeps s t) : Keeps s (pllDown t) :=
  .forEach h.wr.wr (fun _ h => .trainDone (.when h.endTraining (·.setRxst)))

theorem Keeps.doLanePllLoss {e} (h : Keeps s t) : Keeps s (doLanePllLoss e t) :=
  .ite h.atTime.pllDown.faultReact h

theorem Keeps.doRefStop (h : Keeps s t) : Keeps s (doRefStop t) :=
  .ite (.when h.frame.wr.raise (·.pllDown.raise)) h

/-! ### What the functions of Tile keep -/

theorem Keeps.setTile {n t'} (h : Keeps s t) : Keeps s (setTile n t' t) :=
  h.frame

theorem Keeps.sendUp {n type payload} (h : Keeps s t) : Keeps s (sendUp n type payload t) :=
  h.send

theorem Keeps.tileSensors (h : Keeps s t) : Keeps s (tileSensors t).2 :=
  h.frame.frame.frame

theorem Keeps.sendFtel {n ev} (h : Keeps s t) : Keeps s (sendFtel n ev t) :=
  .sendUp (.setTile (.iteSnd h.tileSensors.frame h.tileSensors))

theorem Keeps.tileEvent {n kind f timing} (h : Keeps s t) : Keeps s (tileEvent n kind f timing t) :=
  h.setTile.sendFtel.setTile

theorem Keeps.bsetArrives {n port k b either f} (h : Keeps s t) (hf : ∀ {u} x0, Keeps s u → Keeps s (f x0 u)) :
    Keeps s (bsetArrives n port k b either f t) :=
  .ite h (.ite h (.ite (.ite h.setTile h) (hf _ h.setTile)))

theorem Keeps.doFlip {n port b} (h : Keeps s t) : Keeps s (doFlip n port b t) :=
  .bsetArrives h (fun _ h => h.tileEvent)

theorem Keeps.doSeam {n port b} (h : Keeps s t) : Keeps s (doSeam n port b t) :=
  .bsetArrives h (fun _ h => h.tileEvent)

theorem Keeps.doAbort {n port b} (h : Keeps s t) : Keeps s (doAbort n port b t) :=
  .bsetArrives h (fun _ h => h.tileEvent)

theorem Keeps.doSnap {n port b} (h : Keeps s t) : Keeps s (doSnap n port b t) :=
  .bsetArrives h (fun _ h => h.tileSensors.sendUp)

theorem Keeps.doPlate {n port b} (h : Keeps s t) : Keeps s (doPlate n port b t) :=
  .bsetArrives h (fun _ h => h.setTile)

theorem Keeps.doCoast {n port b} (h : Keeps s t) : Keeps s (doCoast n port b t) :=
  .bsetArrives h (fun _ h => h.setTile)

theorem Keeps.doSwitch {n port b} (h : Keeps s t) : Keeps s (doSwitch n port b t) :=
  .bsetArrives h (fun _ h => .ite h.setTile h)

theorem Keeps.sendLstat {n p ok xmis other} (h : Keeps s t) : Keeps s (sendLstat n p ok xmis other t) :=
  h.sendUp

theorem Keeps.doTileLinePacket {n port p} (h : Keeps s t) : Keeps s (doTileLinePacket n port p t) := by
  refine .ite h (.ite h (.ite (.ite h.setTile.sendLstat ?_) (.ite h.setTile.sendLstat h.setTile.sendLstat)))
  dsimp only; split
  · exact h.setTile.sendLstat
  · exact h.setTile.sendLstat

theorem Keeps.csetArrives {n port opc c f} (h : Keeps s t) : Keeps s (csetArrives n port opc c f t) :=
  .ite h (.ite h.setTile h.setTile.sendUp)

theorem Keeps.doCfg {n port c} (h : Keeps s t) : Keeps s (doCfg n port c t) :=
  h.csetArrives

theorem Keeps.doWipe {n port c} (h : Keeps s t) : Keeps s (doWipe n port c t) :=
  h.csetArrives

theorem Keeps.doResume {n port c} (h : Keeps s t) : Keeps s (doResume n port c t) :=
  h.csetArrives

theorem Keeps.doSelwr {n port c} (h : Keeps s t) : Keeps s (doSelwr n port c t) :=
  h.csetArrives

theorem Keeps.doProbes {n port c} (h : Keeps s t) : Keeps s (doProbes n port c t) :=
  h.csetArrives

theorem Keeps.doDarkrow {n port c} (h : Keeps s t) : Keeps s (doDarkrow n port c t) :=
  h.csetArrives

theorem Keeps.doRefsel {n port c} (h : Keeps s t) : Keeps s (doRefsel n port c t) :=
  h.csetArrives

theorem Keeps.doPlatecap {n port c} (h : Keeps s t) : Keeps s (doPlatecap n port c t) :=
  h.csetArrives

theorem Keeps.doTilePhaseBoundary {n meas} (h : Keeps s t) : Keeps s (doTilePhaseBoundary n meas t) :=
  .ite h h.setTile

theorem Keeps.doTilePowerUp {n} (h : Keeps s t) : Keeps s (doTilePowerUp n t) :=
  .ite h.setTile h

theorem Keeps.tileOwn {n f} (h : Keeps s t) : Keeps s (tileOwn n f t) :=
  .ite h.setTile h

theorem Keeps.doTileCoastExpiry {n} (h : Keeps s t) : Keeps s (doTileCoastExpiry n t) :=
  h.tileOwn

theorem Keeps.doTileNobcastTimeout {n} (h : Keeps s t) : Keeps s (doTileNobcastTimeout n t) :=
  h.tileOwn

theorem Keeps.doTileSyncLoss {n} (h : Keeps s t) : Keeps s (doTileSyncLoss n t) :=
  h.tileOwn

theorem Keeps.doTilePortAutoSwitch {n} (h : Keeps s t) : Keeps s (doTilePortAutoSwitch n t) :=
  h.tileOwn

theorem Keeps.doTileSupplyLoss {n} (h : Keeps s t) : Keeps s (doTileSupplyLoss n t) :=
  h.tileOwn

theorem Keeps.doTilePlateCheck {n} (h : Keeps s t) : Keeps s (doTilePlateCheck n t) :=
  h.tileOwn

theorem Keeps.doTileFreeFtel {n} (h : Keeps s t) : Keeps s (doTileFreeFtel n t) :=
  .ite h.sendFtel h

theorem Keeps.supplyUp (h : Keeps s t) : Keeps s (supplyUp t) :=
  .forEach h (fun _ h => .ite h.setTile h)

theorem Keeps.setFar {n f} (h : Keeps s t) : Keeps s (setFar n f t) :=
  .ite h.setTile h.frame

theorem Keeps.sendTsb {n lane port ready felb} (h : Keeps s t) : Keeps s (sendTsb n lane port ready felb t) :=
  h.send

theorem Keeps.farUp {n} (h : Keeps s t) : Keeps s (farUp n t) :=
  .ite h.setRxst.setTxst.setLink.partnerUp h

theorem Keeps.doTsaReceive {n set err} (h : Keeps s t) : Keeps s (doTsaReceive n set err t) :=
  .ite h (.ite h (.ite (.sendTsb (.setFar (.ite h.setTile h)))
      (.ite (.ite (.farUp (.sendTsb (.setFar (.ite h.setTile h)))) (.ite h.setTile h))
         (.sendTsb (.setFar (.ite h.setTile h))))))

theorem Keeps.doTileLoopbackExit {n} (h : Keeps s t) : Keeps s (doTileLoopbackExit n t) :=
  .ite h.setTile h

/-! ### What the functions of Tpr keep -/

theorem Keeps.sendLine {l n} (h : Keeps s t) : Keeps s (sendLine l n t) :=
  h.send

theorem Keeps.keepSig {n} (h : Keeps s t) : Keeps s (keepSig n t) := by
  unfold Machine.keepSig
  exact h.modTpr

theorem Keeps.sendLines {l} (h : Keeps s t) : Keeps s (sendLines l t) :=
  .of (fun hu => .ite (.when (.forEach hu (fun _ h => h.sendLine)) (fun h => .forEach h (fun _ h => h.keepSig))) hu)
    (.ite (.forEach h (fun _ h => h.modTpr)) h)

theorem Keeps.sendSet {n c} (h : Keeps s t) : Keeps s (sendSet n c t) :=
  h.send.modTpr

theorem Keeps.resendDue {n} (h : Keeps s t) : Keeps s (resendDue n t) :=
  .forEach h.modTpr (fun _ h => h.send)

theorem Keeps.placeSet {room q p} (h : Keeps s p.2) : Keeps s (placeSet room q p).2 := by
  unfold Machine.placeSet
  dsimp only
  split
  · exact .forEach h (fun _ h => h.sendSet)
  · exact h

theorem Keeps.sendTcmds {l} (h : Keeps s t) : Keeps s (sendTcmds l t) :=
  .forEach h.frame (fun _ h => .forEach h (fun _ h => h.sendSet))

theorem Keeps.drainSets {l used} (h : Keeps s t) : Keeps s (drainSets l used t) :=
  .ite h (.ite (.setCmdqLevel (.frame (.foldl (g := Prod.snd) (.sendTcmds (.forEach h (fun _ h => h.resendDue)))
    (fun _ h => h.placeSet)))) h)

theorem Keeps.tileNak {n} (h : Keeps s t) : Keeps s (tileNak n t) :=
  h.satInc.raise

theorem Keeps.doAckTimeout {n} (h : Keeps s t) : Keeps s (doAckTimeout n t) := by
  unfold Machine.doAckTimeout
  split
  · exact h
  · exact .ite h.modTpr (.ite h.modTpr.tileNak h.modTpr)

theorem Keeps.doAck {n pkt} (h : Keeps s t) : Keeps s (doAck n pkt t) := by
  refine .ite h ?_
  dsimp only; split
  · exact h
  · exact .when h.modTpr (·.tileNak)

theorem Keeps.bcastWrite {op all lane cause} (h : Keeps s t) : Keeps s (bcastWrite op all lane cause t) :=
  .ite h (.ite h.demand (.ite h.demand h))

theorem Keeps.doBcastPlate {all lane cause} (h : Keeps s t) : Keeps s (doBcastPlate all lane cause t) :=
  h.bcastWrite

theorem Keeps.doBcastCoast {all lane cause} (h : Keeps s t) : Keeps s (doBcastCoast all lane cause t) :=
  h.bcastWrite

theorem Keeps.doBcastWipe {all lane cause} (h : Keeps s t) : Keeps s (doBcastWipe all lane cause t) :=
  h.bcastWrite

theorem Keeps.noteSet {opc payload n} (h : Keeps s t) : Keeps s (noteSet opc payload n t) :=
  .ite h.modTpr (.ite h.modTpr h)

theorem Keeps.doCmdqPush {all lane opc len} (h : Keeps s t) : Keeps s (doCmdqPush all lane opc len t) :=
  .ite h (.ite h.wr.wr.wr.wr (.forEach h.wr.wr.wr.wr.pushLanes (fun _ h => h.noteSet)))

theorem Keeps.doSnapReq {id} (h : Keeps s t) : Keeps s (doSnapReq id t) :=
  .ite h.wr.wr h

theorem Keeps.sendSnap (h : Keeps s t) : Keeps s (sendSnap t) :=
  .ite (.sendBcast (.forEach h.wr.wr (fun _ h => h.modTpr))) h

theorem Keeps.doSnapr {n pkt} (h : Keeps s t) : Keeps s (doSnapr n pkt t) :=
  .ite (.when h.modTpr (·.wr)) h

theorem Keeps.doDarkrowGo {lane phase row} (h : Keeps s t) : Keeps s (doDarkrowGo lane phase row t) :=
  .ite h (.ite h.wr.wr.wr.wr.wr h.wr.wr.wr.wr.frame.sendSet.wr)

theorem Keeps.doInservWrite {n on} (h : Keeps s t) : Keeps s (doInservWrite n on t) :=
  .ite h (.ite (.ite h h.wr.wr.modTpr.updFdark) h.leaveService)

theorem Keeps.resumeNow {n} (h : Keeps s t) : Keeps s (resumeNow n t) :=
  h.frame.sendTcmd.sendSet

theorem Keeps.autoResume {n} (h : Keeps s t) : Keeps s (autoResume n t) :=
  .ite (.ite h.modTpr.raise h.modTpr.satInc.resumeNow) (.ite h.modTpr.resumeNow h)

theorem Keeps.setPort {n b} (h : Keeps s t) : Keeps s (setPort n b t) :=
  .when h.wr (·.setMapBit)

theorem Keeps.doLstat {n pkt} (h : Keeps s t) : Keeps s (doLstat n pkt t) :=
  .of (fun hu => .ite h (.ite (.autoResume hu) hu)) (.modTpr (.ite h.setPort.frame h.setPort))

/-! ### What the functions of Zones keep -/

theorem Keeps.setQ {x y q} (h : Keeps s t) : Keeps s (setQ x y q t) :=
  h.frame

theorem Keeps.zneMemErr (h : Keeps s t) : Keeps s (zneMemErr t) :=
  h.wr.satInc

theorem Keeps.znePixel {l x y} (h : Keeps s t) : Keeps s (znePixel l x y t).2 := by
  unfold Machine.znePixel
  dsimp only
  split
  · exact h
  · exact .setQ (.when h (·.zneMemErr))

theorem Keeps.zneTables (h : Keeps s t) : Keeps s (zneTables t) :=
  .ite h.frame.zneMemErr.raise h

theorem Keeps.setZoneMaps (h : Keeps s t) : Keeps s (setZoneMaps t) :=
  h.wr.wr.wr.wr.wr.wr.wr.wr

theorem Keeps.setZview (h : Keeps s t) : Keeps s (setZview t) := by
  unfold Machine.setZview
  split
  · exact h.wri.wri.wri.wr
  · exact h.wr.wr.wr.wr

theorem Keeps.mirrorZones (h : Keeps s t) : Keeps s (mirrorZones t) :=
  h.psWrite

theorem Keeps.fenderTap {zid tobs} (h : Keeps s t) : Keeps s (fenderTap zid tobs t) :=
  h.frame

theorem Keeps.acceptDesc {d} (h : Keeps s t) : Keeps s (acceptDesc d t) :=
  .ite h.satInc.raise (.ite (.frame (.when h (·.fenderTap))) (.frame (.when h (·.fenderTap))))

theorem Keeps.setLat (h : Keeps s t) : Keeps s (setLat t) := by
  unfold Machine.setLat
  split
  · exact h.frame.wr.wr
  · exact h

theorem Keeps.setRate (h : Keeps s t) : Keeps s (setRate t) :=
  .when h.frame (·.satInc.wr.raise)

theorem Keeps.publish {ds line} (h : Keeps s t) : Keeps s (publish ds line t) :=
  .setRate
    (.setLat (.mirrorZones (.setZview (.setZoneMaps (.wrapInc (.frame (.forEach h (fun _ h => h.acceptDesc))))))))

theorem Keeps.doZnePublish {v t'} (h : Keeps s t) : Keeps s (doZnePublish v t' t) :=
  .ite h (.ite h.atTime h.atTime.publish)

theorem Keeps.pitchAccept {b} (h : Keeps s t) : Keeps s (pitchAccept b t) :=
  .ite h.satInc h.frame.wr.wri.wri

theorem Keeps.doLevelStaleTimer {t'} (h : Keeps s t) : Keeps s (doLevelStaleTimer t' t) :=
  .ite h.atTime.frame.wr.raise h.atTime

theorem Keeps.markStale {f} (h : Keeps s t) : Keeps s (markStale f t) :=
  .forEach h (fun _ h => .ite h.frame.raise h)

theorem Keeps.zneStart (h : Keeps s t) : Keeps s (zneStart t) :=
  h.markStale.frame.setZoneMaps.setZview.wr.wri.wri.wri

/-! ### What the functions of Gather keep -/

theorem Keeps.setStream {n q} (h : Keeps s t) : Keeps s (setStream n q t) :=
  h.frame

theorem Keeps.setWriting {n w} (h : Keeps s t) : Keeps s (setWriting n w t) :=
  h.setStream

theorem Keeps.macsecDrop {p} (h : Keeps s t) : Keeps s (macsecDrop p t) :=
  h.satInc

theorem Keeps.discard {n w} (h : Keeps s t) : Keeps s (discard n w t) :=
  .setWriting (.when h (·.satInc))

theorem Keeps.beginFrame {n p} (h : Keeps s t) : Keeps s (beginFrame n p t) :=
  .ite (.discard (by split; exacts [.when h (·.satInc), h])) (.setWriting (by split; exacts [.when h (·.satInc), h]))

theorem Keeps.storeRow {n w p} (h : Keeps s t) : Keeps s (storeRow n w p t) :=
  .ite h h.psWrite.setWriting

theorem Keeps.completeFrame {n w} (h : Keeps s t) : Keeps s (completeFrame n w t) :=
  .setStream (.when (.when h (·.satInc)) (·.satInc))

theorem Keeps.takePacket {n p} (h : Keeps s t) : Keeps s (takePacket n p t) :=
  .of (fun hu => .ite h.discard (by split; exacts [.ite hu.completeFrame hu, hu])) h.setWriting.storeRow

theorem Keeps.doAvtpPacket {port t' p} (h : Keeps s t) : Keeps s (doAvtpPacket port t' p t) :=
  .ite h.atTime (.ite h.atTime.macsecDrop
     (.ite h.atTime.satInc (by split; exacts [h.atTime, .takePacket (.when h.atTime (·.beginFrame))])))

theorem Keeps.setBaseAge (h : Keeps s t) : Keeps s (setBaseAge t) :=
  h.wr

theorem Keeps.setSel (h : Keeps s t) : Keeps s (setSel t) :=
  h.wr.wr.wr.wr.wr.setBaseAge

theorem Keeps.newSource {q} (h : Keeps s t) : Keeps s (newSource q t) :=
  h.frame

theorem Keeps.markDiverge {n} (h : Keeps s t) : Keeps s (markDiverge n t) :=
  .ite h (.ite h.wr.frame.satInc h.wr)

theorem Keeps.markMissed {n} (h : Keeps s t) : Keeps s (markMissed n t) := by
  unfold Machine.markMissed
  split
  · exact .ite h.setWriting h
  · exact h

theorem Keeps.dropWaiting (h : Keeps s t) : Keeps s (dropWaiting t) :=
  .forEach h (fun _ h => h.setStream)

theorem Keeps.selectBase (h : Keeps s t) : Keeps s (selectBase t) := by
  refine .setSel (.frame (.ite (.ite h h.dropWaiting.newSource) ?_))
  dsimp only; split
  · exact .newSource (.setStream (.markMissed (.markDiverge (.ite h.newSource h))))
  · exact .markMissed (.markDiverge (.ite h.newSource h))

theorem Keeps.doBaseStaleTimer {t'} (h : Keeps s t) : Keeps s (doBaseStaleTimer t' t) :=
  .of (fun hu => .ite h.atTime (.ite (.raise (.frame hu)) hu))
    (.ite h.atTime.setBaseAge.frame.raise h.atTime.setBaseAge)

theorem Keeps.setTileview (h : Keeps s t) : Keeps s (setTileview t) :=
  h.wr.wr

theorem Keeps.governors (h : Keeps s t) : Keeps s (governors t) :=
  .wr (.frame (.ite (.when h.wr (·.satInc)) (.wr (.frame (.when h.wr (·.satInc))))))

theorem Keeps.takeTemps (h : Keeps s t) : Keeps s (takeTemps t) :=
  h.frame.wr

theorem Keeps.engineEcc {e w} (h : Keeps s t) : Keeps s (engineEcc e w t) :=
  h.wr.satInc.raise

theorem Keeps.paramSeen (h : Keeps s t) : Keeps s (paramSeen t) :=
  .of (fun hu => .ite hu (.raise (.frame hu))) (.forEach h (fun _ h => h.engineEcc.engineEcc))

theorem Keeps.lineEcc {east l} (h : Keeps s t) : Keeps s (lineEcc east l t) :=
  .ite h (.forEach h (fun _ h => h.engineEcc))

theorem Keeps.renderPixel {lane l x y p} (h : Keeps s t) : Keeps s (renderPixel lane l x y p t) :=
  h.znePixel.frame

theorem Keeps.renderLine {east l} (h : Keeps s t) : Keeps s (renderLine east l t) :=
  .forEach h.zneTables.lineEcc (fun _ h => .forEach h (fun _ h => h.renderPixel))

theorem Keeps.payOne {np b p} (h : Keeps s p.2) : Keeps s (payOne np b p).2 :=
  h.frame

theorem Keeps.payback {lane px code} (h : Keeps s t) : Keeps s (payback lane px code t).2 :=
  .iteSnd h (.iteSnd h.frame.satInc (.foldl (g := Prod.snd) h (fun _ h => h.payOne)))

theorem Keeps.clipBudget {lane} (h : Keeps s t) : Keeps s (clipBudget lane t) :=
  .ite h.satInc h.satInc.frame.raise

/-- The choice between two pairs as a function that nothing is known of but that it keeps what both of them keep. -/
theorem exists_choice_keeps (s : State) : ∃ choose : (c : Prop) → [Decidable c] → Nat × State → Nat × State → Nat × State,
    choose = @ite (Nat × State) ∧
      ∀ (c : Prop) [Decidable c] {p q : Nat × State}, Keeps s p.2 → Keeps s q.2 → Keeps s (choose c p q).2 :=
  ⟨_, rfl, fun _ _ _ _ hp hq => .iteSnd hp hq⟩

/-- The kernel must not decide the two comparisons, whose sides are products of large numerals: the choice stays abstract. -/
theorem Keeps.gateSlip {lane x y code} (h : Keeps s t) : Keeps s (gateSlip lane x y code t).2 := by
  have hdef : Machine.gateSlip = Machine.gateSlip := rfl
  conv_rhs at hdef => delta Machine.gateSlip
  obtain ⟨choose, hch, hkeep⟩ := exists_choice_keeps s
  rw [hdef, ← hch]
  exact .frame (hkeep _ (.clipBudget (hkeep _ h.clipBudget h)) (hkeep _ h.clipBudget h))

theorem Keeps.gateLit {code} (h : Keeps s t) : Keeps s (gateLit code t).2 := by
  unfold Machine.gateLit
  dsimp only
  split
  · exact h.satInc
  · exact h

theorem Keeps.lastGate {lane x y code} (h : Keeps s t) : Keeps s (lastGate lane x y code t).2 := by
  unfold Machine.lastGate
  dsimp only
  split
  · exact h.gateSlip
  · exact h.gateLit

theorem Keeps.emitPixel {lane l x y p acc} (h : Keeps s acc.2) : Keeps s (emitPixel lane l x y p acc).2 := by
  unfold Machine.emitPixel
  exact h.corPixel.payback.lastGate

theorem Keeps.emitRow {l lane} (h : Keeps s t) : Keeps s (emitRow l lane t) := by
  unfold Machine.emitRow
  split
  · exact h
  · rename_i c r _
    have hp : Keeps s
      ((List.range 128).foldl (fun acc p => Machine.emitPixel lane l (128 * c + p) (128 * r + l) p acc)
      (([], t) : List Nat × State)).2 := .foldl (g := Prod.snd) h (fun _ h => h.emitPixel)
    generalize (List.range 128).foldl _ _ = p at hp ⊢
    exact hp.frame

theorem Keeps.keepSum {lane} (h : Keeps s t) : Keeps s (keepSum lane t) := by
  unfold Machine.keepSum
  exact h.modTpr

theorem Keeps.emitLine {l} (h : Keeps s t) : Keeps s (emitLine l t) :=
  .of (fun hu => .ite (.wr (.forEach hu (fun _ h => h.keepSum))) hu) (.frame (.forEach h (fun _ h => h.emitRow)))

theorem Keeps.emitReady (h : Keeps s t) : Keeps s (emitReady t) :=
  .forEach h (fun _ h => h.emitLine)

theorem Keeps.lineDone {east l clocks backlog} (h : Keeps s t) : Keeps s (lineDone east l clocks backlog t) :=
  .ite h.frame.wr.wr.wr.wr h.frame.wr

theorem Keeps.doTileLineRender {east line clocks backlog} (h : Keeps s t) :
    Keeps s (doTileLineRender east line clocks backlog t) :=
  .ite h.renderLine.lineDone.emitReady h

theorem Keeps.withdrawContent (h : Keeps s t) : Keeps s (withdrawContent t) :=
  .ite (.ite h h.frame.satInc) (.ite h h.frame.satInc)

theorem Keeps.doRenderDeadlineMiss {east line} (h : Keeps s t) : Keeps s (doRenderDeadlineMiss east line t) :=
  .ite h.wr.raise.withdrawContent h

/-! ### What the functions of Fender keep -/

theorem Keeps.setDpAge (h : Keeps s t) : Keeps s (setDpAge t) :=
  h.wr

theorem Keeps.acceptCopy {d} (h : Keeps s t) : Keeps s (acceptCopy d t) :=
  .ite h.frame (.ite h.frame h.frame)

theorem Keeps.clearCopies {p} (h : Keeps s t) : Keeps s (clearCopies p t) :=
  .forEach h (fun _ h => .ite h.acceptCopy h)

theorem Keeps.doFenderIngress {t'} (h : Keeps s t) : Keeps s (doFenderIngress t' t) := by
  unfold Machine.doFenderIngress
  dsimp only
  split
  · exact h.atTime
  · exact .of (fun hu => .ite hu (.ite (.ite hu.clearCopies hu) (.ite hu.acceptCopy hu))) h.atTime.frame

theorem Keeps.doFenderZoneApply {zid t'} (h : Keeps s t) : Keeps s (doFenderZoneApply zid t' t) :=
  h.atTime.frame

theorem Keeps.applyCopy {d} (h : Keeps s t) : Keeps s (applyCopy d t) :=
  h.frame

theorem Keeps.fenderStart (h : Keeps s t) : Keeps s (fenderStart t) :=
  .wr (.wr (.frame (.forEach h (fun _ h => h.applyCopy))))

theorem Keeps.judgeZone {z} (h : Keeps s t) : Keeps s (judgeZone z t) := by
  unfold Machine.judgeZone
  dsimp only
  split
  · exact h.wr.wr.wr.raise
  · exact h

theorem Keeps.tpFails {src t' cell} (h : Keeps s t) : Keeps s (tpFails src t' cell t) :=
  h.wr.wr.wr.raise

theorem Keeps.setTpLow {t' v} (h : Keeps s t) : Keeps s (setTpLow t' v t) :=
  h.frame

theorem Keeps.judgeMin {t' cell mn sum} (h : Keeps s t) : Keeps s (judgeMin t' cell mn sum t) :=
  .ite h.setTpLow (.ite h (.ite h.setTpLow (.ite h.tpFails.setTpLow h.setTpLow)))

theorem Keeps.judgePoint {t'} (h : Keeps s t) : Keeps s (judgePoint t' t) :=
  .judgeMin (.when h (·.tpFails))

theorem Keeps.verdict (h : Keeps s t) : Keeps s (verdict t) :=
  .wr (.frame (.when (.forEach (.forEach h (fun _ h => h.judgeZone)) (fun _ h => h.judgePoint)) (·.raise)))

theorem Keeps.doFenderVerdict {t'} (h : Keeps s t) : Keeps s (doFenderVerdict t' t) :=
  .ite h.atTime.verdict h.atTime

theorem Keeps.doFenderHeartbeat {t'} (h : Keeps s t) : Keeps s (doFenderHeartbeat t' t) :=
  .ite h.atTime.frame.setDpAge h.atTime

theorem Keeps.doFenderLostTimer (h : Keeps s t) : Keeps s (doFenderLostTimer t) :=
  .when h (·.raise)

theorem Keeps.doFenderClkCheck {byFender} (h : Keeps s t) : Keeps s (doFenderClkCheck byFender t) :=
  .when h (·.raise)

theorem Keeps.doEmberEdge (h : Keeps s t) : Keeps s (doEmberEdge t) :=
  .ite h.setEmber.frame h.setEmber

theorem Keeps.placeTest {lane k fails} (h : Keeps s t) : Keeps s (placeTest lane k fails t) :=
  h.frame

theorem Keeps.doDarkPathTimer (h : Keeps s t) : Keeps s (doDarkPathTimer t) :=
  .ite (by split; exacts [h.placeTest, h]) h

theorem Keeps.darkSlot {flip} (h : Keeps s t) : Keeps s (darkSlot flip t) := by
  unfold Machine.darkSlot
  split
  · exact .ite (.ite h.frame h.frame) h
  · exact h

theorem Keeps.darkJudge {lane ack drop} (h : Keeps s t) : Keeps s (darkJudge lane ack drop t) := by
  unfold Machine.darkJudge
  split
  · exact .ite h (.ite h.wr.wr.wr.wr.wr.wr.frame.setDpAge.testDone
       (.ite h.wr.wr.wr.wr.wr.wr.frame.raise.testDone h.wr.wr.wr.wr.wr.wr.placeTest))
  · exact h

theorem Keeps.doTgenTestTimer (h : Keeps s t) : Keeps s (doTgenTestTimer t) :=
  .ite (by split; exacts [h.frame, h]) h

theorem Keeps.tgenResult {g pass} (h : Keeps s t) : Keeps s (tgenResult g pass t) :=
  .testDone (.when h.wr (·.wr))

theorem Keeps.doTgenPulseEnd {lowOk highOk} (h : Keeps s t) : Keeps s (doTgenPulseEnd lowOk highOk t) := by
  unfold Machine.doTgenPulseEnd
  split
  · exact h
  · exact .when (.ite h.frame.tgenResult.raise (.ite h.frame.tgenResult.raise h.frame.tgenResult)) (·.doTgenTestTimer)

theorem Keeps.verifyAge (h : Keeps s t) : Keeps s (verifyAge t) :=
  .ite (.ite h h.frame.raise) h.frame

/-! ### What the functions of Diag keep -/

theorem Keeps.setThresh (h : Keeps s t) : Keeps s (setThresh t) :=
  h.wr.wr

theorem Keeps.openBalance {n e} (h : Keeps s t) : Keeps s (openBalance n e t) :=
  .ite h.frame h

theorem Keeps.sendProbes {n es} (h : Keeps s t) : Keeps s (sendProbes n es t) :=
  .ite h (.forEach h.frame.sendSet (fun _ h => h.openBalance))

theorem Keeps.sendLists {l} (h : Keeps s t) : Keeps s (sendLists l t).2 :=
  .iteSnd h (.foldl (g := Prod.snd) h (fun _ h => h.sendProbes.sendProbes))

theorem Keeps.settleBalance {q abort b} (h : Keeps s t) : Keeps s (settleBalance q abort b t) :=
  .ite h (.ite (.when h.frame (·.satInc)) h.frame)

theorem Keeps.settleBalances {q abort} (h : Keeps s t) : Keeps s (settleBalances q abort t) :=
  .forEach h (fun _ h => h.settleBalance)

theorem Keeps.dropBalance {n px sq} (h : Keeps s t) : Keeps s (dropBalance n px sq t) :=
  h.frame

theorem Keeps.ageEcc {i} (h : Keeps s t) : Keeps s (ageEcc i t) :=
  .ite h.frame.wr.satInc.raise h

theorem Keeps.setAge {i v} (h : Keeps s t) : Keeps s (setAge i v t) :=
  h.frame

theorem Keeps.ageUpdate {p} (h : Keeps s t) : Keeps s (ageUpdate p t) := by
  unfold Machine.ageUpdate
  dsimp only
  split
  · exact .wr (.wr (.wr (.forEach h (fun _ h => h.ageEcc.setAge))))
  · exact .wr (.wr (.wr (.forEach h (fun _ h => h.ageEcc.setAge))))

theorem Keeps.judgeMark {i em c emission} (h : Keeps s t) : Keeps s (judgeMark i em c emission t).2 := by
  unfold Machine.judgeMark
  refine .iteSnd h ?_
  split
  · exact .iteSnd h (.iteSnd h.frame (.iteSnd h.frame h.frame))
  · exact .iteSnd h h.frame

theorem Keeps.setClassq (h : Keeps s t) : Keeps s (setClassq t) :=
  h.wr.wr.wr.wr.wr

theorem Keeps.pushClass {w} (h : Keeps s t) : Keeps s (pushClass w t) :=
  .ite h.satInc h.frame.setClassq

theorem Keeps.glowCut {n px} (h : Keeps s t) : Keeps s (glowCut n px t) :=
  .ite h.demand.tgenForce h

theorem Keeps.confirmed {n px q} (h : Keeps s t) : Keeps s (confirmed n px q t) :=
  .when h.pushClass.satInc.raiseExt.fire (·.glowCut)

theorem Keeps.reword {i l} (h : Keeps s t) : Keeps s (reword i l t) :=
  .ite h h.ownUpd

theorem Keeps.confirmAll {n px l} (h : Keeps s t) : Keeps s (confirmAll n px l t) :=
  .reword (.forEach h (fun _ h => h.confirmed))

theorem Keeps.takeResult {n sq w} (h : Keeps s t) : Keeps s (takeResult n sq w t) :=
  .ite h.satInc.dropBalance (.ite h (.confirmAll (.foldl (g := Prod.snd)
    (.when (.when h.ageEcc (·.dropBalance)) (·.setAge)) (fun _ h => h.judgeMark))))

theorem Keeps.doClassqRead (h : Keeps s t) : Keeps s (doClassqRead t) :=
  .ite h.frame.setClassq h

theorem Keeps.freezeFails {n source} (h : Keeps s t) : Keeps s (freezeFails n source t) :=
  h.raise.demand

theorem Keeps.freezeCheck {n sq sig ev} (h : Keeps s t) : Keeps s (freezeCheck n sq sig ev t) :=
  .ite h (.ite h.modTpr.freezeFails (.ite h.modTpr.freezeFails h.modTpr))

theorem Keeps.ownEntry {n st cause} (h : Keeps s t) : Keeps s (ownEntry n st cause t) :=
  .ite h.modTpr.raise (.ite h.raise (.ite h.raise (.ite h.raise h)))

theorem Keeps.reportState {n st cause} (h : Keeps s t) : Keeps s (reportState n st cause t) :=
  .ite (.when h.setTileState (·.wr)) (.when (.modTpr (.when h.setTileState (·.wr))) (·.ownEntry))

theorem Keeps.reportPlate {n valid crc} (h : Keeps s t) : Keeps s (reportPlate n valid crc t) := by
  unfold Machine.reportPlate
  dsimp only
  split
  · exact h.modTpr.wr.wr
  · exact .ite h.modTpr.wr.wr.raise h

theorem Keeps.reportResume {n st} (h : Keeps s t) : Keeps s (reportResume n st t) := by
  unfold Machine.reportResume
  dsimp only
  split
  · exact h
  · exact .ite h (.ite h.modTpr (.ite h.leaveService.raise h.modTpr))

theorem Keeps.reportWaiters {n st} (h : Keeps s t) : Keeps s (reportWaiters n st t) :=
  h.finishKind.finish

theorem Keeps.switchRef {n sel} (h : Keeps s t) : Keeps s (switchRef n sel t) :=
  h.pushSet.satInc

theorem Keeps.reportRefs {n sel a b} (h : Keeps s t) : Keeps s (reportRefs n sel a b t) :=
  .ite h.modTpr (.when (.when h.modTpr (·.switchRef)) (fun h => .raise (.when h (·.switchRef))))

theorem Keeps.reportRegs {n p} (h : Keeps s t) : Keeps s (reportRegs n p t) :=
  .when h.wr.wr.wr.wr.wr.wr.satInc.wr.wr.setPort.modTpr (·.modTpr)

theorem Keeps.doFtel {n t' pkt drop} (h : Keeps s t) : Keeps s (doFtel n t' pkt drop t) :=
  .ite h.atTime (.modTpr (.reportResume (.reportWaiters (.darkJudge (.forEach
         (.reportRefs (.reportPlate (.when (.when h.atTime.reportRegs.reportState (·.freezeCheck)) (·.modTpr))))
         (fun _ h => h.takeResult))))))

theorem Keeps.telemSlot {n} (h : Keeps s t) : Keeps s (telemSlot n t) :=
  .ite h.modTpr (.when h.modTpr.wr.satInc (·.raise))

theorem Keeps.judgeGroup {g im sum} (h : Keeps s t) : Keeps s (judgeGroup g im sum t) :=
  .ite h.wr.frame (.ite (by split; exacts [h.wr.frame.frame.wr.raise, h.wr.frame.frame.wr.raise]) h.wr.frame.frame)

theorem Keeps.groupSlot {im g} (h : Keeps s t) : Keeps s (groupSlot im g t) := by
  unfold Machine.groupSlot
  dsimp only
  split
  · exact h.wr.judgeGroup
  · exact h.wr

theorem Keeps.groupsSlot {im} (h : Keeps s t) : Keeps s (groupsSlot im t) :=
  .forEach (.frame (.when h (fun h => .forEach h (fun _ h => h.groupSlot)))) (fun _ h => h.modTpr)

theorem Keeps.waitersSlot (h : Keeps s t) : Keeps s (waitersSlot t) :=
  h.finish.frame

theorem Keeps.calAt {r} (h : Keeps s t) : Keeps s (calAt r t) :=
  h.frame.wr.wr

theorem Keeps.calStart (h : Keeps s t) : Keeps s (calStart t) :=
  .ite h h.calAt

theorem Keeps.doSnsCalTimer (h : Keeps s t) : Keeps s (doSnsCalTimer t) :=
  .ite h.calStart h

theorem Keeps.calNext {r} (h : Keeps s t) : Keeps s (calNext r t) := by
  unfold Machine.calNext
  split
  · exact h.startPause.calAt
  · exact h.frame.wr.wr.finishKind

theorem Keeps.calResume (h : Keeps s t) : Keeps s (calResume t) := by
  unfold Machine.calResume
  split
  · exact .ite h.calAt h
  · exact h

theorem Keeps.doSnsCalStepDone {elem corr} (h : Keeps s t) : Keeps s (doSnsCalStepDone elem corr t) := by
  unfold Machine.doSnsCalStepDone
  split
  · exact .ite h h.wr.wr.wrapInc.wrapInc.wr.wr.calNext
  · exact h

theorem Keeps.doSnsCalStepTimeout (h : Keeps s t) : Keeps s (doSnsCalStepTimeout t) := by
  unfold Machine.doSnsCalStepTimeout
  split
  · exact .ite h h.raise.calNext
  · exact h

/-! ### What the functions of Links keep -/

theorem Keeps.hostMem {a} (h : Keeps s t) : Keeps s (hostMem a t).2 := .iteSnd h.frame h

theorem Keeps.recWord {o} (h : Keeps s t) : Keeps s (recWord o t).2 := by
  unfold Machine.recWord
  dsimp only
  split
  · exact h.hostMem
  · exact h

/-- A word that a read of the window answers with the state that the read leaves. -/
theorem Keeps.wordRead {p : Nat × State} (h : Keeps s p.2) :
    Keeps s (match p with | (v, u) => ((v, false, u) : Nat × Bool × State)).2.2 := h

theorem Keeps.hostFetch {a} (h : Keeps s t) : Keeps s (hostFetch a t).2.2 := by
  have hdef : Machine.hostFetch = Machine.hostFetch := rfl
  conv_rhs at hdef => delta Machine.hostFetch
  rw [hdef]
  refine .iteSndSnd h (.iteSndSnd h (.iteSndSnd h (.iteSndSnd h (.iteSndSnd h (.iteSndSnd h ?_)))))
  cases winReg a with
  | some r => exact .iteSndSnd h h
  | none =>
    refine .iteSndSnd ?_ (.iteSndSnd (.iteSndSnd h ?_) h)
    · generalize hp : Machine.recWord _ t = p
      exact .wordRead (hp ▸ h.recWord)
    · generalize hp : Machine.hostMem _ t = p
      exact .wordRead (hp ▸ h.hostMem)

theorem Keeps.hostFetches {a n} (h : Keeps s t) : Keeps s (hostFetches a n t).2.2 :=
  .foldl (g := fun p : List Nat × Bool × State => p.2.2) h (fun _ h => h.hostFetch)

theorem Keeps.hostIrqWrite {v} (h : Keeps s t) : Keeps s (hostIrqWrite v t) :=
  h.wr.doPendClear

theorem Keeps.hostStore {a v} (h : Keeps s t) : Keeps s (hostStore a v t).2 := by
  unfold Machine.hostStore; dsimp only
  exact .iteSnd (.atSnd h.psWrite) (.iteSnd (.atSnd h.doDoorbell) (.iteSnd (.atSnd h.doCplrpWrite)
    (.iteSnd (.atSnd h.doCplrpWrite) (.iteSnd (.atSnd (.when h (·.doChannelReset))) (.iteSnd
      (.atSnd (.when h (·.doChannelReset))) (.iteSnd (.atSnd h.hostIrqWrite) (.iteSnd (.atSnd h.putField)
        (.atSnd h.putField.putField))))))))

theorem Keeps.hostStores {a ws} (h : Keeps s t) : Keeps s (hostStores a ws t).2 :=
  .iteSnd h (.foldl (g := Prod.snd) h (fun _ h => .iteSnd h.hostStore h))

theorem Keeps.spiCount {st} (h : Keeps s t) : Keeps s (spiCount st t) :=
  .ite h (.ite h.satInc (.ite h.satInc (.ite h.satInc h)))

theorem Keeps.spiShort (h : Keeps s t) : Keeps s (spiShort t) :=
  .when h (·.satInc)

theorem Keeps.spiReadAnswer {st ws} (h : Keeps s t) : Keeps s (spiReadAnswer st ws t) :=
  h.spiCount.send

theorem Keeps.freeWords {n} (h : Keeps s t) : Keeps s (freeWords n t).2 :=
  .foldl (g := Prod.snd) h (fun _ h => h.frame)

theorem Keeps.doSpiRead {hdr cut} (h : Keeps s t) : Keeps s (doSpiRead hdr cut t) :=
  .ite h (.ite h.spiShort (.ite h.spiReadAnswer
      (.ite h (.ite h.freeWords.spiReadAnswer (.ite h.freeWords.spiReadAnswer h.hostFetches.spiReadAnswer)))))

theorem Keeps.doSpiWrite {hdr data dcrc cut} (h : Keeps s t) : Keeps s (doSpiWrite hdr data dcrc cut t) :=
  .ite h (.ite h.spiShort (.ite h.spiCount.send (.ite h (.ite h.spiCount.send
        (.ite h.spiShort (.ite h.spiCount.send (.ite h.spiCount.send h.hostStores.spiCount.send)))))))

theorem Keeps.hatchAnswer {hd type st pay} (h : Keeps s t) : Keeps s (hatchAnswer hd type st pay t) :=
  .send (by split; exacts [h.wrapInc, h.satInc])

theorem Keeps.hatchServe {hd type serve} (h : Keeps s t) (hf : ∀ {u}, Keeps s u → Keeps s (serve u).2.2) :
    Keeps s (hatchServe hd type serve t) :=
  .ite h (.ite h.macsecDrop (.ite h.satInc (.ite h (.ite h.hatchAnswer (.ite h.hatchAnswer (hf h).hatchAnswer)))))

theorem Keeps.hatchPlace {ds} (h : Keeps s t) : Keeps s (hatchPlace ds t) :=
  .doorbellWrite (.forEach h.frame (fun _ h => h.psWrite))

theorem Keeps.doHatchCmd {hd descs} (h : Keeps s t) : Keeps s (doHatchCmd hd descs t) := by
  refine .hatchServe h (fun h => ?_)
  dsimp only
  (repeat' split)
  exacts [h, h, h.hatchPlace]

theorem Keeps.doHatchRead {hd count resv} (h : Keeps s t) : Keeps s (doHatchRead hd count resv t) := by
  refine .hatchServe h (fun h => ?_)
  dsimp only
  (repeat' split)
  exacts [h, h, h, h.hostFetches]

theorem Keeps.doHatchWrite {hd data} (h : Keeps s t) : Keeps s (doHatchWrite hd data t) := by
  refine .hatchServe h (fun h => ?_)
  dsimp only
  (repeat' split)
  exacts [h, h, h, h.hostStores, h.hostStores]

theorem Keeps.setFresh {v} (h : Keeps s t) : Keeps s (setFresh v t) :=
  .ite h.wr.frame h.wr

theorem Keeps.canPlace {data} (h : Keeps s t) : Keeps s (canPlace data t) :=
  .doorbellWrite (.ite h.frame.psWrite h)

theorem Keeps.doCanBeamFrame {id ext data} (h : Keeps s t) : Keeps s (doCanBeamFrame id ext data t) :=
  .ite h (.ite h.satInc.raise.canResponse (.ite h.setFresh.canResponse h.setFresh.canPlace))

theorem Keeps.doCanStatusFrame (h : Keeps s t) : Keeps s (doCanStatusFrame t) :=
  .ite h.frame.send h

theorem Keeps.doCanBusoff (h : Keeps s t) : Keeps s (doCanBusoff t) :=
  .ite h.wr.raise h

theorem Keeps.doCanBusoffRecovery (h : Keeps s t) : Keeps s (doCanBusoffRecovery t) :=
  .ite h.wr.wr.wr h

theorem Keeps.doEthLink {port rate} (h : Keeps s t) : Keeps s (doEthLink port rate t) :=
  .ite h (.ite h.wr.wr (.when h.wr.wr.wr (·.raise)))

theorem Keeps.doGptpFrame {port t' tx} (h : Keeps s t) : Keeps s (doGptpFrame port t' tx t) :=
  .ite h.atTime h.atTime.frame

theorem Keeps.doArpRequest {port senderIp senderMac targetIp} (h : Keeps s t) :
    Keeps s (doArpRequest port senderIp senderMac targetIp t) :=
  .ite h (.ite h.macsecDrop (.ite h h.frame.send))

theorem Keeps.doIcmpEcho {port srcIp dstIp payload} (h : Keeps s t) :
    Keeps s (doIcmpEcho port srcIp dstIp payload t) :=
  .ite h (.ite h.macsecDrop (.ite h (.ite h.satInc h.send)))

theorem Keeps.doMkaFrame {port sak} (h : Keeps s t) : Keeps s (doMkaFrame port sak t) :=
  .ite h (by split; exacts [h, h.frame.wr])

theorem Keeps.doEthFrameDiscard {port why} (h : Keeps s t) : Keeps s (doEthFrameDiscard port why t) :=
  .ite h (by split; exacts [h.satInc, h.satInc, h.satInc, h.satInc])

/-! ### What the functions of Ntm keep -/

theorem Keeps.setTto {n o} (h : Keeps s t) : Keeps s (setTto n o t) :=
  h.frame

theorem Keeps.ttoMiss {dom t' n} (h : Keeps s t) : Keeps s (ttoMiss dom t' n t) :=
  .ite h.setTto.satInc.raise h

theorem Keeps.followBase {f} (h : Keeps s t) (hf : ∀ {u}, Keeps s u → Keeps s (f u)) : Keeps s (followBase f t) :=
  .shiftErr (hf h)

theorem Keeps.applyView {n newT} (h : Keeps s t) : Keeps s (applyView n newT t) :=
  .ite h (.ite (.when (.followBase h (·.frame)) (fun h => .forEach h (fun _ h => h.ttoMiss))) h.wr)

theorem Keeps.doNtmApplyStep {n t'} (h : Keeps s t) : Keeps s (doNtmApplyStep n t' t) :=
  h.atTime.applyView

theorem Keeps.doNtmApplySet {n t'} (h : Keeps s t) : Keeps s (doNtmApplySet n t' t) :=
  h.atTime.applyView

theorem Keeps.setActive {n} (h : Keeps s t) : Keeps s (setActive n t) :=
  .followBase h (·.wr)

theorem Keeps.doActiveDomainWrite {n t'} (h : Keeps s t) : Keeps s (doActiveDomainWrite n t' t) :=
  .ite h.atTime h.atTime.setActive

theorem Keeps.doDomainStateWrite {n st t'} (h : Keeps s t) : Keeps s (doDomainStateWrite n st t' t) :=
  .ite h.atTime (.when (.followBase h.atTime (·.wr)) (·.raise))

theorem Keeps.doNtmSnap {t'} (h : Keeps s t) : Keeps s (doNtmSnap t' t) :=
  .ite h.atTime h.atTime.wr.wr.wr.wr.wr.wr.wr.wr.wr

theorem Keeps.doPpsCapture {t'} (h : Keeps s t) : Keeps s (doPpsCapture t' t) :=
  .ite h.atTime (.fire (.wr (.wr (.wr (.wr (.wr (.wr (.wr (.wr (.wr (.when h.atTime (·.wr))))))))))))

theorem Keeps.doPpsRawLoRead (h : Keeps s t) : Keeps s (doPpsRawLoRead t) :=
  .ite h.wr h

theorem Keeps.ttoArmNow {n} (h : Keeps s t) : Keeps s (ttoArmNow n t) :=
  .when h.wr.wr (·.setTto)

theorem Keeps.ttoCtrl {n en pol dom} (h : Keeps s t) : Keeps s (ttoCtrl n en pol dom t) :=
  .ite h.wr.wr.ttoArmNow h.wr.wr.wr

theorem Keeps.doTtoArmWrite {n v t'} (h : Keeps s t) : Keeps s (doTtoArmWrite n v t' t) :=
  .ite h.atTime h.atTime.ttoCtrl

theorem Keeps.doTtoEdge {n t'} (h : Keeps s t) : Keeps s (doTtoEdge n t' t) := by
  unfold Machine.doTtoEdge
  dsimp only
  split
  · exact h.atTime
  · exact .ite (.when (.when h.atTime.setTto (·.wr)) (·.send)) h.atTime

theorem Keeps.doTtoPulseEnd {n} (h : Keeps s t) : Keeps s (doTtoPulseEnd n t) :=
  .ite h.setTto.send h

/-! ### What the functions of Pair keep -/

theorem Keeps.acceptFrame {lane type f k} (h : Keeps s t) (hf : ∀ {u}, Keeps s u → Keeps s (k u)) :
    Keeps s (acceptFrame lane type f k t) :=
  .ite h (.ite h.satInc (.ite h.wr.satInc (hf h.wr.frame.wr)))

theorem Keeps.asStandby {k} (h : Keeps s t) (hf : ∀ {u}, Keeps s u → Keeps s (k u)) : Keeps s (asStandby k t) :=
  .when h hf

theorem Keeps.toCh4 {opc cnt params} (h : Keeps s t) : Keeps s (toCh4 opc cnt params t) :=
  .doorbellWrite (.when h (·.psWrite))

theorem Keeps.doHelloTimer (h : Keeps s t) : Keeps s (doHelloTimer t) :=
  .ite h.sendPtn h

theorem Keeps.becomeStandby (h : Keeps s t) : Keeps s (becomeStandby t) :=
  h.frame.wr.wr

theorem Keeps.form {p fresh} (h : Keeps s t) : Keeps s (form p fresh t) :=
  .ite h (.ite (.when (.when h (·.raise)) (·.wr)) (.ite h.becomeStandby (.ite h.wr h)))

theorem Keeps.setHealthy (h : Keeps s t) : Keeps s (setHealthy t) := by
  unfold Machine.setHealthy
  split
  · exact h.wr
  · exact h.wr

theorem Keeps.followActive {p} (h : Keeps s t) : Keeps s (followActive p t) :=
  .ite h (by
    split
    · exact .ite h.leaveStandby (.ite h.leaveStandby h)
    · exact .ite h.enterStandby (.ite h.enterRunning (.ite h.enterLit h))
    · exact .ite h.enterStandby (.ite h.enterRunning h)
    · exact .ite h.enterRunning h
    · exact h)

theorem Keeps.rejoin {p} (h : Keeps s t) : Keeps s (rejoin p t) :=
  .ite h.frame.becomeStandby h

theorem Keeps.handoverDone (h : Keeps s t) : Keeps s (handoverDone t) :=
  h.finish

theorem Keeps.doHello {lane t' f} (h : Keeps s t) : Keeps s (doHello lane t' f t) :=
  .acceptFrame h.atTime (fun h => .setHealthy (.when (.followActive (.rejoin (.when h.frame.wr.wr.form (·.setActive)))) (·.handoverDone)))

theorem Keeps.compareDigests (h : Keeps s t) : Keeps s (compareDigests t) := by
  unfold Machine.compareDigests
  split
  · exact .when (.frame (.ite h.frame h)) (·.satInc.raise)
  · exact h

theorem Keeps.takeSkew (h : Keeps s t) : Keeps s (takeSkew t) :=
  .ite h h.frame.wri

theorem Keeps.doDigest {lane t' f} (h : Keeps s t) : Keeps s (doDigest lane t' f t) :=
  .acceptFrame h.atTime (·.takeSkew.frame.compareDigests.setHealthy.toCh4)

theorem Keeps.sendDigest (h : Keeps s t) : Keeps s (sendDigest t) :=
  .ite h h.frame.sendPtn.compareDigests

theorem Keeps.doAdopt {lane f} (h : Keeps s t) : Keeps s (doAdopt lane f t) :=
  .acceptFrame h (fun h => .asStandby h (·.frame.toCh4))

theorem Keeps.sendAdopt (h : Keeps s t) : Keeps s (sendAdopt t) :=
  .ite h h.frame.sendPtn

theorem Keeps.doStage {lane f} (h : Keeps s t) : Keeps s (doStage lane f t) :=
  .acceptFrame h (fun h => .asStandby h (fun h => .ite h.sampleSet.setPending h.frame))

theorem Keeps.doGov {lane f} (h : Keeps s t) : Keeps s (doGov lane f t) :=
  .acceptFrame h (fun h => .asStandby h (·.frame))

theorem Keeps.sendGov (h : Keeps s t) : Keeps s (sendGov t) :=
  .ite h h.frame.sendPtn

theorem Keeps.doTcmd {lane f} (h : Keeps s t) : Keeps s (doTcmd lane f t) :=
  .acceptFrame h (fun h => .asStandby h (·.frame))

theorem Keeps.doPitch {lane t' f} (h : Keeps s t) : Keeps s (doPitch lane t' f t) :=
  .acceptFrame h.atTime (fun h => .asStandby h (fun h => .ite h.pitchAccept h))

theorem Keeps.doUpdq {lane f} (h : Keeps s t) : Keeps s (doUpdq lane f t) :=
  .acceptFrame h (fun h => .asStandby h (fun h => .forEach h.wr.wr (fun _ h => h.pushUpd)))

theorem Keeps.barrierReached {kind id fcnt cnt} (h : Keeps s t) : Keeps s (barrierReached kind id fcnt cnt t) :=
  h.frame.finish.toCh4

theorem Keeps.ownBarrier {kind id q} (h : Keeps s t) : Keeps s (ownBarrier kind id q t) := by
  unfold Machine.ownBarrier
  dsimp only
  split
  · exact .complete (.frame (.when h (·.sendPtn)))
  · exact .frame (.when h (·.sendPtn))

theorem Keeps.barrierBcast {op lane cause} (h : Keeps s t) : Keeps s (barrierBcast op lane cause t) :=
  .ite h.frame h.demandSets

theorem Keeps.doBarrier {lane f} (h : Keeps s t) : Keeps s (doBarrier lane f t) :=
  .acceptFrame h (fun h => .ite h.barrierBcast h.barrierReached)

theorem Keeps.agreeAbort (h : Keeps s t) : Keeps s (agreeAbort t) :=
  h.frame.sendBarrier

theorem Keeps.zpubCopy {e} (h : Keeps s t) : Keeps s (zpubCopy e t) :=
  .ite h.frame h

theorem Keeps.lateZpub {ver ds} (h : Keeps s t) : Keeps s (lateZpub ver ds t) :=
  h.frame.withdrawContent.agreeAbort.satInc.raise

theorem Keeps.applyZpub {ver line ds} (h : Keeps s t) : Keeps s (applyZpub ver line ds t) :=
  .ite h (.ite h.lateZpub h.frame.publish)

theorem Keeps.takeZpub {b} (h : Keeps s t) : Keeps s (takeZpub b t) :=
  .ite h.frame.applyZpub h.frame

theorem Keeps.doZpub {lane t' f} (h : Keeps s t) : Keeps s (doZpub lane t' f t) :=
  .acceptFrame h.atTime (fun h => .asStandby h (fun h => .takeZpub (.forEach h (fun _ h => h.zpubCopy))))

theorem Keeps.applyLate (h : Keeps s t) : Keeps s (applyLate t) :=
  .forEach h.frame (fun _ h => h.frame.publish)

theorem Keeps.sendZpub {ver line es} (h : Keeps s t) : Keeps s (sendZpub ver line es t) :=
  .forEach h (fun _ h => h.sendPtn)

theorem Keeps.ownPublish {ds es} (h : Keeps s t) : Keeps s (ownPublish ds es t) :=
  .ite h.publish (.ite h h.publish.sendZpub)

theorem Keeps.ownPitch {b} (h : Keeps s t) : Keeps s (ownPitch b t) :=
  .ite h (.when h.pitchAccept (·.sendPtn))

theorem Keeps.joinCount (h : Keeps s t) : Keeps s (joinCount t) := by
  unfold Machine.joinCount
  split
  · exact .when h (·.wr)
  · exact h

theorem Keeps.xmisLane {n} (h : Keeps s t) : Keeps s (xmisLane n t) :=
  .when h.raise (·.frame.wr)

theorem Keeps.xmisSlot (h : Keeps s t) : Keeps s (xmisSlot t) := by
  have hx {l} {p : Ptn} : Keeps s (Machine.forEach l Machine.xmisLane { t with ptn := p }) :=
    .forEach h.frame (fun _ h => h.xmisLane)
  refine .ite h ?_
  dsimp only; split
  · exact .ite hx (.ite hx.frame (.ite (.wr hx.frame) hx.frame))
  · exact hx

theorem Keeps.pairSlot (h : Keeps s t) : Keeps s (pairSlot t) :=
  .ite h h.xmisSlot.frame.setHealthy

theorem Keeps.takeRole (h : Keeps s t) : Keeps s (takeRole t) :=
  .forEach h.frame.wr.satInc.sendBcast (fun _ h => h.pushResume)

theorem Keeps.sendTaken {r} (h : Keeps s t) : Keeps s (sendTaken r t) :=
  h.sendPtn

theorem Keeps.doHandover {lane t' f} (h : Keeps s t) : Keeps s (doHandover lane t' f t) :=
  .acceptFrame h.atTime (fun h => .ite h.takeRole.sendTaken.raise h.sendTaken)

theorem Keeps.withdrawAlone (h : Keeps s t) : Keeps s (withdrawAlone t) :=
  .ite h.frame.wr.demandSets h.frame

theorem Keeps.takenOver (h : Keeps s t) : Keeps s (takenOver t) :=
  .ite h.frame.frame (.ite h.frame.becomeStandby.satInc.handoverDone h.frame)

theorem Keeps.doTaken {lane t' f} (h : Keeps s t) : Keeps s (doTaken lane t' f t) :=
  .acceptFrame h.atTime (fun h => .ite h (.ite h.takenOver (.ite h.withdrawAlone h.frame)))

theorem Keeps.doWithdrawTimeout {t'} (h : Keeps s t) : Keeps s (doWithdrawTimeout t' t) :=
  .ite h.atTime.withdrawAlone h

theorem Keeps.doPartnerLinkLoss {t'} (h : Keeps s t) : Keeps s (doPartnerLinkLoss t' t) :=
  .of (fun hu => .ite h (.ite hu (.ite hu.takeRole.raise hu.frame.wr))) h.atTime.wr.wr.wr.wr.raise

theorem Keeps.doPtnBarrierTimeout (h : Keeps s t) : Keeps s (doPtnBarrierTimeout t) :=
  h.frame.finishKind

theorem Keeps.doPairHandoverTimeout (h : Keeps s t) : Keeps s (doPairHandoverTimeout t) :=
  h.finishKind

/-! ### What the functions of Frame keep -/

theorem Keeps.halfSkew (h : Keeps s t) : Keeps s (halfSkew t) :=
  .when h (·.raise)

theorem Keeps.beginSending (h : Keeps s t) : Keeps s (beginSending t) :=
  h.frame

theorem Keeps.darkrowRetry {l} (h : Keeps s t) : Keeps s (darkrowRetry l t) :=
  .ite h.doDarkrowGo h

theorem Keeps.sendInLine {l} (h : Keeps s t) : Keeps s (sendInLine l t) :=
  .darkrowRetry (.drainSets (.sendLists (.when h (·.sendLines))))

theorem Keeps.pairLines {l} (h : Keeps s t) : Keeps s (pairLines l t) :=
  .of (fun hu => .ite h (.ite (.sendGov hu) (.ite (.ite (.agreeAbort (.sendDigest (.sendAdopt hu))) (.sendBarrier (.sendDigest (.sendAdopt hu))))
                 hu))) (.ite h.frame h)

theorem Keeps.enterLine {l} (h : Keeps s t) : Keeps s (enterLine l t) :=
  .ite (.beginSending (.ite h.frame.wr.wr.wr h.frame.wr.wr)) (.ite h.frame.wr.wr.wr h.frame.wr.wr)

theorem Keeps.doLineStart {t'} (h : Keeps s t) : Keeps s (doLineStart t' t) :=
  .ite h h.atTime.enterLine.halfSkew.pairLines.sendInLine.settleWithdraw

theorem Keeps.contentSent (h : Keeps s t) : Keeps s (contentSent t) :=
  .ite h.frame h

theorem Keeps.gateStart (h : Keeps s t) : Keeps s (gateStart t) :=
  h.frame.wri.wr

theorem Keeps.wearSecond (h : Keeps s t) : Keeps s (wearSecond t) :=
  h.frame

theorem Keeps.contentNew (h : Keeps s t) : Keeps s (contentNew t) :=
  h.joinCount.frame.wr.wr

theorem Keeps.dropGov (h : Keeps s t) : Keeps s (dropGov t) :=
  h.frame

theorem Keeps.contentBegin (h : Keeps s t) : Keeps s (contentBegin t) :=
  h.contentNew.selectBase.governors.applyQueue.takeTemps.dropGov.applyLate.zneStart.gateStart.wearSecond.paramSeen.fenderStart

theorem Keeps.transferAll (h : Keeps s t) : Keeps s (transferAll t) :=
  .ite h.transferNow.relevel.entryTransfer h

theorem Keeps.doContentStart {e} (h : Keeps s t) : Keeps s (doContentStart e t) :=
  .ite h (.ite h.atTime.frame.contentSent.transferAll h.atTime.frame.contentSent.transferAll.contentBegin)

theorem Keeps.showSent (h : Keeps s t) : Keeps s (showSent t) :=
  h.frame

theorem Keeps.slotSet {kind} (h : Keeps s t) : Keeps s (slotSet kind t) :=
  .ite h h.sendBcast

theorem Keeps.seamSlot (h : Keeps s t) : Keeps s (seamSlot t) :=
  h.frame.wr.wr.wr.wr

theorem Keeps.countAbort {kind} (h : Keeps s t) : Keeps s (countAbort kind t) :=
  .ite (.when h.frame (·.raise)) h.frame

theorem Keeps.sweeperSlot {kind p} (h : Keeps s t) : Keeps s (sweeperSlot kind p t) :=
  h.settleBalances.ageUpdate.setThresh.wr.wr.wr

theorem Keeps.countedSlot {imeas} (h : Keeps s t) : Keeps s (countedSlot imeas t) :=
  .frame (.when (.slew (.pairSlot (.countAbort (.waitersSlot (.forEach (.verifyAge
           (.sweeperSlot (.darkSlot (.when h.sendSnap.groupsSlot.wrapInc.slotSet.captureSlot.wr.wr (·.showSent)))))
          (fun _ h => h.telemSlot)))))) (·.seamSlot))

theorem Keeps.startSlot (h : Keeps s t) : Keeps s (startSlot t) :=
  .slew (.frame (.pairSlot (.frame (.when h.joinCount (·.wrapInc)))))

theorem Keeps.doBroadcastSlot {t' imeas} (h : Keeps s t) : Keeps s (doBroadcastSlot t' imeas t) :=
  .ite h (.ite h.atTime.frame.startSlot h.atTime.frame.countedSlot)

theorem Keeps.doDpauseExpiry {e} (h : Keeps s t) : Keeps s (doDpauseExpiry e t) :=
  .of (fun hu => .ite (.drainWait hu) hu) (.when (.when h.atTime.frame (·.wearNext)) (·.calResume))

/-! ### What the functions of Serve keep -/

theorem Keeps.countAuth {ch} (h : Keeps s t) : Keeps s (countAuth ch t) :=
  .ite h.wrapInc.frame h.wrapInc

theorem Keeps.runCmd {c r q d e} (h : Keeps s t) (hc : KeepsCmd c) : Keeps s (runCmd c r q d e t).2 :=
  .iteSnd h.complete (hc h)

theorem Keeps.deferCmd {opc d status reason} (h : Keeps s t) : Keeps s (deferCmd opc d status reason t) :=
  h.frame.setDefq.complete

theorem Keeps.serveJudged {c r d e} (h : Keeps s t) (hc : KeepsCmd c) : Keeps s (serveJudged c r d e t).2 := by
  unfold Machine.serveJudged; dsimp only; split
  · exact h.complete
  · exact .iteSnd h.deferCmd h.complete
  · exact h.complete
  · exact h.runCmd hc

theorem Keeps.serveCmd {c r d e} (h : Keeps s t) (hc : KeepsCmd c) : Keeps s (serveCmd c r d e t).2 :=
  .iteSnd h.atTime (.iteSnd h.atTime.complete (.iteSnd h.atTime.complete
    (.iteSnd (.iteSnd (h.atTime.countAuth.serveJudged hc) h.atTime.raise.complete) (h.atTime.serveJudged hc))))

theorem Keeps.serveUnknown {opc d e} (h : Keeps s t) : Keeps s (serveUnknown opc d e t) :=
  .ite h.atTime h.atTime.complete

theorem Keeps.okWith {q d0 d1} (h : Keeps s t) : Keeps s (okWith q d0 d1 t) :=
  h.complete

theorem Keeps.waitFor {q sc kind} (h : Keeps s t) : Keeps s (waitFor q sc kind t) :=
  h.frame

theorem Keeps.commitCmd {q} (h : Keeps s t) : Keeps s (commitCmd q t) := by
  refine .ite h.doCommitSample.goRunning.waitFor ?_
  dsimp only
  exact .complete h.commitStopped

theorem Keeps.shadowsDone {q commit} (h : Keeps s t) : Keeps s (shadowsDone q commit t) :=
  .ite h.commitCmd h.okWith

/-! ### What the functions of CmdDevice keep -/

theorem Keeps.commandEntry {to' q kind} (h : Keeps s t) : Keeps s (commandEntry to' q kind t) :=
  .ite h.waitFor.leaveStandby h.waitFor.enterRunning

theorem Keeps.tipRun {q slot commit} (h : Keeps s t) : Keeps s (tipRun q slot commit t) :=
  .ite h.waitFor h.stageTip.shadowsDone

theorem Keeps.serveTipWaits (h : Keeps s t) : Keeps s (serveTipWaits t) :=
  .ite h (.forEach h.frame (fun _ h => by split; exacts [.ite h.tipRun h.complete, h]))

theorem Keeps.commandBurst {q why ps d0 d1 e} (h : Keeps s t) : Keeps s (commandBurst q why ps d0 d1 e t) :=
  h.takeBurstId.waitFor.requestBurst

/-! ### What the functions of CmdZones keep -/

theorem Keeps.setGather {ch l} (h : Keeps s t) : Keeps s (setGather ch l t) :=
  h.frame

theorem Keeps.publishSet {ch l} (h : Keeps s t) : Keeps s (publishSet ch l t) :=
  .ite h.setGather (.forEach (.ownPublish (.ite h.setGather h.setGather.frame)) (fun _ h => h.okWith))

theorem Keeps.zonePutRun {q d} (h : Keeps s t) : Keeps s (zonePutRun q d t) :=
  .ite (.ite h.complete.publishSet h.complete.setGather)
    (.ite (.ite h.complete.publishSet h.complete.setGather) (.ite h.publishSet h.setGather))

theorem Keeps.doZoneGatherTimeout {ch} (h : Keeps s t) : Keeps s (doZoneGatherTimeout ch t) :=
  .forEach h.setGather (fun _ h => h.complete)

theorem Keeps.clearAllRun {q d} (h : Keeps s t) : Keeps s (clearAllRun q d t) :=
  .ite h.publishSet.complete (.okWith (.ite h.publishSet.frame h.publishSet.frame.ownPublish))

theorem Keeps.storePlate {n w h' b} (h : Keeps s t) : Keeps s (storePlate n w h' b t) :=
  .forEach h (fun _ h => h.psWrite)

/-! ### What the functions of CmdDiag keep -/

theorem Keeps.setCrc32Scan {a len} (h : Keeps s t) : Keeps s (setCrc32Scan a len t) :=
  h.wr.wr.wr.wr.wr.wr.wr.wr.wr.wr.wr.doCkuInitWrite.ckuStart

/-! ## The commands -/

theorem keeps_cmdStateGet : KeepsCmd cmdStateGet := (·.okWith)

theorem keeps_cmdPerfSet : KeepsCmd cmdPerfSet := (·.wr.waitFor.relevel)

theorem keeps_cmdServiceEnter : KeepsCmd cmdServiceEnter := (·.commandEntry)

theorem keeps_cmdServiceExit : KeepsCmd cmdServiceExit := (·.commandEntry)

theorem keeps_cmdStandstillSet : KeepsCmd cmdStandstillSet := fun h => .ite h.frame.okWith h.withdrawStandstill.okWith

theorem keeps_cmdLightOn : KeepsCmd cmdLightOn := (·.commandEntry)

theorem keeps_cmdLightOff : KeepsCmd cmdLightOff := (·.frame.enterStandby.okWith.wearStart)

theorem keeps_cmdReset : KeepsCmd cmdReset := (·.frame.okWith)

theorem keeps_cmdSleep : KeepsCmd cmdSleep := (·.waitFor.sleepStart)

theorem keeps_cmdBindingInfo : KeepsCmd cmdBindingInfo := (·.okWith)

theorem keeps_cmdTipinSelect : KeepsCmd cmdTipinSelect := (·.tipRun)

theorem keeps_cmdImageBegin : KeepsCmd cmdImageBegin := fun h => .ite h.complete (.ite h.complete h.frame.okWith)

theorem keeps_cmdImageData : KeepsCmd cmdImageData := by
  intro q d e s t h
  simp only [cmdImageData]
  split
  · exact h.psWrite.frame.okWith
  · exact h.complete

theorem keeps_cmdImageEnd : KeepsCmd cmdImageEnd := by
  intro q d e s t h
  simp only [cmdImageEnd]
  split
  · exact h.complete
  · split
    · exact h.complete
    · exact .ite h.complete (.ite h.complete (.ite h.commandBurst.frame h.commandBurst))

theorem keeps_cmdStreamStatus : KeepsCmd cmdStreamStatus := (·.setBaseAge.okWith)

theorem keeps_cmdDirectSet : KeepsCmd cmdDirectSet := (·.wr.wr.shadowsDone)

theorem keeps_cmdZonePut : KeepsCmd cmdZonePut := (·.zonePutRun)

theorem keeps_cmdZoneClearAll : KeepsCmd cmdZoneClearAll := (·.clearAllRun)

theorem keeps_cmdZoneStatus : KeepsCmd cmdZoneStatus := (·.okWith)

theorem keeps_cmdGlyphLoad : KeepsCmd cmdGlyphLoad := (·.storePlate.wr.wr.okWith)

theorem keeps_cmdGlyphPlace : KeepsCmd cmdGlyphPlace := (·.wr.wr.wr.wr.wr.wr.wr.wr.shadowsDone)

theorem keeps_cmdGlyphHide : KeepsCmd cmdGlyphHide := fun h => .shadowsDone (.forEach h (fun _ h => h.wr))

theorem keeps_cmdEnvscaleSet : KeepsCmd cmdEnvscaleSet := (·.wr.shadowsDone)

theorem keeps_cmdMeshSelect : KeepsCmd cmdMeshSelect := (·.wr.shadowsDone)

theorem keeps_cmdPitchUpdate : KeepsCmd cmdPitchUpdate := (·.ownPitch.okWith)

theorem keeps_cmdLevelStatus : KeepsCmd cmdLevelStatus := (·.okWith)

theorem keeps_cmdCommit : KeepsCmd cmdCommit := by
  intro q d e s t h
  simp only [cmdCommit, plainCmd]
  exact h.commitCmd

theorem keeps_cmdTimingSet : KeepsCmd cmdTimingSet := (·.wr.wr.wr.shadowsDone)

theorem keeps_cmdPhaseSet : KeepsCmd cmdPhaseSet := (·.doPhaseWrite.okWith)

theorem keeps_cmdFrameGet : KeepsCmd cmdFrameGet := (·.copyCaptures.okWith)

theorem keeps_cmdCalStatus : KeepsCmd cmdCalStatus := fun h => .ite h.okWith h.okWith

theorem keeps_cmdCalRound : KeepsCmd cmdCalRound := fun h => .ite h.complete h.waitFor.calStart

theorem keeps_cmdCalResetLane : KeepsCmd cmdCalResetLane := (·.commandBurst)

theorem keeps_cmdWearPass : KeepsCmd cmdWearPass := fun h => .ite h.okWith h.waitFor.wearStart

theorem keeps_cmdDiagSummary : KeepsCmd cmdDiagSummary := (·.okWith)

theorem keeps_cmdPixelQuery : KeepsCmd cmdPixelQuery := (·.okWith)

theorem keeps_cmdGroupStatus : KeepsCmd cmdGroupStatus := (·.okWith)

theorem keeps_cmdWindowMap : KeepsCmd cmdWindowMap := (·.frame.okWith)

theorem keeps_cmdRecStatus : KeepsCmd cmdRecStatus := (·.okWith)

theorem keeps_cmdDumpClear : KeepsCmd cmdDumpClear := by
  intro q d e s t h
  simp only [cmdDumpClear, plainCmd]
  split
  · exact h.okWith
  · exact h.commandBurst

theorem keeps_cmdCkuScan : KeepsCmd cmdCkuScan := fun h => .ite h.complete h.setCrc32Scan.waitFor

theorem keeps_cmdTimeGet : KeepsCmd cmdTimeGet := (·.okWith)

theorem keeps_cmdDomainSelect : KeepsCmd cmdDomainSelect := (·.setActive.okWith)

theorem keeps_cmdTtoArm : KeepsCmd cmdTtoArm := fun h => .ite h.wr.wr.wr.wr.wr.ttoCtrl.complete h.wr.wr.wr.wr.wr.ttoCtrl.okWith

theorem keeps_cmdRtcAlarm : KeepsCmd cmdRtcAlarm := fun h => .ite h.wr.wr.okWith h.wr.wr.okWith

theorem keeps_cmdFaultGet : KeepsCmd cmdFaultGet := (·.okWith)

theorem keeps_cmdFaultClear : KeepsCmd cmdFaultClear := fun h => .ite h.wr.fclClear.frame.waitFor h.wr.fclClear.okWith

theorem keeps_cmdSeveritySet : KeepsCmd cmdSeveritySet := fun h => .ite h.complete h.wr.okWith

theorem keeps_cmdFenderStatus : KeepsCmd cmdFenderStatus := (·.okWith)

theorem keeps_cmdFallbackOff : KeepsCmd cmdFallbackOff := (·.fbDark.okWith)

theorem keeps_cmdSafeTest : KeepsCmd cmdSafeTest := fun h => .doDarkPathTimer (.when h.waitFor (·.doTgenTestTimer))

theorem keeps_cmdLaneStatus : KeepsCmd cmdLaneStatus := (·.okWith)

theorem keeps_cmdLaneTrain : KeepsCmd cmdLaneTrain := (·.waitFor.doTlkTrainWrite)

theorem keeps_cmdLaneTest : KeepsCmd cmdLaneTest := (·.doLoopbackWrite.doPrbsWrite.wr.wr.wr.waitFor)

theorem keeps_cmdTileSet : KeepsCmd cmdTileSet := by
  intro q d e s t h
  simp only [cmdTileSet]
  (repeat' split)
  · exact h.demand.okWith
  · exact h.demand.waitFor

theorem keeps_cmdTileResume : KeepsCmd cmdTileResume := (·.setMapBit.pushResume.waitFor)

theorem keeps_cmdTileRefsel : KeepsCmd cmdTileRefsel := fun h => .okWith (.when h.pushSet (·.modTpr))

theorem keeps_cmdPairStatus : KeepsCmd cmdPairStatus := (·.okWith)

theorem keeps_cmdPairHandover : KeepsCmd cmdPairHandover := (·.waitFor.sendHandover)

theorem keeps_cmdPtnDigest : KeepsCmd cmdPtnDigest := (·.okWith)

theorem keeps_cmdPtnAdopt : KeepsCmd cmdPtnAdopt := (·.okWith)

theorem keeps_cmdPtnBarrier : KeepsCmd cmdPtnBarrier := (·.ownBarrier)

theorem keeps_cmdLcGet : KeepsCmd cmdLcGet := (·.okWith)

theorem keeps_cmdLcAdvance : KeepsCmd cmdLcAdvance := fun h => .ite h.complete h.okWith.frame.wipeNext

theorem keeps_cmdFwSelect : KeepsCmd cmdFwSelect := fun h => .ite h.complete h.wr.wr.okWith

theorem keeps_cmdTmxSelect : KeepsCmd cmdTmxSelect := fun h => .ite h.wr.complete h.wr.wr.okWith

/-- Every command keeps it. -/
theorem keepsCmd_of_mem : ∀ c ∈ allCmds, KeepsCmd c := by
  simp only
    [allCmds, List.cons_append, List.nil_append, List.forall_mem_cons, List.not_mem_nil, false_imp_iff, implies_true,
    and_true]
  exact ⟨keeps_cmdStateGet, keeps_cmdPerfSet, keeps_cmdServiceEnter, keeps_cmdServiceExit, keeps_cmdStandstillSet,
    keeps_cmdLightOn, keeps_cmdLightOff, keeps_cmdReset, keeps_cmdSleep, keeps_cmdBindingInfo, keeps_cmdTipinSelect,
    keeps_cmdImageBegin, keeps_cmdImageData, keeps_cmdImageEnd, keeps_cmdStreamStatus, keeps_cmdDirectSet,
      keeps_cmdZonePut,
    keeps_cmdZoneClearAll, keeps_cmdZoneStatus, keeps_cmdGlyphLoad, keeps_cmdGlyphPlace, keeps_cmdGlyphHide,
    keeps_cmdEnvscaleSet, keeps_cmdMeshSelect, keeps_cmdPitchUpdate, keeps_cmdLevelStatus, keeps_cmdCommit,
    keeps_cmdTimingSet, keeps_cmdPhaseSet, keeps_cmdFrameGet, keeps_cmdCalStatus, keeps_cmdCalRound,
      keeps_cmdCalResetLane,
    keeps_cmdWearPass, keeps_cmdDiagSummary, keeps_cmdPixelQuery, keeps_cmdGroupStatus, keeps_cmdWindowMap,
    keeps_cmdRecStatus, keeps_cmdDumpClear, keeps_cmdCkuScan, keeps_cmdTimeGet, keeps_cmdDomainSelect,
      keeps_cmdTtoArm,
    keeps_cmdRtcAlarm, keeps_cmdFaultGet, keeps_cmdFaultClear, keeps_cmdSeveritySet, keeps_cmdFenderStatus,
    keeps_cmdFallbackOff, keeps_cmdSafeTest, keeps_cmdLaneStatus, keeps_cmdLaneTrain, keeps_cmdLaneTest,
      keeps_cmdTileSet,
    keeps_cmdTileResume, keeps_cmdTileRefsel, keeps_cmdPairStatus, keeps_cmdPairHandover, keeps_cmdPtnDigest,
    keeps_cmdPtnAdopt, keeps_cmdPtnBarrier, keeps_cmdLcGet, keeps_cmdLcAdvance, keeps_cmdFwSelect, keeps_cmdTmxSelect⟩

theorem keepsCmd_of_cmdOf {opc : Nat} {c : Cmd} {r : CmdRow} (h : cmdOf opc = some (c, r)) : KeepsCmd c := by
  unfold cmdOf at h
  split at h
  · rename_i hc _
    obtain ⟨rfl, -⟩ : _ = c ∧ _ = r := by simpa using h
    exact keepsCmd_of_mem _ (List.mem_of_find?_eq_some hc)
  · contradiction


/-! ### What the functions of Commands keep -/

theorem Keeps.dropDeferred {q} (h : Keeps s t) : Keeps s (dropDeferred q t) :=
  h.frame.setDefq

theorem Keeps.fromTake {opc t0} (h : Keeps s t) : Keeps s (fromTake opc t0 t) :=
  .ite h.frame h

theorem Keeps.rerunOne {e q} (h : Keeps s t) : Keeps s (rerunOne e q t) := by
  unfold Machine.rerunOne; split
  · exact h
  · rename_i c r hc
    dsimp only; split
    · exact h.dropDeferred.complete
    · exact h.dropDeferred.complete
    · exact h
    · exact (h.dropDeferred.runCmd (keepsCmd_of_cmdOf hc)).fromTake

theorem Keeps.noteReasons {p} (h : Keeps s t) : Keeps s (noteReasons p t) :=
  h.frame

theorem Keeps.rerun {p e n} (h : Keeps s t) : Keeps s (rerun p e n t) := by
  induction n generalizing t with
  | zero => exact h
  | succ n ih => unfold Machine.rerun; split; exacts [ih h.rerunOne, h.noteReasons]

theorem Keeps.settle {e ran s'} (h : Keeps s t) : Keeps s (settle e ran s' t) :=
  .ite h.settleWithdraw.rerun h

theorem Keeps.settled {e f} (h : Keeps s t) (hf : ∀ {u}, Keeps s u → Keeps s (f u)) : Keeps s (settled e f t) :=
  .settle (hf h)

theorem Keeps.settledFree {f} (h : Keeps s t) (hf : ∀ {u}, Keeps s u → Keeps s (f u)) : Keeps s (settledFree f t) :=
  .ite (.settle (.frame (hf h))) (hf h)

theorem Keeps.serveRow {c d e} (h : Keeps s t) (hc : KeepsCmd c) : Keeps s (serveRow c d e t) := by
  unfold Machine.serveRow; split
  · exact (h.serveCmd hc).settle
  · exact h

theorem Keeps.standstillRow {d e} (h : Keeps s t) : Keeps s (standstillRow d e t) :=
  .ite (h.serveRow keeps_cmdStandstillSet).rerun (h.serveRow keeps_cmdStandstillSet)

theorem Keeps.doStandstillHoldExpiry {e} (h : Keeps s t) : Keeps s (doStandstillHoldExpiry e t) := by
  unfold Machine.doStandstillHoldExpiry
  dsimp only
  split
  · exact .ite (.settled h.atTime (·.withdrawStandstill)) h.atTime
  · exact h.atTime

theorem Keeps.doDeferExpired {ch tag t'} (h : Keeps s t) : Keeps s (doDeferExpired ch tag t' t) := by
  unfold Machine.doDeferExpired
  dsimp only
  split
  · exact h.atTime.dropDeferred.complete
  · exact h.atTime

theorem Keeps.logTake {b ch status} (h : Keeps s t) : Keeps s (logTake b ch status t) :=
  h.frame

theorem Keeps.doDescriptorTake {e} (h : Keeps s t) : Keeps s (doDescriptorTake e t) := by
  unfold Machine.doDescriptorTake; dsimp only; split
  · exact h.atTime
  · split
    · rename_i hc
      exact .ite h.atTime.frame.wr.logTake.standstillRow (h.atTime.frame.wr.logTake.serveRow (keepsCmd_of_cmdOf hc))
    · exact h.atTime.frame.wr.logTake.serveUnknown

/-! ### What the functions of RegWrite keep -/

theorem Keeps.lockedWrite {a} (h : Keeps s t) : Keeps s (lockedWrite a t) :=
  h.raise

theorem Keeps.pipeEvent {f w} (h : Keeps s t) : KeepsSome s (pipeEvent f w t) := by
  refine .ite (.some (.when h (·.doCommitGoWrite)))
    (.ite (.some (.when h (·.doCommitCancel))) (.ite (.some h.doPhaseWrite)
    (.ite (.some h.doZnePublish) (.ite (.some h.doUpdDataWrite) (.ite (.some h.doAtEnWrite) (.ite
    (.some (.when h (·.doSnapReq))) (.ite (.some (.when h (·.doCmdqPush))) (.ite (.some (.ite h.doBcastPlate
    (.ite h.doBcastCoast (.ite h.doBcastWipe h)))) (.ite (.some h) ?_)))))))))
  cases fldIndex 64 Reg.TPR_TL_STATUS_INSERV f with
  | none => exact .none
  | some n => exact .some (.when h (·.doInservWrite))

theorem Keeps.laneEvent {f w} (h : Keeps s t) : KeepsSome s (laneEvent f w t) :=
  .ite .none (.ite (.some (.when h (·.doTxOnWrite))) (.ite (.some (.when h (·.doRxOnWrite))) (.ite
    (.some (.when h (·.doLoopbackWrite)))
      (.ite (.some (.when h (·.doPrbsWrite))) (.ite (.some (.when h (·.doTlkTrainWrite)))
    (.ite (.some (.when h (·.doSlipWrite))) .none))))))

theorem Keeps.linkEvent {who f w} (h : Keeps s t) : KeepsSome s (linkEvent who f w t) :=
  .ite .none (.ite (.some (.when h (·.doActiveDomainWrite))) (.ite (.some (.when h (·.doNtmSnap))) (.ite
    (.some h.doDomainStateWrite)
      (.ite (.some (.when h (·.doNtmApplySet))) (.ite (.some (.when h (·.doNtmApplyStep))) (.ite
    (.some h.doTtoArmWrite) (.ite (.some h.doDoorbell) (.ite (.some h.doCplrpWrite) (.ite
    (.some (.when h (·.doChannelReset))) (.ite (.some h.doPendClear) .none))))))))))

theorem Keeps.itcEvent {who f w} (h : Keeps s t) : KeepsSome s (itcEvent who f w t) :=
  .ite .none (.ite (.some h.doSetpWrite) (.ite (.some h.doClrpWrite) (.ite (.some h.enWrite) (.ite
    (.some (.ite h.doSrcTargetWrite h))
      (.ite (.some h) (.ite (.some (.when h (·.doS1RunWrite))) (.ite (.some h.doWdogEnWrite)
    (.ite (.some h) (.ite (.some h.doWdkick) .none)))))))))

theorem Keeps.wgoWrite (h : Keeps s t) : Keeps s (wgoWrite t) :=
  h.frame.doMrcWgoWrite

theorem Keeps.tmxWrite {f v} (h : Keeps s t) : Keeps s (tmxWrite f v t) :=
  .ite h.wr h.wr

theorem Keeps.sysEvent {who f w} (h : Keeps s t) : KeepsSome s (sysEvent who f w t) :=
  .ite (.some (.when h (·.doFclClearWrite))) (.ite (.some h.doDomoffWrite) (.ite (.some (.when h (·.doSleepGo))) (.ite
    (.some (.when h (·.doPadrelWrite)))
      (.ite (.some (.when h (·.doFbOffreqWrite))) (.ite (.some (.when h (·.wgoWrite))) (.ite
    (.some h.tmxWrite) (.ite (.some (.when h (·.doCkuGo))) (.ite (.some (.when h (·.doCkuInitWrite))) (.ite
    (.some h.doCkuDataWrite) .none)))))))))

theorem Keeps.fieldEvent {who f w} (h : Keeps s t) : KeepsSome s (fieldEvent who f w t) := by
  unfold Machine.fieldEvent
  split
  · rename_i e; exact e ▸ h.pipeEvent
  split
  · rename_i e; exact e ▸ h.laneEvent
  split
  · rename_i e; exact e ▸ h.linkEvent
  split
  · rename_i e; exact e ▸ h.itcEvent
  · exact h.sysEvent

theorem Keeps.valueWrite {locked who w f} (h : Keeps s t) : Keeps s (valueWrite locked who w f t) := by
  unfold Machine.valueWrite; split
  · exact h.fieldEvent.getD h.putField
  · exact .ite h h.putField
  · exact h.fieldEvent.getD h.wr
  all_goals exact h

theorem Keeps.strobeWrite {who w f} (h : Keeps s t) : Keeps s (strobeWrite who w f t) := by
  unfold Machine.strobeWrite; split
  · exact h.fieldEvent.getD h
  · exact .ite h (h.fieldEvent.getD h.wr)
  all_goals exact h

theorem Keeps.afterWrite {a} (h : Keeps s t) : Keeps s (afterWrite a t) :=
  .ite h.supplyUp (.ite h.relevel
     (.ite h.setIrqPin (.ite h.setZview (.ite h.setTileview (.ite h.setCkuResult (.ite h.setCkuResult h))))))

theorem Keeps.fieldsWrite {who a w fs} (h : Keeps s t) : Keeps s (fieldsWrite who a w fs t) := by
  refine .afterWrite ?_
  have hv {u} (hu : Keeps s u) : Keeps s (Machine.forEach fs (Machine.strobeWrite who w) (Machine.settleFields fs
      (Machine.forEach fs (Machine.valueWrite (lockedAt t a) who w) u))) :=
    .forEach (.settleFields (.forEach hu (fun _ h => h.valueWrite))) (fun _ h => h.strobeWrite)
  cases lockOf a with
  | none => exact hv (.when h (·.lockedWrite))
  | some f => exact .when (hv (.when h (·.lockedWrite))) (·.setLock)

theorem Keeps.corTableWrite {a w} (h : Keeps s t) : Keeps s (corTableWrite a w t) :=
  .ite (.when h (·.lockedWrite)) (.when (.when h (·.stBytes)) (·.stBytes))

theorem Keeps.blockWrite {who a w} (h : Keeps s t) : Keeps s (blockWrite who a w t) := by
  have hdef : Machine.blockWrite = Machine.blockWrite := rfl
  conv_rhs at hdef => delta Machine.blockWrite
  rw [hdef]
  beta_reduce
  generalize (if 0x40060200 ≤ a && a < 0x40060280 then a - 0x10000 else a) = b
  refine .ite h.corTableWrite (.ite h.stBytes ?_)
  cases fieldsAt b with
  | none => exact .when h (·.stBytes)
  | some fs => exact .fieldsWrite (.when h (·.stBytes))

theorem Keeps.busError {source a} (h : Keeps s t) : Keeps s (busError source a t) :=
  h.raise

theorem reachDomain_some {a d : Nat} {write : State → State} {s : State} (h : domOfBlock (blockOf a + 1) = some d) :
    reachDomain a write s = if bit (rd s Reg.PWC_DOMLOCK_MAP) d then doDomainPowerUp d true s
      else write (doDomainPowerUp d true s) := by
  have hdef : reachDomain = reachDomain := rfl
  conv_rhs at hdef => delta reachDomain
  rw [hdef]
  beta_reduce
  rw [h]

theorem Keeps.reachDomain {a write} (h : Keeps s t) (hf : ∀ {u}, Keeps s u → Keeps s (write u)) :
    Keeps s (reachDomain a write t) := by
  cases hd : domOfBlock (blockOf a + 1) with
  | none => rw [reachDomain_none _ hd]; exact hf h
  | some d => rw [reachDomain_some hd]; exact .ite h.doDomainPowerUp (hf h.doDomainPowerUp)

theorem Keeps.peripheralWrite {who a w} (h : Keeps s t) : Keeps s (peripheralWrite who a w t) :=
  .ite (.ite h.doPendClear (.ite h.blockWrite h.busError)) (.reachDomain h (·.blockWrite))

theorem Keeps.storeWrite {who a w} (h : Keeps s t) : Keeps s (storeWrite who a w t) :=
  .ite h.busError (.ite h.busError h.psWrite)

theorem Keeps.busWrite {who addr w} (h : Keeps s t) : Keeps s (busWrite who addr w t) :=
  .ite (.ite h.busError h) (.ite (.ite h.busError h.stBytes)
     (.ite h.stBytes (.ite h.storeWrite (.ite h.peripheralWrite (.ite (.ite h.busError h) h.busError)))))

theorem Keeps.doRegisterWrite {who addr v} (h : Keeps s t) : Keeps s (doRegisterWrite who addr v t) :=
  .ite h (by split; exacts [h.busWrite, h.busWrite, h, h])

theorem Keeps.doLockSet {who addr v} (h : Keeps s t) : Keeps s (doLockSet who addr v t) := by
  cases hl : lockOf (addr / 4 * 4) with
  | none => rw [doLockSet_none v hl]; exact h
  | some f => rw [doLockSet_some v hl]; exact .ite h.doRegisterWrite h

/-- Every command has a meaning, which keeps it. -/
theorem exec_keeps (i : Instr) (s : State) : ∃ t, exec i s = .next t ∧ Keeps s t := by
  have h := Keeps.refl s
  exact match i with
  | .vpilotEnterRange _ => ⟨_, rfl, h.doVpilotEnterRange⟩
  | .vpilotLeaveRange => ⟨_, rfl, h.doVpilotLeaveRange⟩
  | .porstNLow => ⟨_, rfl, h.doPorstNLow⟩
  | .porstNRise _ => ⟨_, rfl, h.doPorstNRise⟩
  | .pgCoreRise => ⟨_, rfl, h.doPgCoreRise⟩
  | .pgCoreFall => ⟨_, rfl, h.doPgCoreFall⟩
  | .pgCoreTimeout => ⟨_, rfl, h.doPgCoreTimeout⟩
  | .wakeRetryDelay => ⟨_, rfl, h.doWakeRetryDelay⟩
  | .refStable => ⟨_, rfl, h.doRefStable⟩
  | .refTimeout => ⟨_, rfl, h.doRefTimeout⟩
  | .refRetry _ => ⟨_, rfl, h.doRefRetry⟩
  | .refStop => ⟨_, rfl, h.doRefStop⟩
  | .bootEntry _ _ => ⟨_, rfl, h.doBootEntry⟩
  | .bootRomChecks => ⟨_, rfl, h.doBootRomChecks⟩
  | .bindingLoad _ => ⟨_, rfl, h.settled (·.doBindingLoad)⟩
  | .lightReqRise _ => ⟨_, rfl, h.settled (·.doLightReqRise)⟩
  | .lightReqFall _ => ⟨_, rfl, h.settled (·.doLightReqFall)⟩
  | .fb0LightTimer _ => ⟨_, rfl, h.doFb0LightTimer⟩
  | .wakeInput => ⟨_, rfl, h.doWakeInput⟩
  | .rtcAlarmMatch => ⟨_, rfl, h.doRtcAlarmMatch⟩
  | .rtcTick => ⟨_, rfl, h.doRtcTick⟩
  | .recoveryTimer => ⟨_, rfl, h.doRecoveryTimer⟩
  | .safeInNFall _ => ⟨_, rfl, h.settled (·.doSafeInNFall)⟩
  | .safeInNRise => ⟨_, rfl, h.doSafeInNRise⟩
  | .hostAwakeFall => ⟨_, rfl, h.doHostAwakeFall⟩
  | .hostAwakeRise => ⟨_, rfl, h.doHostAwakeRise⟩
  | .hostAwakeRelease => ⟨_, rfl, h.doHostAwakeRelease⟩
  | .startTestsDone _ _ => ⟨_, rfl, h.settled (·.doStartTestsDone)⟩
  | .lineStart _ => ⟨_, rfl, h.doLineStart⟩
  | .commitSample => ⟨_, rfl, h.doCommitSample⟩
  | .contentStart _ => ⟨_, rfl, h.settled (·.doContentStart.serveTipWaits)⟩
  | .tileLineRender _ _ _ _ => ⟨_, rfl, h.doTileLineRender⟩
  | .renderDeadlineMiss _ _ => ⟨_, rfl, h.doRenderDeadlineMiss⟩
  | .broadcastSlot _ _ => ⟨_, rfl, h.doBroadcastSlot⟩
  | .rasEvtFire _ => ⟨_, rfl, h.doRasEvtFire⟩
  | .commitGoWrite => ⟨_, rfl, h.doCommitGoWrite⟩
  | .commitCancel => ⟨_, rfl, h.doCommitCancel⟩
  | .phaseWrite _ => ⟨_, rfl, h.doPhaseWrite⟩
  | .fcntRead => ⟨_, rfl, h.doFcntRead⟩
  | .avtpPacket _ _ _ => ⟨_, rfl, h.doAvtpPacket⟩
  | .baseStaleTimer _ => ⟨_, rfl, h.doBaseStaleTimer⟩
  | .hatchCmd _ _ => ⟨_, rfl, h.doHatchCmd⟩
  | .hatchRead _ _ _ => ⟨_, rfl, h.doHatchRead⟩
  | .hatchWrite _ _ => ⟨_, rfl, h.doHatchWrite⟩
  | .spiRead _ _ => ⟨_, rfl, h.doSpiRead⟩
  | .spiWrite _ _ _ _ => ⟨_, rfl, h.doSpiWrite⟩
  | .canBeamFrame _ _ _ => ⟨_, rfl, h.doCanBeamFrame⟩
  | .canStatusFrame => ⟨_, rfl, h.doCanStatusFrame⟩
  | .canBusoff => ⟨_, rfl, h.doCanBusoff⟩
  | .canBusoffRecovery => ⟨_, rfl, h.doCanBusoffRecovery⟩
  | .ethLink _ _ => ⟨_, rfl, h.doEthLink⟩
  | .gptpFrame _ _ _ => ⟨_, rfl, h.doGptpFrame⟩
  | .arpRequest _ _ _ _ => ⟨_, rfl, h.doArpRequest⟩
  | .icmpEcho _ _ _ _ => ⟨_, rfl, h.doIcmpEcho⟩
  | .ntmApplyStep _ _ => ⟨_, rfl, h.doNtmApplyStep⟩
  | .ntmApplySet _ _ => ⟨_, rfl, h.doNtmApplySet⟩
  | .activeDomainWrite _ _ => ⟨_, rfl, h.doActiveDomainWrite⟩
  | .domainStateWrite _ _ _ => ⟨_, rfl, h.doDomainStateWrite⟩
  | .ntmSnap _ => ⟨_, rfl, h.doNtmSnap⟩
  | .ttoArmWrite _ _ _ => ⟨_, rfl, h.doTtoArmWrite⟩
  | .ttoEdge _ _ => ⟨_, rfl, h.doTtoEdge⟩
  | .ppsCapture _ => ⟨_, rfl, h.doPpsCapture⟩
  | .ppsRawLoRead => ⟨_, rfl, h.doPpsRawLoRead⟩
  | .doorbell _ _ _ => ⟨_, rfl, h.doDoorbell⟩
  | .cplrpWrite _ _ _ => ⟨_, rfl, h.doCplrpWrite⟩
  | .descriptorTake _ => ⟨_, rfl, h.doDescriptorTake⟩
  | .moderationTimer _ => ⟨_, rfl, h.doModerationTimer⟩
  | .deferExpired _ _ _ => ⟨_, rfl, h.doDeferExpired⟩
  | .mbxChannelReset _ _ => ⟨_, rfl, h.doChannelReset⟩
  | .pendClear _ _ => ⟨_, rfl, h.doPendClear⟩
  | .stateGet _ _ => ⟨_, rfl, h.serveRow keeps_cmdStateGet⟩
  | .perfSet _ _ => ⟨_, rfl, h.serveRow keeps_cmdPerfSet⟩
  | .serviceEnter _ _ => ⟨_, rfl, h.serveRow keeps_cmdServiceEnter⟩
  | .serviceExit _ _ => ⟨_, rfl, h.serveRow keeps_cmdServiceExit⟩
  | .standstillSet _ _ => ⟨_, rfl, h.standstillRow⟩
  | .standstillHoldExpiry _ => ⟨_, rfl, h.doStandstillHoldExpiry⟩
  | .lightOn _ _ => ⟨_, rfl, h.serveRow keeps_cmdLightOn⟩
  | .lightOff _ _ => ⟨_, rfl, h.serveRow keeps_cmdLightOff⟩
  | .reset _ _ => ⟨_, rfl, h.serveRow keeps_cmdReset⟩
  | .resetDelay => ⟨_, rfl, h.doResetDelay⟩
  | .sleep _ _ => ⟨_, rfl, h.serveRow keeps_cmdSleep⟩
  | .sleepGo _ => ⟨_, rfl, h.doSleepGo⟩
  | .handshakeAnswer _ _ _ _ => ⟨_, rfl, h.settledFree (·.doHandshakeAnswer)⟩
  | .handshakeDelayExpiry _ _ => ⟨_, rfl, h.settledFree (·.doHandshakeDelayExpiry)⟩
  | .sleepEntry => ⟨_, rfl, h.doSleepEntry⟩
  | .bindingInfo _ _ => ⟨_, rfl, h.serveRow keeps_cmdBindingInfo⟩
  | .tipinSelect _ _ => ⟨_, rfl, h.serveRow keeps_cmdTipinSelect⟩
  | .imageBegin _ _ => ⟨_, rfl, h.serveRow keeps_cmdImageBegin⟩
  | .imageData _ _ => ⟨_, rfl, h.serveRow keeps_cmdImageData⟩
  | .imageEnd _ _ => ⟨_, rfl, h.serveRow keeps_cmdImageEnd⟩
  | .streamStatus _ _ => ⟨_, rfl, h.serveRow keeps_cmdStreamStatus⟩
  | .directSet _ _ => ⟨_, rfl, h.serveRow keeps_cmdDirectSet⟩
  | .zonePut _ _ => ⟨_, rfl, h.serveRow keeps_cmdZonePut⟩
  | .zoneGatherTimeout _ => ⟨_, rfl, h.doZoneGatherTimeout⟩
  | .zoneClearAll _ _ => ⟨_, rfl, h.serveRow keeps_cmdZoneClearAll⟩
  | .zoneStatus _ _ => ⟨_, rfl, h.serveRow keeps_cmdZoneStatus⟩
  | .znePublish _ _ => ⟨_, rfl, h.doZnePublish⟩
  | .levelStaleTimer _ => ⟨_, rfl, h.doLevelStaleTimer⟩
  | .glyphLoad _ _ => ⟨_, rfl, h.serveRow keeps_cmdGlyphLoad⟩
  | .glyphPlace _ _ => ⟨_, rfl, h.serveRow keeps_cmdGlyphPlace⟩
  | .glyphHide _ _ => ⟨_, rfl, h.serveRow keeps_cmdGlyphHide⟩
  | .envscaleSet _ _ => ⟨_, rfl, h.serveRow keeps_cmdEnvscaleSet⟩
  | .meshSelect _ _ => ⟨_, rfl, h.serveRow keeps_cmdMeshSelect⟩
  | .pitchUpdate _ _ => ⟨_, rfl, h.serveRow keeps_cmdPitchUpdate⟩
  | .levelStatus _ _ => ⟨_, rfl, h.serveRow keeps_cmdLevelStatus⟩
  | .commit _ _ => ⟨_, rfl, h.serveRow keeps_cmdCommit⟩
  | .timingSet _ _ => ⟨_, rfl, h.serveRow keeps_cmdTimingSet⟩
  | .phaseSet _ _ => ⟨_, rfl, h.serveRow keeps_cmdPhaseSet⟩
  | .frameGet _ _ => ⟨_, rfl, h.serveRow keeps_cmdFrameGet⟩
  | .calStatus _ _ => ⟨_, rfl, h.serveRow keeps_cmdCalStatus⟩
  | .calRound _ _ => ⟨_, rfl, h.serveRow keeps_cmdCalRound⟩
  | .calResetLane _ _ => ⟨_, rfl, h.serveRow keeps_cmdCalResetLane⟩
  | .wearPass _ _ => ⟨_, rfl, h.serveRow keeps_cmdWearPass⟩
  | .diagSummary _ _ => ⟨_, rfl, h.serveRow keeps_cmdDiagSummary⟩
  | .pixelQuery _ _ => ⟨_, rfl, h.serveRow keeps_cmdPixelQuery⟩
  | .groupStatus _ _ => ⟨_, rfl, h.serveRow keeps_cmdGroupStatus⟩
  | .windowMap _ _ => ⟨_, rfl, h.serveRow keeps_cmdWindowMap⟩
  | .recStatus _ _ => ⟨_, rfl, h.serveRow keeps_cmdRecStatus⟩
  | .dumpClear _ _ => ⟨_, rfl, h.serveRow keeps_cmdDumpClear⟩
  | .ckuScan _ _ => ⟨_, rfl, h.serveRow keeps_cmdCkuScan⟩
  | .timeGet _ _ => ⟨_, rfl, h.serveRow keeps_cmdTimeGet⟩
  | .domainSelect _ _ => ⟨_, rfl, h.serveRow keeps_cmdDomainSelect⟩
  | .ttoArm _ _ => ⟨_, rfl, h.serveRow keeps_cmdTtoArm⟩
  | .rtcAlarm _ _ => ⟨_, rfl, h.serveRow keeps_cmdRtcAlarm⟩
  | .faultGet _ _ => ⟨_, rfl, h.serveRow keeps_cmdFaultGet⟩
  | .faultClear _ _ => ⟨_, rfl, h.serveRow keeps_cmdFaultClear⟩
  | .severitySet _ _ => ⟨_, rfl, h.serveRow keeps_cmdSeveritySet⟩
  | .fenderStatus _ _ => ⟨_, rfl, h.serveRow keeps_cmdFenderStatus⟩
  | .fallbackOff _ _ => ⟨_, rfl, h.serveRow keeps_cmdFallbackOff⟩
  | .safeTest _ _ => ⟨_, rfl, h.serveRow keeps_cmdSafeTest⟩
  | .laneStatus _ _ => ⟨_, rfl, h.serveRow keeps_cmdLaneStatus⟩
  | .laneTrain _ _ => ⟨_, rfl, h.serveRow keeps_cmdLaneTrain⟩
  | .laneTest _ _ => ⟨_, rfl, h.serveRow keeps_cmdLaneTest⟩
  | .laneTestEnd _ => ⟨_, rfl, h.doLaneTestEnd⟩
  | .tileSet _ _ => ⟨_, rfl, h.serveRow keeps_cmdTileSet⟩
  | .tileResume _ _ => ⟨_, rfl, h.serveRow keeps_cmdTileResume⟩
  | .tileRefsel _ _ => ⟨_, rfl, h.serveRow keeps_cmdTileRefsel⟩
  | .pairStatus _ _ => ⟨_, rfl, h.serveRow keeps_cmdPairStatus⟩
  | .pairHandover _ _ => ⟨_, rfl, h.serveRow keeps_cmdPairHandover⟩
  | .ptnDigest _ _ => ⟨_, rfl, h.serveRow keeps_cmdPtnDigest⟩
  | .ptnAdopt _ _ => ⟨_, rfl, h.serveRow keeps_cmdPtnAdopt⟩
  | .ptnBarrier _ _ => ⟨_, rfl, h.serveRow keeps_cmdPtnBarrier⟩
  | .lcGet _ _ => ⟨_, rfl, h.serveRow keeps_cmdLcGet⟩
  | .lcAdvance _ _ => ⟨_, rfl, h.serveRow keeps_cmdLcAdvance⟩
  | .fwSelect _ _ => ⟨_, rfl, h.serveRow keeps_cmdFwSelect⟩
  | .tmxSelect _ _ => ⟨_, rfl, h.serveRow keeps_cmdTmxSelect⟩
  | .lanePllLock => ⟨_, rfl, h.doLanePllLock⟩
  | .lanePllLoss _ => ⟨_, rfl, h.settled (·.doLanePllLoss)⟩
  | .tlkTrainWrite _ => ⟨_, rfl, h.doTlkTrainWrite⟩
  | .tsbReceive _ _ _ => ⟨_, rfl, h.doTsbReceive⟩
  | .trainAttemptTimeout _ => ⟨_, rfl, h.doTrainAttemptTimeout⟩
  | .trainIdleEnd _ => ⟨_, rfl, h.doTrainIdleEnd⟩
  | .rxSyncAcquire _ => ⟨_, rfl, h.doRxSyncAcquire⟩
  | .laneRxLoss _ => ⟨_, rfl, h.doLaneRxLoss⟩
  | .laneErrSecond _ => ⟨_, rfl, h.doLaneErrSecond⟩
  | .slipWrite _ => ⟨_, rfl, h.doSlipWrite⟩
  | .txOnWrite _ _ => ⟨_, rfl, h.doTxOnWrite⟩
  | .rxOnWrite _ _ => ⟨_, rfl, h.doRxOnWrite⟩
  | .loopbackWrite _ _ => ⟨_, rfl, h.doLoopbackWrite⟩
  | .prbsWrite _ _ => ⟨_, rfl, h.doPrbsWrite⟩
  | .inservWrite _ _ => ⟨_, rfl, h.doInservWrite⟩
  | .bcastPlate _ _ _ => ⟨_, rfl, h.doBcastPlate⟩
  | .bcastCoast _ _ _ => ⟨_, rfl, h.doBcastCoast⟩
  | .bcastWipe _ _ _ => ⟨_, rfl, h.doBcastWipe⟩
  | .snapReq _ => ⟨_, rfl, h.doSnapReq⟩
  | .cmdqPush _ _ _ _ => ⟨_, rfl, h.doCmdqPush⟩
  | .darkrowGo _ _ _ => ⟨_, rfl, h.doDarkrowGo⟩
  | .ackTimeout _ => ⟨_, rfl, h.doAckTimeout⟩
  | .lstat _ _ => ⟨_, rfl, h.doLstat⟩
  | .ftel _ _ _ _ => ⟨_, rfl, h.doFtel⟩
  | .ack _ _ => ⟨_, rfl, h.doAck⟩
  | .snapr _ _ => ⟨_, rfl, h.doSnapr⟩
  | .classqRead => ⟨_, rfl, h.doClassqRead⟩
  | .updDataWrite _ => ⟨_, rfl, h.doUpdDataWrite⟩
  | .atEnWrite _ => ⟨_, rfl, h.doAtEnWrite⟩
  | .wearPassTimer _ => ⟨_, rfl, h.doWearPassTimer⟩
  | .snsCalTimer => ⟨_, rfl, h.doSnsCalTimer⟩
  | .snsCalStepDone _ _ => ⟨_, rfl, h.doSnsCalStepDone⟩
  | .snsCalStepTimeout => ⟨_, rfl, h.doSnsCalStepTimeout⟩
  | .fenderIngress _ => ⟨_, rfl, h.doFenderIngress⟩
  | .fenderZoneApply _ _ => ⟨_, rfl, h.doFenderZoneApply⟩
  | .fenderVerdict _ => ⟨_, rfl, h.doFenderVerdict⟩
  | .fenderHeartbeat _ => ⟨_, rfl, h.doFenderHeartbeat⟩
  | .fenderLostTimer => ⟨_, rfl, h.doFenderLostTimer⟩
  | .fenderClkCheck _ => ⟨_, rfl, h.doFenderClkCheck⟩
  | .darkPathTimer => ⟨_, rfl, h.doDarkPathTimer⟩
  | .emberEdge => ⟨_, rfl, h.doEmberEdge⟩
  | .tgenTestTimer => ⟨_, rfl, h.doTgenTestTimer⟩
  | .tgenPulseEnd _ _ => ⟨_, rfl, h.doTgenPulseEnd⟩
  | .fbCheckTimer _ => ⟨_, rfl, h.doFbCheckTimer⟩
  | .fbPulseTimer _ => ⟨_, rfl, h.doFbPulseTimer⟩
  | .fbPulseEnd _ _ => ⟨_, rfl, h.doFbPulseEnd⟩
  | .faultMessage _ _ _ => ⟨_, rfl, h.settled (·.doFaultMessage)⟩
  | .fclClearWrite => ⟨_, rfl, h.doFclClearWrite⟩
  | .ashDump _ => ⟨_, rfl, h.doAshDump⟩
  | .lockstepMismatch _ => ⟨_, rfl, h.doLockstep⟩
  | .watchdogExpiry _ => ⟨_, rfl, h.doWatchdogExpiry⟩
  | .wdkickWrite _ _ _ => ⟨_, rfl, h.doWdkick⟩
  | .wdogEnWrite _ _ _ => ⟨_, rfl, h.doWdogEnWrite⟩
  | .s1RunWrite _ _ => ⟨_, rfl, h.doS1RunWrite⟩
  | .irqAccept _ => ⟨_, rfl, h.doIrqAccept⟩
  | .mret _ => ⟨_, rfl, h.doMret⟩
  | .fret _ => ⟨_, rfl, h.doFret⟩
  | .setpWrite _ _ _ => ⟨_, rfl, h.doSetpWrite⟩
  | .clrpWrite _ _ _ => ⟨_, rfl, h.doClrpWrite⟩
  | .srcTargetWrite _ _ _ => ⟨_, rfl, h.doSrcTargetWrite⟩
  | .wfi _ => ⟨_, rfl, h.doWfi⟩
  | .coreWake _ _ => ⟨_, rfl, h.doCoreWake⟩
  | .strandedTimer _ => ⟨_, rfl, h.doStrandedTimer⟩
  | .plChangeDone => ⟨_, rfl, h.settledFree (·.doPlChangeDone)⟩
  | .domainPowerUp _ _ => ⟨_, rfl, h.doDomainPowerUp⟩
  | .domoffWrite _ _ => ⟨_, rfl, h.doDomoffWrite⟩
  | .padrelWrite => ⟨_, rfl, h.doPadrelWrite⟩
  | .fbOffreqWrite => ⟨_, rfl, h.doFbOffreqWrite⟩
  | .thmSample _ _ _ _ _ => ⟨_, rfl, h.doThmSample⟩
  | .damperEscalate _ => ⟨_, rfl, h.doDamperEscalate⟩
  | .damperDwell _ => ⟨_, rfl, h.doDamperDwell⟩
  | .sensorSelfTest _ => ⟨_, rfl, h.doSensorSelfTest⟩
  | .mrcWgoWrite _ => ⟨_, rfl, h.doMrcWgoWrite⟩
  | .mrcBurstDone _ _ => ⟨_, rfl, h.doMrcBurstDone⟩
  | .evrWrite _ _ => ⟨_, rfl, h.doEvrWrite⟩
  | .evrRetry _ _ => ⟨_, rfl, h.doEvrRetry⟩
  | .ckuGo _ _ => ⟨_, rfl, h.doCkuGo⟩
  | .ckuScanDone _ => ⟨_, rfl, h.doCkuScanDone⟩
  | .ckuInitWrite _ => ⟨_, rfl, h.doCkuInitWrite⟩
  | .ckuDataWrite _ _ => ⟨_, rfl, h.doCkuDataWrite⟩
  | .lockSet _ _ _ => ⟨_, rfl, h.doLockSet⟩
  | .registerWrite _ _ _ => ⟨_, rfl, h.doRegisterWrite⟩
  | .hello _ _ _ => ⟨_, rfl, h.settledFree (·.doHello)⟩
  | .helloTimer => ⟨_, rfl, h.doHelloTimer⟩
  | .digest _ _ _ => ⟨_, rfl, h.doDigest⟩
  | .adopt _ _ => ⟨_, rfl, h.doAdopt⟩
  | .barrier _ _ => ⟨_, rfl, h.doBarrier⟩
  | .stage _ _ => ⟨_, rfl, h.doStage⟩
  | .zpub _ _ _ => ⟨_, rfl, h.doZpub⟩
  | .pitch _ _ _ => ⟨_, rfl, h.doPitch⟩
  | .updq _ _ => ⟨_, rfl, h.doUpdq⟩
  | .gov _ _ => ⟨_, rfl, h.doGov⟩
  | .tcmd _ _ => ⟨_, rfl, h.doTcmd⟩
  | .handover _ _ _ => ⟨_, rfl, h.settledFree (·.doHandover)⟩
  | .taken _ _ _ => ⟨_, rfl, h.settledFree (·.doTaken)⟩
  | .partnerLinkLoss _ => ⟨_, rfl, h.settledFree (·.doPartnerLinkLoss)⟩
  | .withdrawTimeout _ => ⟨_, rfl, h.settledFree (·.doWithdrawTimeout)⟩
  | .tilePowerUp _ => ⟨_, rfl, h.doTilePowerUp⟩
  | .tileLinePacket _ _ _ => ⟨_, rfl, h.doTileLinePacket⟩
  | .tilePhaseBoundary _ _ => ⟨_, rfl, h.doTilePhaseBoundary⟩
  | .flip _ _ _ => ⟨_, rfl, h.doFlip⟩
  | .seam _ _ _ => ⟨_, rfl, h.doSeam⟩
  | .abort _ _ _ => ⟨_, rfl, h.doAbort⟩
  | .snap _ _ _ => ⟨_, rfl, h.doSnap⟩
  | .plate _ _ _ => ⟨_, rfl, h.doPlate⟩
  | .coast _ _ _ => ⟨_, rfl, h.doCoast⟩
  | .switch _ _ _ => ⟨_, rfl, h.doSwitch⟩
  | .tilePortAutoSwitch _ => ⟨_, rfl, h.doTilePortAutoSwitch⟩
  | .cfg _ _ _ => ⟨_, rfl, h.doCfg⟩
  | .wipe _ _ _ => ⟨_, rfl, h.doWipe⟩
  | .resume _ _ _ => ⟨_, rfl, h.doResume⟩
  | .selwr _ _ _ => ⟨_, rfl, h.doSelwr⟩
  | .probes _ _ _ => ⟨_, rfl, h.doProbes⟩
  | .darkrow _ _ _ => ⟨_, rfl, h.doDarkrow⟩
  | .refsel _ _ _ => ⟨_, rfl, h.doRefsel⟩
  | .platecap _ _ _ => ⟨_, rfl, h.doPlatecap⟩
  | .tileCoastExpiry _ => ⟨_, rfl, h.doTileCoastExpiry⟩
  | .tileNobcastTimeout _ => ⟨_, rfl, h.doTileNobcastTimeout⟩
  | .tileSyncLoss _ => ⟨_, rfl, h.doTileSyncLoss⟩
  | .tileSupplyLoss _ => ⟨_, rfl, h.doTileSupplyLoss⟩
  | .tilePlateCheck _ => ⟨_, rfl, h.doTilePlateCheck⟩
  | .tileFreeFtel _ => ⟨_, rfl, h.doTileFreeFtel⟩
  | .pairActChange _ => ⟨_, rfl, h.doPairActChange⟩
  | .ptnBarrierTimeout => ⟨_, rfl, h.doPtnBarrierTimeout⟩
  | .pairHandoverTimeout => ⟨_, rfl, h.doPairHandoverTimeout⟩
  | .handshakeNoanswer _ _ => ⟨_, rfl, h.settledFree (·.doHandshakeNoanswer)⟩
  | .pmicEnLowWait => ⟨_, rfl, h.doPmicEnLowWait⟩
  | .ttoPulseEnd _ => ⟨_, rfl, h.doTtoPulseEnd⟩
  | .dpauseExpiry _ => ⟨_, rfl, h.doDpauseExpiry⟩
  | .tsaReceive _ _ _ => ⟨_, rfl, h.doTsaReceive⟩
  | .tileLoopbackExit _ => ⟨_, rfl, h.doTileLoopbackExit⟩
  | .mkaFrame _ _ => ⟨_, rfl, h.doMkaFrame⟩
  | .ethFrameDiscard _ _ => ⟨_, rfl, h.doEthFrameDiscard⟩

/-- A step keeps it: it takes the front of the queue and runs what stood there. -/
theorem step_canonical {s t : State} (hs : Canonical s) (h : step s = .next t) : Canonical t := by
  unfold step at h
  split at h
  · cases h; exact hs
  · rename_i c rest _
    obtain ⟨u, hu, hk⟩ := exec_keeps c { s with pending := rest }
    obtain rfl : u = t := by simpa [hu] using h
    exact hk.canonical hs

/-- Settles O2, from what every meaning keeps. -/
theorem stepKeepsCanonical : Obligations.StepKeepsCanonical := fun _ _ => step_canonical

end Sys2Proof.Machine
end

section
/-! PROOF. The supply, PORST_N and PG_CORE take the device down (O7), and the state after reset (O3). -/

namespace Sys2Proof.Machine

/-! ### What a reset of the main domain leaves (R11, R456) -/

section
variable (d : DevState) (s : State)

@[simp] theorem resetMain_dev : (resetMain d s).dev = { Dev.cold with state := d } := rfl
@[simp] theorem resetMain_pilot : (resetMain d s).pilot = s.pilot := rfl
@[simp] theorem resetMain_tiles : (resetMain d s).tiles = s.tiles := rfl
@[simp] theorem resetMain_tx : (resetMain d s).tx = s.tx := rfl

/-- A byte of the eMRAM outlives the reset. -/
theorem ldByte_resetMain {a : Nat} (h0 : 0x30000000 ≤ a) (h1 : a < 0x31000000) : ldByte (resetMain d s) a = ldByte s a := by
  have h := Memory.get_filter s.mem (fun x => 0x30000000 ≤ x && x < 0x31000000) a
  rwa [if_pos (by simp [h0, h1])] at h

/-- A kept register outlives the reset. -/
theorem rd_resetMain {f : Fld} (hk : keptKey f.key = true) (hf : f.key ≠ Reg.TMX_STATUS_FULL.key := by decide) :
    rd (resetMain d s) f = rd s f := by
  unfold resetMain setTmxFull
  rw [rd_wr_ne _ _ _ _ hf]
  simp only [rd, SMap.getD, SMap.find_filter s.regs (fun e => keptKey e.1) f.key (fun _ => hk)]

end

/-! ### The cold start -/

section
variable (d : DevState) (s : State)

/-- The life-cycle stage and what the key area holds beside it: all that a cold start keeps of the registers. -/
def keyArea : List Nat := [Reg.SEC_LC_CODE.key, Reg.SEC_BOOT_PREF.key, Reg.SEC_SVN_BIND.key, Reg.SEC_SVN_FW.key]

/-- A cold start before it restores AUTHCNT and CAN_FRESH. -/
def coldCleared : State :=
  { resetMain d s with regs := (resetMain d s).regs.filter (fun e => keyArea.contains e.1), pilot := Pilot.cold }

/-- A cold start changes the registers only of what it cleared. -/
theorem coldStart_frame : coldStart d s = { coldCleared d s with regs := (coldStart d s).regs } := by
  have h := forEach_keeps (coldCleared d s) (fun t => { t with regs := [] }) (List.range 5)
    (fun c t => wr (Reg.HIF_MB_AUTHCNT_COUNT c) (SMap.getD t.mbx.authRes c 0) t) (fun _ _ => rfl)
  exact congrArg (fun t : State => { t with regs := (coldStart d s).regs }) h

/-- A register of the pilot stands at its reset value after a cold start. -/
theorem rd_coldStart {f : Fld} (hk : keyArea.contains f.key = false) (ha : f.key < Reg.PWC_P_FB_ON.key + 32)
    (hc : f.key ≠ Reg.PWC_RSTCAUSE_CAUSE.key) : rd (coldStart d s) f = f.reset := by
  have hp (c : Nat) (t : State) : rd (wr (Reg.HIF_MB_AUTHCNT_COUNT c) (SMap.getD t.mbx.authRes c 0) t) f = rd t f :=
    rd_wr_ne _ _ _ _ (by simp only [Fld.key, Reg.HIF_MB_AUTHCNT_COUNT, Reg.PWC_P_FB_ON] at *; omega)
  have hl : f.key ≠ Reg.HIF_CAN_FRESH_LAST.key := by
    simp only [Fld.key, Reg.HIF_CAN_FRESH_LAST, Reg.PWC_P_FB_ON] at *; omega
  unfold coldStart
  rw [rd_wr_ne _ _ _ _ hc, rd_wr_ne _ _ _ _ hl, forEach_keeps _ (rd · f) _ _ hp]
  have hn := SMap.find_filter_none (resetMain d s).regs (fun e => keyArea.contains e.1) f.key (fun _ => hk)
  exact congrArg (·.getD f.reset) hn

theorem rstcause_coldStart : rd (coldStart d s) Reg.PWC_RSTCAUSE_CAUSE = 1 := rd_wr_same _ _ _

end

/-! ### The fall to PILOT -/

section
variable (c : Nat) (s : State)

/-- What the fall to PILOT leaves of the pilot. -/
def pilotFallen : Pilot :=
  { s.pilot with
      faultHold := if mainOn s.dev.state then faultPin s else s.pilot.faultHold
      pmicEn := false, pgCore := false, refOk := false, wayUp := .idle, attempt := 0
      fbTimer := s.pilot.fbTimer || (rasterState s.dev.state && s.pilot.lightReq)
      recovOn := false }

/-- The reset under a fall to PILOT, with its cause. -/
def pilotReset : State := wr Reg.PWC_RSTCAUSE_CAUSE c (resetMain .pilot { s with pilot := pilotFallen s })

/-- A guarded write keeps every field but its own. -/
theorem regsBut_when_wr (b : Bool) (f : Fld) (v : Nat) (s : State) : RegsBut [f] s (when b (wr f v) s) := by
  cases b with
  | false => exact RegsBut.refl s _
  | true => exact (RegsBut.refl s _).wr (by simp)

/-- A guarded write changes the registers only. -/
theorem when_wr_frame (b : Bool) (f : Fld) (v : Nat) (s : State) :
    when b (wr f v) s = { s with regs := (when b (wr f v) s).regs } := by
  cases b <;> rfl

/-- Beyond the reset, a fall to PILOT sets FAULT_N and leaves FB0 or the beam as it was. -/
theorem fallToPilot_frame :
    fallToPilot (some c) s = { pilotReset c s with
        regs := (fallToPilot (some c) s).regs
        pilot := { pilotFallen s with faultN := (fallToPilot (some c) s).pilot.faultN } } ∧
      RegsBut [Reg.PWC_P_FB_ON, Reg.FCL_STATUS_FAULTN] (pilotReset c s) (fallToPilot (some c) s) := by
  have he : fallToPilot (some c) s = setFaultN (Machine.when (fbOn (pilotReset c s) != 0) (wr Reg.PWC_P_FB_ON
    (if s.pilot.sFallback then fbOn (pilotReset c s) else fbOn (pilotReset c s) &&& 1)) (pilotReset c s)) := rfl
  generalize (fbOn (pilotReset c s) != 0) = b, (if s.pilot.sFallback then _ else _) = v at he
  have hu := when_wr_frame b Reg.PWC_P_FB_ON v (pilotReset c s)
  have hr := regsBut_when_wr b Reg.PWC_P_FB_ON v (pilotReset c s)
  generalize Machine.when b _ _ = u at he hu hr
  obtain ⟨hf, hg⟩ := setFaultN_frame u
  rw [← he] at hf hg
  refine ⟨?_, RegsBut.step (hr.mono (by simp)) hg⟩
  rw [hf, hu]
  rfl

theorem ldByte_fallToPilot {a : Nat} (h0 : 0x30000000 ≤ a) (h1 : a < 0x31000000) :
    ldByte (fallToPilot (some c) s) a = ldByte s a := by
  rw [(fallToPilot_frame c s).1]
  exact ldByte_resetMain .pilot { s with pilot := pilotFallen s } h0 h1

theorem rstcause_fallToPilot (h : c < 8) : rd (fallToPilot (some c) s) Reg.PWC_RSTCAUSE_CAUSE = c := by
  rw [(fallToPilot_frame c s).2.rd_eq Reg.PWC_RSTCAUSE_CAUSE]
  exact (rd_wr_same _ _ _).trans (Nat.mod_eq_of_lt h)

theorem rtc_fallToPilot : rd (fallToPilot (some c) s) Reg.PWC_P_RTC_SEC = rd s Reg.PWC_P_RTC_SEC := by
  rw [(fallToPilot_frame c s).2.rd_eq Reg.PWC_P_RTC_SEC, pilotReset, rd_wr_ne _ _ _ _ (by decide),
    rd_resetMain _ _ (by decide)]
  rfl
end

/-! ### The supply, PORST_N and PG_CORE -/

section
variable (s : State)

theorem exec_vpilotLeaveRange (h : s.dev.state ≠ .off) : exec .vpilotLeaveRange s = .next (coldStart .off s) := by
  have : (s.dev.state == .off) = false := by simpa using h
  simp [exec, execVpilotLeaveRange, doVpilotLeaveRange, this]

theorem exec_vpilotEnterRange (b : Bool) (h : s.dev.state = .off) : exec (.vpilotEnterRange b) s =
    .next (setFaultN { coldStart .pilot s with pilot := { (coldStart .pilot s).pilot with pairId := b } }) := by
  simp [exec, execVpilotEnterRange, doVpilotEnterRange, h]

/-- What PORST_N low leaves: PILOT with the cause, PMIC_EN low and no start instant. -/
theorem exec_porstNLow (h : s.dev.state ≠ .off) : exec .porstNLow s =
    .next { fallToPilot (some 2) s with
      pilot := { (fallToPilot (some 2) s).pilot with porst := false, fbTimer := false } } := by
  have : (s.dev.state == .off) = false := by simpa using h
  simp [exec, execPorstNLow, doPorstNLow, this]

theorem exec_pgCoreFall (he : s.pilot.pmicEn = true) (hg : s.pilot.pgCore = true) : exec .pgCoreFall s =
    .next { fallToPilot (some 3) s with
      pilot := { (fallToPilot (some 3) s).pilot with wayUp := .retryWait, attempt := 0 } } := by
  simp [exec, execPgCoreFall, doPgCoreFall, he, hg]

/-- Bytes of the eMRAM, tiles and wires as they were. -/
def Unharmed (s t : State) : Prop :=
  (∀ a, 0x30000000 ≤ a → a < 0x31000000 → ldByte t a = ldByte s a) ∧ t.tiles = s.tiles ∧ t.tx = s.tx

theorem coldStart_unharmed (d : DevState) : Unharmed s (coldStart d s) := by
  rw [coldStart_frame]
  exact ⟨fun a h0 h1 => ldByte_resetMain d s h0 h1, rfl, rfl⟩

theorem fallToPilot_unharmed (c : Nat) : Unharmed s (fallToPilot (some c) s) := by
  refine ⟨fun a h0 h1 => ldByte_fallToPilot c s h0 h1, ?_⟩
  rw [(fallToPilot_frame c s).1]
  exact ⟨rfl, rfl⟩

/-- Each of the three events either finds nothing to do or takes the device down. -/
theorem exec_down_unharmed {c : Instr} {t : State} (hc : c ∈ [Instr.vpilotLeaveRange, .porstNLow, .pgCoreFall])
    (h : exec c s = .next t) : Unharmed s t := by
  have stay : Unharmed s s := ⟨fun _ _ _ => rfl, rfl, rfl⟩
  simp only [List.mem_cons, List.not_mem_nil, or_false] at hc
  obtain rfl | rfl | rfl := hc
  · by_cases ho : s.dev.state = .off
    · obtain rfl : s = t := by simpa [exec, execVpilotLeaveRange, doVpilotLeaveRange, ho] using h
      exact stay
    · rw [exec_vpilotLeaveRange s ho] at h
      cases h
      exact coldStart_unharmed s .off
  · by_cases ho : s.dev.state = .off
    · obtain rfl : s = t := by simpa [exec, execPorstNLow, doPorstNLow, ho] using h
      exact stay
    · rw [exec_porstNLow s ho] at h
      cases h
      exact fallToPilot_unharmed s 2
  · by_cases hp : s.pilot.pmicEn = true ∧ s.pilot.pgCore = true
    · rw [exec_pgCoreFall s hp.1 hp.2] at h
      cases h
      exact fallToPilot_unharmed s 3
    · obtain rfl : s = t := by simpa [exec, execPgCoreFall, doPgCoreFall, hp] using h
      exact stay

end

/-- Settles O7, from what a cold start and a fall to PILOT leave. -/
theorem supplyTakesTheDeviceDown : Obligations.SupplyTakesTheDeviceDown := by
  intro s
  refine ⟨fun ho => ⟨_, exec_vpilotLeaveRange s ho, ?_⟩, fun ho b => ⟨_, exec_vpilotEnterRange s b ho, ?_⟩,
    fun ho => ⟨_, exec_porstNLow s ho, ?_⟩, fun he hg => ⟨_, exec_pgCoreFall s he hg, ?_⟩,
    fun c t hc h => exec_down_unharmed s hc h⟩
  · rw [coldStart_frame]
    rfl
  · have hr := rstcause_coldStart .pilot s
    have hs := rd_coldStart .pilot s (f := Reg.PWC_P_RTC_SEC) (by decide) (by decide) (by decide)
    have hc := rd_coldStart .pilot s (f := Reg.PWC_P_PWRCYC_COUNT) (by decide) (by decide) (by decide)
    rw [coldStart_frame] at hr hs hc ⊢
    exact ⟨rfl, rfl, rfl, hr, hs, hc⟩
  · have hr := rstcause_fallToPilot 2 s (by decide)
    have ht := rtc_fallToPilot 2 s
    rw [(fallToPilot_frame 2 s).1] at hr ht ⊢
    exact ⟨rfl, rfl, rfl, rfl, hr, ht⟩
  · have hr := rstcause_fallToPilot 3 s (by decide)
    have ht := rtc_fallToPilot 3 s
    rw [(fallToPilot_frame 3 s).1] at hr ht ⊢
    exact ⟨rfl, rfl, rfl, rfl, hr, ht⟩

/-- Settles O3. -/
theorem resetIsColdPilot : Obligations.ResetIsColdPilot :=
  ⟨⟨Memory.wf_reset, List.Pairwise.nil⟩, rfl, rfl, rfl, rfl, rfl, rfl⟩

end Sys2Proof.Machine
end

section
/-! PROOF. What the work under a transition of the device leaves alone -/

namespace Sys2Proof.Machine

/-- The registers that the transitions of the device are judged by: the fallback beam, the first fault, the severity of a
failed start test and the raster. -/
def watchedFields : List Fld :=
  [Reg.PWC_P_FB_ON, Reg.FCL_FIRST_VALUE, Reg.FCL_STATUS_VALID, Reg.FCL_SEV 0x183, Reg.RAS_CTRL_RUN]

/-- A field is none of them. -/
def unwatched (f : Fld) : Bool := watchedFields.all (fun g => g.key != f.key)

theorem key_ne_of_unwatched {f : Fld} (h : unwatched f = true) : ∀ g ∈ watchedFields, g.key ≠ f.key := by
  simpa only [unwatched, List.all_eq_true, bne_iff_ne] using h

/-- A field with an index, of a block behind the raster's, is none of them. -/
theorem unwatched_far {base stride n lo width reset : Nat} (h : 0x40050000 ≤ base) :
    unwatched ⟨base + stride * n, lo, width, reset⟩ = true := by
  have hw : ∀ g ∈ watchedFields, g.key < 0x40050000 * 32 := by decide
  simp only [unwatched, List.all_eq_true, bne_iff_ne, Fld.key]
  intro g hg
  have hlt := hw g hg
  simp only [Fld.key] at hlt
  have hle : base * 32 ≤ (base + stride * n) * 32 := Nat.mul_le_mul_right 32 (Nat.le_add_right _ _)
  omega

/-- The pending bits of the interrupts are none of them. -/
theorem unwatched_pend {n : Nat} (h : n < 6) : unwatched (Reg.ITC_PEND_MAP n) = true := by
  have hw : ∀ n < 6, unwatched (Reg.ITC_PEND_MAP n) = true := by decide
  exact hw n h

/-- A command that waits for the transfer of an entry tip-in. -/
def isEntry (k : WaitKind) : Bool := k == .toService || k == .toPrelit

/-- What the work under a transition leaves alone, completions and commits included: the device, the tiles, the inputs of
the pilot, what waits for a change of state and, where `en` says so, the commands that wait for an entry. -/
structure Stays (en : Bool) (s t : State) : Prop where
  dev : t.dev = s.dev
  tiles : t.tiles = s.tiles
  lightReq : t.pilot.lightReq = s.pilot.lightReq
  safeLow : t.pilot.safeLow = s.pilot.safeLow
  sFallback : t.pilot.sFallback = s.pilot.sFallback
  deferred : s.mbx.deferred = [] → t.mbx.deferred = []
  withdrawal : t.mbx.withdraw = s.mbx.withdraw
  standstill : t.mbx.standstill = s.mbx.standstill
  entries : en = true → ∀ w ∈ s.waits, isEntry w.kind = true → w ∈ t.waits
  regs : ∀ g ∈ watchedFields, rd t g = rd s g

theorem Stays.refl (en : Bool) (s : State) : Stays en s s :=
  ⟨rfl, rfl, rfl, rfl, rfl, id, rfl, rfl, fun _ _ hw _ => hw, fun _ _ => rfl⟩

section
variable {en : Bool} {s t : State}

/-- A change of parts of the state that nothing here looks at. -/
theorem Stays.frame {part pending now ntcFrom ntcOn rawHeld mem eccBad pwc thm ras gte zne cor lanes tpr far swp sns links
    ntm image inbox fender core0 core1 mrc evr cku0 cku1 dump sec ptn tx freeCnt} (h : Stays en s t) :
    Stays en s ⟨part, pending, now, ntcFrom, ntcOn, rawHeld, t.regs, mem, eccBad, t.dev, t.pilot, pwc, thm, ras, gte, zne,
      cor, lanes, tpr, t.tiles, far, swp, sns, links, ntm, t.mbx, image, t.waits, inbox, fender, core0, core1, mrc, evr,
      cku0, cku1, dump, sec, ptn, tx, freeCnt⟩ :=
  { h with }

/-- A change of the pilot that keeps its inputs. -/
theorem Stays.framePilot {p : Pilot} (hl : p.lightReq = t.pilot.lightReq) (hs : p.safeLow = t.pilot.safeLow)
    (hf : p.sFallback = t.pilot.sFallback) (h : Stays en s t) : Stays en s { t with pilot := p } :=
  { h with
    lightReq := hl.trans h.lightReq
    safeLow := hs.trans h.safeLow
    sFallback := hf.trans h.sFallback }

/-- A change of the mailboxes that keeps what waits for a change of state. -/
theorem Stays.frameMbx {m : Mbx} (hd : m.deferred = t.mbx.deferred) (hw : m.withdraw = t.mbx.withdraw)
    (hm : m.standstill = t.mbx.standstill) (h : Stays en s t) : Stays en s { t with mbx := m } :=
  { h with
    deferred := fun e => hd.trans (h.deferred e)
    withdrawal := hw.trans h.withdrawal
    standstill := hm.trans h.standstill }

/-- A state that occurs more than once. -/
theorem Stays.of {u : State} (hf : Stays en s u → Stays en s t) (hu : Stays en s u) : Stays en s t := hf hu

theorem Stays.ite {c : Prop} [Decidable c] {u : State} (ht : Stays en s t) (hu : Stays en s u) :
    Stays en s (if c then t else u) := by split <;> assumption

theorem Stays.iteFst {α : Type} {c : Prop} [Decidable c] {p q : State × α} (hp : Stays en s p.1) (hq : Stays en s q.1) :
    Stays en s (if c then p else q).1 := by split <;> assumption

theorem Stays.iteSnd {α : Type} {c : Prop} [Decidable c] {p q : α × State} (hp : Stays en s p.2) (hq : Stays en s q.2) :
    Stays en s (if c then p else q).2 := by split <;> assumption

theorem Stays.atSnd {α : Type} {a : α} (h : Stays en s t) : Stays en s (a, t).2 := h

theorem Stays.when {c : Bool} {f : State → State} (h : Stays en s t) (hf : ∀ {u}, Stays en s u → Stays en s (f u)) :
    Stays en s (when c f t) := .ite (hf h) h

theorem Stays.forEach {α : Type} {l : List α} {f : α → State → State} (h : Stays en s t)
    (hf : ∀ {u} x, Stays en s u → Stays en s (f x u)) : Stays en s (forEach l f t) :=
  forEach_invariant t (Stays en s) l f (fun x _ => hf x) h

theorem Stays.foldl {α β : Type} {g : β → State} {f : β → α → β} {l : List α} {a : β} (h : Stays en s (g a))
    (hf : ∀ {a} x, Stays en s (g a) → Stays en s (g (f a x))) : Stays en s (g (l.foldl f a)) := by
  induction l generalizing a with
  | nil => exact h
  | cons x l ih => exact ih (hf x h)

theorem Stays.wr {f v} (hf : unwatched f = true) (h : Stays en s t) : Stays en s (wr f v t) :=
  { h with regs := fun g hg => (rd_wr_ne t f g v (key_ne_of_unwatched hf g hg)).trans (h.regs g hg) }

/-- The same write on both sides. -/
theorem Stays.wrBoth {f v} (h : Stays en s t) : Stays en (Machine.wr f v s) (Machine.wr f v t) :=
  { h with
    regs := fun g hg => by rw [rd_wr, rd_wr, h.regs g hg] }

theorem Stays.wri {f v} (hf : unwatched f = true) (h : Stays en s t) : Stays en s (wri f v t) := h.wr hf

theorem Stays.satInc {f n} (hf : unwatched f = true) (h : Stays en s t) : Stays en s (satInc f n t) := h.wr hf

theorem Stays.wrapInc {f n} (hf : unwatched f = true) (h : Stays en s t) : Stays en s (wrapInc f n t) := h.wr hf

theorem Stays.raiseExt {src d x} (h : Stays en s t) : Stays en s (raiseExt src d x t) := by
  unfold Machine.raiseExt; split; exacts [h.frame, h]

theorem Stays.raise {src d} (h : Stays en s t) : Stays en s (raise src d t) := h.raiseExt

theorem Stays.send {x} (h : Stays en s t) : Stays en s (send x t) := h.frame
theorem Stays.atTime {n} (h : Stays en s t) : Stays en s (atTime n t) := h.frame

theorem Stays.fire {n} (h : Stays en s t) : Stays en s (fire n t) := by
  unfold Machine.fire
  split
  · next hk => exact .wr (unwatched_pend (by simp only [irqKnown] at hk; grind)) h
  · exact h

theorem Stays.setMapBit {lo hi k v} (hl : unwatched lo = true) (hh : unwatched hi = true) (h : Stays en s t) :
    Stays en s (setMapBit lo hi k v t) := .ite (.wr hl h) (.ite (.wr hh h) h)

theorem Stays.stBytes {a bs} (h : Stays en s t) : Stays en s (stBytes a bs t) := h.frame

theorem Stays.psWrite {a bs} (h : Stays en s t) : Stays en s (psWrite a bs t) :=
  .ite h (.when (.when (t := { t with mem := _, eccBad := _ }) h.frame (·.raise)) (·.raise))

theorem Stays.setFaultN (h : Stays en s t) : Stays en s (setFaultN t) :=
  .ite (.wr rfl <| .framePilot rfl rfl rfl h) (.framePilot rfl rfl rfl h)

theorem Stays.setEmber (h : Stays en s t) : Stays en s (setEmber t) :=
  .wr rfl <| .wr rfl h

theorem Stays.setDefq (h : Stays en s t) : Stays en s (setDefq t) :=
  .forEach h (fun _ h => .wr (unwatched_far (by decide)) h)

theorem Stays.notifyPort {p} (h : Stays en s t) : Stays en s (notifyPort p t) :=
  .ite h h.frame.send

theorem Stays.notify (h : Stays en s t) : Stays en s (notify t) :=
  h.notifyPort.notifyPort

theorem Stays.setIrqPin (h : Stays en s t) : Stays en s (setIrqPin t) :=
  .ite h (.send <| .wr rfl h)

theorem Stays.setPend {c} (h : Stays en s t) : Stays en s (setPend c t) :=
  .setIrqPin (.when (.when (.wr rfl <| .frameMbx rfl rfl rfl h) (·.notify)) (·.fire))

theorem Stays.windowFire {c} (h : Stays en s t) : Stays en s (windowFire c t) :=
  .ite (.frameMbx rfl rfl rfl h) h.setPend

theorem Stays.windowCount {c n} (h : Stays en s t) : Stays en s (windowCount c n t) :=
  .ite (.windowFire <| .frameMbx rfl rfl rfl h) (.frameMbx rfl rfl rfl h)

theorem Stays.canResponse {opc tag status fresh} (h : Stays en s t) : Stays en s (canResponse opc tag status fresh t) :=
  .ite h.send h

theorem Stays.afterRecord {q status} (h : Stays en s t) : Stays en s (afterRecord q status t) :=
  .of (fun hu => .ite (.wr rfl h) (.ite (.setPend hu) (.ite (.wr rfl (.windowCount hu)) (.windowCount hu))))
    (.ite (.wr rfl <| .canResponse h) h)

theorem Stays.complete {q status d0 d1} (h : Stays en s t) : Stays en s (complete q status d0 d1 t) :=
  .ite (.afterRecord <| .wr (unwatched_far (by decide)) <| .psWrite h) h

theorem Stays.channelDrop {c} (h : Stays en s t) : Stays en s (channelDrop c t) :=
  have hd : Stays en s { t with mbx := { t.mbx with deferred := t.mbx.deferred.filter (fun q => q.d.ch != c) } } :=
    { h with deferred := fun e => by simp [h.deferred e] }
  .wr (unwatched_far (by decide)) (.forEach (.setDefq <| .wr (unwatched_far (by decide)) hd) (fun _ h => h.complete))

theorem Stays.channelSettle (h : Stays en s t) : Stays en s (channelSettle t) :=
  .forEach h (fun _ h => .ite h.channelDrop h)

/-- A command that waits for an entry is of one of two kinds. -/
theorem isEntry_cases {k : WaitKind} (h : isEntry k = true) : k = .toService ∨ k = .toPrelit := by
  simpa [isEntry] using h

theorem Stays.finish {p status det} (h : Stays en s t)
    (hp : en = true → ∀ c sc, p ⟨c, sc, .toService⟩ = false ∧ p ⟨c, sc, .toPrelit⟩ = false) :
    Stays en s (finish p status det t) :=
  have hf : Stays en s { t with waits := t.waits.filter (fun w => !p w) } :=
    { h with entries := fun e w hw hk => List.mem_filter.2 ⟨h.entries e w hw hk, by
      obtain ⟨c, sc, k⟩ := w
      obtain rfl | rfl := isEntry_cases hk
      · simp [(hp e c sc).1]
      · simp [(hp e c sc).2]⟩ }
  .channelSettle (.forEach hf (fun _ h => h.complete))

theorem Stays.finishKind {p status d0 d1} (h : Stays en s t)
    (hp : en = true → p .toService = false ∧ p .toPrelit = false) :
    Stays en s (finishKind p status d0 d1 t) := h.finish (fun e _ _ => hp e)

theorem Stays.setLockSt (h : Stays en s t) : Stays en s (setLockSt t) :=
  .ite h (.wr rfl (.ite h.frame h))

theorem Stays.applySet {m fcnt} (h : Stays en s t) : Stays en s (applySet m fcnt t) :=
  .fire (.when (.wr rfl <| .frame h) (.wr rfl ·))

theorem Stays.setPending (h : Stays en s t) : Stays en s (setPending t) :=
  .wr rfl h

theorem Stays.refuse {cause} (h : Stays en s t) : Stays en s (refuse cause t) :=
  .fire <| .wr rfl <| .wr rfl h

theorem Stays.commitStopped (h : Stays en s t) : Stays en s (commitStopped t).1 := by
  unfold Machine.commitStopped
  dsimp only
  split
  · exact h.frame.applySet
  · exact h.refuse

theorem Stays.stageWaiters (h : Stays en s t) : Stays en s (stageWaiters t) :=
  { h with
    entries := fun e w hw hk => List.mem_map.2 ⟨w, h.entries e w hw hk, by
      obtain hk | hk := isEntry_cases hk <;> simp [hk]⟩ }

theorem Stays.holdSet {m} (h : Stays en s t) : Stays en s (holdSet m t) :=
  .of (fun hu => .ite (.ite (.wr rfl <| .frame hu) (.wr rfl <| .frame hu)) hu) h.frame.stageWaiters

theorem Stays.refuseWaiters {cause} (h : Stays en s t) : Stays en s (refuseWaiters cause t) :=
  h.finish (fun _ _ _ => ⟨rfl, rfl⟩)

theorem Stays.sampleSet {m uncapped} (h : Stays en s t) : Stays en s (sampleSet m uncapped t) :=
  .ite h.refuse.refuseWaiters (.ite h.refuse.refuseWaiters h.frame.holdSet)

theorem Stays.sendPtn {type payload} (h : Stays en s t) : Stays en s (sendPtn type payload t) :=
  .ite h.frame.send h

theorem Stays.sendStage {m} (h : Stays en s t) : Stays en s (sendStage m t) :=
  .when h (·.sendPtn)

theorem Stays.sampleNow (h : Stays en s t) : Stays en s (sampleNow t) :=
  .setPending (by
    split
    · exact .ite (.wr rfl <| .frame <| .sendStage <| .frame h) h.frame.sendStage
    · refine .ite (by split; exacts [h.frame.frame.sampleSet, h.frame])
        (.ite (.sendStage <| .sampleSet <| .wr rfl <| .frame <| .frame h) ?_)
      split
      exacts [h.frame.frame.sampleSet.sendStage, .ite h.frame.frame h.frame])

theorem Stays.doCommitSample (h : Stays en s t) : Stays en s (doCommitSample t) :=
  .ite h.sampleNow h

theorem Stays.goRunning (h : Stays en s t) : Stays en s (goRunning t) :=
  .ite h (.ite h.doCommitSample (.setPending (.wr rfl (.when h.doCommitSample (.wr rfl ·)))))

/-- The raster that starts writes RUN and nothing else of what is watched. -/
theorem Stays.startRaster (h : Stays en s t) (hr : rasterOn t = false) :
    Stays en (Machine.wr Reg.RAS_CTRL_RUN 1 s) (startRaster t) := by
  unfold Machine.startRaster
  rw [hr]
  refine .wr rfl (.wr rfl (.wr rfl (.wr rfl (.setLockSt (.wri rfl (.wrBoth ?_))))))
  exact .frame (.frame (by split; exacts [(.setPending <| .applySet <| .wr rfl <| .frame h), h]))

theorem Stays.sendBcast {kind args lanes} (h : Stays en s t) : Stays en s (sendBcast kind args lanes t) :=
  .when h (fun h => .forEach h (fun _ h => h.send))

theorem Stays.sendThrice {kind args lanes} (h : Stays en s t) : Stays en s (sendThrice kind args lanes t) :=
  h.sendBcast.sendBcast.sendBcast

theorem Stays.modTpr {n f} (h : Stays en s t) : Stays en s (modTpr n f t) :=
  h.frame

theorem Stays.setCmdqLevel (h : Stays en s t) : Stays en s (setCmdqLevel t) :=
  .wr rfl h

theorem Stays.enqueue {lanes opc payload} (h : Stays en s t) : Stays en s (enqueue lanes opc payload t) :=
  .ite h.frame.setCmdqLevel h

theorem Stays.sendTcmd {l lane c} (h : Stays en s t) : Stays en s (sendTcmd l lane c t) :=
  .ite h.sendPtn h

theorem Stays.pushLanes {lanes tcmdLane opc payload} (h : Stays en s t) :
    Stays en s (pushLanes lanes tcmdLane opc payload t) :=
  .ite h h.sendTcmd.enqueue

theorem Stays.pushSet {lane opc payload} (h : Stays en s t) : Stays en s (pushSet lane opc payload t) :=
  h.pushLanes

theorem Stays.pushResume {lane sq} (h : Stays en s t) : Stays en s (pushResume lane sq t) :=
  h.pushSet

theorem Stays.sendBarrier {kind op lane cause} (h : Stays en s t) : Stays en s (sendBarrier kind op lane cause t) :=
  h.sendPtn

theorem Stays.demandSets {op cause lanes} (h : Stays en s t) : Stays en s (demandSets op cause lanes t) :=
  .of (fun hu => .ite h (.ite (.sendThrice hu) (.ite (.sendThrice hu) (.ite (.enqueue hu) hu))))
    (.forEach h (fun _ h => h.modTpr))

theorem Stays.demand {op cause lane} (h : Stays en s t) : Stays en s (demand op cause lane t) :=
  .when h.demandSets (·.sendBarrier)

theorem Stays.setFdark {n b} (h : Stays en s t) : Stays en s (setFdark n b t) :=
  .setMapBit rfl rfl h

theorem Stays.updFdark {n} (h : Stays en s t) : Stays en s (updFdark n t) :=
  h.setFdark

theorem Stays.setDeg {n b} (h : Stays en s t) : Stays en s (setDeg n b t) :=
  .setMapBit rfl rfl h

theorem Stays.setTileState {n v} (h : Stays en s t) : Stays en s (setTileState n v t) :=
  .updFdark <| .wr (unwatched_far (by decide)) <| .wr (unwatched_far (by decide)) h

theorem Stays.leaveService {n} (h : Stays en s t) : Stays en s (leaveService n t) :=
  .modTpr <| .setTileState <| .setDeg <| .wr (unwatched_far (by decide)) <| .wr (unwatched_far (by decide)) h

theorem Stays.leaveAll (h : Stays en s t) : Stays en s (leaveAll t) :=
  .forEach h (fun _ h => h.leaveService)

theorem Stays.storeMap {base b} (h : Stays en s t) : Stays en s (storeMap base b t) :=
  .forEach h (fun _ h => h.psWrite)

theorem Stays.loadEnv {e k} (h : Stays en s t) : Stays en s (loadEnv e k t) := by
  have hf {u : State} {g : Gte} (hu : Stays en s u) : Stays en s { u with gte := g } := hu.frame
  exact hf h.storeMap.psWrite.psWrite

theorem Stays.stageTip {slot} (h : Stays en s t) : Stays en s (stageTip slot t) :=
  .frame <| .wr rfl <| .when (hf := (.wr rfl <| .wr rfl <| .wr rfl ·)) <| .wr rfl <| .wr rfl <| .wr rfl <| .wr rfl <|
    .wr rfl <| .wr rfl <| .wr rfl <| .wr rfl <| .wr rfl <| .when h (·.loadEnv)

theorem Stays.stageEntryTip {d} (h : Stays en s t) : Stays en s (stageEntryTip d t) := by
  unfold Machine.stageEntryTip
  dsimp only
  split
  · refine .ite h.stageTip.stageTip (h.stageTip.finish fun _ _ _ => ?_)
    simp [tipWaits]
  · exact h.stageTip

theorem Stays.writeVset {mv} (h : Stays en s t) : Stays en s (writeVset mv t) :=
  .send <| .wr rfl h

theorem Stays.perfDone (h : Stays en s t) : Stays en s (perfDone t) :=
  h.finishKind (fun _ => ⟨rfl, rfl⟩)

theorem Stays.startLevel {lvl} (h : Stays en s t) : Stays en s (startLevel lvl t) :=
  .ite (.perfDone <| .frame <| .wr rfl h) (.ite h (.when (.wr rfl <| .frame h) (·.writeVset)))

theorem Stays.relevel (h : Stays en s t) : Stays en s (relevel t) :=
  h.startLevel

theorem Stays.zneStop (h : Stays en s t) : Stays en s (zneStop t) :=
  .wr rfl <| .wr rfl <| .wr rfl <| .wr rfl <| .wr rfl <| .wr rfl <| .wr rfl <| .wr rfl <| .wr rfl <| .wr rfl <| .wr rfl <|
    .wr rfl <| .wr rfl <| .wr rfl <| .wr rfl <| .psWrite <| .frame h

theorem Stays.stopWaiters {fault} (h : Stays en s t) : Stays en s (stopWaiters fault t) := by
  have hg : Stays en s (Machine.wr Reg.RAS_COMMIT_GO 0 (Machine.forEach (t.mbx.gathers.flatMap Prod.snd)
      (fun q => Machine.complete q.1 5 0 6) { t with mbx := { t.mbx with gathers := [] } })) :=
    .wr rfl (.forEach (.frameMbx rfl rfl rfl h) (fun _ h => h.complete))
  unfold Machine.stopWaiters
  dsimp only
  generalize Machine.wr Reg.RAS_COMMIT_GO 0 _ = u at hg ⊢
  refine .setPending (.finish (.finish ?_ (fun _ _ _ => ⟨rfl, rfl⟩)) (fun _ _ _ => ⟨rfl, rfl⟩))
  split
  · exact .ite (.iteFst hg.commitStopped hg) (.applySet (.frame (.iteFst hg.commitStopped hg)))
  · exact .iteFst hg.commitStopped hg

theorem Stays.raiseSvn (h : Stays en s t) : Stays en s (raiseSvn t) :=
  .wr rfl <| .wr rfl <| .frame h

theorem Stays.setCore {t' c} (h : Stays en s t) : Stays en s (setCore t' c t) :=
  .ite h.frame h.frame

theorem Stays.s1Reset (h : Stays en s t) : Stays en s (s1Reset t) :=
  .wr rfl <| .wr rfl <| .wr rfl <| .wr rfl <| .wr rfl <| .setCore h

theorem Stays.s1Start (h : Stays en s t) : Stays en s (s1Start t) :=
  .ite h (.ite (.wr rfl <| .wr rfl <| .setCore <| .stBytes h) h.raise)

theorem Stays.s1Bar (h : Stays en s t) : Stays en s (s1Bar t) :=
  h.frame.s1Reset

theorem Stays.setDead (h : Stays en s t) : Stays en s (setDead t) :=
  .wr rfl h

theorem Stays.setWearA {i v} (h : Stays en s t) : Stays en s (setWearA i v t) :=
  h.frame

theorem Stays.setUpdLevel (h : Stays en s t) : Stays en s (setUpdLevel t) :=
  .wr rfl <| .wr rfl h

theorem Stays.pushSel {i sel} (h : Stays en s t) : Stays en s (pushSel i sel t) :=
  .ite h.pushSet h

theorem Stays.applyUpd {u} (h : Stays en s t) : Stays en s (applyUpd u t) :=
  .when (.wrapInc rfl (.ite h.psWrite h.psWrite)) (·.pushSel)

theorem Stays.pushUpd {u} (h : Stays en s t) : Stays en s (pushUpd u t) :=
  .ite h (.ite h.applyUpd.setDead (.ite (.raise <| .wr rfl h) h.frame.setUpdLevel))

theorem Stays.pairUpd {u} (h : Stays en s t) : Stays en s (pairUpd u t) :=
  .ite h (.sendPtn (.when h (.wr rfl <| .wr rfl ·)))

theorem Stays.ownUpd {u} (h : Stays en s t) : Stays en s (ownUpd u t) :=
  .ite h h.pairUpd.pushUpd

theorem Stays.wearPixel {i} (h : Stays en s t) : Stays en s (wearPixel i t).2 :=
  .iteSnd (.atSnd h.raise) (.atSnd (.when (.when h (·.setWearA)) (·.ownUpd)))

theorem Stays.wearRow {i n} (h : Stays en s t) : Stays en s (wearRow i n t).2 := by
  induction n generalizing i t with
  | zero => exact h
  | succ n ih => exact ih h.wearPixel

theorem Stays.wearLane {lane} (h : Stays en s t) : Stays en s (wearLane lane t).2 := by
  refine .foldl (g := Prod.snd) h ?_
  intro acc l h
  simp only []
  exact h.wearRow

theorem Stays.holdMeasure {e} (h : Stays en s t) : Stays en s (holdMeasure e t) :=
  .wr rfl <| .wr rfl h

theorem Stays.holdDefer {who loud} (h : Stays en s t) : Stays en s (holdDefer who loud t) :=
  .when (.satInc rfl <| .wr rfl <| .wr rfl h) (·.raise)

theorem Stays.runBurst {b} (h : Stays en s t) : Stays en s (runBurst b t) :=
  .wr rfl <| .frame h

theorem Stays.wearGo {lanes deferred} (h : Stays en s t) : Stays en s (wearGo lanes deferred t) := by
  induction lanes generalizing deferred t with
  | nil => exact h.frame
  | cons n rest ih =>
    have hl : Stays en s (Machine.wearLane n t).2 := h.wearLane
    unfold Machine.wearGo
    generalize Machine.wearLane n t = p at hl ⊢
    obtain ⟨parts, u⟩ := p
    exact .ite hl.frame.runBurst (ih (.satInc rfl <| .holdDefer h))

theorem Stays.wearEnd (h : Stays en s t) : Stays en s (wearEnd t) := by
  unfold Machine.wearEnd
  split
  · exact .ite (.finishKind (.wrapInc rfl <| .wr rfl <| .wr rfl <| .frame h) (fun _ => ⟨rfl, rfl⟩)) h
  · exact h

theorem Stays.wearNext {e} (h : Stays en s t) : Stays en s (wearNext e t) := by
  unfold Machine.wearNext
  split
  · exact .ite h.wearEnd h.holdMeasure.wearGo.wearEnd
  · exact h

theorem Stays.wearStart {e} (h : Stays en s t) : Stays en s (wearStart e t) :=
  .ite h (.wearNext (.when (.wr rfl <| .frame h) (·.raise)))

theorem Stays.setQlevel (h : Stays en s t) : Stays en s (setQlevel t) :=
  .wr rfl h

theorem Stays.evLose (h : Stays en s t) : Stays en s (evLose t) :=
  .wr rfl <| .satInc rfl <| .frame h

theorem Stays.evPush {m sev} (h : Stays en s t) : Stays en s (evPush m sev t) :=
  .ite h.evLose (.ite h.frame.setQlevel (.setQlevel (.when h.frame (·.evLose))))

theorem Stays.fenderVerdictSeen {m sev} (h : Stays en s t) : Stays en s (fenderVerdictSeen m sev t) :=
  .ite (.wr rfl <| .satInc rfl <| .frame h) h

theorem Stays.degradeAct {m} (h : Stays en s t) : Stays en s (degradeAct m t) :=
  .ite (.forEach h (fun _ h => h.demand.setDeg)) h

theorem Stays.sendHandover {reason} (h : Stays en s t) : Stays en s (sendHandover reason t) :=
  h.frame.sendPtn

theorem Stays.withdraw (h : Stays en s t) : Stays en s (withdraw t) :=
  .ite h (.ite (.sendHandover <| .wr rfl h) (.ite (.wr rfl <| .wr rfl <| .frame h) h))

theorem Stays.reactS1 {m} (h : Stays en s t) : Stays en s (reactS1 m t) :=
  .ite h.s1Bar (.ite (.ite h.s1Bar h.s1Reset.s1Start) h)

theorem Stays.reactPair {m} (h : Stays en s t) : Stays en s (reactPair m t) :=
  .ite h.sendHandover h

end

end Sys2Proof.Machine
end

section
/-! PROOF. The transitions of the device -/

namespace Sys2Proof.Machine

/-! ### The transitions of the device -/

section
variable {en : Bool} {s t : State}

/-- The same change of the device on both sides. -/
theorem Stays.withDev (h : Stays en s t) (f : Dev → Dev) :
    Stays en { s with dev := f s.dev } { t with dev := f t.dev } :=
  { h with dev := congrArg f h.dev }

theorem Stays.nothingWaits (h : Stays en s t) (hn : NothingWaits s) : NothingWaits t :=
  ⟨h.deferred hn.1, h.withdrawal.trans hn.2⟩

theorem Stays.withFender (h : Stays en s t) (x) : Stays en s { t with fender := x } := h.frame

/-- The device in state `d`, with no entry begun. -/
def Dev.to (d : DevState) (v : Dev) : Dev := { v with state := d, entering := none, raising := none }

/-- No entry and no start tests under way. -/
def Dev.settled (v : Dev) : Dev := { v with entering := none, raising := none, tests := false, rerun := false }

theorem Stays.setDev {d} (h : Stays en s t) : Stays en { s with dev := s.dev.to d } (setDev d t) := by
  have hp (b : Bool) : Stays en { s with dev := s.dev.to d }
      { t with dev := t.dev.to d, pilot := { t.pilot with fbTimer := b } } :=
    { h.withDev (Dev.to d) with }
  exact .setIrqPin (.setEmber (.setFaultN (.wr rfl (hp _).frame)))

theorem Stays.abortTransitions (h : Stays false s t) : Stays false { s with dev := s.dev.settled } (abortTransitions t) :=
  (h.withDev Dev.settled).finishKind nofun

/-- A stop of the raster clears RUN and nothing else of what is watched. -/
theorem Stays.stopRaster {fault} (h : Stays en s t) : Stays en (Machine.wr Reg.RAS_CTRL_RUN 0 s) (stopRaster fault t) := by
  unfold Machine.stopRaster
  by_cases hr : rasterOn t = true
  · rw [hr]
    exact .wr rfl (.wr rfl (.wr rfl (.wr rfl (.wr rfl (.wr rfl (.wr rfl (.zneStop (.stopWaiters h.wrBoth.frame))))))))
  · have hk : ∀ g ∈ watchedFields, g.key = Reg.RAS_CTRL_RUN.key → g = Reg.RAS_CTRL_RUN := by decide
    have h0 : rd t Reg.RAS_CTRL_RUN = 0 := by simpa [rasterOn, rdb] using hr
    rw [if_pos (by simp [hr])]
    refine { h with regs := fun g hg => ?_ }
    rw [rd_wr]
    split
    · next he => rw [hk g hg he, h0]; rfl
    · exact h.regs g hg

/-- STANDBY with the raster stopped. -/
def inStandby (s : State) : State :=
  wr Reg.RAS_CTRL_RUN 0 { s with dev := { (s.dev.to .standby).settled with sPlate := false } }

theorem Stays.enterStandby (h : Stays false s t) : Stays false (inStandby s) (enterStandby t) :=
  have hs := ((h.withDev fun v => { v with tests := false, rerun := false, sPlate := false, entering := none }).wr
    (f := Reg.FCL_SAFEKIND_VALUE) (v := 0) rfl).setDev (d := .standby)
  have hl := hs.stopRaster.leaveAll.wr (f := Reg.PWC_TGEN_EN) (v := 0) rfl
  (hl.abortTransitions.finishKind nofun).finishKind nofun |>.relevel

/-- FALLBACK with the raster stopped. -/
def inFallback (s : State) : State :=
  wr Reg.RAS_CTRL_RUN 0 { s with dev := { (s.dev.to .fallback).settled with sPlate := false } }

theorem Stays.startRecovery (h : Stays en s t) : Stays en s (startRecovery t) := h.framePilot rfl rfl rfl

theorem Stays.enterFallbackState (h : Stays false s t) : Stays false (inFallback s) (enterFallbackState t) :=
  have hs := ((h.withDev fun v => { v with sPlate := false }).wr (f := Reg.FCL_SAFEKIND_VALUE) (v := 0) rfl).setDev
    (d := .fallback)
  (hs.startRecovery.stopRaster.leaveAll.abortTransitions.finishKind nofun).finishKind nofun |>.relevel

/-- The device as it arrives in `d` from STANDBY or enters it while the raster runs. -/
def arrivedIn (d : DevState) (v : Dev) : Dev :=
  ({ v with tests := d == .prelit, rerun := false, sPlate := false } : Dev).to d

/-- An arrival where SAFE_IN_N does not turn it into S-FALLBACK. -/
theorem Stays.arrive {d} (h : Stays false s t) (hd : (d == .prelit && s.pilot.safeLow) = false) :
    Stays false { s with dev := arrivedIn d s.dev } (arrive d t) := by
  have ha := ((h.withDev fun v => { v with tests := d == .prelit, rerun := false, sPlate := false }).withFender
    { t.fender with passRun := 0 }).setDev (d := d)
  have hr := ha.relevel
  unfold Machine.arrive
  rw [if_neg (by rw [hr.safeLow]; simp [hd])]
  exact .ite (hr.finishKind nofun) (hr.finishKind nofun)

end

end Sys2Proof.Machine
end

section
/-! PROOF. LIGHT_REQ and the fallback beam -/

namespace Sys2Proof.Machine

/-! ### LIGHT_REQ falls (R38) -/

section
variable (s : State) (e : Env)

/-- LIGHT_REQ withdrawn: no start instant, no beam and no entry that auto-light began. -/
def lightWithdrawn : State :=
  fbDark { atTime e.t s with
    pilot := { s.pilot with lightReq := false, fbTimer := false }
    dev := { s.dev with autoHold := false,
                        raising := if !s.waits.any (fun w => isTransition w.kind) then none else s.dev.raising } }

theorem lightWithdrawn_frame : RegsBut [Reg.PWC_P_FB_ON] s (lightWithdrawn s e) :=
  RegsBut.wr (t := { atTime e.t s with pilot := _, dev := _ }) (fun _ _ => rfl) (by simp)

theorem doLightReqFall_taken (ho : s.dev.state ≠ .off) (hl : s.pilot.lightReq = true) : doLightReqFall e s =
    if autoLight s && (s.dev.state == .prelit || s.dev.state == .lit) && !isStandby s then
      wearStart e (enterStandby (lightWithdrawn s e)) else lightWithdrawn s e := by
  have hr := lightWithdrawn_frame s e
  have ha : autoLight (lightWithdrawn s e) = autoLight s := by
    simp only [autoLight, bound, rdb, hr.rd_eq Reg.SEC_BOOT_BIND]
    rfl
  have hb : isStandby (lightWithdrawn s e) = isStandby s := by
    simp only [isStandby, pairOp, role, rdb, hr.rd_eq Reg.ITC_STATUS_PAIR, hr.rd_eq Reg.PTN_STATUS_ROLE]
  have hg : (s.dev.state == .off || !s.pilot.lightReq) = false := by simp [ho, hl]
  unfold doLightReqFall
  rw [hg, ← ha, ← hb]
  rfl

/-- Without auto-light a falling LIGHT_REQ moves nothing but the beam. -/
theorem lightReqFall_dark (ho : s.dev.state ≠ .off) (hl : s.pilot.lightReq = true) (ha : autoLight s = false) :
    exec (.lightReqFall e) s = .next (lightWithdrawn s e) := by
  have hd : doLightReqFall e s = lightWithdrawn s e := by rw [doLightReqFall_taken s e ho hl, ha]; rfl
  have hm : stateMoved s (doLightReqFall e s) = false := by
    rw [hd]
    simp [stateMoved, lightWithdrawn, fbDark, scBusy]
  exact congrArg _ ((settled_still s e _ hm).trans hd)

/-- With auto-light a falling LIGHT_REQ leads PRELIT and LIT to STANDBY. -/
theorem lightReqFall_standby (hd : s.dev.state = .prelit ∨ s.dev.state = .lit) (hl : s.pilot.lightReq = true)
    (ha : autoLight s = true) (hp : pairOp s = false) (hn : NothingWaits s) :
    ∃ t, exec (.lightReqFall e) s = .next t ∧ t.dev.state = .standby ∧ t.pilot.lightReq = false := by
  have ho : s.dev.state ≠ .off := by rcases hd with h | h <;> simp [h]
  have hc : (autoLight s && (s.dev.state == .prelit || s.dev.state == .lit) && !isStandby s) = true := by
    rcases hd with h | h <;> simp [h, ha, isStandby, hp]
  have hf : doLightReqFall e s = wearStart e (enterStandby (lightWithdrawn s e)) := by
    rw [doLightReqFall_taken s e ho hl, if_pos hc]
  have hs : Stays false (inStandby (lightWithdrawn s e)) (doLightReqFall e s) := by
    rw [hf]
    exact (Stays.refl false _).enterStandby.wearStart
  have hx : exec (.lightReqFall e) s = .next (doLightReqFall e s) :=
    congrArg Host.Outcome.next (settled_none s e _ (hs.nothingWaits hn))
  refine ⟨_, hx, ?_, hs.lightReq⟩
  rw [hs.dev]
  rfl

end

/-! ### The beam is lit and turned off (R38, R403, R530) -/

section
variable (s : State)

/-- A beam that nothing withholds and no pulse holds lights the channels of the mask. -/
theorem fbLight_free (m : Nat) (hw : fbWithheld s = false) (hp : s.pilot.fbPulse = none) : fbLight m s =
    wr Reg.PWC_P_FB_ON (fbOn s ||| m % 4) { s with pilot := { s.pilot with fbDemand := s.pilot.fbDemand ||| 0 } } := by
  have hm : andNot m 0 2 = m % 4 := Nat.and_two_pow_sub_one_eq_mod m 2
  simp only [fbLight, hw, hp, hm]
  rfl

/-- What a test of FB0's switch before it is lit may change: its record, its message and the switch's bit. -/
structure TestedOnly (s t : State) : Prop where
  fbTimer : t.pilot.fbTimer = s.pilot.fbTimer
  pairAct : t.pilot.pairAct = s.pilot.pairAct
  fbPulse : t.pilot.fbPulse = s.pilot.fbPulse
  dev : t.dev = s.dev
  mem : t.mem = s.mem
  tx : t.tx = s.tx
  regs : RegsBut [Reg.FST_OUT_FB0] s t

theorem TestedOnly.refl : TestedOnly s s := ⟨rfl, rfl, rfl, rfl, rfl, rfl, RegsBut.refl s _⟩

theorem fbFailed_tested (sw : Nat) : TestedOnly s (fbFailed 0 sw s) := by
  unfold fbFailed
  dsimp only
  cases mainOn _ with
  | false => exact ⟨rfl, rfl, rfl, rfl, rfl, rfl, fun _ _ => rfl⟩
  | true =>
    rw [when_true, if_pos rfl]
    have hr (v : Nat) (u : State) (hu : u.regs = s.regs) : RegsBut [Reg.FST_OUT_FB0] s (wr Reg.FST_OUT_FB0 v u) :=
      RegsBut.wr (fun f _ => rd_of_regs hu f) (by simp)
    exact ⟨by simp; rfl, by simp; rfl, by simp; rfl, by simp; rfl, by simp; rfl, by simp; rfl,
      (hr _ (shadowWrite _ _ s) rfl).congr rfl (by simp; rfl)⟩

theorem preLight_tested (c : Bool) (mid : Mid) : TestedOnly s (when c (preLight 0 mid) s) := by
  cases c with
  | false => exact .refl s
  | true =>
    rw [when_true]
    unfold preLight
    split
    · exact .refl s
    · exact fbFailed_tested s 0

/-- The state in which the start instant has passed and FB0's switch was tested. -/
def fb0Tested (mid : Mid) : State :=
  let u : State := { s with pilot := { s.pilot with fbTimer := false } }
  Machine.when (!bit (fbOn u) 0 && !fbWithheld u) (preLight 0 mid) u

theorem exec_fb0LightTimer (mid : Mid) (ht : s.pilot.fbTimer = true) (hl : s.pilot.lightReq = true)
    (hr : rasterState s.dev.state = false) (ho : s.dev.state ≠ .off) :
    exec (.fb0LightTimer mid) s = .next (fbLight 1 (fb0Tested s mid)) := by
  have hg : (s.pilot.fbTimer && s.pilot.lightReq && !rasterState s.dev.state && s.dev.state != .off) = true := by
    simp [ht, hl, hr, ho]
  exact congrArg Host.Outcome.next (if_pos hg)

theorem fb0LightTimer_lights (mid : Mid) (ht : s.pilot.fbTimer = true) (hl : s.pilot.lightReq = true)
    (hr : rasterState s.dev.state = false) (ho : s.dev.state ≠ .off) (hw : fbWithheld s = false)
    (hp : s.pilot.fbPulse = none) :
    ∃ t, exec (.fb0LightTimer mid) s = .next t ∧ t.pilot.fbTimer = false ∧
      rd t Reg.PWC_P_FB_ON = (rd s Reg.PWC_P_FB_ON ||| 1) % 4 ∧ t.dev = s.dev ∧ SameMem s t ∧ t.tx = s.tx := by
  have hx := exec_fb0LightTimer s mid ht hl hr ho
  have hu : TestedOnly { s with pilot := { s.pilot with fbTimer := false } } (fb0Tested s mid) := preLight_tested _ _ mid
  generalize fb0Tested s mid = u at hu hx
  have hv : fbWithheld u = false := by
    rw [fbWithheld, pairOp, rdb, hu.regs.rd_eq Reg.ITC_STATUS_PAIR, hu.pairAct]
    exact hw
  rw [fbLight_free u 1 hv (hu.fbPulse.trans hp)] at hx
  refine ⟨_, hx, hu.fbTimer, ?_, hu.dev, fun a => by rw [ldByte, wr_mem, hu.mem]; rfl, hu.tx⟩
  rw [rd_wr_same, fbOn, hu.regs.rd_eq Reg.PWC_P_FB_ON]
  rfl

/-- FALLBACK_OFF's register is a demand in STANDBY only. -/
theorem exec_fbOffreqWrite : exec .fbOffreqWrite s = .next (if s.dev.state == .standby then fbDark s else s) := rfl

theorem fbDark_frame : fbDark s = { s with regs := (fbDark s).regs, pilot := (fbDark s).pilot } ∧
    rd (fbDark s) Reg.PWC_P_FB_ON = 0 ∧ RegsBut [Reg.PWC_P_FB_ON] s (fbDark s) :=
  ⟨rfl, rd_wr_same _ _ _, RegsBut.wr (t := { s with pilot := _ }) (fun _ _ => rfl) (by simp)⟩

/-- The channels withheld from the pair light when PAIR_ACT reads low. -/
theorem pairActChange_lights (ho : s.dev.state ≠ .off) (hp : s.pilot.fbPulse = none) :
    ∃ t, exec (.pairActChange false) s = .next t ∧ t.pilot.pairAct = false ∧ t.pilot.fbPair = 0 ∧
      rd t Reg.PWC_P_FB_ON = (rd s Reg.PWC_P_FB_ON ||| s.pilot.fbPair % 4) % 4 ∧ RegsBut [Reg.PWC_P_FB_ON] s t := by
  let u : State := { s with pilot := { s.pilot with pairAct := false, fbPair := 0 } }
  have ho' : (s.dev.state == .off) = false := by simpa using ho
  have hx : exec (.pairActChange false) s = .next (fbLight s.pilot.fbPair u) := by
    simp [exec, execPairActChange, doPairActChange, ho', u]
  rw [fbLight_free u s.pilot.fbPair (Bool.and_false _) hp] at hx
  exact ⟨_, hx, rfl, rfl, rd_wr_same _ _ _, RegsBut.wr (t := { u with pilot := _ }) (fun _ _ => rfl) (by simp)⟩

end

/-- Settles O10, from the state in which LIGHT_REQ is withdrawn and what a lit beam writes. -/
theorem lightReqDrivesTheFallbackBeam : Obligations.LightReqDrivesTheFallbackBeam := by
  intro s
  refine ⟨fun e ho hl ha => ⟨_, lightReqFall_dark s e ho hl ha, rfl, rfl, rfl, rd_wr_same _ _ _,
      lightWithdrawn_frame s e, fun _ => rfl, rfl, rfl⟩,
    fun e hd hl ha hp hn => lightReqFall_standby s e hd hl ha hp hn,
    fun mid ht hl hr ho hw hp => fb0LightTimer_lights s mid ht hl hr ho hw hp, fun hd => ?_, fun hd => ?_,
    fun ho hp => pairActChange_lights s ho hp, fun ho => ?_⟩
  · refine ⟨_, exec_fbOffreqWrite s, ?_⟩
    rw [hd]
    exact fbDark_frame s
  · refine ⟨_, exec_fbOffreqWrite s, if_neg ?_⟩
    simpa using hd
  · refine ⟨_, rfl, if_neg ?_⟩
    simpa using ho

end Sys2Proof.Machine
end

section
/-! PROOF. The start tests -/

namespace Sys2Proof.Machine

section
variable {en : Bool} {s t : State}

theorem forEach_one {α : Type} (x : α) (f : α → State → State) : Machine.forEach [x] f s = f x s := rfl

/-! ### A fault that leads to S-FALLBACK (R407, R410) -/

/-- The latch whose first message is the word `w`. -/
def firstLatched (w : Nat) (s : State) : State := wr Reg.FCL_STATUS_VALID 1 (wr Reg.FCL_FIRST_VALUE w s)

/-- The first message of an empty latch becomes FIRST. -/
theorem Stays.latchWarn_first {m : FMsg} {sev : Nat} (h : Stays en s t) (hv : rd t Reg.FCL_STATUS_VALID = 0) :
    Stays en (firstLatched (msgWord m) s) (latchWarn m sev t) := by
  have hb : rdb t Reg.FCL_STATUS_VALID = false := by simp [rdb, hv]
  unfold latchWarn
  rw [hb]
  exact .fire (.wr rfl (.wrBoth (.wr rfl (.wr rfl (.wr rfl (.wrBoth h))))))

theorem Stays.latch_first {m : FMsg} (h : Stays en s t) (hs : severity t m.source ≠ 0)
    (hv : rd t Reg.FCL_STATUS_VALID = 0) : Stays en (firstLatched (msgWord m) s) (latch m t) := by
  have hl : Stays en s { t with links := { t.links with canHigh := max t.links.canHigh (severity t m.source) } } := h.frame
  unfold latch
  dsimp only
  rw [if_neg hs]
  refine .setEmber (.setFaultN (.evPush (.fenderVerdictSeen ((hl.wr rfl).latchWarn_first ?_))))
  exact (rd_wr_ne _ Reg.FCL_LAST_VALUE Reg.FCL_STATUS_VALID _ (by decide)).trans hv

/-- The fallback channels on demand change FB_ON and nothing else of what is watched. -/
theorem Stays.fbLight (h : Stays en s t) (m : Nat) :
    ∃ u, Stays en u (fbLight m t) ∧ u.dev = s.dev ∧ u.mbx = s.mbx ∧ RegsBut [Reg.PWC_P_FB_ON] s u := by
  unfold Machine.fbLight
  split
  · exact ⟨s, .framePilot rfl rfl rfl h, rfl, rfl, RegsBut.refl s _⟩
  · exact ⟨_, .wrBoth (.framePilot rfl rfl rfl h), rfl, rfl, RegsBut.wr (fun _ _ => rfl) (by simp)⟩

theorem Stays.fallbackOutputs (h : Stays en s t) :
    ∃ u, Stays en u (fallbackOutputs t) ∧ u.dev = s.dev ∧ u.mbx = s.mbx ∧ RegsBut [Reg.PWC_P_FB_ON] s u := by
  have hd : Stays en { s with pilot := { s.pilot with sFallback := true } }
      { t with pilot := { t.pilot with sFallback := true } } := { h with sFallback := rfl }
  have hf := (hd.wr (f := Reg.COR_GATE_FDARK_LO_MAP) (v := 0xFFFFFFFF) rfl).wr
    (f := Reg.COR_GATE_FDARK_HI_MAP) (v := 0xFFFFFFFF) rfl
  obtain ⟨u, hu, hv, hm, hr⟩ := hf.fbLight _
  exact ⟨u, .wr rfl hu.frame, hv, hm, hr⟩

/-- What S-FALLBACK leaves: FALLBACK, with what waited, the first fault and the severity of START_TEST as they were. -/
structure InSFallback (s t : State) : Prop where
  dev : t.dev.state = .fallback
  waits : NothingWaits s → NothingWaits t
  regs : ∀ g ∈ [Reg.FCL_FIRST_VALUE, Reg.FCL_SEV 0x183], rd t g = rd s g

theorem Stays.enterSFallback (h : Stays false s t) : InSFallback s (enterSFallback t) := by
  obtain ⟨u, hu, hv, hm, hr⟩ := h.fallbackOutputs
  have hf : Stays false (inFallback u) (Machine.enterSFallback t) := hu.enterFallbackState
  refine ⟨by rw [hf.dev]; rfl, fun hn => hf.nothingWaits ?_, fun g hg => ?_⟩
  · exact ⟨(congrArg Mbx.deferred hm).trans hn.1, (congrArg Mbx.withdraw hm).trans hn.2⟩
  · have hw : ∀ g ∈ [Reg.FCL_FIRST_VALUE, Reg.FCL_SEV 0x183],
        g ∈ watchedFields ∧ g.key ≠ Reg.RAS_CTRL_RUN.key ∧ ∀ f ∈ [Reg.PWC_P_FB_ON], g.key ≠ f.key := by decide
    obtain ⟨hw, hrun, hfb⟩ := hw g hg
    rw [hf.regs g hw, ← hr.rd_eq g hfb]
    exact rd_wr_ne _ _ g _ hrun

/-- What stays after S-FALLBACK. -/
theorem InSFallback.stays {u : State} (h : InSFallback s t) (hu : Stays false t u) : InSFallback s u :=
  ⟨(congrArg Dev.state hu.dev).trans h.dev, fun hn => hu.nothingWaits (h.waits hn),
    fun g hg => (hu.regs g (by revert g; decide)).trans (h.regs g hg)⟩

/-- A fault of severity SAFE that chooses S-FALLBACK. -/
theorem reactSafe_fallback {m : FMsg} (hs : severity s m.source = 3) (hr : rasterState s.dev.state = true)
    (hc : choosesFallback s m = true) : reactSafe [m] s = enterSFallback (withdraw s) := by
  simp [reactSafe, hs, hr, hc]

theorem reactFatal_below {m : FMsg} (hs : severity s m.source = 3) : reactFatal [m] s = s := by
  simp [reactFatal, hs]

/-- START_TEST with the number of the failed step. -/
def startTestMsg (k : Nat) : FMsg := ⟨0x183, 0x4F, k, none⟩

theorem startTestMsg_known (k : Nat) : msgKnown (startTestMsg k) = true := by
  have hr : (faultRow 0x183).map FaultRow.kind = some 0x4F := by decide
  obtain ⟨r, hr, hk⟩ := Option.map_eq_some_iff.1 hr
  simp [msgKnown, startTestMsg, hr, hk]

theorem startTestMsg_choosesFallback (k : Nat) : choosesFallback s (startTestMsg k) = true := by
  simp [choosesFallback, startTestMsg]

/-- START_TEST in PRELIT at severity SAFE with an empty latch becomes FIRST and leads to S-FALLBACK. -/
theorem Stays.faultReact_startTest (k : Nat) (h : Stays false s t) (hd : s.dev.state = .prelit)
    (hs : severity s 0x183 = 3) (hv : rd s Reg.FCL_STATUS_VALID = 0) :
    InSFallback (firstLatched (msgWord (startTestMsg k)) s) (faultReact [startTestMsg k] t) := by
  have ht : t.dev.state = .prelit := (congrArg Dev.state h.dev).trans hd
  have hst : severity t 0x183 = 3 := (h.regs _ (by decide)).trans hs
  have hl := h.latch_first (m := startTestMsg k) (by rw [startTestMsg, hst]; decide) ((h.regs _ (by decide)).trans hv)
  have ha := hl.degradeAct (m := startTestMsg k)
  have hsev : severity (firstLatched (msgWord (startTestMsg k)) s) 0x183 = 3 := by
    rw [severity, firstLatched, rd_wr_ne _ _ _ _ (by decide), rd_wr_ne _ _ _ _ (by decide)]
    exact hs
  have hf := ha.withdraw.enterSFallback
  have hm : mainOn t.dev.state = true := by rw [ht]; rfl
  have hms : ([startTestMsg k].filter msgKnown).mergeSort (msgBefore t) = [startTestMsg k] := by
    simp [startTestMsg_known]
  unfold faultReact
  rw [hm, hms]
  simp only [Bool.not_true, Bool.false_eq_true, if_false, forEach_one]
  rw [reactSafe_fallback (m := startTestMsg k) ((ha.regs (Reg.FCL_SEV 0x183) (by decide)).trans hsev)
      (by rw [ha.dev]; exact congrArg _ hd)
    (startTestMsg_choosesFallback k), reactFatal_below (m := startTestMsg k)
      ((hf.regs (Reg.FCL_SEV 0x183) (by decide)).trans hsev)]
  exact hf.stays (.setEmber (.setFaultN (.reactPair (.reactS1 (.refl false _)))))

/-! ### The end of the start tests (R33, R38) -/

/-- LIT with the start tests over and the beam off. -/
def inLit (s : State) : State :=
  wr Reg.PWC_P_FB_ON 0 { s with
    pilot := { s.pilot with sFallback := false }
    dev := ({ s.dev with tests := false, rerun := false } : Dev).to .lit }

theorem Stays.enterLit (h : Stays false s t) : Stays false (inLit s) (enterLit t) := by
  have hp : Stays false
      { s with pilot := { s.pilot with sFallback := false }, dev := { s.dev with tests := false, rerun := false } }
      { t with pilot := { t.pilot with sFallback := false, fbPair := 0, fbDemand := 0 }
               dev := { t.dev with tests := false, rerun := false } } :=
    { h with
      dev := congrArg (fun v : Dev => { v with tests := false, rerun := false }) h.dev
      sFallback := rfl }
  exact .finish (.relevel (.raiseSvn (.setDev (.wrBoth hp)))) nofun

/-- PRELIT with S_PLATE cleared and the start tests begun again. -/
def sPlateLeft (s : State) : State := { s with dev := { s.dev with sPlate := false, tests := true, rerun := false } }

theorem Stays.leaveSPlate (h : Stays false s t) : Stays false (sPlateLeft s) (leaveSPlate t) := by
  have hp := (h.withDev fun v => { v with sPlate := false, tests := true, rerun := false }).wr
    (f := Reg.FCL_SAFEKIND_VALUE) (v := 0) rfl |>.setFaultN.setEmber
  exact .of (fun hl => .ite (hl.finishKind nofun) (hl.finishKind nofun)) (hp.forEach fun _ hu => hu.pushResume)

theorem Stays.failStart (k : Nat) (h : Stays false s t) (hd : s.dev.state = .prelit)
    (hs : severity s 0x183 = 3) (hv : rd s Reg.FCL_STATUS_VALID = 0) :
    InSFallback (firstLatched (msgWord (startTestMsg k)) s) (failStart k t) :=
  Stays.faultReact_startTest k (h.finishKind nofun) hd hs hv

theorem startStep_of_seen (found : Nat) (h : startStepSeen s = 0) : startStep s found = found := by simp [startStep, h]

theorem startStep_of_found (h : startStepSeen s ≠ 0) : startStep s 0 = startStepSeen s := by simp [startStep, h]

theorem doStartTestsDone_prelit (e : Env) (k : Nat) (hd : s.dev.state = .prelit) (ht : s.dev.tests = true) :
    doStartTestsDone e k s =
      if startStep s k = 0 then startPassed (atTime e.t s) else failStart (startStep s k) (atTime e.t s) := by
  unfold doStartTestsDone
  rw [hd, ht]
  rfl

/-- A start test whose end lets nothing wait completes as it is. -/
theorem exec_startTestsDone (e : Env) (k : Nat) (hn : NothingWaits (doStartTestsDone e k s)) :
    exec (.startTestsDone e k) s = .next (doStartTestsDone e k s) :=
  congrArg Host.Outcome.next (settled_none s e _ hn)

theorem startTestsDone_lit (e : Env) (hd : s.dev.state = .prelit) (ht : s.dev.tests = true) (hp : pairOp s = false)
    (hn : NothingWaits s) (hr : s.dev.rerun = false) (h0 : startStepSeen s = 0) :
    ∃ t, exec (.startTestsDone e 0) s = .next t ∧ t.dev.state = .lit ∧ t.dev.tests = false ∧
      rd t Reg.PWC_P_FB_ON = 0 ∧ t.pilot.sFallback = false := by
  have hx := doStartTestsDone_prelit e 0 hd ht
  rw [if_pos (startStep_of_seen 0 h0)] at hx
  have hb : isStandby (atTime e.t s) = false := by
    rw [isStandby, show pairOp (atTime e.t s) = false from hp, Bool.false_and]
  have hpass : startPassed (atTime e.t s) = enterLit (atTime e.t s) := by
    rw [startPassed, show (atTime e.t s).dev.rerun = false from hr, hb]
    rfl
  have hl : Stays false (inLit s) (doStartTestsDone e 0 s) := by
    rw [hx, hpass]
    exact (Stays.refl false s).atTime.enterLit
  refine ⟨_, exec_startTestsDone e 0 (hl.nothingWaits hn), by rw [hl.dev]; rfl, by rw [hl.dev]; rfl, ?_, hl.sFallback⟩
  exact (hl.regs _ (by decide)).trans (rd_wr_same _ _ _)

theorem startTestsDone_rerun (e : Env) (hd : s.dev.state = .prelit) (ht : s.dev.tests = true) (hn : NothingWaits s)
    (hr : s.dev.rerun = true) (h0 : startStepSeen s = 0) :
    ∃ t, exec (.startTestsDone e 0) s = .next t ∧ t.dev.state = .prelit ∧ t.dev.sPlate = false ∧
      t.dev.tests = true ∧ t.dev.rerun = false := by
  have hx := doStartTestsDone_prelit e 0 hd ht
  rw [if_pos (startStep_of_seen 0 h0)] at hx
  have hpass : startPassed (atTime e.t s) = leaveSPlate (atTime e.t s) := by
    rw [startPassed, show (atTime e.t s).dev.rerun = true from hr]
    rfl
  have hl : Stays false (sPlateLeft s) (doStartTestsDone e 0 s) := by
    rw [hx, hpass]
    exact (Stays.refl false s).atTime.leaveSPlate
  exact ⟨_, exec_startTestsDone e 0 (hl.nothingWaits hn), by rw [hl.dev]; exact hd, by rw [hl.dev]; rfl,
    by rw [hl.dev]; rfl, by rw [hl.dev]; rfl⟩

/-- A failed start test leads to FALLBACK with its step in FIRST. -/
theorem startTestsDone_failed (e : Env) (found step : Nat) (hd : s.dev.state = .prelit) (ht : s.dev.tests = true)
    (hn : NothingWaits s) (hstep : startStep s found = step) (h1 : 1 ≤ step) (h8 : step < 8)
    (hs : severity s 0x183 = 3) (hv : rd s Reg.FCL_STATUS_VALID = 0) :
    ∃ t, exec (.startTestsDone e found) s = .next t ∧ t.dev.state = .fallback ∧
      rd t Reg.FCL_FIRST_VALUE = 0xC1CF0000 + step := by
  have hx := doStartTestsDone_prelit e found hd ht
  rw [hstep, if_neg (by omega)] at hx
  have hl : InSFallback (firstLatched (msgWord (startTestMsg step)) s) (doStartTestsDone e found s) := by
    rw [hx]
    exact (Stays.refl false s).atTime.failStart step hd hs hv
  refine ⟨_, exec_startTestsDone e found (hl.waits hn), hl.dev, ?_⟩
  rw [hl.regs _ (by decide), firstLatched, rd_wr_ne _ _ _ _ (by decide), rd_wr_same]
  simp only [msgWord, startTestMsg, Reg.FCL_FIRST_VALUE]
  omega

/-- Settles O13, from what enters LIT, leaves S_PLATE and leads to S-FALLBACK. -/
theorem startTestsDecideLight : Obligations.StartTestsDecideLight := by
  intro s e hd ht hp hn
  refine ⟨fun hr h0 => startTestsDone_lit e hd ht hp hn hr h0, fun hr h0 => startTestsDone_rerun e hd ht hn hr h0,
    fun k h1 h8 h0 hs hv => startTestsDone_failed e k k hd ht hn (startStep_of_seen k h0) h1 h8 hs hv, fun h1 hs hv => ?_⟩
  have hstep : startStep s 0 = 1 := (startStep_of_found (by omega)).trans h1
  exact startTestsDone_failed e 0 1 hd ht hn hstep (le_refl 1) (by omega) hs hv

end

end Sys2Proof.Machine
end

section
/-! PROOF. A command that runs -/

namespace Sys2Proof.Machine

section
variable (s : State) (d : Desc) (e : Env)

/-! ### The state in which a command runs -/

/-- What the take of a descriptor leaves of the state. -/
structure Taken (s : State) (d : Desc) (e : Env) (u : State) : Prop where
  stays : ∀ en, Stays en s u
  frame : u = { atTime e.t s with regs := u.regs, mbx := u.mbx }
  regs : RegsBut [Reg.HIF_MB_AUTHCNT_COUNT d.ch] s u

theorem taken_spec (opc : Nat) : Taken s d e (taken opc d e s) := by
  have hc : Taken s d e (countAuth d.ch (atTime e.t s)) := by
    refine ⟨fun en => ?_, ?_, ?_⟩
    · exact .of (fun h => .ite (.frameMbx rfl rfl rfl h) h) (.wrapInc (unwatched_far (by decide)) (Stays.refl en s).atTime)
    · unfold countAuth
      dsimp only
      split <;> rfl
    · have hw : RegsBut [Reg.HIF_MB_AUTHCNT_COUNT d.ch] s (wrapInc (Reg.HIF_MB_AUTHCNT_COUNT d.ch) 1 (atTime e.t s)) :=
        RegsBut.wr (fun _ _ => rfl) (by simp)
      unfold countAuth
      dsimp only
      split
      · exact hw
      · exact hw
  have ht : Taken s d e (atTime e.t s) := ⟨fun en => (Stays.refl en s).atTime, rfl, fun _ _ => rfl⟩
  unfold taken
  split
  · split
    · exact hc
    · exact ht
  · exact ht

@[simp] theorem taken_dev (opc : Nat) : (taken opc d e s).dev = s.dev := ((taken_spec s d e opc).stays false).dev

@[simp] theorem taken_waits (opc : Nat) : (taken opc d e s).waits = s.waits :=
  (congrArg State.waits (taken_spec s d e opc).frame).trans rfl

@[simp] theorem taken_mem (opc : Nat) : (taken opc d e s).mem = s.mem :=
  (congrArg State.mem (taken_spec s d e opc).frame).trans rfl

@[simp] theorem taken_tx (opc : Nat) : (taken opc d e s).tx = s.tx :=
  (congrArg State.tx (taken_spec s d e opc).frame).trans rfl

@[simp] theorem taken_tiles (opc : Nat) : (taken opc d e s).tiles = s.tiles :=
  ((taken_spec s d e opc).stays false).tiles

/-- A register that is not the counter of the descriptor's channel. -/
theorem taken_rd (opc : Nat) {f : Fld} (hf : f.key ≠ (Reg.HIF_MB_AUTHCNT_COUNT d.ch).key) :
    rd (taken opc d e s) f = rd s f := (taken_spec s d e opc).regs f (by simpa using hf)

/-- The counters of the channels stand at one place of their blocks. -/
theorem key_ne_authcnt {f : Fld} (ch : Nat) (h : f.key % 2048 ≠ 512) : f.key ≠ (Reg.HIF_MB_AUTHCNT_COUNT ch).key := by
  have hc : (Reg.HIF_MB_AUTHCNT_COUNT ch).key % 2048 = 512 := by
    simp only [Fld.key, Reg.HIF_MB_AUTHCNT_COUNT]
    omega
  exact fun he => h (he ▸ hc)

theorem taken_bound (opc : Nat) : bound (taken opc d e s) = bound s := by
  rw [bound, bound, rdb, rdb, taken_rd s d e opc (key_ne_authcnt d.ch (by decide))]

/-- The row of a command by its opcode. -/
theorem cmdOf_some {opc : Nat} {c : Cmd} {r : CmdRow} (hc : cmdOf opc = some (c, r)) :
    c.opc = opc ∧ r.opc = opc ∧ cmdRow opc = some r := by
  unfold cmdOf at hc
  split at hc
  · next hf hr =>
    obtain ⟨rfl, rfl⟩ : _ ∧ _ := by simpa using hc
    have hc := List.find?_some hf
    have ho := List.find?_some hr
    exact ⟨by simpa using hc, by simpa using ho, hr⟩
  · cases hc

/-- The parameters of a command that runs are in their ranges. -/
theorem Runs.params_ok {opc : Nat} {c : Cmd} {r : CmdRow} (hc : cmdOf opc = some (c, r)) (h : Runs opc d e s) :
    c.ok (taken opc d e s) d = true := by
  obtain ⟨c', r', hc', -, -, -, -, hjudge, -⟩ := h
  obtain ⟨rfl, rfl⟩ : c = c' ∧ r = r' := by simpa [hc] using hc'
  unfold judge at hjudge
  split at hjudge
  · cases hjudge
  · next hb =>
    simp only [Bool.or_eq_true, not_or, Bool.not_eq_true, Bool.not_eq_false'] at hb
    exact hb.2

/-- A command runs where the matrix of the device states has an entry for it. -/
theorem Runs.legal {opc : Nat} {c : Cmd} {r : CmdRow} (hc : cmdOf opc = some (c, r)) (h : Runs opc d e s) :
    legalAt r s.dev.state ≠ 0 := by
  obtain ⟨c', r', hc', -, -, -, -, hjudge, -⟩ := h
  obtain ⟨rfl, rfl⟩ : c = c' ∧ r = r' := by simpa [hc] using hc'
  intro hl
  unfold judge at hjudge
  rw [taken_dev, hl] at hjudge
  split at hjudge <;> cases hjudge

/-- A descriptor that passes checks 1 to 3 is judged in the state of its take. -/
theorem serveCmd_judged {c : Cmd} {r : CmdRow} (hr : cmdRow r.opc = some r) (hserve : serves s d.ch = true)
    (hsound : soundDesc c.used d = true) (hchan : channelOk r (atTime e.t s) d.ch = true)
    (hauth : authAsked r d = true → dAuth d = true ∧ tagOk r.opc d (atTime e.t s) = true) :
    serveCmd c r d e s = serveJudged c r d e (taken r.opc d e s) := by
  have hs : serves (atTime e.t s) d.ch = true := hserve
  unfold serveCmd taken
  rw [hr]
  simp only [hs, hsound, hchan, Bool.not_true, Bool.false_eq_true, if_false]
  cases ha : authAsked r d with
  | false => rfl
  | true =>
    obtain ⟨ht, htag⟩ := hauth ha
    simp [ht, htag]

/-- A command that passes every check does its work and settles. -/
theorem serveRow_runs {opc : Nat} {c : Cmd} {r : CmdRow} (hc : cmdOf opc = some (c, r)) (h : Runs opc d e s) :
    serveRow c d e s =
      settle e (changesState r d (taken opc d e s)) s (c.run (cplOf opc d false) d e (taken opc d e s)) := by
  obtain ⟨c', r', hc', hserve, hsound, hchan, hauth, hjudge, hbound⟩ := h
  obtain ⟨rfl, rfl⟩ : c = c' ∧ r = r' := by simpa [hc] using hc'
  obtain ⟨hco, rfl, hr⟩ := cmdOf_some hc
  have hb : (!bound (taken r.opc d e s) && needsBinding r.opc) = false := by
    rw [taken_bound s d e r.opc]
    rcases hbound with hb | hb <;> simp [hb]
  rw [serveRow, hco, hr]
  simp only [serveCmd_judged s d e hr hserve hsound hchan hauth, serveJudged, hjudge, runCmd, hb, Bool.false_eq_true,
    if_false]

/-! ### A completion leaves the commands that wait -/

theorem waits_ite {c : Prop} [Decidable c] {t u : State} {l : List Waiter} (ht : t.waits = l) (hu : u.waits = l) :
    (if c then t else u).waits = l := by
  split
  · exact ht
  · exact hu

@[simp] theorem psWrite_waits (a : Nat) (bs : Bytes) : (psWrite a bs s).waits = s.waits :=
  waits_ite rfl ((when_keeps _ State.waits _ _ (fun s => raise_waits s _ _)).trans
    (when_keeps _ State.waits _ _ (fun s => raise_waits s _ _)))

@[simp] theorem notifyPort_waits (p : Nat) : (notifyPort p s).waits = s.waits := waits_ite rfl rfl

@[simp] theorem setIrqPin_waits : (setIrqPin s).waits = s.waits := waits_ite rfl rfl

@[simp] theorem setPend_waits (c : Nat) : (setPend c s).waits = s.waits := by
  have hn (s : State) : (notify s).waits = s.waits := by simp [notify]
  unfold setPend
  rw [setIrqPin_waits, when_keeps _ State.waits _ _ (fun s => fire_waits s _), when_keeps _ State.waits _ _ hn]
  rfl

@[simp] theorem windowFire_waits (c : Nat) : (windowFire c s).waits = s.waits := waits_ite rfl (setPend_waits s c)

@[simp] theorem windowCount_waits (c n : Nat) : (windowCount c n s).waits = s.waits :=
  waits_ite (windowFire_waits _ c) rfl

@[simp] theorem canResponse_waits (opc tag status fresh : Nat) : (canResponse opc tag status fresh s).waits = s.waits :=
  waits_ite rfl rfl

@[simp] theorem afterRecord_waits (q : Cpl) (status : Nat) : (afterRecord q status s).waits = s.waits := by
  have hs (u : State) (hu : u.waits = s.waits) : (if held u q.ch && q.wake then setPend q.ch u
      else if held (windowCount q.ch 1 u) q.ch then wr Reg.HIF_MB_HOST_HELD 1 (windowCount q.ch 1 u)
      else windowCount q.ch 1 u).waits = s.waits :=
    waits_ite ((setPend_waits u q.ch).trans hu)
      (waits_ite ((windowCount_waits u q.ch 1).trans hu) ((windowCount_waits u q.ch 1).trans hu))
  exact waits_ite rfl (hs _ (waits_ite (canResponse_waits s _ _ _ _) rfl))

@[simp] theorem complete_waits (q : Cpl) (status d0 d1 : Nat) : (complete q status d0 d1 s).waits = s.waits :=
  waits_ite ((afterRecord_waits _ q status).trans (psWrite_waits s _ _)) rfl

/-! ### What follows a command -/

variable {s d e}

theorem stateMoved_still {t : State} (hd : t.dev.state = s.dev.state) (hb : scBusy s = true → scBusy t = true) :
    stateMoved s t = false := by
  cases h : scBusy s
  · simp [stateMoved, hd, h]
  · simp [stateMoved, hd, h, hb h]

/-- A command that neither moves the device nor ends a state change is followed by nothing. -/
theorem settle_still {ran : Bool} {t : State} (hd : t.dev.state = s.dev.state) (hb : scBusy s = true → scBusy t = true)
    (hr : ran = false ∨ scBusy t = true) : settle e ran s t = t := by
  have hm := stateMoved_still hd hb
  unfold settle
  rcases hr with hr | hr <;> simp [hm, hr]

theorem scBusy_append {t : State} {w : Waiter} (h : t.waits = s.waits ++ [w]) : scBusy t = (scBusy s || w.sc) := by
  simp [scBusy, h]

/-- A command that leaves the state of the device and the commands that wait, and ends with its completion. -/
theorem serveRow_ends {opc : Nat} {c : Cmd} {r : CmdRow} {status d0 d1 : Nat} {t : State}
    (hc : cmdOf opc = some (c, r)) (h : Runs opc d e s) (hr : changesState r d (taken opc d e s) = false)
    (hrun : c.run (cplOf opc d false) d e (taken opc d e s) = complete (cplOf opc d false) status d0 d1 t)
    (hd : t.dev.state = s.dev.state) (hw : t.waits = s.waits) :
    serveRow c d e s = complete (cplOf opc d false) status d0 d1 t := by
  have hk : (complete (cplOf opc d false) status d0 d1 t).dev = t.dev := (Stays.refl false _).complete.dev
  rw [serveRow_runs s d e hc h, hrun, hr]
  refine settle_still ((congrArg Dev.state hk).trans hd) (fun hb => ?_) (Or.inl rfl)
  simpa [scBusy, hw] using hb

theorem endsAtOnce_of_run {opc : Nat} {c : Cmd} {r : CmdRow} {i : Instr} {status : Nat} {d0 d1 : State → Nat}
    {f : State → State} (hx : exec i s = .next (serveRow c d e s)) (hc : cmdOf opc = some (c, r)) (h : Runs opc d e s)
    (hr : changesState r d (taken opc d e s) = false)
    (hrun : ∀ u, u = taken opc d e s → c.run (cplOf opc d false) d e u =
      complete (cplOf opc d false) status (d0 (f u)) (d1 (f u)) (f u))
    (hd : (f (taken opc d e s)).dev.state = s.dev.state) (hw : (f (taken opc d e s)).waits = s.waits) :
    EndsAtOnce opc d e s i status d0 d1 f :=
  hx.trans (congrArg _ (serveRow_ends hc h hr (hrun _ rfl) hd hw))

/-- A command after which nothing waits for a change of state. -/
theorem serveRow_settled {opc : Nat} {c : Cmd} {r : CmdRow} (hc : cmdOf opc = some (c, r)) (h : Runs opc d e s)
    (hn : NothingWaits (c.run (cplOf opc d false) d e (taken opc d e s))) :
    serveRow c d e s = c.run (cplOf opc d false) d e (taken opc d e s) := by
  rw [serveRow_runs s d e hc h, settle_none s e _ _ hn]

/-- With no command deferred there is none to go on. -/
theorem rerun_none (p : Deferred → Bool) (n : Nat) (h : s.mbx.deferred = []) : rerun p e n s = s := by
  have hs : ({ s with mbx := { s.mbx with deferred := [] } } : State) = s := by rw [← h]
  cases n with
  | zero => rfl
  | succ n => simp only [rerun, h, List.find?_nil, noteReasons, List.map_nil, hs]

/-- A command that leaves the state of the device and waits. -/
theorem exec_of_waits {opc : Nat} {c : Cmd} {r : CmdRow} {i : Instr} {sc : Bool} {kind : WaitKind}
    (hx : exec i s = .next (serveRow c d e s)) (hc : cmdOf opc = some (c, r)) (h : Runs opc d e s)
    (hr : changesState r d (taken opc d e s) = false ∨ sc = true)
    (hd : (c.run (cplOf opc d false) d e (taken opc d e s)).dev.state = s.dev.state)
    (hw : Waits opc d sc kind s (c.run (cplOf opc d false) d e (taken opc d e s))) :
    exec i s = .next (c.run (cplOf opc d false) d e (taken opc d e s)) := by
  have hb := scBusy_append hw
  rw [hx, serveRow_runs s d e hc h]
  exact congrArg _ (settle_still hd (fun hs => by simp [hb, hs]) (hr.imp id fun hsc => by simp [hb, hsc]))

end

end Sys2Proof.Machine
end

section
/-! PROOF. The safety commands -/

namespace Sys2Proof.Machine

section
variable {s : State} {d : Desc} {e : Env}

/-! ### FAULT_CLEAR (R360, R459) -/

/-- Fields cleared from the last of the list to the first. -/
def zeroed (fs : List Fld) (s : State) : State := fs.foldr (fun f u => wr f 0 u) s

theorem zeroed_frame (fs : List Fld) (s : State) : zeroed fs s = { s with regs := (zeroed fs s).regs } := by
  induction fs with
  | nil => rfl
  | cons f fs ih =>
    show wr f 0 (zeroed fs s) = { s with regs := (wr f 0 (zeroed fs s)).regs }
    rw [ih]
    rfl

theorem rd_zeroed (fs : List Fld) (s : State) (g : Fld) :
    rd (zeroed fs s) g = if g.key ∈ fs.map Fld.key then 0 else rd s g := by
  induction fs with
  | nil => rfl
  | cons f fs ih =>
    show rd (wr f 0 (zeroed fs s)) g = _
    rw [rd_wr, ih]
    by_cases hk : g.key = f.key
    · simp [hk]
    · simp [hk]

/-- The fields of the latch in the order in which its clear empties them, the last one first. -/
def latchFields : List Fld :=
  [Reg.FCL_STATUS_HIGHEST, Reg.FCL_STATUS_COUNT, Reg.FCL_STATUS_OVF, Reg.FCL_STATUS_EXTV, Reg.FCL_STATUS_VALID,
    Reg.FCL_FIRST_FCNT_VALUE, Reg.FCL_FIRST_EXT_VALUE, Reg.FCL_FIRST_VALUE]

theorem fclClear_eq (s : State) : fclClear s =
    setEmber (setFaultN (zeroed latchFields { s with fender := { s.fender with bad := false } })) := rfl

/-- The clear of the latch touches registers, the FAULT_N pin and the fender's verdict. -/
theorem fclClear_frame (s : State) : fclClear s = { s with
    regs := (fclClear s).regs, pilot := (fclClear s).pilot, fender := (fclClear s).fender } := by
  rw [fclClear_eq, (setEmber_frame _).1, (setFaultN_frame _).1, zeroed_frame]

@[simp] theorem fclClear_dev (s : State) : (fclClear s).dev = s.dev :=
  (congrArg State.dev (fclClear_frame s)).trans rfl

@[simp] theorem fclClear_waits (s : State) : (fclClear s).waits = s.waits :=
  (congrArg State.waits (fclClear_frame s)).trans rfl

/-- FAULT_N and the ember follow the latch. -/
theorem rd_setFaultN_setEmber (s : State) {f : Fld}
    (hf : f ∈ [Reg.FCL_FIRST_VALUE, Reg.FCL_STATUS_VALID, Reg.FCL_STATUS_COUNT, Reg.PWC_P_WAKE_WAKE_FAIL]) :
    rd (setEmber (setFaultN s)) f = rd s f := by
  have hk : ∀ f ∈ [Reg.FCL_FIRST_VALUE, Reg.FCL_STATUS_VALID, Reg.FCL_STATUS_COUNT, Reg.PWC_P_WAKE_WAKE_FAIL],
      (∀ g ∈ [Reg.FST_EMBER, Reg.FCL_STATUS_EMBER], f.key ≠ g.key) ∧
        ∀ g ∈ [Reg.FCL_STATUS_FAULTN], f.key ≠ g.key := by decide
  obtain ⟨he, hn⟩ := hk f hf
  exact ((setEmber_frame _).2 f he).trans ((setFaultN_frame s).2 f hn)

theorem rd_fclClear (s : State) {f : Fld}
    (hf : f ∈ [Reg.FCL_FIRST_VALUE, Reg.FCL_STATUS_VALID, Reg.FCL_STATUS_COUNT]) : rd (fclClear s) f = 0 := by
  have hl : ∀ f ∈ [Reg.FCL_FIRST_VALUE, Reg.FCL_STATUS_VALID, Reg.FCL_STATUS_COUNT],
      f.key ∈ latchFields.map Fld.key := by decide
  have hw : f ∈ [Reg.FCL_FIRST_VALUE, Reg.FCL_STATUS_VALID, Reg.FCL_STATUS_COUNT, Reg.PWC_P_WAKE_WAKE_FAIL] := by
    revert f
    decide
  rw [fclClear_eq, rd_setFaultN_setEmber _ hw, rd_zeroed, if_pos (hl f hf)]

theorem wakeFail_fclClear (s : State) : rd (fclClear s) Reg.PWC_P_WAKE_WAKE_FAIL = rd s Reg.PWC_P_WAKE_WAKE_FAIL := by
  rw [fclClear_eq, rd_setFaultN_setEmber _ (by decide), rd_zeroed, if_neg (by decide)]
  rfl

theorem faultClear_ends (h : Runs 0x0C02 d e s) (hn : s.dev.state ≠ .prelit ∨ s.dev.sPlate = false) :
    EndsAtOnce 0x0C02 d e s (.faultClear d e) 0 stateWord (fun _ => 0)
      (fun u => fclClear (wr Reg.PWC_P_WAKE_WAKE_FAIL 0 u)) := by
  have hc : (s.dev.state == .prelit && s.dev.sPlate) = false := by
    rcases hn with hn | hn <;> simp [hn]
  refine endsAtOnce_of_run rfl rfl h ?_ (fun u hu => ?_) (by simp) (by simp)
  · show ((taken 0x0C02 d e s).dev.state == .prelit && (taken 0x0C02 d e s).dev.sPlate) = false
    rw [taken_dev]
    exact hc
  · simp only [cmdFaultClear, plainCmd, fclClear_dev, wr_dev, hu, taken_dev, hc, okWith]
    rw [rd_fclClear _ (by simp)]
    rfl

theorem faultClear_waits (h : Runs 0x0C02 d e s) (hp : s.dev.state = .prelit) (hs : s.dev.sPlate = true) :
    ∃ t, exec (.faultClear d e) s = .next t ∧ Waits 0x0C02 d true .faultClear s t ∧
      t.dev = { s.dev with tests := true, rerun := true } ∧ rd t Reg.FCL_FIRST_VALUE = 0 ∧
      rd t Reg.FCL_STATUS_VALID = 0 ∧ rd t Reg.FCL_STATUS_COUNT = 0 ∧ rd t Reg.PWC_P_WAKE_WAKE_FAIL = 0 ∧
      t.mem = s.mem ∧ t.tx = s.tx ∧ t.tiles = s.tiles := by
  let u := fclClear (wr Reg.PWC_P_WAKE_WAKE_FAIL 0 (taken 0x0C02 d e s))
  let t : State := { u with
    dev := { u.dev with tests := true, rerun := true }
    fender := { u.fender with passRun := 0 }
    waits := u.waits ++ [⟨cplOf 0x0C02 d false, true, .faultClear⟩] }
  have hf := fclClear_frame (wr Reg.PWC_P_WAKE_WAKE_FAIL 0 (taken 0x0C02 d e s))
  have hd : u.dev = s.dev := by simp [u]
  have hstate : t.dev.state = s.dev.state := by simp only [t, hd]
  have hrun : cmdFaultClear.run (cplOf 0x0C02 d false) d e (taken 0x0C02 d e s) = t := by
    have hc : (u.dev.state == .prelit && u.dev.sPlate) = true := by simp [hd, hp, hs]
    exact if_pos hc
  have ht : Waits 0x0C02 d true .faultClear s t := by simp [Waits, t, u]
  have hx := exec_of_waits (i := .faultClear d e) rfl rfl h (Or.inr rfl) (by rw [hrun]; exact hstate)
    (by rw [hrun]; exact ht)
  rw [hrun] at hx
  refine ⟨t, hx, ht, by simp only [t, hd], rd_fclClear _ (by simp), rd_fclClear _ (by simp), rd_fclClear _ (by simp),
    (wakeFail_fclClear _).trans (rd_wr_same _ _ _), ?_, ?_, ?_⟩
  · exact ((congrArg State.mem hf).trans rfl).trans (taken_mem s d e _)
  · exact ((congrArg State.tx hf).trans rfl).trans (taken_tx s d e _)
  · exact ((congrArg State.tiles hf).trans rfl).trans (taken_tiles s d e _)

/-! ### SEVERITY_SET and FALLBACK_OFF (R34, R38, R361) -/

theorem severitySet_sets (h : Runs 0x0C03 d e s) (hl : rd s Reg.FCL_CTRL_LOCK = 0) :
    EndsAtOnce 0x0C03 d e s (.severitySet d e) 0 (fun _ => severity s (p16 d 0)) (fun _ => 0)
      (wr (Reg.FCL_SEV (p16 d 0)) (p8 d 2)) := by
  refine endsAtOnce_of_run rfl rfl h rfl (fun u hu => ?_) (by simp) (by simp)
  have hb : rdb u Reg.FCL_CTRL_LOCK = false := by
    rw [rdb, hu, taken_rd s d e _ (key_ne_authcnt d.ch (by decide)), hl]
    rfl
  have hs : severity u (p16 d 0) = severity s (p16 d 0) := by
    have hp : cmdSeveritySet.ok (taken 0x0C03 d e s) d = true := h.params_ok s d e rfl
    simp only [cmdSeveritySet, Bool.and_eq_true, decide_eq_true_eq] at hp
    obtain ⟨⟨⟨hsrc, -⟩, -⟩, -⟩ := hp
    rw [severity, severity, hu, taken_rd s d e _]
    simp only [Fld.key, Reg.FCL_SEV, Reg.HIF_MB_AUTHCNT_COUNT]
    omega
  simp only [cmdSeveritySet, hb, hs, okWith, Bool.false_eq_true, if_false]

theorem severitySet_locked (h : Runs 0x0C03 d e s) (hl : rd s Reg.FCL_CTRL_LOCK ≠ 0) :
    EndsAtOnce 0x0C03 d e s (.severitySet d e) 10 (fun _ => 0) (fun _ => 0) id := by
  refine endsAtOnce_of_run rfl rfl h rfl (fun u hu => ?_) (by simp) (by simp)
  have hb : rdb u Reg.FCL_CTRL_LOCK = true := by
    rw [rdb, hu, taken_rd s d e _ (key_ne_authcnt d.ch (by decide))]
    simpa using hl
  simp only [cmdSeveritySet, hb, if_true, id]

theorem fallbackOff_ends (h : Runs 0x0C05 d e s) :
    EndsAtOnce 0x0C05 d e s (.fallbackOff d e) 0 stateWord (fun _ => 0) (fun u =>
      wr Reg.PWC_P_FB_ON 0 { u with pilot := { u.pilot with fbPair := 0, fbDemand := 0 } }) :=
  endsAtOnce_of_run rfl rfl h rfl (fun _ _ => rfl) (by simp) (by simp)

/-! ### SAFE_TEST -/

theorem fenderRuns_taken (opc : Nat) : fenderRuns (taken opc d e s) = fenderRuns s := by
  simp only [fenderRuns, rdb, taken_dev, taken_rd s d e opc (key_ne_authcnt d.ch (f := Reg.FST_RUN) (by decide)),
    taken_rd s d e opc (key_ne_authcnt d.ch (f := Reg.FST_CFGOK) (by decide))]

theorem safeTests_taken (opc : Nat) : safeTests (taken opc d e s) = safeTests s := by
  have hf := (taken_spec s d e opc).frame
  have hpart : (taken opc d e s).part = s.part := (congrArg State.part hf).trans rfl
  have hpwc : (taken opc d e s).pwc = s.pwc := (congrArg State.pwc hf).trans rfl
  have hfen : (taken opc d e s).fender = s.fender := (congrArg State.fender hf).trans rfl
  have hhigh : tgenHigh (taken opc d e s) = tgenHigh s := by
    funext n
    rw [tgenHigh, tgenHigh, taken_rd s d e opc (key_ne_authcnt d.ch (by decide)), hpwc, hfen]
  have hlive : tileLive (taken opc d e s) = tileLive s := by
    funext n
    simp only [tileLive, inService, tileState, rdb]
    rw [taken_rd s d e opc (key_ne_authcnt d.ch (by simp only [Fld.key, Reg.TLK_LN_STATUS_INSERV]; omega)),
      taken_rd s d e opc (key_ne_authcnt d.ch (by simp only [Fld.key, Reg.TPR_TL_STATUS_STATE]; omega))]
  have hcount : laneCount (taken opc d e s) = laneCount s := by rw [laneCount, tileCols, tileRows, hpart]; rfl
  rw [safeTests, safeTests, fenderRuns_taken, groupCount, groupCount, tileLanes, tileLanes, hcount, hhigh, hlive]

/-- The tests that SAFE_TEST starts touch the fender and the sensor only, and nothing while the fender does not run. -/
theorem fenderTests_frame (c : Bool) (u : State) :
    doDarkPathTimer (when c doTgenTestTimer u) = { u with
      fender := (doDarkPathTimer (when c doTgenTestTimer u)).fender
      sns := (doDarkPathTimer (when c doTgenTestTimer u)).sns } := by
  have ht (v : State) : doTgenTestTimer v =
      { v with fender := (doTgenTestTimer v).fender, sns := (doTgenTestTimer v).sns } := by
    unfold doTgenTestTimer
    split
    · split <;> rfl
    · rfl
  have hd (v : State) : doDarkPathTimer v = { v with fender := (doDarkPathTimer v).fender } := by
    unfold doDarkPathTimer
    split
    · split <;> rfl
    · rfl
  cases c with
  | false => rw [when_false, hd]
  | true => rw [when_true, hd, ht]

theorem fenderTests_idle (c : Bool) (u : State) (h : fenderRuns u = false) :
    doDarkPathTimer (when c doTgenTestTimer u) = u := by
  have ht : doTgenTestTimer u = u := by simp [doTgenTestTimer, h]
  cases c <;> simp [ht, doDarkPathTimer, h]

theorem safeTest_waits (h : Runs 0x0C06 d e s) :
    ∃ t, exec (.safeTest d e) s = .next t ∧ Waits 0x0C06 d false (.safeTest (safeTests s) 0) s t ∧
      t = { taken 0x0C06 d e s with waits := t.waits, fender := t.fender, sns := t.sns } ∧
      (fenderRuns s = false → safeTests s = 0x300 ∧ t.fender = s.fender ∧ t.sns = s.sns) := by
  let u := waitFor (cplOf 0x0C06 d false) false (.safeTest (safeTests (taken 0x0C06 d e s)) 0) (taken 0x0C06 d e s)
  let g := groupsToTest (taken 0x0C06 d e s)
  have hrun : cmdSafeTest.run (cplOf 0x0C06 d false) d e (taken 0x0C06 d e s) =
    doDarkPathTimer (when g doTgenTestTimer u) := rfl
  have hf := fenderTests_frame g u
  have ht : Waits 0x0C06 d false (.safeTest (safeTests s) 0) s (doDarkPathTimer (when g doTgenTestTimer u)) := by
    rw [Waits, hf, ← safeTests_taken (s := s) (d := d) (e := e) 0x0C06]
    simp [u, waitFor]
  have hd : (doDarkPathTimer (when g doTgenTestTimer u)).dev.state = s.dev.state := by
    rw [hf]
    simp [u, waitFor]
  have hx := exec_of_waits (i := .safeTest d e) rfl rfl h (Or.inl rfl) (by rw [hrun]; exact hd) (by rw [hrun]; exact ht)
  rw [hrun] at hx
  refine ⟨_, hx, ht, ?_, fun hr => ?_⟩
  · rw [hf]
    rfl
  · have hi := fenderTests_idle g u ((fenderRuns_taken (s := s) 0x0C06).trans hr)
    have hfr := (taken_spec s d e 0x0C06).frame
    refine ⟨by simp [safeTests, hr], ?_, ?_⟩
    · rw [hi]
      exact (congrArg State.fender hfr).trans rfl
    · rw [hi]
      exact (congrArg State.sns hfr).trans rfl

/-- Settles O46, each command by what its run leaves. -/
theorem safetyCommands : Obligations.SafetyCommands := fun _ _ _ =>
  ⟨faultClear_ends, faultClear_waits, fun h => ⟨severitySet_sets h, severitySet_locked h⟩, fallbackOff_ends,
    safeTest_waits⟩

end

end Sys2Proof.Machine
end

section
/-! PROOF. The commands of the device state -/

namespace Sys2Proof.Machine

section
variable {s t : State} {d : Desc} {e : Env}

/-! ### A change of the performance level (R22, R339) -/

/-- A change to the level `lvl` has started, its voltage requested where the level rises. -/
def levelRaised (lvl : Nat) (s : State) : State :=
  Machine.when (rd s Reg.PWC_STATUS_PL < lvl) (writeVset (levelMv s.dev.state lvl)) (levelStarted lvl s)

theorem startLevel_raised {lvl : Nat} (hp : rd s Reg.PWC_STATUS_PL ≠ lvl) (ht : s.pwc.plTo = none) :
    startLevel lvl s = levelRaised lvl s := by
  rw [startLevel_cases, if_neg hp, if_neg (by simp [ht])]
  rfl

theorem levelRaised_frame (lvl : Nat) (s : State) :
    levelRaised lvl s = { s with regs := (levelRaised lvl s).regs, pwc := { s.pwc with plTo := some lvl }
                                 tx := (levelRaised lvl s).tx } ∧
      RegsBut [Reg.PWC_STATUS_PLBUSY, Reg.PWC_VSET_MV] s (levelRaised lvl s) ∧
      rd (levelRaised lvl s) Reg.PWC_STATUS_PLBUSY = 1 := by
  have hs : RegsBut [Reg.PWC_STATUS_PLBUSY, Reg.PWC_VSET_MV] s (levelStarted lvl s) :=
    RegsBut.wr (t := { s with pwc := _ }) (fun _ _ => rfl) (by simp)
  have hb : rd (levelStarted lvl s) Reg.PWC_STATUS_PLBUSY = 1 := rd_wr_same _ _ _
  unfold levelRaised
  cases decide (rd s Reg.PWC_STATUS_PL < lvl) with
  | true => exact ⟨rfl, hs.wr (by simp), (rd_wr_ne _ _ _ _ (by decide)).trans hb⟩
  | false => exact ⟨rfl, hs, hb⟩

theorem levelRaised_stays (lvl : Nat) : Stays false s (levelRaised lvl s) :=
  .when (.wr rfl (.frame (.refl false s))) (·.writeVset)

theorem perfSet_waits (h : Runs 0x0102 d e s) (hs : s.dev.state = .standby) (hr : s.dev.raising = none)
    (hp : rd s Reg.PWC_STATUS_PL ≠ p8 d 0) (ht : s.pwc.plTo = none) :
    ∃ t, exec (.perfSet d e) s = .next t ∧ Waits 0x0102 d true (.perf (p8 d 0)) s t ∧
      rd t Reg.PWC_PLREQ_SB = p8 d 0 ∧ rd t Reg.PWC_STATUS_PLBUSY = 1 ∧ t.pwc.plTo = some (p8 d 0) ∧
      t.dev = s.dev ∧ t.mem = s.mem := by
  let u := taken 0x0102 d e s
  let v := waitFor (cplOf 0x0102 d false) true (.perf (p8 d 0)) (wr Reg.PWC_PLREQ_SB (p8 d 0) u)
  have hok : cmdPerfSet.ok u d = true := h.params_ok s d e rfl
  have h3 : p8 d 0 ≤ 3 := by simpa [cmdPerfSet] using hok
  have hv : v.dev = s.dev := taken_dev s d e _
  have hreq : rd v Reg.PWC_PLREQ_SB = p8 d 0 := (rd_wr_same u _ _).trans (Nat.mod_eq_of_lt (show p8 d 0 < 2 ^ 2 by omega))
  have hpl : rd v Reg.PWC_STATUS_PL = rd s Reg.PWC_STATUS_PL :=
    (rd_wr_ne u _ _ _ (by decide)).trans (taken_rd s d e _ (key_ne_authcnt d.ch (by decide)))
  have hto : v.pwc.plTo = none := (congrArg (fun x => (State.pwc x).plTo) (taken_spec s d e 0x0102).frame).trans ht
  have hrun : cmdPerfSet.run (cplOf 0x0102 d false) d e u = levelRaised (p8 d 0) v := by
    have hl : effLevel v (v.dev.raising.getD v.dev.state) = p8 d 0 := by
      rw [hv, hr, hs]
      exact hreq
    have hb : rasterState u.dev.state = false := by rw [show u.dev = s.dev from hv, hs]; rfl
    rw [← startLevel_raised (by rw [hpl]; exact hp) hto, ← hl]
    simp only [cmdPerfSet, hb]
    rfl
  obtain ⟨hf, hregs, hbusy⟩ := levelRaised_frame (p8 d 0) v
  have hd : (levelRaised (p8 d 0) v).dev = s.dev := (congrArg State.dev hf).trans hv
  have hw : Waits 0x0102 d true (.perf (p8 d 0)) s (levelRaised (p8 d 0) v) := by
    rw [Waits, hf]
    simp [v, u, waitFor]
  have hx := exec_of_waits (i := .perfSet d e) rfl rfl h (Or.inr rfl)
    (by rw [hrun]; exact congrArg Dev.state hd) (by rw [hrun]; exact hw)
  rw [hrun] at hx
  refine ⟨_, hx, hw, (hregs.rd_eq _ (by decide)).trans hreq, hbusy, ?_, hd, ?_⟩
  · rw [hf]
  · exact (congrArg State.mem hf).trans (taken_mem s d e _)

/-! ### Entries to SERVICE and PRELIT (R340, R342, R556) -/

/-- The command with which an entry waits. -/
def entered (opc : Nat) (d : Desc) (kind : WaitKind) (u : State) : State := waitFor (cplOf opc d false) true kind u

theorem entered_stays (opc : Nat) (kind : WaitKind) (en : Bool) :
    Stays en s (entered opc d kind (taken opc d e s)) :=
  have h := (taken_spec s d e opc).stays en
  { h with entries := fun he w hw hk => List.mem_append_left _ (h.entries he w hw hk) }

theorem entered_waits (opc : Nat) (kind : WaitKind) :
    (entered opc d kind (taken opc d e s)).waits = s.waits ++ [⟨cplOf opc d false, true, kind⟩] := by
  simp [entered, waitFor]

theorem entered_pl (opc : Nat) (kind : WaitKind) :
    rd (entered opc d kind (taken opc d e s)) Reg.PWC_STATUS_PL = rd s Reg.PWC_STATUS_PL :=
  taken_rd s d e _ (key_ne_authcnt d.ch (by decide))

section
variable {opc : Nat} {c : Cmd} {r : CmdRow} {i : Instr} {to' : DevState} {kind : WaitKind}
  (hx : exec i s = .next (serveRow c d e s)) (hc : cmdOf opc = some (c, r)) (h : Runs opc d e s)
  (hrun : c.run (cplOf opc d false) d e (taken opc d e s) =
    commandEntry to' (cplOf opc d false) kind (taken opc d e s))

include hrun in
theorem run_fromStandby (hs : s.dev.state = .standby) : c.run (cplOf opc d false) d e (taken opc d e s) =
    leaveStandby to' (entered opc d kind (taken opc d e s)) := by
  have hd : (entered opc d kind (taken opc d e s)).dev.state = .standby := by
    rw [((entered_stays opc kind false).dev)]
    exact hs
  rw [hrun, commandEntry, show (waitFor (cplOf opc d false) true kind (taken opc d e s)).dev.state = .standby from hd]
  rfl

include hx hc h hrun in
/-- An entry from STANDBY without the level waits for it. -/
theorem entry_waitsForLevel (hs : s.dev.state = .standby)
    (hl : rd s Reg.PWC_STATUS_PL < effLevel (taken opc d e s) to') (ht : s.pwc.plTo = none) :
    ∃ t, exec i s = .next t ∧ Waits opc d true kind s t ∧ t.dev.raising = some to' ∧ t.dev.state = .standby ∧
      t.pwc.plTo = some (effLevel (taken opc d e s) to') ∧ t.mem = s.mem := by
  let v := entered opc d kind (taken opc d e s)
  let w : State := { v with dev := { v.dev with raising := some to' } }
  have hv : v.dev = s.dev := (entered_stays opc kind false).dev
  have hlvl : effLevel v to' = effLevel (taken opc d e s) to' := rfl
  have hto : v.pwc.plTo = none := (congrArg (fun x => (State.pwc x).plTo) (taken_spec s d e opc).frame).trans ht
  have hpl : rd w Reg.PWC_STATUS_PL = rd s Reg.PWC_STATUS_PL := entered_pl opc kind
  have hr : c.run (cplOf opc d false) d e (taken opc d e s) = levelRaised (effLevel (taken opc d e s) to') w := by
    rw [run_fromStandby hrun hs, leaveStandby, hlvl, entered_pl, if_pos hl,
      ← startLevel_raised (s := w) (by rw [hpl]; omega) hto]
  obtain ⟨hf, -, -⟩ := levelRaised_frame (effLevel (taken opc d e s) to') w
  have hd : (levelRaised (effLevel (taken opc d e s) to') w).dev = { s.dev with raising := some to' } :=
    (congrArg State.dev hf).trans (congrArg (fun x => { x with raising := some to' }) hv)
  have hw : Waits opc d true kind s (levelRaised (effLevel (taken opc d e s) to') w) :=
    (congrArg State.waits hf).trans (entered_waits opc kind)
  have hnext := exec_of_waits hx hc h (Or.inr rfl) (by rw [hr, hd]) (by rw [hr]; exact hw)
  rw [hr] at hnext
  refine ⟨_, hnext, hw, by rw [hd], by rw [hd]; exact hs, by rw [hf], ?_⟩
  exact (congrArg State.mem hf).trans (taken_mem s d e _)

/-- An arrival from STANDBY starts the raster. -/
theorem Stays.arriveFromStandby (h : Stays false s t) (hd : (to' == .prelit && s.pilot.safeLow) = false)
    (hr : rasterOn s = false) :
    Stays false { Machine.wr Reg.RAS_CTRL_RUN 1 s with dev := arrivedIn to' s.dev } (arriveFromStandby to' t) := by
  have hs := h.stageEntryTip (d := to')
  have hon : rasterOn (Machine.commitStopped (Machine.stageEntryTip to' t)).1 = false := by
    rw [rasterOn, rdb, hs.commitStopped.regs _ (by decide)]
    exact hr
  exact (hs.commitStopped.startRaster hon).arrive hd

include hx hc h hrun in
/-- An entry from STANDBY with the level reached starts the raster. -/
theorem entry_arrives (hn : NothingWaits s) (hs : s.dev.state = .standby)
    (hl : effLevel (taken opc d e s) to' ≤ rd s Reg.PWC_STATUS_PL) (hsafe : s.pilot.safeLow = false)
    (hr : rasterOn s = false) :
    ∃ t, exec i s = .next t ∧ t.dev.state = to' ∧ rasterOn t = true ∧ t.tiles = s.tiles := by
  have ha := (entered_stays (s := s) (d := d) (e := e) opc kind false).arriveFromStandby (to' := to')
    (by rw [hsafe, Bool.and_false]) hr
  have hlvl : effLevel (entered opc d kind (taken opc d e s)) to' = effLevel (taken opc d e s) to' := rfl
  have hrn : c.run (cplOf opc d false) d e (taken opc d e s) =
      arriveFromStandby to' (entered opc d kind (taken opc d e s)) := by
    rw [run_fromStandby hrun hs, leaveStandby, hlvl, entered_pl, if_neg (Nat.not_lt.2 hl)]
  have hnext := hx.trans (congrArg _ ((serveRow_settled hc h (by rw [hrn]; exact ha.nothingWaits hn)).trans hrn))
  refine ⟨_, hnext, by rw [ha.dev]; rfl, ?_, ha.tiles⟩
  rw [rasterOn, rdb, ha.regs _ (by decide)]
  exact (congrArg (· != 0) (rd_wr_same s Reg.RAS_CTRL_RUN 1))

/-- An entry begun while the raster runs. -/
theorem Stays.enterRunning {en : Bool} (h : Stays en s t) (to' : DevState) :
    Stays en { s with dev := { s.dev with entering := some to' } } (enterRunning to' t) :=
  ((h.withDev fun v => { v with entering := some to' }).stageEntryTip).goRunning

include hx hc h hrun in
/-- An entry while the raster runs waits for the transfer of its tip-in. -/
theorem entry_waitsForTransfer (hn : NothingWaits s) (hs : s.dev.state ≠ .standby) (hk : isEntry kind = true) :
    ∃ t, exec i s = .next t ∧ ⟨cplOf opc d false, true, kind⟩ ∈ t.waits ∧
      t.dev = { s.dev with entering := some to' } ∧ t.tiles = s.tiles := by
  have hv : (entered opc d kind (taken opc d e s)).dev = s.dev := (entered_stays opc kind false).dev
  have hr := (Stays.refl true (entered opc d kind (taken opc d e s))).enterRunning to'
  have hrn : c.run (cplOf opc d false) d e (taken opc d e s) =
      Machine.enterRunning to' (entered opc d kind (taken opc d e s)) := by
    have hst : ¬ ((entered opc d kind (taken opc d e s)).dev.state == .standby) = true := by
      rw [hv]
      simpa using hs
    rw [hrun, commandEntry]
    exact if_neg hst
  have hw : NothingWaits (Machine.enterRunning to' (entered opc d kind (taken opc d e s))) :=
    hr.nothingWaits ((entered_stays opc kind false).nothingWaits hn)
  have hnext := hx.trans (congrArg _ ((serveRow_settled hc h (by rw [hrn]; exact hw)).trans hrn))
  refine ⟨_, hnext, hr.entries rfl _ ?_ hk, ?_, ?_⟩
  · show _ ∈ (entered opc d kind (taken opc d e s)).waits
    rw [entered_waits]
    exact List.mem_append_right _ (List.mem_singleton.2 rfl)
  · rw [hr.dev, hv]
  · exact hr.tiles.trans (entered_stays (s := s) (d := d) (e := e) opc kind false).tiles

end

/-! ### LIGHT_OFF, RESET and SLEEP (R343, R344, R466) -/

theorem lightOff_standby (h : Runs 0x0107 d e s) (hn : NothingWaits s) :
    ∃ t, exec (.lightOff d e) s = .next t ∧ t.dev.state = .standby ∧ rasterOn t = false ∧ t.tiles = s.tiles := by
  let hold := (taken 0x0107 d e s).dev.autoHold || autoLight (taken 0x0107 d e s)
  have hu := (((taken_spec s d e 0x0107).stays false).withDev fun v => { v with autoHold := hold }).enterStandby
  have ht : Stays false (inStandby { s with dev := { s.dev with autoHold := hold } })
      (cmdLightOff.run (cplOf 0x0107 d false) d e (taken 0x0107 d e s)) := hu.complete.wearStart
  have hx : exec (.lightOff d e) s = .next (serveRow cmdLightOff d e s) := rfl
  refine ⟨_, hx.trans (congrArg _ (serveRow_settled rfl h (ht.nothingWaits hn))), by rw [ht.dev]; rfl, ?_, ht.tiles⟩
  rw [rasterOn, rdb, ht.regs _ (by decide)]
  exact congrArg (· != 0) (rd_wr_same _ Reg.RAS_CTRL_RUN 0)

theorem reset_ends (h : Runs 0x0108 d e s) (hn : NothingWaits s) :
    EndsAtOnce 0x0108 d e s (.reset d e) 0 stateWord (fun _ => 0)
      (fun u => { u with dev := { u.dev with resetDue := some 4 } }) := by
  have hu := ((taken_spec s d e 0x0108).stays false).withDev fun v => { v with resetDue := some 4 }
  have ht : Stays false { s with dev := { s.dev with resetDue := some 4 } }
      (cmdReset.run (cplOf 0x0108 d false) d e (taken 0x0108 d e s)) := hu.complete
  have hx : exec (.reset d e) s = .next (serveRow cmdReset d e s) := rfl
  exact hx.trans (congrArg _ (serveRow_settled rfl h (ht.nothingWaits hn)))

/-- The handshake of SLEEP has started. -/
def sleepStarted (s : State) : State :=
  wr Reg.PWC_SLEEP_RESULT 0 (wr Reg.PWC_SLEEP_GO 1 (startHandshake (sleepBlocks s) none s))

theorem sleep_waits (h : Runs 0x0109 d e s) (hh : s.pwc.hs = none) :
    ∃ t, exec (.sleep d e) s = .next t ∧ Waits 0x0109 d true (.sleep (p32 d 0)) s t ∧
      (∃ h, t.pwc.hs = some h ∧ h.dom = none ∧ h.delayed = [] ∧ h.left = sleepBlocks s) ∧
      rd t Reg.PWC_SLEEP_GO = 1 ∧ t.dev = s.dev ∧ t.mem = s.mem := by
  let v := entered 0x0109 d (.sleep (p32 d 0)) (taken 0x0109 d e s)
  have hv : v.dev = s.dev := (entered_stays 0x0109 _ false).dev
  have hs : s.dev.state = .standby := by
    have hl := h.legal s d e (c := cmdSleep) rfl
    revert hl
    cases s.dev.state <;> simp [legalAt]
  have hhs : v.pwc.hs = none := (congrArg (fun x => (State.pwc x).hs) (taken_spec s d e 0x0109).frame).trans hh
  have hblocks : sleepBlocks v = sleepBlocks s := by
    have hd : rd v Reg.PWC_DOMST_MAP = rd s Reg.PWC_DOMST_MAP := taken_rd s d e _ (key_ne_authcnt d.ch (by decide))
    have hr : rd v (Reg.ITC_T_CTRL_RUN 1) = rd s (Reg.ITC_T_CTRL_RUN 1) :=
      taken_rd s d e _ (key_ne_authcnt d.ch (by decide))
    rw [sleepBlocks, sleepBlocks, hd, rdb, rdb, hr]
  have hrun : cmdSleep.run (cplOf 0x0109 d false) d e (taken 0x0109 d e s) = sleepStarted v := by
    have hc : (v.dev.state == .standby && v.pwc.hs.isNone) = true := by rw [hv, hs, hhs]; rfl
    exact if_pos hc
  have hd : (sleepStarted v).dev = s.dev := hv
  have hw : Waits 0x0109 d true (.sleep (p32 d 0)) s (sleepStarted v) := entered_waits 0x0109 _
  have hx := exec_of_waits (i := .sleep d e) rfl rfl h (Or.inr rfl) (by rw [hrun, hd]) (by rw [hrun]; exact hw)
  rw [hrun] at hx
  refine ⟨_, hx, hw, ⟨_, rfl, rfl, rfl, hblocks⟩, ?_, hd, taken_mem s d e _⟩
  exact (rd_wr_ne _ _ _ _ (by decide)).trans (rd_wr_same _ _ _)

/-! ### Standstill (R341) -/

theorem standstillSet_holds (h : Runs 0x0105 d e s) (hn : NothingWaits s) (h1 : p8 d 0 = 1) :
    EndsAtOnce 0x0105 d e s (.standstillSet d e) 0 stateWord (fun _ => p16 d 2)
      (fun u => { u with mbx := { u.mbx with standstill := some (u.now + p16 d 2 * 250000), withdraw := false } }) := by
  let u := taken 0x0105 d e s
  let v : State := { u with mbx := { u.mbx with standstill := some (u.now + p16 d 2 * 250000), withdraw := false } }
  have hrun : cmdStandstillSet.run (cplOf 0x0105 d false) d e u =
      complete (cplOf 0x0105 d false) 0 (stateWord v) (p16 d 2) v := if_pos h1
  have hc : changesState ⟨0x0105, [1, 1, 1, 1, 1, 0], [0, 1, 2], true, false, true, 4⟩ d u = false := by
    simp [changesState, h1]
  have hrow := serveRow_ends (c := cmdStandstillSet) rfl h hc hrun (by simp [v, u]) (by simp [v, u])
  have hdef : (complete (cplOf 0x0105 d false) 0 (stateWord v) (p16 d 2) v).mbx.deferred = [] :=
    (Stays.refl false v).complete.deferred (((taken_spec s d e 0x0105).stays false).deferred hn.1)
  refine congrArg Host.Outcome.next (?_ : standstillRow d e s = _)
  rw [standstillRow, hrow, rerun_none _ _ hdef, ite_self]

/-- A standstill withdrawn outside SERVICE moves nothing. -/
theorem withdrawStandstill_idle (hs : s.dev.state ≠ .service) :
    withdrawStandstill s = { s with mbx := { s.mbx with standstill := none } } := by
  have hc : (s.dev.state == .service && s.dev.entering.isNone) = false := by simp [hs]
  unfold withdrawStandstill
  dsimp only
  rw [hc]
  rfl

theorem standstillSet_withdraws (h : Runs 0x0105 d e s) (h0 : p8 d 0 = 0) (hs : s.dev.state ≠ .service) :
    EndsAtOnce 0x0105 d e s (.standstillSet d e) 0 stateWord (fun _ => 0)
      (fun u => { u with mbx := { u.mbx with standstill := none } }) := by
  let u := taken 0x0105 d e s
  let v : State := { u with mbx := { u.mbx with standstill := none } }
  have hus : u.dev.state ≠ .service := by rw [show u.dev = s.dev from taken_dev s d e _]; exact hs
  have hrun : cmdStandstillSet.run (cplOf 0x0105 d false) d e u =
      complete (cplOf 0x0105 d false) 0 (stateWord v) 0 v := by
    have hr : cmdStandstillSet.run (cplOf 0x0105 d false) d e u =
        complete (cplOf 0x0105 d false) 0 (stateWord u) 0 (withdrawStandstill u) := if_neg (by omega)
    rw [hr, withdrawStandstill_idle hus]
    rfl
  have hc : changesState ⟨0x0105, [1, 1, 1, 1, 1, 0], [0, 1, 2], true, false, true, 4⟩ d u = false := by
    simp [changesState, hus]
  have hrow := serveRow_ends (c := cmdStandstillSet) rfl h hc hrun (by simp [v, u]) (by simp [v, u])
  have hst : (complete (cplOf 0x0105 d false) 0 (stateWord v) 0 v).mbx.standstill = none :=
    (Stays.refl false v).complete.standstill
  refine congrArg Host.Outcome.next (?_ : standstillRow d e s = _)
  rw [standstillRow, hrow, hst]
  exact if_neg (by simp)

theorem standstillExpiry_taken {x : Nat} (hx : s.mbx.standstill = some x) (hle : x ≤ max s.now e.t) :
    exec (.standstillHoldExpiry e) s = .next (settled e withdrawStandstill (atTime e.t s)) := by
  have hm : (atTime e.t s).mbx.standstill = some x := hx
  have hd : doStandstillHoldExpiry e s = settled e withdrawStandstill (atTime e.t s) := by
    unfold doStandstillHoldExpiry
    dsimp only
    rw [hm]
    exact if_pos hle
  exact congrArg Host.Outcome.next hd

/-- At the expiry SERVICE is left for PRELIT. -/
theorem standstillExpiry_leaves {x : Nat} (hn : NothingWaits s) (hx : s.mbx.standstill = some x)
    (hle : x ≤ max s.now e.t) (hs : s.dev.state = .service) (he : s.dev.entering = none) (hb : scBusy s = false) :
    ∃ t, exec (.standstillHoldExpiry e) s = .next t ∧ t.mbx.standstill = none ∧
      t.dev = { s.dev with entering := some .prelit } := by
  let u : State := { atTime e.t s with mbx := { s.mbx with standstill := none } }
  have hw : withdrawStandstill (atTime e.t s) = enterRunning .prelit u := by
    have hc : (s.dev.state == .service && s.dev.entering.isNone) = true := by rw [hs, he]; rfl
    have hbu : ¬ scBusy u = true := by
      rw [show scBusy u = scBusy s from rfl, hb]
      decide
    exact (if_pos hc).trans (if_neg hbu)
  have hr := (Stays.refl false u).enterRunning .prelit
  have hnext := standstillExpiry_taken hx hle
  rw [settled_none _ e _ (by rw [hw]; exact hr.nothingWaits hn), hw] at hnext
  exact ⟨_, hnext, hr.standstill, hr.dev⟩

theorem standstillExpiry_idle {x : Nat} (hx : s.mbx.standstill = some x) (hle : x ≤ max s.now e.t)
    (hs : s.dev.state ≠ .service) :
    ∃ t, exec (.standstillHoldExpiry e) s = .next t ∧
      t = { atTime e.t s with mbx := { s.mbx with standstill := none } } := by
  have hw : withdrawStandstill (atTime e.t s) = { atTime e.t s with mbx := { s.mbx with standstill := none } } :=
    withdrawStandstill_idle (s := atTime e.t s) hs
  have hnext := standstillExpiry_taken hx hle
  rw [settled_still _ e _ (by rw [hw]; exact stateMoved_still rfl id), hw] at hnext
  exact ⟨_, hnext, rfl⟩

/-- Settles O40, the entries by what starts the raster, waits for the level or for a transfer. -/
theorem deviceCommandsMoveTheDevice : Obligations.DeviceCommandsMoveTheDevice := by
  intro s d e hn
  have hnow : (taken 0x0106 d e s).now = max s.now e.t :=
    (congrArg State.now (taken_spec s d e 0x0106).frame).trans rfl
  refine ⟨fun h hs hr hp ht => perfSet_waits h hs hr hp ht, ?_, fun h hs => ?_, fun h hs => ?_,
    fun h _ => lightOff_standby h hn, fun h h1 => standstillSet_holds h hn h1,
    fun h h0 hs => standstillSet_withdraws h h0 hs, fun x hx hle hs he hb => standstillExpiry_leaves hn hx hle hs he hb,
    fun x hx hle hs => standstillExpiry_idle hx hle hs, fun h => reset_ends h hn, fun h hh => sleep_waits h hh⟩
  · intro x hx h hs
    simp only [List.mem_cons, List.not_mem_nil, or_false] at hx
    obtain rfl | rfl := hx
    · exact ⟨entry_waitsForLevel (c := cmdServiceEnter) rfl rfl h rfl hs,
        entry_arrives (c := cmdServiceEnter) rfl rfl h rfl hn hs⟩
    · have hrun : cmdLightOn.run (cplOf 0x0106 d false) d e (taken 0x0106 d e s) =
          commandEntry .prelit (cplOf 0x0106 d false) (.lightOn (max s.now e.t)) (taken 0x0106 d e s) := by
        rw [← hnow]
        rfl
      exact ⟨entry_waitsForLevel (c := cmdLightOn) rfl rfl h hrun hs,
        entry_arrives (c := cmdLightOn) rfl rfl h hrun hn hs⟩
  · exact entry_waitsForTransfer (c := cmdServiceEnter) rfl rfl h rfl hn (by rw [hs]; decide) rfl
  · exact entry_waitsForTransfer (c := cmdServiceExit) rfl rfl h rfl hn (by rw [hs]; decide) rfl

end

end Sys2Proof.Machine
end

section
/-! PROOF. Rules for what only touches registers -/

namespace Sys2Proof.Machine

section
variable {fs : List Fld} {s t : State}

theorem OnlyRegs.refl (fs : List Fld) (s : State) : OnlyRegs fs s s := ⟨rfl, RegsBut.refl s fs⟩

/-- A write of a field of the list keeps the frame. -/
theorem OnlyRegs.wr {f : Fld} {v : Nat} (h : OnlyRegs fs s t) (hf : f ∈ fs := by simp) : OnlyRegs fs s (wr f v t) :=
  ⟨congrArg (fun u : State => { u with regs := (Machine.wr f v t).regs }) h.1, h.2.wr hf⟩

theorem OnlyRegs.when {c : Bool} {f : State → State} (h : OnlyRegs fs s t) (hf : OnlyRegs fs s (f t)) :
    OnlyRegs fs s (when c f t) := by
  cases c
  · exact h
  · exact hf

theorem fire_known {n : Nat} (h : irqKnown n = true) (s : State) : fire n s =
    wr (Reg.ITC_PEND_MAP (n / 32)) (setBit (rd s (Reg.ITC_PEND_MAP (n / 32))) (n % 32)) s := if_pos h

theorem OnlyRegs.fire {n : Nat} (h : OnlyRegs fs s t) (hf : Reg.ITC_PEND_MAP (n / 32) ∈ fs := by simp) :
    OnlyRegs fs s (fire n t) := by
  unfold Machine.fire
  split
  · exact h.wr hf
  · exact h

/-- A field that is no pending bit reads as before an interrupt. -/
theorem rd_fire_ne (n : Nat) (s : State) {f : Fld} (hf : f.key ≠ (Reg.ITC_PEND_MAP (n / 32)).key := by decide) :
    rd (fire n s) f = rd s f :=
  (OnlyRegs.refl [Reg.ITC_PEND_MAP (n / 32)] s).fire.2 f (by simpa using hf)

theorem bit_setBit (v i : Nat) : bit (setBit v i) i = true := by
  unfold bit setBit
  split
  · assumption
  · next h => rw [Nat.add_comm, Nat.testBit_two_pow_add_eq]; simpa using h

/-- A source that the hardware knows is pending once it has fired (R441). -/
theorem bit_fire {n : Nat} (h : irqKnown n = true) (s : State) :
    bit (rd (fire n s) (Reg.ITC_PEND_MAP (n / 32))) (n % 32) = true := by
  rw [fire_known h, rd_wr_same]
  show Nat.testBit (_ % 2 ^ 32) (n % 32) = true
  rw [Nat.testBit_mod_two_pow, Bool.and_eq_true]
  exact ⟨by simpa using Nat.mod_lt n (by decide), bit_setBit _ _⟩

end

end Sys2Proof.Machine
end

section
/-! PROOF. The raster's registers: PHASE_NS, the captures and the software events -/

namespace Sys2Proof.Machine

section
variable {fs : List Fld} {s t : State}

/-- Only the raster and register fields of `fs` differ. -/
def OnlyRaster (fs : List Fld) (s t : State) : Prop := t = { s with regs := t.regs, ras := t.ras } ∧ RegsBut fs s t

theorem OnlyRaster.refl (fs : List Fld) (s : State) : OnlyRaster fs s s := ⟨rfl, RegsBut.refl s fs⟩

theorem OnlyRaster.ras {r : Ras} (h : OnlyRaster fs s t) : OnlyRaster fs s { t with ras := r } :=
  ⟨congrArg (fun u : State => { u with ras := r }) h.1, h.2⟩

theorem OnlyRaster.wr {f : Fld} {v : Nat} (h : OnlyRaster fs s t) (hf : f ∈ fs := by simp) :
    OnlyRaster fs s (wr f v t) :=
  ⟨congrArg (fun u : State => { u with regs := (Machine.wr f v t).regs }) h.1, h.2.wr hf⟩

theorem OnlyRaster.fire {n : Nat} (h : OnlyRaster fs s t) (hf : Reg.ITC_PEND_MAP (n / 32) ∈ fs := by simp) :
    OnlyRaster fs s (fire n t) := by
  unfold Machine.fire
  split
  · exact h.wr hf
  · exact h

/-! ### The raster error (R53, R54) -/

theorem period_pos (s : State) : 0 < period s := by
  unfold period modePeriod
  split
  · decide
  · split <;> decide

theorem period_le (s : State) : period s ≤ 2000000 := by
  unfold period modePeriod
  split
  · decide
  · split <;> decide

/-- A raster error stays below one frame either way. -/
theorem wrapErr_bounds {p : Nat} (hp : 0 < p) (x : Int) : -(p : Int) < wrapErr p x ∧ wrapErr p x ≤ p := by
  have h0 : 0 ≤ x % (p : Int) := Int.emod_nonneg _ (by omega)
  have h1 : x % (p : Int) < p := Int.emod_lt_of_pos _ (by omega)
  unfold wrapErr
  dsimp only
  split <;> omega

/-- ERR reads back an error of at most half a frame. -/
theorem rdi_wri_err {x : Int} (s : State) (hl : -2000000 ≤ x) (hh : x ≤ 2000000) :
    rdi (wri Reg.RAS_ERR_ERR x s) Reg.RAS_ERR_ERR = x := by
  rw [rdi, wri, rd_wr_same]
  simp only [sx, toField, Reg.RAS_ERR_ERR, Nat.reducePow, Nat.reduceSub, Int.reducePow]
  omega

theorem OnlyRaster.setLockSt (h : OnlyRaster fs s t) (hf : Reg.RAS_STATUS_LOCKST ∈ fs := by simp) :
    OnlyRaster fs s (Machine.setLockSt t) := by
  unfold Machine.setLockSt
  dsimp only
  split
  · exact h
  · split
    · exact h.ras.wr hf
    · exact h.wr hf

theorem OnlyRaster.shiftErr {d : Int} (h : OnlyRaster fs s t) (he : Reg.RAS_ERR_ERR ∈ fs := by simp)
    (hl : Reg.RAS_STATUS_LOCKST ∈ fs := by simp) : OnlyRaster fs s (Machine.shiftErr d t) := by
  unfold Machine.shiftErr
  split
  · exact (h.wr he).setLockSt hl
  · exact h

/-- The error shifts while the raster runs, reduced into half a frame (R53, R54). -/
theorem shiftErr_running (d : Int) (h : rasterOn s = true) :
    rdi (shiftErr d s) Reg.RAS_ERR_ERR = wrapErr (period s) (rasErr s + d) := by
  obtain ⟨hl, hh⟩ := wrapErr_bounds (period_pos s) (rasErr s + d)
  have hp := period_le s
  have hk : ∀ u : State, rdi (setLockSt u) Reg.RAS_ERR_ERR = rdi u Reg.RAS_ERR_ERR := fun u =>
    congrArg (sx 32) ((OnlyRaster.refl [Reg.RAS_STATUS_LOCKST] u).setLockSt.2.rd_eq Reg.RAS_ERR_ERR)
  rw [shiftErr, if_pos h, hk]
  exact rdi_wri_err s (by omega) (by omega)

/-- The state in which PHASE_NS has taken its new value and the next slot stays where it is. -/
def phaseSet (v : Word) (s : State) : State :=
  wr Reg.RAS_PHASE_PHASE_NS (v.toNat % 2 ^ 21) { s with ras := { s.ras with
    slotNs := ((s.ras.slotNs : Int) + (((v.toNat % 2 ^ 21 : Nat) : Int) - (rd s Reg.RAS_PHASE_PHASE_NS : Int))).toNat } }

theorem doPhaseWrite_on (v : Word) (h : mainOn s.dev.state = true) : doPhaseWrite v s =
    shiftErr (-(((v.toNat % 2 ^ 21 : Nat) : Int) - (rd s Reg.RAS_PHASE_PHASE_NS : Int))) (phaseSet v s) := by
  unfold doPhaseWrite
  rw [h]
  rfl

theorem phaseSet_frame (v : Word) (s : State) : OnlyRaster [Reg.RAS_PHASE_PHASE_NS] s (phaseSet v s) :=
  (OnlyRaster.refl _ s).ras.wr

theorem rd_phaseSet (v : Word) (s : State) : rd (phaseSet v s) Reg.RAS_PHASE_PHASE_NS = v.toNat % 2 ^ 21 :=
  (rd_wr_same _ _ _).trans (Nat.mod_mod _ _)

theorem rasterOn_phaseSet (v : Word) (s : State) : rasterOn (phaseSet v s) = rasterOn s :=
  congrArg (· != 0) ((phaseSet_frame v s).2.rd_eq Reg.RAS_CTRL_RUN)

theorem phaseWrite_running (v : Word) (hm : mainOn s.dev.state = true) (hr : rasterOn s = true) :
    ∃ t, exec (.phaseWrite v) s = .next t ∧ rd t Reg.RAS_PHASE_PHASE_NS = v.toNat % 2 ^ 21 ∧
      rdi t Reg.RAS_ERR_ERR =
        wrapErr (period s) (rasErr s - ((v.toNat % 2 ^ 21 : Nat) - (rd s Reg.RAS_PHASE_PHASE_NS : Nat) : Int)) ∧
      t = { s with regs := t.regs, ras := t.ras } ∧
      RegsBut [Reg.RAS_PHASE_PHASE_NS, Reg.RAS_ERR_ERR, Reg.RAS_STATUS_LOCKST] s t := by
  have hon := (rasterOn_phaseSet v s).trans hr
  have hs := shiftErr_running (-(((v.toNat % 2 ^ 21 : Nat) : Int) - (rd s Reg.RAS_PHASE_PHASE_NS : Int))) hon
  have he : rasErr (phaseSet v s) = rasErr s := congrArg (sx 32) ((phaseSet_frame v s).2.rd_eq Reg.RAS_ERR_ERR)
  rw [he, ← sub_eq_add_neg] at hs
  rw [← doPhaseWrite_on v hm] at hs
  refine ⟨doPhaseWrite v s, rfl, ?_, hs, ?_⟩
  · rw [doPhaseWrite_on v hm,
      (OnlyRaster.refl [Reg.RAS_ERR_ERR, Reg.RAS_STATUS_LOCKST] (phaseSet v s)).shiftErr.2.rd_eq _, rd_phaseSet]
  · rw [doPhaseWrite_on v hm]
    exact (OnlyRaster.refl _ s).ras.wr.shiftErr

theorem phaseWrite_stopped (v : Word) (hm : mainOn s.dev.state = true) (hr : rasterOn s = false) :
    ∃ t, exec (.phaseWrite v) s = .next t ∧ rd t Reg.RAS_PHASE_PHASE_NS = v.toNat % 2 ^ 21 ∧
      t = { s with regs := t.regs, ras := t.ras } ∧ RegsBut [Reg.RAS_PHASE_PHASE_NS] s t := by
  have hs : doPhaseWrite v s = phaseSet v s := by
    rw [doPhaseWrite_on v hm, shiftErr, rasterOn_phaseSet, hr]
    rfl
  refine ⟨doPhaseWrite v s, rfl, ?_⟩
  rw [hs]
  exact ⟨rd_phaseSet v s, phaseSet_frame v s⟩

/-! ### The captures of the last slot (R59) -/

@[simp] theorem copyCaptures_dev (u : State) : (copyCaptures u).dev = u.dev := by simp [copyCaptures]
@[simp] theorem copyCaptures_waits (u : State) : (copyCaptures u).waits = u.waits := by simp [copyCaptures]
@[simp] theorem copyCaptures_ras (u : State) : (copyCaptures u).ras = u.ras := by simp [copyCaptures]

/-- The copy of the captures touches their read registers only. -/
theorem copyCaptures_frame (u : State) : OnlyRegs [Reg.RAS_FLIPTS0_S_SEC, Reg.RAS_FLIPTS1_S_SEC, Reg.RAS_FLIPTS0_NS_NSEC,
    Reg.RAS_FLIPTS1_NS_NSEC, Reg.RAS_FLIPRAW_LO_RAW, Reg.RAS_FLIPRAW_HI_RAW] u (copyCaptures u) :=
  (OnlyRegs.refl _ u).wr.wr.wr.wr.wr.wr

theorem fcntRead_copies (h : mainOn s.dev.state = true) : ∃ t, exec .fcntRead s = .next t ∧
    rd t Reg.RAS_FLIPTS0_S_SEC = s.ras.caps.d0s % 2 ^ 32 ∧ rd t Reg.RAS_FLIPTS1_S_SEC = s.ras.caps.d1s % 2 ^ 32 ∧
    rd t Reg.RAS_FLIPTS0_NS_NSEC = s.ras.caps.d0n % 2 ^ 30 ∧ rd t Reg.RAS_FLIPTS1_NS_NSEC = s.ras.caps.d1n % 2 ^ 30 ∧
    rd t Reg.RAS_FLIPRAW_LO_RAW = s.ras.caps.raw % 2 ^ 32 ∧
    rd t Reg.RAS_FLIPRAW_HI_RAW = s.ras.caps.raw / 2 ^ 32 % 2 ^ 32 ∧
    OnlyRegs [Reg.RAS_FLIPTS0_S_SEC, Reg.RAS_FLIPTS1_S_SEC, Reg.RAS_FLIPTS0_NS_NSEC, Reg.RAS_FLIPTS1_NS_NSEC,
      Reg.RAS_FLIPRAW_LO_RAW, Reg.RAS_FLIPRAW_HI_RAW] s t := by
  refine ⟨copyCaptures s, congrArg Host.Outcome.next (if_pos h), ?_, ?_, ?_, ?_, ?_, ?_, copyCaptures_frame s⟩ <;>
    simp [copyCaptures, rd_wr, Fld.key, Reg.RAS_FLIPTS0_S_SEC, Reg.RAS_FLIPTS1_S_SEC, Reg.RAS_FLIPTS0_NS_NSEC,
      Reg.RAS_FLIPTS1_NS_NSEC, Reg.RAS_FLIPRAW_LO_RAW, Reg.RAS_FLIPRAW_HI_RAW]

/-! ### Software events (R82) -/

theorem rasEvtFire_armed {n : Nat} (hn : n < 4) (hr : rasterOn s = true) (hl : lineNow s ≠ 0xFF)
    (he : rd s (Reg.RAS_EVT_EN n) = 1) :
    ∃ t, exec (.rasEvtFire n) s = .next t ∧ bit (rd t (Reg.ITC_PEND_MAP 0)) (0x12 + n) = true ∧
      rd t (Reg.RAS_EVT_EN n) = (if rd s (Reg.RAS_EVT_ONCE n) = 0 then 1 else 0) ∧
      OnlyRegs [Reg.RAS_EVT_EN n, Reg.ITC_PEND_MAP 0] s t := by
  have hsrc : irqKnown (0x12 + n) = true := by simp only [irqKnown]; grind
  have hd : (0x12 + n) / 32 = 0 := by omega
  have hm : (0x12 + n) % 32 = 0x12 + n := by omega
  have hk : (Reg.RAS_EVT_EN n).key ≠ (Reg.ITC_PEND_MAP 0).key := by
    simp only [Fld.key, Reg.RAS_EVT_EN, Reg.ITC_PEND_MAP]
    omega
  have hbit := bit_fire hsrc s
  have hen : rd (fire (0x12 + n) s) (Reg.RAS_EVT_EN n) = 1 := (rd_fire_ne _ s (by rw [hd]; exact hk)).trans he
  rw [hd, hm] at hbit
  have hf : OnlyRegs [Reg.RAS_EVT_EN n, Reg.ITC_PEND_MAP 0] s (fire (0x12 + n) s) :=
    (OnlyRegs.refl _ s).fire (by simp [hd])
  have hx : exec (.rasEvtFire n) s =
      .next (when (rdb s (Reg.RAS_EVT_ONCE n)) (wr (Reg.RAS_EVT_EN n) 0) (fire (0x12 + n) s)) := by
    have hc : (n < 4 && rasterOn s && lineNow s != 0xFF && rdb s (Reg.RAS_EVT_EN n)) = true := by
      simp [hn, hr, hl, rdb, he]
    exact congrArg Host.Outcome.next (if_pos hc)
  refine ⟨_, hx, ?_, ?_, hf.when hf.wr⟩
  · cases rdb s (Reg.RAS_EVT_ONCE n)
    · exact hbit
    · rw [when_true, rd_wr_ne _ _ _ _ hk.symm]
      exact hbit
  · by_cases ho : rd s (Reg.RAS_EVT_ONCE n) = 0
    · rw [rdb, ho, if_pos rfl]
      exact hen
    · rw [rdb, bne_iff_ne.2 ho, if_neg ho]
      exact rd_wr_same _ _ _

theorem rasEvtFire_idle {n : Nat} (h : rd s (Reg.RAS_EVT_EN n) = 0 ∨ lineNow s = 0xFF) :
    ∃ t, exec (.rasEvtFire n) s = .next t ∧ t = s := by
  have hc : (n < 4 && rasterOn s && lineNow s != 0xFF && rdb s (Reg.RAS_EVT_EN n)) = false := by
    rcases h with h | h <;> simp [rdb, h]
  refine ⟨doRasEvtFire n s, rfl, ?_⟩
  unfold doRasEvtFire
  rw [hc]
  rfl

end

/-- Settles O23: the write of PHASE_NS by whether the raster runs, the read of FCNT, the events by whether they are armed. -/
theorem phaseCapturesAndEvents : Obligations.PhaseCapturesAndEvents := fun _ =>
  ⟨phaseWrite_running, phaseWrite_stopped, fcntRead_copies, fun _ hn hr hl he => rasEvtFire_armed hn hr hl he,
    fun _ h => rasEvtFire_idle h⟩

end Sys2Proof.Machine
end

section
/-! PROOF. The commit: the sample of the shadows, GO and its cancel -/

namespace Sys2Proof.Machine

section
variable {s : State}

/-! ### The staging set that the shadows make (R64, R69) -/

/-- A table filled from a list of fields holds under the key of each its value. -/
theorem find_foldl_put (g : Fld → Nat) {f : Fld} (l : List Fld) (hk : ∀ a ∈ l, a.key = f.key → a = f) (m : SMap Nat)
    (h : f ∈ l ∨ SMap.find m f.key = some (g f)) :
    SMap.find (l.foldl (fun m f => SMap.put m f.key (g f)) m) f.key = some (g f) := by
  induction l generalizing m with
  | nil => simpa using h
  | cons a l ih =>
    refine ih (fun b hb => hk b (List.mem_cons_of_mem _ hb)) _ ?_
    rw [SMap.find_put]
    split
    · next he => exact Or.inr (by rw [hk a List.mem_cons_self he.symm])
    · next hne =>
      refine h.imp_left fun hm => ?_
      exact (List.mem_cons.1 hm).resolve_left fun he => hne (congrArg Fld.key he)

/-- No two shadows share their place. -/
theorem shadowFlds_key_inj {a b : Fld} (ha : a ∈ shadowFlds) (hb : b ∈ shadowFlds) (h : a.key = b.key) : a = b := by
  have hn : (shadowFlds.map Fld.key).Nodup := by decide
  exact List.inj_on_of_nodup_map hn ha hb h

/-- A staging set of the shadows holds the value of each. -/
theorem setGet_shadowSet {f : Fld} (hf : f ∈ shadowFlds) : setGet (shadowSet s) f = rd s f := by
  have h := find_foldl_put (rd s) shadowFlds (fun a ha he => shadowFlds_key_inj ha hf he) [] (Or.inl hf)
  exact congrArg (·.getD f.reset) h

/-- A write of the value that a table holds already changes no lookup. -/
theorem find_put_of_find {α : Type} {m : SMap α} {k : Nat} {v : α} (h : SMap.find m k = some v) (j : Nat) :
    SMap.find (SMap.put m k v) j = SMap.find m j := by
  rw [SMap.find_put]
  split
  · next hj => rw [hj, h]
  · rfl

/-- The set that a sample of the shadows stages, its mode held by the cap (R480). -/
def cappedSet (s : State) : SMap Nat :=
  let mode := setGet (shadowSet s) Reg.RAS_SH_TIMING_MODE
  setPut (shadowSet s) Reg.RAS_SH_TIMING_MODE (if mode = 3 then 3 else capMode (modeCap s) mode)

/-- Without a cap the sample stages the shadows as they stand. -/
theorem setGet_cappedSet (hcap : modeCap s = 3) (f : Fld) : setGet (cappedSet s) f = setGet (shadowSet s) f := by
  have hm : Reg.RAS_SH_TIMING_MODE ∈ shadowFlds := by decide
  have h : SMap.find (shadowSet s) Reg.RAS_SH_TIMING_MODE.key = some (rd s Reg.RAS_SH_TIMING_MODE) :=
    find_foldl_put (rd s) shadowFlds (fun a ha he => shadowFlds_key_inj ha hm he) [] (Or.inl hm)
  have hc : cappedSet s = setPut (shadowSet s) Reg.RAS_SH_TIMING_MODE (rd s Reg.RAS_SH_TIMING_MODE) := by
    simp only [cappedSet, setGet_shadowSet hm, hcap, capMode]
    split
    · next h3 => rw [h3]
    · rfl
  rw [hc]
  exact congrArg (·.getD f.reset) (find_put_of_find h f.key)

theorem setInRange_cappedSet (u : State) (hcap : modeCap s = 3) :
    setInRange u (cappedSet s) = setInRange u (shadowSet s) := by
  simp only [setInRange, setGet_cappedSet hcap]

theorem timingDiffers_cappedSet (u : State) (hcap : modeCap s = 3) :
    timingDiffers u (cappedSet s) = timingDiffers u (shadowSet s) := by
  simp only [timingDiffers, setGet_cappedSet hcap]

/-! ### Refused or held (R65, R71) -/

theorem refuse_frame (c : Nat) (s : State) :
    OnlyRegs [Reg.RAS_STATUS_REFUSED, Reg.RAS_STATUS_REFCAUSE, Reg.ITC_PEND_MAP 0] s (refuse c s) :=
  (OnlyRegs.refl _ s).wr.wr.fire

/-- A refusal shows its cause and raises its event. -/
theorem refuse_shows {c : Nat} (hc : c < 8) (s : State) : rd (refuse c s) Reg.RAS_STATUS_REFUSED = 1 ∧
    rd (refuse c s) Reg.RAS_STATUS_REFCAUSE = c ∧ bit (rd (refuse c s) (Reg.ITC_PEND_MAP 0)) 0x11 = true := by
  refine ⟨?_, ?_, bit_fire (n := 0x11) rfl _⟩
  · exact (rd_fire_ne 0x11 _).trans ((rd_wr_ne _ _ _ _ (by decide)).trans (rd_wr_same _ _ _))
  · exact (rd_fire_ne 0x11 _).trans ((rd_wr_same _ _ _).trans (Nat.mod_eq_of_lt hc))

/-- A change of the raster and of register fields other than the channel resets leaves no command running. -/
theorem NoneRuns.onlyRaster {fs : List Fld} {t : State} (h : NoneRuns s) (ht : OnlyRaster fs s t)
    (hk : ∀ c, c < 5 → ∀ g ∈ fs, (Reg.HIF_MB_CTRL_RESET c).key ≠ g.key := by decide) : NoneRuns t :=
  h.congr ((congrArg State.waits ht.1).trans rfl) fun c hc => ht.2 _ (hk c hc)

theorem refuseWaiters_none {c : Nat} (h : NoneRuns s) : refuseWaiters c s = s := finish_none s _ _ _ h

theorem refuse_then_waiters (c : Nat) (h : NoneRuns s) : refuseWaiters c (refuse c s) = refuse c s :=
  refuseWaiters_none (h.congr ((congrArg State.waits (refuse_frame c s).1).trans rfl) fun k hk =>
    (refuse_frame c s).2 _ ((by decide : ∀ k, k < 5 → ∀ g ∈ [Reg.RAS_STATUS_REFUSED, Reg.RAS_STATUS_REFCAUSE,
      Reg.ITC_PEND_MAP 0], (Reg.HIF_MB_CTRL_RESET k).key ≠ g.key) k hk))

theorem sampleSet_outOfRange {m : SMap Nat} {u : Nat} (hn : NoneRuns s) (h : setInRange s m = false) :
    sampleSet m u s = refuse 2 s := by
  simp only [sampleSet, h, Bool.not_false, if_true]
  exact refuse_then_waiters 2 hn

theorem sampleSet_uncovered {m : SMap Nat} {u : Nat} (hn : NoneRuns s) (h : setInRange s m = true)
    (hl : levelCovers s (setGet m Reg.RAS_SH_TIMING_MODE) = false) : sampleSet m u s = refuse 1 s := by
  simp only [sampleSet, h, hl, Bool.not_true, Bool.not_false, Bool.false_eq_true, if_true, if_false]
  exact refuse_then_waiters 1 hn

/-- The set is held for its transfer; `u` is its mode as asked for. -/
def holding (m : SMap Nat) (u : Nat) (s : State) : State :=
  { s with ras := { s.ras with uncapped := u, waited := false, stag := some m } }

theorem sampleSet_holds {m : SMap Nat} {u : Nat} (hn : NoneRuns s) (h : setInRange s m = true)
    (hl : levelCovers s (setGet m Reg.RAS_SH_TIMING_MODE) = true) (ht : timingDiffers s m = false) :
    sampleSet m u s = holding m u s := by
  have hw (r : Ras) : stageWaiters { s with ras := r } = { s with ras := r } := by
    obtain ⟨hw, -⟩ := hn
    cases s
    subst hw
    rfl
  have hd (r : Ras) (hr : r.act = s.ras.act) : timingDiffers { s with ras := r } m = false := by
    simpa only [timingDiffers, act, hr] using ht
  simp only [sampleSet, holdSet, holding, h, hl, hw, hd, Bool.not_true, Bool.false_eq_true, if_false]

/-! ### The sample (R65, R69) -/

/-- The sample of this frame has been taken. -/
def sampling (s : State) : State := { s with ras := { s.ras with sampled := true } }

/-- GO has been read and cleared. -/
def goRead (s : State) : State := wr Reg.RAS_COMMIT_GO 0 { s with ras := { s.ras with capSeen := modeCap s } }

theorem sampleNow_go (hst : s.ras.stag = none) (hsb : isStandby s = false) (hgo : rd s Reg.RAS_COMMIT_GO = 1) :
    sampleNow s = setPending (sendStage (cappedSet (sampling s)) (sampleSet (cappedSet (sampling s))
      (setGet (shadowSet (sampling s)) Reg.RAS_SH_TIMING_MODE) (goRead (sampling s)))) := by
  have hst : (sampling s).ras.stag = none := hst
  have hsb : isStandby (sampling s) = false := hsb
  have hgo : rdb (sampling s) Reg.RAS_COMMIT_GO = true := by
    rw [rdb, show rd (sampling s) Reg.RAS_COMMIT_GO = 1 from hgo]
    rfl
  unfold sampleNow
  rw [show ({ s with ras := { s.ras with sampled := true } } : State) = sampling s from rfl]
  generalize sampling s = u at *
  dsimp only
  split
  · next m hm => cases hst.symm.trans hm
  · rw [if_neg (by simp [hsb]), if_pos hgo]
    rfl

theorem sendStage_other {m : SMap Nat} (h : role s ≠ 1) : sendStage m s = s := by
  have hr : (role s == 1) = false := by simpa using h
  rw [sendStage, hr, when_false]

/-- The sample has been taken and has read GO. -/
def sampled (s : State) : State := goRead (sampling s)

theorem sampled_frame (s : State) : OnlyRaster [Reg.RAS_COMMIT_GO] s (sampled s) := (OnlyRaster.refl _ s).ras.ras.wr

theorem setPending_frame (s : State) : OnlyRegs [Reg.RAS_STATUS_PENDING] s (setPending s) := (OnlyRegs.refl _ s).wr

/-! What becomes of the set of a sample, without a cap. -/

section
variable (hcap : modeCap s = 3) (hn : NoneRuns s)
include hcap hn

theorem sampled_outOfRange {u : Nat} (hi : setInRange s (shadowSet s) = false) :
    sampleSet (cappedSet s) u (sampled s) = refuse 2 (sampled s) :=
  sampleSet_outOfRange (hn.onlyRaster (sampled_frame s)) ((setInRange_cappedSet (sampled s) hcap).trans hi)

omit hn in
theorem levelCovers_sampled : levelCovers (sampled s) (setGet (cappedSet s) Reg.RAS_SH_TIMING_MODE) =
    levelCovers s (rd s Reg.RAS_SH_TIMING_MODE) := by
  rw [levelCovers, levelCovers, (sampled_frame s).2.rd_eq Reg.PWC_STATUS_PL, setGet_cappedSet hcap,
    setGet_shadowSet (by decide)]

theorem sampled_uncovered {u : Nat} (hi : setInRange s (shadowSet s) = true)
    (hl : levelCovers s (rd s Reg.RAS_SH_TIMING_MODE) = false) :
    sampleSet (cappedSet s) u (sampled s) = refuse 1 (sampled s) :=
  sampleSet_uncovered (hn.onlyRaster (sampled_frame s)) ((setInRange_cappedSet (sampled s) hcap).trans hi)
    ((levelCovers_sampled hcap).trans hl)

theorem sampled_holds {u : Nat} (hi : setInRange s (shadowSet s) = true)
    (hl : levelCovers s (rd s Reg.RAS_SH_TIMING_MODE) = true) (ht : timingDiffers s (shadowSet s) = false) :
    sampleSet (cappedSet s) u (sampled s) = holding (cappedSet s) u (sampled s) :=
  sampleSet_holds (hn.onlyRaster (sampled_frame s)) ((setInRange_cappedSet (sampled s) hcap).trans hi)
    ((levelCovers_sampled hcap).trans hl) ((timingDiffers_cappedSet (sampled s) hcap).trans ht)

end

theorem rd_setPending (s : State) :
    rd (setPending s) Reg.RAS_STATUS_PENDING = b2n (rdb s Reg.RAS_COMMIT_GO || s.ras.stag.isSome) := by
  rw [setPending, rd_wr_same]
  cases rdb s Reg.RAS_COMMIT_GO || s.ras.stag.isSome <;> rfl

section
variable (hr : rasterOn s = true) (hl : lineNow s = 127) (hs : s.ras.sampled = false) (hst : s.ras.stag = none)
  (hsb : isStandby s = false) (hrole : role s ≠ 1) (hgo : rd s Reg.RAS_COMMIT_GO = 1)
include hr hl hs hst hsb hrole hgo

/-- What a sample that reads GO leaves, by what becomes of the set. -/
theorem commitSample_reads {fs : List Fld} {u : State}
    (hu : sampleSet (cappedSet s) (setGet (shadowSet s) Reg.RAS_SH_TIMING_MODE) (sampled s) = u)
    (hf : OnlyRaster fs s u) (hk : ∀ g ∈ fs, Reg.PTN_STATUS_ROLE.key ≠ g.key := by decide) :
    exec .commitSample s = .next (setPending u) := by
  have hro : role u ≠ 1 := fun h => hrole ((hf.2 _ hk).symm.trans h)
  have hnow : sampleNow s = setPending u := by
    refine (sampleNow_go hst hsb hgo).trans (congrArg setPending ?_)
    exact (congrArg (sendStage _) hu).trans (sendStage_other hro)
  have hc : (rasterOn s && lineNow s == 127 && !s.ras.sampled) = true := by simp [hr, hl, hs]
  exact congrArg Host.Outcome.next ((if_pos hc).trans hnow)

/-- A refused sample leaves no staging set. -/
theorem commitSample_refuses {c : Nat} (hc : c < 8)
    (hu : sampleSet (cappedSet s) (setGet (shadowSet s) Reg.RAS_SH_TIMING_MODE) (sampled s) = refuse c (sampled s)) :
    ∃ t, exec .commitSample s = .next t ∧ t.ras.stag = none ∧ t.ras.act = s.ras.act ∧ rd t Reg.RAS_COMMIT_GO = 0 ∧
      rd t Reg.RAS_STATUS_REFUSED = 1 ∧ rd t Reg.RAS_STATUS_REFCAUSE = c ∧
      bit (rd t (Reg.ITC_PEND_MAP 0)) 0x11 = true ∧ t = { s with regs := t.regs, ras := t.ras } ∧
      RegsBut [Reg.RAS_COMMIT_GO, Reg.RAS_STATUS_PENDING, Reg.RAS_STATUS_REFUSED, Reg.RAS_STATUS_REFCAUSE,
        Reg.ITC_PEND_MAP 0] s t := by
  have hf : OnlyRaster [Reg.RAS_COMMIT_GO, Reg.RAS_STATUS_PENDING, Reg.RAS_STATUS_REFUSED, Reg.RAS_STATUS_REFCAUSE,
      Reg.ITC_PEND_MAP 0] s (refuse c (sampled s)) := (OnlyRaster.refl _ s).ras.ras.wr.wr.wr.fire
  have hp := (setPending_frame (refuse c (sampled s))).2
  have hras : (refuse c (sampled s)).ras = (sampled s).ras := (congrArg State.ras (refuse_frame c _).1).trans rfl
  obtain ⟨h1, h2, h3⟩ := refuse_shows hc (sampled s)
  refine ⟨_, commitSample_reads hr hl hs hst hsb hrole hgo hu hf, (congrArg Ras.stag hras).trans hst,
    (congrArg Ras.act hras).trans rfl, ?_, (hp.rd_eq _).trans h1, (hp.rd_eq _).trans h2, ?_, hf.wr⟩
  · exact (hp.rd_eq _).trans (((refuse_frame c _).2.rd_eq _).trans (rd_wr_same _ _ _))
  · rw [hp.rd_eq (Reg.ITC_PEND_MAP 0)]
    exact h3

/-- A set that is held waits for its transfer, the active copies as they are. -/
theorem commitSample_holds {m : SMap Nat} (hm : ∀ f ∈ shadowFlds, setGet m f = rd s f)
    (hu : sampleSet (cappedSet s) (setGet (shadowSet s) Reg.RAS_SH_TIMING_MODE) (sampled s) =
      holding m (setGet (shadowSet s) Reg.RAS_SH_TIMING_MODE) (sampled s)) :
    ∃ t m, exec .commitSample s = .next t ∧ t.ras.stag = some m ∧ (∀ f ∈ shadowFlds, setGet m f = rd s f) ∧
      t.ras.act = s.ras.act ∧ rd t Reg.RAS_COMMIT_GO = 0 ∧ rd t Reg.RAS_STATUS_PENDING = 1 ∧
      t = { s with regs := t.regs, ras := t.ras } ∧ RegsBut [Reg.RAS_COMMIT_GO, Reg.RAS_STATUS_PENDING] s t := by
  have hf : OnlyRaster [Reg.RAS_COMMIT_GO, Reg.RAS_STATUS_PENDING] s
      (holding m (setGet (shadowSet s) Reg.RAS_SH_TIMING_MODE) (sampled s)) :=
    OnlyRaster.ras (OnlyRaster.refl _ s).ras.ras.wr
  refine ⟨_, m, commitSample_reads hr hl hs hst hsb hrole hgo hu hf, rfl, hm, rfl, ?_, ?_, hf.wr⟩
  · exact ((setPending_frame _).2.rd_eq _).trans (rd_wr_same _ _ _)
  · rw [rd_setPending]
    simp [holding, b2n]

end
end

/-- Settles O21: the sample reads GO, and the set of the shadows is held or refused. -/
theorem commitSamplesTheShadows : Obligations.CommitSamplesTheShadows := by
  intro s hr hl hs hst hsb hrole hgo hcap hn
  refine ⟨fun hi hlv ht => ?_, fun hi => ?_, fun hi hlv => ?_⟩
  · exact commitSample_holds hr hl hs hst hsb hrole hgo
      (fun f hf => (setGet_cappedSet hcap f).trans (setGet_shadowSet hf)) (sampled_holds hcap hn hi hlv ht)
  · exact commitSample_refuses hr hl hs hst hsb hrole hgo (by decide) (sampled_outOfRange hcap hn hi)
  · obtain ⟨t, hx, hstag, hact, hgo, hrefused, hcause, hbit, -⟩ := commitSample_refuses hr hl hs hst hsb hrole hgo
      (by decide) (sampled_uncovered hcap hn hi hlv)
    exact ⟨t, hx, hstag, hact, hgo, hrefused, hcause, hbit⟩

end Sys2Proof.Machine
end

section
/-! PROOF. A commit with the raster stopped names the frame count in the 32 bits of COMMIT_FCNT -/

namespace Sys2Proof.Machine

theorem rd_applySet_commitFcnt (m : SMap Nat) (n : Nat) (s : State) :
    rd (applySet m n s) Reg.RAS_COMMIT_FCNT_FCNT = n % 2 ^ 32 := by
  have hw (c : Bool) (v : Nat) (t : State) : rd (when c (wr Reg.GTE_ENVSET_SET v) t) Reg.RAS_COMMIT_FCNT_FCNT =
      rd t Reg.RAS_COMMIT_FCNT_FCNT := when_keeps t (rd · _) c _ fun u => rd_wr_ne u _ _ _ (by decide)
  exact (rd_fire_ne 0x10 _).trans ((hw _ _ _).trans (rd_wr_same _ _ _))

/-- A commit of shadows in range with the raster stopped applies at once (R72). -/
theorem commitStopped_applies {s : State} (hi : setInRange s (shadowSet s) = true) :
    ∃ m u, (commitStopped s).1 = applySet m (rd s Reg.RAS_FCNT_FCNT) u := by
  unfold commitStopped
  generalize shadowSet s = m0 at *
  dsimp only
  split
  · exact ⟨_, _, rfl⟩
  · contradiction

/-- Such a commit leaves in COMMIT_FCNT the low 32 bits of the count. -/
theorem commitGoWrite_stopped_fcnt {s t : State} (hm : mainOn s.dev.state = true) (hr : rasterOn s = false)
    (hi : setInRange s (shadowSet s) = true) (hx : exec .commitGoWrite s = .next t) :
    rd t Reg.RAS_COMMIT_FCNT_FCNT = rd s Reg.RAS_FCNT_FCNT % 2 ^ 32 := by
  have hd : doCommitGoWrite s = (commitStopped s).1 := by simp [doCommitGoWrite, hm, hr]
  have ht : doCommitGoWrite s = t := Host.Outcome.next.inj hx
  obtain ⟨m, u, hu⟩ := commitStopped_applies hi
  rw [← ht, hd, hu, rd_applySet_commitFcnt]

/-- A bound device in STANDBY whose register table holds a frame count of 33 bits. -/
def countOverflown : State :=
  { State.reset with
    dev := { State.reset.dev with state := .standby }
    regs := [(Reg.RAS_FCNT_FCNT.key, 2 ^ 32)]
    sec := { State.reset.sec with sections := [(0x04, zeroBytes 4420)] } }

/-- Its shadows stand at their reset values. -/
theorem setGet_countOverflown {f : Fld} (hf : f ∈ shadowFlds) : setGet (shadowSet countOverflown) f = f.reset := by
  have hk : ∀ f ∈ shadowFlds, Reg.RAS_FCNT_FCNT.key ≠ f.key := by decide
  rw [setGet_shadowSet hf]
  simp [rd, countOverflown, SMap.getD, SMap.find, hk f hf]

theorem countOverflown_inRange : setInRange countOverflown (shadowSet countOverflown) = true := by
  have hmesh : meshCount countOverflown = 1 := by
    rw [meshCount, show bindSec countOverflown 4 = zeroBytes 4420 from rfl, length_zeroBytes]
  have hscale : ∀ n < 8, setGet (shadowSet countOverflown) (Reg.GTE_PL_XFORM_SCALE n) = 0x1000 := by
    intro n hn
    have hmem : ∀ n < 8, Reg.GTE_PL_XFORM_SCALE n ∈ shadowFlds := by decide
    exact setGet_countOverflown (hmem n hn)
  have hf : ∀ f ∈ rasFlds, setGet (shadowSet countOverflown) f = f.reset := fun f hf =>
    setGet_countOverflown (List.mem_append_left _ (List.mem_append_left _ hf))
  have hplates : (List.range 8).all (fun n =>
      decide (0x0100 ≤ setGet (shadowSet countOverflown) (Reg.GTE_PL_XFORM_SCALE n)) &&
        decide (setGet (shadowSet countOverflown) (Reg.GTE_PL_XFORM_SCALE n) ≤ 0x8000)) = true := by
    rw [List.all_eq_true]
    intro n hn
    rw [hscale n (List.mem_range.1 hn)]
    rfl
  simp only [setInRange, hmesh, hplates, hf Reg.RAS_SH_TIMING_PBLANK (by decide), hf Reg.RAS_SH_TIMING_MODE (by decide),
    hf Reg.RAS_SH_BASEADDR_DIRECT (by decide), hf Reg.RAS_SH_MESH_MESH (by decide), hf Reg.RAS_SH_TIPIN_TIPIN (by decide),
    hf Reg.RAS_SH_ENVSCALE_SCALE (by decide)]
  decide

/-- Refutes O22: no clause bounds what the register table holds, so the frame count of a state may exceed the 32 bits of
COMMIT_FCNT, which takes it cut to its width. -/
theorem not_commitGoAndCancel : ¬ Obligations.CommitGoAndCancel := by
  intro h
  obtain ⟨-, hstopped, -⟩ := h countOverflown
  obtain ⟨t, hx, -, hf, -⟩ := hstopped rfl rfl rfl countOverflown_inRange
  have hcut := commitGoWrite_stopped_fcnt rfl rfl countOverflown_inRange hx
  exact absurd (hcut.symm.trans hf) (by decide)

end Sys2Proof.Machine
end

section
/-! PROOF. The commands that only report -/

namespace Sys2Proof.Machine

section
variable {s : State} {d : Desc} {e : Env}

/-- A command that only reads ends at once with what it reports (R338). -/
theorem report_ends {opc : Nat} {c : Cmd} {r : CmdRow} {i : Instr} {d0 d1 : State → Nat}
    (hx : exec i s = .next (serveRow c d e s)) (hc : cmdOf opc = some (c, r))
    (hr : changesState r d (taken opc d e s) = false)
    (hrun : ∀ u, c.run (cplOf opc d false) d e u = okWith (cplOf opc d false) (d0 u) (d1 u) u) (h : Runs opc d e s) :
    EndsAtOnce opc d e s i 0 d0 d1 id :=
  endsAtOnce_of_run hx hc h hr (fun u _ => hrun u) (by simp) (by simp)

/-! ### Reports that change what they name -/

theorem streamStatus_ends (h : Runs 0x0301 d e s) : EndsAtOnce 0x0301 d e s (.streamStatus d e) 0
    (fun u => regRead u (Reg.GTE_SSTAT_DROP (p8 d 0)).addr)
    (fun u => bits (regRead u Reg.GTE_SEL_DEFAULT.addr) 26 6 * 2 ^ 26 + rd u Reg.GTE_BASE_AGE_AGE) setBaseAge :=
  endsAtOnce_of_run rfl rfl h rfl (fun _ _ => rfl) (by simp [setBaseAge]) (by simp [setBaseAge])

theorem frameGet_ends (h : Runs 0x0704 d e s) : EndsAtOnce 0x0704 d e s (.frameGet d e) 0
    (fun u => rd u Reg.RAS_FCNT_FCNT) (fun u => if activeDom u = 0 then u.ras.caps.d0n else u.ras.caps.d1n)
    copyCaptures := by
  refine endsAtOnce_of_run rfl rfl h rfl (fun u _ => ?_) (by simp) (by simp)
  have hr := (copyCaptures_frame u).2
  have ha : activeDom (copyCaptures u) = activeDom u := hr.rd_eq _
  rw [hr.rd_eq Reg.RAS_FCNT_FCNT, ha, copyCaptures_ras]
  rfl

theorem windowMap_ends (h : Runs 0x0A01 d e s) : EndsAtOnce 0x0A01 d e s (.windowMap d e) 0 (fun _ => (recArea (p8 d 0)).2)
    (fun u => rd u Reg.EVR_NEWEST_SEQ) (fun u => { u with mbx := { u.mbx with window := (p8 d 0, p32 d 4) } }) :=
  endsAtOnce_of_run rfl rfl h rfl (fun _ _ => rfl) (by simp) (by simp)

/-- RTC_ALARM with a time sets the alarm and names its instant in operating seconds. -/
theorem rtcAlarm_ends (h : Runs 0x0B04 d e s) (hn : p32 d 0 ≠ 0) : EndsAtOnce 0x0B04 d e s (.rtcAlarm d e) 0
    (fun u => (rd u Reg.PWC_P_OPSEC_SEC + p32 d 0) % 2 ^ 32) (fun _ => 0)
    (fun u => u |> wr Reg.PWC_P_ALARM_SEC (rd u Reg.PWC_P_RTC_SEC + p32 d 0) |> wr Reg.PWC_P_WAKE_ALARM_EN 1) := by
  refine endsAtOnce_of_run rfl rfl h rfl (fun u _ => ?_) (by simp) (by simp)
  rw [rd_wr_ne _ _ _ _ (by decide), rd_wr_ne _ _ _ _ (by decide)]
  exact if_neg hn

/-! ### CAL_STATUS and LANE_STATUS, by the channel or lane that they name -/

theorem calStatus_channel (h : Runs 0x0801 d e s) (hc : p8 d 0 ≤ 8) : EndsAtOnce 0x0801 d e s (.calStatus d e) 0
    (fun u => rd u (Reg.SNS_CH_CALCNT_COUNT (p8 d 0))) (fun u => rd u (Reg.SNS_CH_CALSEC_SEC (p8 d 0))) id :=
  report_ends rfl rfl rfl (fun _ => if_neg (by omega)) h

theorem calStatus_total (h : Runs 0x0801 d e s) (hc : p8 d 0 = 0xFF) : EndsAtOnce 0x0801 d e s (.calStatus d e) 0
    (fun u => rd u Reg.SNS_CALTOTAL_COUNT) (fun u => rd u Reg.SNS_CALLAST_SEC) id :=
  report_ends rfl rfl rfl (fun _ => if_pos hc) h

theorem laneStatus_tile (h : Runs 0x0D01 d e s) (hn : p8 d 0 < 64) : EndsAtOnce 0x0D01 d e s (.laneStatus d e) 0
    (fun u => regRead u (Reg.TLK_LN_STATUS_INSERV (p8 d 0)).addr) (fun u => tlStatus u (p8 d 0)) id :=
  report_ends rfl rfl rfl (fun u => by simp only [cmdLaneStatus, hn, if_true]) h

end

/-- Settles O38: a command that only reads reports the state of its take; the others write first what their details name. -/
theorem reportsEndAtOnce : Obligations.ReportsEndAtOnce := fun _ _ _ =>
  ⟨report_ends rfl rfl rfl fun _ => rfl, report_ends rfl rfl rfl fun _ => rfl, streamStatus_ends,
    report_ends rfl rfl rfl fun _ => rfl, report_ends rfl rfl rfl fun _ => rfl, frameGet_ends, calStatus_channel,
    calStatus_total, report_ends rfl rfl rfl fun _ => rfl, report_ends rfl rfl rfl fun _ => rfl,
    report_ends rfl rfl rfl fun _ => rfl, windowMap_ends, report_ends rfl rfl rfl fun _ => rfl,
    report_ends rfl rfl rfl fun _ => rfl, rtcAlarm_ends, report_ends rfl rfl rfl fun _ => rfl,
    report_ends rfl rfl rfl fun _ => rfl, laneStatus_tile, report_ends rfl rfl rfl fun _ => rfl,
    report_ends rfl rfl rfl fun _ => rfl⟩

end Sys2Proof.Machine
end

section
/-! PROOF. The commands that write shadows, and their commit -/

namespace Sys2Proof.Machine

/-! ### What a GO looks at -/

/-- The fields that decide what a GO does: GO itself, whether the raster runs, its line, and the part in a pair. -/
def goFields : List Fld :=
  [Reg.RAS_COMMIT_GO, Reg.RAS_CTRL_RUN, Reg.RAS_POS_LINE, Reg.PTN_STATUS_ROLE, Reg.ITC_STATUS_PAIR]

/-- Only registers differ, and none that a GO looks at. -/
structure ClearOfGo (s t : State) : Prop where
  frame : t = { s with regs := t.regs }
  reads : ∀ g ∈ goFields, rd t g = rd s g

section
variable {s t : State}

theorem ClearOfGo.refl (s : State) : ClearOfGo s s := ⟨rfl, fun _ _ => rfl⟩

theorem ClearOfGo.wr {f : Fld} {v : Nat} (h : ClearOfGo s t) (hf : ∀ g ∈ goFields, g.key ≠ f.key := by decide) :
    ClearOfGo s (wr f v t) :=
  ⟨congrArg (fun u : State => { u with regs := (Machine.wr f v t).regs }) h.frame,
    fun g hg => (rd_wr_ne t f g v (hf g hg)).trans (h.reads g hg)⟩

/-- No register of a plate is one of them. -/
theorem plateFlds_clear {n : Nat} (hn : n < 8) : ∀ f ∈ plateFlds n, ∀ g ∈ goFields, g.key ≠ f.key :=
  (by decide : ∀ n < 8, ∀ f ∈ plateFlds n, ∀ g ∈ goFields, g.key ≠ f.key) n hn

theorem ClearOfGo.wrPlate {n v : Nat} {f : Fld} (hn : n < 8) (h : ClearOfGo s t)
    (hf : f ∈ plateFlds n := by simp [plateFlds]) : ClearOfGo s (Machine.wr f v t) := h.wr (plateFlds_clear hn f hf)

/-- A GO written while the raster runs, on no standby, behind no GO and with no sample due: it is set, marked late behind
the sample, and waits (R65, R67). -/
theorem goRunning_sets (hsb : isStandby s = false) (hgo : rd s Reg.RAS_COMMIT_GO = 0)
    (hs : lineNow s ≠ 127 ∨ s.ras.sampled = true) : doCommitSample s = s ∧
      goRunning s = setPending (wr Reg.RAS_COMMIT_GO 1 (when (goLate s) (wr Reg.RAS_STATUS_LATE 1) s)) := by
  have hc : (rasterOn s && lineNow s == 127 && !s.ras.sampled) = false := by rcases hs with h | h <;> simp [h]
  have hd : doCommitSample s = s := by
    unfold doCommitSample
    rw [hc]
    rfl
  refine ⟨hd, ?_⟩
  simp only [goRunning, hsb, hd, rdb, hgo]
  rfl

end

section
variable {s : State} {d : Desc} {e : Env}

/-- The take of a descriptor touches none of them. -/
theorem taken_reads (opc : Nat) : ∀ g ∈ goFields, rd (taken opc d e s) g = rd s g := by
  intro g hg
  refine taken_rd s d e opc fun hk => ?_
  have hw : ∀ g ∈ goFields, g.key < (Reg.HIF_MB_AUTHCNT_COUNT 0).key ∨ g.key % 2048 ≠ 512 := by decide
  have := hw g hg
  simp only [Fld.key, Reg.HIF_MB_AUTHCNT_COUNT] at hk this
  omega

/-! ### A command with a COMMIT parameter (R334) -/

/-- The command has set GO on the state that `f` leaves, and waits for the transfer, marked late behind the sample. -/
def WaitsForTransfer (opc : Nat) (d : Desc) (e : Env) (s : State) (i : Instr) (f : State → State) : Prop :=
  ∃ t, exec i s = .next t ∧
    t.waits = s.waits ++ [⟨cplOf opc d false, false, .commit (decide (127 ≤ lineNow s ∧ lineNow s ≤ 135)) false⟩] ∧
    rd t Reg.RAS_COMMIT_GO = 1 ∧ rd t Reg.RAS_STATUS_PENDING = 1 ∧ t.mem = s.mem ∧ t.tx = s.tx ∧ t.dev = s.dev ∧
    RegsBut [Reg.RAS_COMMIT_GO, Reg.RAS_STATUS_PENDING, Reg.RAS_STATUS_LATE] (f (taken opc d e s)) t

/-- A command that writes shadows with `f` ends at once with COMMIT = 0 and waits for the transfer with COMMIT = 1. -/
def EndsOrWaits (opc : Nat) (d : Desc) (e : Env) (s : State) (i : Instr) (f : State → State) (commit : Nat) : Prop :=
  (commit = 0 → EndsAtOnce opc d e s i 0 (fun _ => 0) (fun _ => 0) f) ∧
    (commit = 1 → rasterOn s = true → isStandby s = false → rd s Reg.RAS_COMMIT_GO = 0 →
      lineNow s ≠ 127 ∨ s.ras.sampled = true → WaitsForTransfer opc d e s i f)

section
variable {opc : Nat} {c : Cmd} {r : CmdRow} {i : Instr} {n : Nat} {f : State → State}
  (hx : exec i s = .next (serveRow c d e s)) (hc : cmdOf opc = some (c, r))
  (hr : changesState r d (taken opc d e s) = false)
  (hrun : ∀ u, c.run (cplOf opc d false) d e u = shadowsDone (cplOf opc d false) n (f u)) (h : Runs opc d e s)
  (hf : ClearOfGo (taken opc d e s) (f (taken opc d e s)))
include hx hc hr hrun h hf

theorem shadows_end (h0 : n = 0) : EndsAtOnce opc d e s i 0 (fun _ => 0) (fun _ => 0) f :=
  endsAtOnce_of_run hx hc h hr (fun u _ => (hrun u).trans (if_neg (by omega)))
    ((congrArg (fun u => (State.dev u).state) hf.frame).trans (by simp))
    ((congrArg State.waits hf.frame).trans (by simp))

theorem shadows_wait (h1 : n = 1) (hon : rasterOn s = true) (hsb : isStandby s = false)
    (hgo : rd s Reg.RAS_COMMIT_GO = 0) (hs : lineNow s ≠ 127 ∨ s.ras.sampled = true) :
    WaitsForTransfer opc d e s i f := by
  unfold WaitsForTransfer
  have hcmd := hrun (taken opc d e s)
  have hwaits : (f (taken opc d e s)).waits = s.waits := (congrArg State.waits hf.frame).trans (taken_waits s d e opc)
  have hmem : (f (taken opc d e s)).mem = s.mem := (congrArg State.mem hf.frame).trans (taken_mem s d e opc)
  have htx : (f (taken opc d e s)).tx = s.tx := (congrArg State.tx hf.frame).trans (taken_tx s d e opc)
  have hdev : (f (taken opc d e s)).dev = s.dev := (congrArg State.dev hf.frame).trans (taken_dev s d e opc)
  have hras : (f (taken opc d e s)).ras = s.ras := (congrArg State.ras hf.frame).trans
    ((congrArg State.ras (taken_spec s d e opc).frame).trans rfl)
  have hreads : ∀ g ∈ goFields, rd (f (taken opc d e s)) g = rd s g := fun g hg =>
    (hf.reads g hg).trans (taken_reads opc g hg)
  generalize f (taken opc d e s) = v at *
  have hline : lineNow v = lineNow s := hreads _ (by decide)
  have hlate : goLate v = decide (127 ≤ lineNow s ∧ lineNow s ≤ 135) := by simp [goLate, hline]
  have hrole : isStandby v = isStandby s := by
    rw [isStandby, isStandby, pairOp, pairOp, rdb, rdb, role, role, hreads Reg.PTN_STATUS_ROLE (by decide),
      hreads Reg.ITC_STATUS_PAIR (by decide)]
  have honv : rasterOn v = true := (congrArg (· != 0) (hreads Reg.RAS_CTRL_RUN (by decide))).trans hon
  obtain ⟨hd, hg⟩ := goRunning_sets (s := v) (hrole.trans hsb) ((hreads _ (by decide)).trans hgo)
    (by rw [hline, hras]; exact hs)
  have hfr : OnlyRegs [Reg.RAS_COMMIT_GO, Reg.RAS_STATUS_PENDING, Reg.RAS_STATUS_LATE] v (goRunning v) := by
    rw [hg]
    exact (((OnlyRegs.refl _ v).when (OnlyRegs.refl _ v).wr).wr).wr
  have hcommit : c.run (cplOf opc d false) d e (taken opc d e s) = waitFor (cplOf opc d false) false
      (.commit (decide (127 ≤ lineNow s ∧ lineNow s ≤ 135)) false) (goRunning v) := by
    rw [hcmd, shadowsDone, if_pos h1, commitCmd, if_pos honv, hd, ← hlate]
  have hw : Waits opc d false (.commit (decide (127 ≤ lineNow s ∧ lineNow s ≤ 135)) false) s
      (c.run (cplOf opc d false) d e (taken opc d e s)) := by
    rw [hcommit, Waits, ← hwaits]
    exact congrArg (· ++ _) ((congrArg State.waits hfr.1).trans rfl)
  have hgo1 : rd (goRunning v) Reg.RAS_COMMIT_GO = 1 := by
    rw [hg, (setPending_frame _).2.rd_eq Reg.RAS_COMMIT_GO, rd_wr_same]
    rfl
  have hpend : rd (goRunning v) Reg.RAS_STATUS_PENDING = 1 := by
    rw [hg, rd_setPending, rdb, rd_wr_same]
    rfl
  refine ⟨_, exec_of_waits hx hc h (Or.inl hr) ?_ hw, hw, ?_⟩
  · rw [hcommit]
    exact (congrArg (fun u => (State.dev u).state) hfr.1).trans (congrArg Dev.state hdev)
  · rw [hcommit]
    exact ⟨hgo1, hpend, (congrArg State.mem hfr.1).trans hmem, (congrArg State.tx hfr.1).trans htx,
      (congrArg State.dev hfr.1).trans hdev, hfr.2⟩

theorem shadows_endOrWait : EndsOrWaits opc d e s i f n :=
  ⟨shadows_end hx hc hr hrun h hf, shadows_wait hx hc hr hrun h hf⟩

end

/-! ### The glyphs -/

theorem glyphPlace_plate (h : Runs 0x0502 d e s) : p8 d 0 < 8 := by
  have hok : cmdGlyphPlace.ok (taken 0x0502 d e s) d = true := h.params_ok s d e rfl
  simp only [cmdGlyphPlace, Bool.and_eq_true, decide_eq_true_eq] at hok
  omega

theorem glyphHide_clear (l : List Nat) (hl : ∀ n ∈ l, n < 8) (u : State) :
    ClearOfGo u (forEach l (fun n => wr (Reg.GTE_PL_CTRL_EN n) 0) u) := by
  suffices hs : ∀ v, ClearOfGo u v → ClearOfGo u (forEach l (fun n => wr (Reg.GTE_PL_CTRL_EN n) 0) v) from
    hs u (ClearOfGo.refl u)
  induction l with
  | nil => exact fun _ hv => hv
  | cons n l ih =>
    have hn : n < 8 := hl n List.mem_cons_self
    exact fun v hv => ih (fun k hk => hl k (List.mem_cons_of_mem _ hk)) _
      (hv.wrPlate hn)

theorem storePlate_stays (n w h : Nat) (b : Bytes) (u : State) : Stays false u (storePlate n w h b u) :=
  (Stays.refl false u).forEach fun _ hu => hu.psWrite

@[simp] theorem storePlate_waits (n w h : Nat) (b : Bytes) (u : State) : (storePlate n w h b u).waits = u.waits :=
  forEach_keeps u State.waits _ _ fun _ v => psWrite_waits v _ _

theorem glyphLoad_ends {b : Bytes} (h : Runs 0x0501 d e s) (hb : glyphSource (taken 0x0501 d e s) d = some b) :
    EndsAtOnce 0x0501 d e s (.glyphLoad d e) 0 (fun _ => crc32 b) (fun _ => 0)
      (fun u => u |> storePlate (p8 d 0) (p16 d 8) (p16 d 10) b
        |> wr (Reg.GTE_PL_CTRL_WM1 (p8 d 0)) (p16 d 8 - 1) |> wr (Reg.GTE_PL_CTRL_HM1 (p8 d 0)) (p16 d 10 - 1)) := by
  refine endsAtOnce_of_run rfl rfl h rfl (fun u hu => ?_) ?_ (by simp)
  · have hg : (glyphSource u d).getD [] = b := by rw [hu, hb]; rfl
    simp only [cmdGlyphLoad, hg]
    rfl
  · simp [(storePlate_stays _ _ _ b _).dev]

/-! ### TIPIN_SELECT and PHASE_SET -/

@[simp] theorem loadEnv_waits (n k : Nat) (u : State) : (loadEnv n k u).waits = u.waits := by
  have hm (a : Nat) (b : Bytes) : (storeMap a b u).waits = u.waits :=
    forEach_keeps u State.waits _ _ fun _ v => psWrite_waits v _ _
  simp [loadEnv, hm]

@[simp] theorem stageTip_waits (slot : Nat) (u : State) : (stageTip slot u).waits = u.waits := by
  simp [stageTip, when_keeps _ State.waits]

theorem tipinSelect_ends (h : Runs 0x0202 d e s) (hst : s.ras.stag = none) (h0 : p8 d 1 = 0) :
    EndsAtOnce 0x0202 d e s (.tipinSelect d e) 0 (fun _ => 0) (fun _ => 0) (stageTip (p8 d 0)) := by
  refine endsAtOnce_of_run rfl rfl h rfl (fun u hu => ?_) ?_ (by simp)
  · have hras : u.ras.stag = none := by rw [hu, (taken_spec s d e _).frame]; exact hst
    show tipRun _ _ _ u = _
    rw [tipRun, hras, h0]
    rfl
  · rw [((Stays.refl false _).stageTip (slot := p8 d 0)).dev, taken_dev]

theorem tipinSelect_waits {m : SMap Nat} (h : Runs 0x0202 d e s) (hst : s.ras.stag = some m) :
    ∃ t, exec (.tipinSelect d e) s = .next t ∧ Waits 0x0202 d false (.tipWait (p8 d 0) (p8 d 1 == 1)) s t ∧
      t = { taken 0x0202 d e s with waits := t.waits } := by
  have hras : (taken 0x0202 d e s).ras.stag = some m := by rw [(taken_spec s d e _).frame]; exact hst
  have hrun : cmdTipinSelect.run (cplOf 0x0202 d false) d e (taken 0x0202 d e s) =
      waitFor (cplOf 0x0202 d false) false (.tipWait (p8 d 0) (p8 d 1 == 1)) (taken 0x0202 d e s) :=
    if_pos (by rw [hras]; rfl)
  have hw : Waits 0x0202 d false (.tipWait (p8 d 0) (p8 d 1 == 1)) s
      (cmdTipinSelect.run (cplOf 0x0202 d false) d e (taken 0x0202 d e s)) := by
    rw [hrun]
    simp [Waits, waitFor]
  refine ⟨_, exec_of_waits rfl rfl h (Or.inl rfl) ?_ hw, hw, ?_⟩ <;> rw [hrun]
  · exact congrArg Dev.state (taken_dev s d e _)
  · rfl

theorem doPhaseWrite_frame (v : Word) (u : State) : OnlyRaster
    [Reg.RAS_PHASE_PHASE_NS, Reg.RAS_ERR_ERR, Reg.RAS_STATUS_LOCKST] u (doPhaseWrite v u) := by
  unfold doPhaseWrite
  split
  · exact OnlyRaster.refl _ u
  · exact (OnlyRaster.refl _ u).ras.wr.shiftErr

theorem phaseSet_ends (h : Runs 0x0703 d e s) : EndsAtOnce 0x0703 d e s (.phaseSet d e) 0
    (fun u => regRead u Reg.RAS_ERR_ERR.addr) (fun _ => 0) (doPhaseWrite (BitVec.ofNat 32 (p32 d 0))) := by
  have hf := (doPhaseWrite_frame (BitVec.ofNat 32 (p32 d 0)) (taken 0x0703 d e s)).1
  exact endsAtOnce_of_run rfl rfl h rfl (fun _ _ => rfl)
    ((congrArg (fun u => (State.dev u).state) hf).trans (congrArg Dev.state (taken_dev s d e _)))
    ((congrArg State.waits hf).trans (taken_waits s d e _))

/-- COMMIT ends as a command whose COMMIT is 1. -/
theorem commitRun_done (q : Cpl) (d : Desc) (e : Env) (u : State) : cmdCommit.run q d e u = shadowsDone q 1 u := by
  rw [shadowsDone, if_pos rfl]
  rfl

theorem shadowCommands_endOrWait :
    ∀ x ∈ shadowCommands d e, Runs x.1 d e s → EndsOrWaits x.1 d e s x.2.1 x.2.2.1 x.2.2.2 := by
  simp only [shadowCommands, List.forall_mem_cons]
  refine ⟨fun h => ?_, fun h => ?_, fun h => ?_, fun h => ?_, fun h => ?_, fun h => ?_, fun h => ?_, by simp⟩
  · exact shadows_endOrWait rfl rfl rfl (fun _ => rfl) h (ClearOfGo.refl _).wr.wr
  · have hn := glyphPlace_plate h
    refine shadows_endOrWait rfl rfl rfl (fun _ => ?_) h ?_
    · simp only [cmdGlyphPlace, bits, Nat.pow_zero, Nat.div_one, Nat.pow_one]
    · exact ((ClearOfGo.refl _).wrPlate hn |>.wrPlate hn |>.wrPlate hn |>.wrPlate hn |>.wrPlate hn |>.wrPlate hn
        |>.wrPlate hn |>.wrPlate hn)
  · exact shadows_endOrWait rfl rfl rfl (fun _ => rfl) h
      (glyphHide_clear _ (fun n hn => List.mem_range.1 (List.mem_filter.1 hn).1) _)
  · exact shadows_endOrWait rfl rfl rfl (fun _ => rfl) h (ClearOfGo.refl _).wr
  · exact shadows_endOrWait rfl rfl rfl (fun _ => rfl) h (ClearOfGo.refl _).wr
  · exact shadows_endOrWait rfl rfl rfl (fun _ => rfl) h (ClearOfGo.refl _).wr.wr.wr
  · exact shadows_endOrWait rfl rfl rfl (f := id) (commitRun_done _ d e) h (ClearOfGo.refl _)

/-- Settles O39: shadows are written clear of what a GO looks at, so that the commands end or wait as their COMMIT says. -/
theorem shadowCommandsAndCommit : Obligations.ShadowCommandsAndCommit := fun _ _ _ =>
  ⟨shadowCommands_endOrWait, fun _ => glyphLoad_ends, tipinSelect_ends, fun _ => tipinSelect_waits, phaseSet_ends⟩

end

end Sys2Proof.Machine
end

section
/-! PROOF. What the work inside a raster line leaves alone, and the tile lines -/

namespace Sys2Proof.Machine

/-- The registers that say where the raster and the engines are. -/
def placeFields : List Fld :=
  [Reg.RAS_POS_LINE, Reg.RAS_POS_OFFSET, Reg.RAS_FCNT_FCNT, Reg.GTX_STATUS_LINE 0, Reg.GTX_STATUS_LINE 1,
   Reg.GTX_STATUS_RUN 0, Reg.GTX_STATUS_RUN 1]

/-- The work inside a raster line leaves alone where the raster and the engines are, the memory, the device and the tiles,
and the wires where it is `quiet`. -/
structure InLine (quiet : Bool) (s t : State) : Prop where
  mem : t.mem = s.mem
  dev : t.dev = s.dev
  pilot : t.pilot = s.pilot
  tiles : t.tiles = s.tiles
  ras : t.ras = s.ras
  mbx : t.mbx = s.mbx
  east : t.gte.nextE = s.gte.nextE
  west : t.gte.nextW = s.gte.nextW
  tx : quiet = true → t.tx = s.tx
  regs : ∀ g ∈ placeFields, rd t g = rd s g

theorem InLine.refl (quiet : Bool) (s : State) : InLine quiet s s :=
  ⟨rfl, rfl, rfl, rfl, rfl, rfl, rfl, rfl, fun _ => rfl, fun _ _ => rfl⟩

section
variable {quiet : Bool} {s t : State}

/-! ### The rules of the operations -/

/-- A change of parts of the state that nothing here looks at. -/
theorem InLine.frame {part pending now ntcFrom ntcOn rawHeld eccBad pwc thm zne cor lanes tpr far swp sns links ntm image
    waits inbox fender core0 core1 mrc evr cku0 cku1 dump sec ptn freeCnt} (h : InLine quiet s t) :
    InLine quiet s ⟨part, pending, now, ntcFrom, ntcOn, rawHeld, t.regs, t.mem, eccBad, t.dev, t.pilot, pwc, thm, t.ras,
      t.gte, zne, cor, lanes, tpr, t.tiles, far, swp, sns, links, ntm, t.mbx, image, waits, inbox, fender, core0, core1,
      mrc, evr, cku0, cku1, dump, sec, ptn, t.tx, freeCnt⟩ := { h with }

/-- The same with a change of the engines that keeps the lines that they render next. -/
theorem InLine.frameGte {part pending now ntcFrom ntcOn rawHeld eccBad pwc thm gte zne cor lanes tpr far swp sns links ntm
    image waits inbox fender core0 core1 mrc evr cku0 cku1 dump sec ptn freeCnt} (he : gte.nextE = t.gte.nextE)
    (hw : gte.nextW = t.gte.nextW) (h : InLine quiet s t) :
    InLine quiet s ⟨part, pending, now, ntcFrom, ntcOn, rawHeld, t.regs, t.mem, eccBad, t.dev, t.pilot, pwc, thm, t.ras,
      gte, zne, cor, lanes, tpr, t.tiles, far, swp, sns, links, ntm, t.mbx, image, waits, inbox, fender, core0, core1,
      mrc, evr, cku0, cku1, dump, sec, ptn, t.tx, freeCnt⟩ :=
  { h with
    east := he.trans h.east
    west := hw.trans h.west }

/-- A state that occurs more than once. -/
theorem InLine.of {u : State} (hf : InLine quiet s u → InLine quiet s t) (hu : InLine quiet s u) : InLine quiet s t := hf hu

theorem InLine.ite {c : Prop} [Decidable c] {u : State} (ht : InLine quiet s t) (hu : InLine quiet s u) :
    InLine quiet s (if c then t else u) := by split <;> assumption

theorem InLine.iteSnd {α : Type} {c : Prop} [Decidable c] {p q : α × State} (hp : InLine quiet s p.2)
    (hq : InLine quiet s q.2) : InLine quiet s (if c then p else q).2 := by split <;> assumption

theorem InLine.when {c : Bool} {f : State → State} (h : InLine quiet s t)
    (hf : ∀ {u}, InLine quiet s u → InLine quiet s (f u)) : InLine quiet s (when c f t) := .ite (hf h) h

theorem InLine.forEach {α : Type} {l : List α} {f : α → State → State} (h : InLine quiet s t)
    (hf : ∀ {u} x, InLine quiet s u → InLine quiet s (f x u)) : InLine quiet s (forEach l f t) :=
  forEach_invariant t (InLine quiet s) l f (fun x _ => hf x) h

/-- The state `g` of what a fold carries along. -/
theorem InLine.foldl {α β : Type} {g : β → State} {f : β → α → β} {l : List α} {b : β} (h : InLine quiet s (g b))
    (hf : ∀ {b} x, InLine quiet s (g b) → InLine quiet s (g (f b x))) : InLine quiet s (g (l.foldl f b)) := by
  induction l generalizing b with
  | nil => exact h
  | cons x l ih => exact ih (hf x h)

theorem InLine.wr {f v} (h : InLine quiet s t) (hf : ∀ g ∈ placeFields, g.key ≠ f.key := by decide) :
    InLine quiet s (wr f v t) :=
  { h with regs := fun g hg => (rd_wr_ne t f g v (hf g hg)).trans (h.regs g hg) }

theorem InLine.satInc {f n} (h : InLine quiet s t) (hf : ∀ g ∈ placeFields, g.key ≠ f.key := by decide) :
    InLine quiet s (satInc f n t) := h.wr hf

theorem InLine.raise {src d} (h : InLine quiet s t) : InLine quiet s (raise src d t) := by
  unfold Machine.raise raiseExt
  split
  · exact h.frame
  · exact h

theorem InLine.send {x} (h : InLine false s t) : InLine false s (send x t) := { h with tx := nofun }

theorem InLine.modTpr {n f} (h : InLine quiet s t) : InLine quiet s (modTpr n f t) := h.frame

/-! ### What an engine does in a line (R123) -/

theorem InLine.engineEcc {east : Bool} {w} (h : InLine quiet s t) :
    InLine quiet s (engineEcc (if east then 0 else 1) w t) := by
  have hu (e : Bool) : ∀ g ∈ placeFields, g.key ≠ (Reg.GTX_STATUS_ECCU (if e then 0 else 1)).key := by
    cases e <;> decide
  have hc (e : Bool) : ∀ g ∈ placeFields, g.key ≠ (Reg.GTX_ECCCNT_UNCORR (if e then 0 else 1)).key := by
    cases e <;> decide
  exact ((h.wr (hu east)).satInc (hc east)).raise

theorem InLine.zneMemErr (h : InLine quiet s t) : InLine quiet s (zneMemErr t) := h.wr.satInc

theorem InLine.znePixel {l x y} (h : InLine quiet s t) : InLine quiet s (znePixel l x y t).2 := by
  unfold Machine.znePixel
  dsimp only
  split
  · exact h
  · exact .frame (.when h (·.zneMemErr))

theorem InLine.zneTables (h : InLine quiet s t) : InLine quiet s (zneTables t) :=
  .ite h.frame.zneMemErr.raise h

theorem InLine.lineEcc {east l} (h : InLine quiet s t) : InLine quiet s (lineEcc east l t) :=
  .ite h (.forEach h (fun _ h => h.engineEcc))

theorem InLine.renderPixel {lane l x y p} (h : InLine quiet s t) : InLine quiet s (renderPixel lane l x y p t) :=
  .frameGte rfl rfl h.znePixel

theorem InLine.renderLine {east l} (h : InLine quiet s t) : InLine quiet s (renderLine east l t) :=
  .forEach h.zneTables.lineEcc (fun _ h => .forEach h (fun _ h => h.renderPixel))

/-! ### What COR and the last gate do in a line -/

theorem InLine.setWearA {i v} (h : InLine quiet s t) : InLine quiet s (setWearA i v t) := h.frame

theorem InLine.wearSample {lane i code} (h : InLine quiet s t) : InLine quiet s (wearSample lane i code t) :=
  .when h.frame.setWearA (·.satInc)

theorem InLine.calEccSeen {i} (h : InLine quiet s t) : InLine quiet s (calEccSeen i t) :=
  .ite h.wr.wr.satInc.raise h

theorem InLine.thermSeen {i} (h : InLine quiet s t) : InLine quiet s (thermSeen i t) :=
  .ite h.frame.raise h

theorem InLine.corPixel {lane line p} (h : InLine quiet s t) : InLine quiet s (corPixel lane line p t).2 :=
  .when (.when h.calEccSeen.thermSeen (·.frame)) (·.wearSample)

theorem InLine.payback {lane px code} (h : InLine quiet s t) : InLine quiet s (payback lane px code t).2 :=
  .iteSnd h (.iteSnd h.frame.satInc (.foldl (g := Prod.snd) h (fun _ h => h.frame)))

theorem InLine.clipBudget {lane} (h : InLine quiet s t) : InLine quiet s (clipBudget lane t) :=
  .ite h.satInc h.satInc.frame.raise

/-- An `if` between two pairs, of which nothing is known but that it keeps what both keep. -/
theorem exists_choice_inLine (quiet : Bool) (s : State) :
    ∃ choose : (c : Prop) → [Decidable c] → Nat × State → Nat × State → Nat × State, choose = @ite (Nat × State) ∧
      ∀ (c : Prop) [Decidable c] {p q : Nat × State}, InLine quiet s p.2 → InLine quiet s q.2 →
        InLine quiet s (choose c p q).2 :=
  ⟨_, rfl, fun _ _ _ _ => .iteSnd⟩

/-- The comparisons of the two budgets are of products of large numerals, which the kernel must not decide: the choices
after them stay abstract (as in `Keeps.gateSlip`). -/
theorem InLine.gateSlip {lane x y code} (h : InLine quiet s t) : InLine quiet s (gateSlip lane x y code t).2 := by
  have hdef : Machine.gateSlip = Machine.gateSlip := rfl
  conv_rhs at hdef => delta Machine.gateSlip
  obtain ⟨choose, hch, hkeep⟩ := exists_choice_inLine quiet s
  rw [hdef, ← hch]
  exact .frame (hkeep _ (.clipBudget (hkeep _ h.clipBudget h)) (hkeep _ h.clipBudget h))

theorem InLine.gateLit {code} (h : InLine quiet s t) : InLine quiet s (gateLit code t).2 := by
  unfold Machine.gateLit
  dsimp only
  split
  · exact h.satInc
  · exact h

theorem InLine.lastGate {lane x y code} (h : InLine quiet s t) : InLine quiet s (lastGate lane x y code t).2 := by
  unfold Machine.lastGate
  dsimp only
  split
  · exact h.gateSlip
  · exact h.gateLit

theorem InLine.emitPixel {lane l x y p acc} (h : InLine quiet s acc.2) : InLine quiet s (emitPixel lane l x y p acc).2 := by
  unfold Machine.emitPixel
  exact h.corPixel.payback.lastGate

theorem InLine.emitRow {l lane} (h : InLine quiet s t) : InLine quiet s (emitRow l lane t) := by
  unfold Machine.emitRow
  split
  · exact h
  · next c r _ =>
    have hp : InLine quiet s ((List.range 128).foldl
        (fun acc p => Machine.emitPixel lane l (128 * c + p) (128 * r + l) p acc) (([], t) : List Nat × State)).2 :=
      .foldl (g := Prod.snd) h (fun _ h => h.emitPixel)
    generalize (List.range 128).foldl _ _ = p at hp ⊢
    exact .frameGte rfl rfl hp

theorem InLine.keepSum {lane} (h : InLine quiet s t) : InLine quiet s (keepSum lane t) := by
  unfold Machine.keepSum
  exact h.modTpr

theorem InLine.emitLine {l} (h : InLine quiet s t) : InLine quiet s (emitLine l t) :=
  .of (fun hu => .ite (.wr (.forEach hu (fun _ h => h.keepSum))) hu) (.frame (.forEach h (fun _ h => h.emitRow)))

theorem InLine.emitReady (h : InLine quiet s t) : InLine quiet s (emitReady t) :=
  .forEach h (fun _ h => h.emitLine)

/-! ### A tile line in time (R63, R123) -/

/-- The end of a tile line touches the engines and registers only. -/
theorem lineDone_frame (east : Bool) (l clk bl : Nat) (s : State) :
    lineDone east l clk bl s = { s with gte := (lineDone east l clk bl s).gte, regs := (lineDone east l clk bl s).regs } := by
  unfold lineDone
  dsimp only
  split <;> rfl

theorem lineDone_next (east : Bool) (l clk bl : Nat) (s : State) :
    (lineDone east l clk bl s).gte.nextE = (if east then l + 1 else s.gte.nextE) ∧
    (lineDone east l clk bl s).gte.nextW = (if east then s.gte.nextW else l + 1) := by
  unfold lineDone
  dsimp only
  split <;> exact ⟨rfl, rfl⟩

/-- The engine goes on to the next line, the other one stands. -/
theorem nextLine_lineDone (east : Bool) (l clk bl : Nat) (s : State) : nextLine (lineDone east l clk bl s) east = l + 1 ∧
    nextLine (lineDone east l clk bl s) (!east) = nextLine s (!east) := by
  obtain ⟨he, hw⟩ := lineDone_next east l clk bl s
  cases east
  · exact ⟨hw, he⟩
  · exact ⟨he, hw⟩

theorem rd_lineDone_line (east : Bool) {l : Nat} (clk bl : Nat) (s : State) (hl : l < 128) :
    rd (lineDone east l clk bl s) (Reg.GTX_STATUS_LINE (if east then 0 else 1)) = l := by
  have hm : l % 2 ^ 8 = l := Nat.mod_eq_of_lt (by omega)
  unfold lineDone
  cases east <;> dsimp only <;> split <;>
    simpa [rd_wr, Fld.key, Reg.GTX_STATUS_LINE, Reg.GTX_STATUS_RUN, Reg.GTX_LOAD_MAXCLK, Reg.GTX_LOAD_BACKLOG] using hm

theorem rd_lineDone_run (east : Bool) (clk bl : Nat) (s : State) :
    rd (lineDone east 127 clk bl s) (Reg.GTX_STATUS_RUN (if east then 0 else 1)) = 0 := by
  cases east <;>
    simp [lineDone, rd_wr, Fld.key, Reg.GTX_STATUS_RUN, Reg.GTX_LOAD_MAXCLK, Reg.GTX_LOAD_BACKLOG]

theorem InLine.nextLine (h : InLine quiet s t) (east : Bool) : nextLine t east = nextLine s east := by
  cases east
  · exact h.west
  · exact h.east

/-- The condition under which an engine renders tile line `l`. -/
theorem tileLineRender_renders {east : Bool} {l : Nat} (clk bl : Nat) (hr : rasterOn s = true) (ha : s.gte.active = true)
    (hn : lineNow s ≠ 0xFF) (hl : l < 128) (hnext : l = nextLine s east) (hp : l ≤ renderPos s) :
    exec (.tileLineRender east l clk bl) s =
      .next (emitReady (lineDone east l clk bl (renderLine east l s))) := by
  have hc : (rasterOn s && s.gte.active && lineNow s != 0xFF && l < 128 && l == nextLine s east && l ≤ renderPos s) =
      true := by simp [hr, ha, hn, hl, ← hnext, hp]
  exact congrArg Host.Outcome.next (if_pos hc)

theorem tileLineRender_inTime {east : Bool} {l : Nat} (clk bl : Nat) (hr : rasterOn s = true) (ha : s.gte.active = true)
    (hn : lineNow s ≠ 0xFF) (hl : l < 128) (hnext : l = nextLine s east) (hp : l ≤ renderPos s) :
    ∃ t, exec (.tileLineRender east l clk bl) s = .next t ∧ nextLine t east = l + 1 ∧
      nextLine t (!east) = nextLine s (!east) ∧ rd t (Reg.GTX_STATUS_LINE (if east then 0 else 1)) = l ∧
      (l = 127 → rd t (Reg.GTX_STATUS_RUN (if east then 0 else 1)) = 0) ∧
      t.mem = s.mem ∧ t.tx = s.tx ∧ t.ras = s.ras ∧ t.dev = s.dev ∧ t.tiles = s.tiles := by
  refine ⟨_, tileLineRender_renders clk bl hr ha hn hl hnext hp, ?_⟩
  have hu : InLine true s (renderLine east l s) := (InLine.refl _ s).renderLine
  generalize renderLine east l s = u at hu ⊢
  have hf := lineDone_frame east l clk bl u
  obtain ⟨hown, hother⟩ := nextLine_lineDone east l clk bl u
  have hline := rd_lineDone_line east clk bl u hl
  have hrun : l = 127 → rd (lineDone east l clk bl u) (Reg.GTX_STATUS_RUN (if east then 0 else 1)) = 0 :=
    fun h => by rw [h]; exact rd_lineDone_run east clk bl u
  generalize lineDone east l clk bl u = v at hf hown hother hline hrun ⊢
  have ht : InLine true v (emitReady v) := (InLine.refl _ v).emitReady
  have hmem : ∀ b : Bool, Reg.GTX_STATUS_LINE (if b then 0 else 1) ∈ placeFields ∧
      Reg.GTX_STATUS_RUN (if b then 0 else 1) ∈ placeFields := by decide
  refine ⟨(ht.nextLine east).trans hown, (ht.nextLine _).trans (hother.trans (hu.nextLine _)),
    (ht.regs _ (hmem east).1).trans hline, fun h => (ht.regs _ (hmem east).2).trans (hrun h),
    ht.mem.trans (((congrArg State.mem hf).trans rfl).trans hu.mem),
    (ht.tx rfl).trans (((congrArg State.tx hf).trans rfl).trans (hu.tx rfl)),
    ht.ras.trans (((congrArg State.ras hf).trans rfl).trans hu.ras),
    ht.dev.trans (((congrArg State.dev hf).trans rfl).trans hu.dev),
    ht.tiles.trans (((congrArg State.tiles hf).trans rfl).trans hu.tiles)⟩

theorem tileLineRender_notDue {east : Bool} {l clk bl : Nat} (hp : renderPos s < l) :
    ∃ t, exec (.tileLineRender east l clk bl) s = .next t ∧ t = s :=
  ⟨doTileLineRender east l clk bl s, rfl, if_neg (by simp [Nat.not_le.2 hp])⟩

/-! ### A missed deadline (R123, R124) -/

/-- Both engines report RENDER_LATE with the same kind. -/
theorem renderLate_row (east : Bool) : ∃ r, faultRow (0x064 + 0x10 * if east then 0 else 1) = some r ∧ r.kind = 0x13 := by
  cases east <;> exact ⟨_, rfl, rfl⟩

/-- The content is late: the engine shows it and reports it. -/
def lineLate (east : Bool) (s : State) : State :=
  s |> wr (Reg.GTX_STATUS_LATE (if east then 0 else 1)) 1 |> raise (0x064 + 0x10 * if east then 0 else 1) 0

theorem lineLate_spec (east : Bool) (s : State) : rd (lineLate east s) (Reg.GTX_STATUS_LATE (if east then 0 else 1)) = 1 ∧
    lineLate east s = { s with
      regs := (lineLate east s).regs
      inbox := s.inbox ++ [⟨if east then 0x064 else 0x074, 0x13, 0, none⟩] } ∧
    RegsBut [Reg.GTX_STATUS_LATE 0, Reg.GTX_STATUS_LATE 1] s (lineLate east s) := by
  obtain ⟨r, hr, hk⟩ := renderLate_row east
  have hs : (0x064 + 0x10 * if east then 0 else 1) = if east then 0x064 else 0x074 := by cases east <;> rfl
  have hm : Reg.GTX_STATUS_LATE (if east then 0 else 1) ∈ [Reg.GTX_STATUS_LATE 0, Reg.GTX_STATUS_LATE 1] := by
    cases east <;> simp
  have hrd (f : Fld) : rd (lineLate east s) f = rd (wr (Reg.GTX_STATUS_LATE (if east then 0 else 1)) 1 s) f :=
    rd_raise _ _ _ f
  refine ⟨(hrd _).trans (rd_wr_same _ _ _), ?_, fun f hf => (hrd f).trans (RegsBut.wr (RegsBut.refl s _) hm f hf)⟩
  rw [lineLate, raise_known _ hr, hk, hs]
  rfl

theorem withdrawContent_sent (hl : lineNow s < 128) (hw : s.ras.withdrawn = false) : withdrawContent s =
    satInc Reg.GTE_ABORTCNT_COUNT 1 { s with ras := { s.ras with withdrawn := true } } := by
  rw [withdrawContent, if_neg (by omega), if_neg (by simp [hw])]

theorem renderDeadlineMiss_withdraws {east : Bool} {l : Nat} (hr : rasterOn s = true) (ha : s.gte.active = true)
    (hn : lineNow s ≠ 0xFF) (hl : l < 128) (hcor : s.cor.line ≤ l) (hp : l + 7 ≤ renderPos s) (hs : lineNow s < 128)
    (hw : s.ras.withdrawn = false) :
    ∃ t, exec (.renderDeadlineMiss east l) s = .next t ∧ t.ras = { s.ras with withdrawn := true } ∧
      rd t (Reg.GTX_STATUS_LATE (if east then 0 else 1)) = 1 ∧
      rd t Reg.GTE_ABORTCNT_COUNT = min (2 ^ 32 - 1) (rd s Reg.GTE_ABORTCNT_COUNT + 1) ∧
      t.inbox = s.inbox ++ [⟨if east then 0x064 else 0x074, 0x13, 0, none⟩] ∧
      RegsBut [Reg.GTX_STATUS_LATE 0, Reg.GTX_STATUS_LATE 1, Reg.GTE_ABORTCNT_COUNT] s t ∧ t.mem = s.mem ∧
      t.tx = s.tx := by
  have hc : (rasterOn s && s.gte.active && lineNow s != 0xFF && l < 128 && s.cor.line ≤ l && l + 7 ≤ renderPos s) =
      true := by simp [hr, ha, hn, hl, hcor, hp]
  have hx : exec (.renderDeadlineMiss east l) s = .next (withdrawContent (lineLate east s)) :=
    congrArg Host.Outcome.next (if_pos hc)
  obtain ⟨hlate, hf, hregs⟩ := lineLate_spec east s
  generalize lineLate east s = u at hx hlate hf hregs
  have hras : u.ras = s.ras := (congrArg State.ras hf).trans rfl
  have hwd : withdrawContent u = satInc Reg.GTE_ABORTCNT_COUNT 1 { u with ras := { u.ras with withdrawn := true } } :=
    withdrawContent_sent ((congrArg (· < 128) (hregs.rd_eq Reg.RAS_POS_LINE)).mpr hs)
      ((congrArg Ras.withdrawn hras).trans hw)
  have hcnt := counts_satInc_one Reg.GTE_ABORTCNT_COUNT { u with ras := { u.ras with withdrawn := true } }
  have hold : rd u Reg.GTE_ABORTCNT_COUNT = rd s Reg.GTE_ABORTCNT_COUNT := hregs.rd_eq _
  rw [hwd] at hx
  refine ⟨_, hx, ?_, ?_, ?_, ?_, ?_, ?_, ?_⟩
  · show ({ u.ras with withdrawn := true } : Ras) = _
    rw [hras]
  · refine (rd_wr_ne _ _ _ _ ?_).trans hlate
    cases east <;> decide
  · rw [← hold]
    exact hcnt
  · exact (congrArg State.inbox hf).trans rfl
  · exact RegsBut.wr (hregs.mono (by simp)) (by simp)
  · exact (congrArg State.mem hf).trans rfl
  · exact (congrArg State.tx hf).trans rfl

end

/-- Settles O27: a line due is rendered, one not due is left, one behind its deadline withdraws the content sent. -/
theorem tileLinesInTimeAndLate : Obligations.TileLinesInTimeAndLate := fun _ _ _ hr ha hn hl =>
  ⟨fun clk bl => tileLineRender_inTime clk bl hr ha hn hl, fun _ _ => tileLineRender_notDue,
    renderDeadlineMiss_withdraws hr ha hn hl⟩

end Sys2Proof.Machine
end

section
/-! PROOF. The start of a raster line -/

namespace Sys2Proof.Machine

section
variable {s t : State}

/-! ### The exchange of a pair (R513, R521) -/

theorem InLine.sendPtn {type payload} (h : InLine false s t) : InLine false s (sendPtn type payload t) :=
  .ite h.frame.send h

theorem InLine.sendBarrier {kind op lane cause} (h : InLine false s t) :
    InLine false s (sendBarrier kind op lane cause t) := h.sendPtn

theorem InLine.sendGov (h : InLine false s t) : InLine false s (sendGov t) := .ite h h.frame.sendPtn

theorem InLine.sendAdopt (h : InLine false s t) : InLine false s (sendAdopt t) := .ite h h.frame.sendPtn

theorem InLine.compareDigests (h : InLine false s t) : InLine false s (compareDigests t) := by
  unfold Machine.compareDigests
  split
  · exact .when (.frame (.ite h.frame h)) (·.satInc.raise)
  · exact h

theorem InLine.sendDigest (h : InLine false s t) : InLine false s (sendDigest t) :=
  .ite h h.frame.sendPtn.compareDigests

theorem InLine.agreeAbort (h : InLine false s t) : InLine false s (agreeAbort t) := h.frame.sendBarrier

theorem InLine.pairLines {l} (h : InLine false s t) : InLine false s (pairLines l t) :=
  .of (fun hu => .ite h (.ite hu.sendGov (.ite (.ite hu.sendAdopt.sendDigest.agreeAbort
    hu.sendAdopt.sendDigest.sendBarrier) hu))) (.ite h.frame h)

/-! ### What TPR sends in a line (R217, R225, R239, R247, R398) -/

theorem InLine.keepSig {n} (h : InLine false s t) : InLine false s (keepSig n t) := by
  unfold Machine.keepSig
  exact h.modTpr

theorem InLine.sendLines {l} (h : InLine false s t) : InLine false s (sendLines l t) :=
  .of (fun hu => .ite (.when (.forEach hu (fun _ h => h.send)) (fun h => .forEach h (fun _ h => h.keepSig))) hu)
    (.ite (.forEach h (fun _ h => h.modTpr)) h)

theorem InLine.sendSet {n c} (h : InLine false s t) : InLine false s (sendSet n c t) := h.send.modTpr

theorem InLine.openBalance {n e} (h : InLine false s t) : InLine false s (openBalance n e t) := .ite h.frame h

theorem InLine.sendProbes {n es} (h : InLine false s t) : InLine false s (sendProbes n es t) :=
  .ite h (.forEach h.frame.sendSet (fun _ h => h.openBalance))

theorem InLine.sendLists {l} (h : InLine false s t) : InLine false s (sendLists l t).2 :=
  .iteSnd h (.foldl (g := Prod.snd) h (fun _ h => h.sendProbes.sendProbes))

theorem InLine.resendDue {n} (h : InLine false s t) : InLine false s (resendDue n t) :=
  .forEach h.modTpr (fun _ h => h.send)

theorem InLine.placeSet {room q p} (h : InLine false s p.2) : InLine false s (placeSet room q p).2 := by
  unfold Machine.placeSet
  dsimp only
  split
  · exact .forEach h (fun _ h => h.sendSet)
  · exact h

theorem InLine.sendTcmds {l} (h : InLine false s t) : InLine false s (sendTcmds l t) :=
  .forEach h.frame (fun _ h => .forEach h (fun _ h => h.sendSet))

theorem InLine.setCmdqLevel (h : InLine false s t) : InLine false s (setCmdqLevel t) := h.wr

theorem InLine.drainSets {l used} (h : InLine false s t) : InLine false s (drainSets l used t) :=
  .ite h (.ite (.setCmdqLevel (.frame (.foldl (g := Prod.snd) (.sendTcmds (.forEach h (fun _ h => h.resendDue)))
    (fun _ h => h.placeSet)))) h)

theorem InLine.doDarkrowGo {lane phase row} (h : InLine false s t) : InLine false s (doDarkrowGo lane phase row t) :=
  .ite h (.ite h.wr.wr.wr.wr.wr h.wr.wr.wr.wr.frame.sendSet.wr)

theorem InLine.darkrowRetry {l} (h : InLine false s t) : InLine false s (darkrowRetry l t) := .ite h.doDarkrowGo h

theorem InLine.sendInLine {l} (h : InLine false s t) : InLine false s (sendInLine l t) :=
  .darkrowRetry (.drainSets (.sendLists (.when h (·.sendLines))))

theorem InLine.halfSkew (h : InLine false s t) : InLine false s (halfSkew t) := .when h (·.raise)

/-! ### The line that starts (R49) -/

theorem enterLine_frame (l : Nat) (s : State) :
    OnlyRaster [Reg.RAS_POS_LINE, Reg.RAS_POS_OFFSET, Reg.RAS_STATUS_SEAM_ACT] s (enterLine l s) := by
  unfold enterLine
  dsimp only
  split <;> split
  · exact (OnlyRaster.refl _ s).ras.wr.wr.wr.ras
  · exact (OnlyRaster.refl _ s).ras.wr.wr.ras
  · exact (OnlyRaster.refl _ s).ras.wr.wr.wr
  · exact (OnlyRaster.refl _ s).ras.wr.wr

/-- RAS is at the offset 0 of line `l`, which starts now. -/
theorem enterLine_place (l : Nat) (s : State) : rd (enterLine l s) Reg.RAS_POS_LINE = l % 2 ^ 8 ∧
    rd (enterLine l s) Reg.RAS_POS_OFFSET = 0 ∧ (enterLine l s).ras.lineAt = s.now := by
  have hb (u : State) (f : Fld) : rd (beginSending u) f = rd u f := rfl
  unfold enterLine
  dsimp only
  split <;> split <;> refine ⟨?_, ?_, rfl⟩ <;>
    simp [hb, rd_wr, Fld.key, Reg.RAS_POS_LINE, Reg.RAS_POS_OFFSET, Reg.RAS_STATUS_SEAM_ACT]

theorem lineAfter_le (l : Nat) : lineAfter l ≤ 135 := by
  unfold lineAfter
  split
  · decide
  · split <;> omega

theorem settleWithdraw_none (h : s.mbx.withdraw = false) : settleWithdraw s = s :=
  if_neg (by simp [h])

theorem lineStart_running {tm : Nat} (hw : s.mbx.withdraw = false) (hr : rasterOn s = true) :
    ∃ t, exec (.lineStart tm) s = .next t ∧ rd t Reg.RAS_POS_OFFSET = 0 ∧ t.ras.lineAt = max s.now tm ∧
      rd t Reg.RAS_POS_LINE = (if 135 < lineNow s then 128 else if lineNow s = 135 then 0 else lineNow s + 1) ∧
      rd t Reg.RAS_FCNT_FCNT = rd s Reg.RAS_FCNT_FCNT ∧ t.mem = s.mem ∧ t.dev = s.dev ∧ t.pilot = s.pilot ∧
      t.tiles = s.tiles := by
  let l := lineAfter (lineNow s)
  let u := enterLine l (atTime tm s)
  obtain ⟨hf, hregs⟩ := enterLine_frame l (atTime tm s)
  obtain ⟨hline, hoff, hat⟩ := enterLine_place l (atTime tm s)
  have ht : InLine false u (u |> halfSkew |> pairLines l |> sendInLine l) :=
    (InLine.refl _ u).halfSkew.pairLines.sendInLine
  have hx : exec (.lineStart tm) s = .next (u |> halfSkew |> pairLines l |> sendInLine l |> settleWithdraw) :=
    congrArg Host.Outcome.next (if_neg (by simp [hr]))
  have hmbx : u.mbx = s.mbx := (congrArg State.mbx hf).trans rfl
  rw [settleWithdraw_none ((congrArg Mbx.withdraw (ht.mbx.trans hmbx)).trans hw)] at hx
  refine ⟨_, hx, (ht.regs _ (by decide)).trans hoff, (congrArg Ras.lineAt ht.ras).trans hat, ?_,
    (ht.regs _ (by decide)).trans (hregs.rd_eq _), ht.mem.trans ((congrArg State.mem hf).trans rfl),
    ht.dev.trans ((congrArg State.dev hf).trans rfl), ht.pilot.trans ((congrArg State.pilot hf).trans rfl),
    ht.tiles.trans ((congrArg State.tiles hf).trans rfl)⟩
  have hl : l % 2 ^ 8 = l := Nat.mod_eq_of_lt (lt_of_le_of_lt (lineAfter_le _) (by decide))
  exact (ht.regs _ (by decide)).trans (hline.trans hl)

theorem lineStart_stopped {tm : Nat} (hr : rasterOn s = false) : ∃ t, exec (.lineStart tm) s = .next t ∧ t = s :=
  ⟨doLineStart tm s, rfl, if_pos (by simp [hr])⟩

end

/-- Settles O24: RAS enters the line behind its own, and the work in the line leaves its place alone. -/
theorem linesFollowOneAnother : Obligations.LinesFollowOneAnother := fun _ _ hw =>
  ⟨lineStart_running hw, lineStart_stopped⟩

end Sys2Proof.Machine
end

section
/-! PROOF. Base frames: the rows of a frame being written, and the age of the one rendered (R87 to R89, R97) -/

namespace Sys2Proof.Machine

section
variable {s : State} {n port tm : Nat} {p : AvtpPkt} {w : Writing}

/-! ### The frames of a stream -/

@[simp] theorem streamSt_setStream (n : Nat) (q : StreamSt) (s : State) : streamSt (setStream n q s) n = q :=
  SMap.getD_put_same _ _ _ _

@[simp] theorem streamSt_setWriting (n : Nat) (v : Option Writing) (s : State) :
    streamSt (setWriting n v s) n = { streamSt s n with writing := v } :=
  streamSt_setStream _ _ _

/-- With every word of the pixel store sound, a write stores its bytes (R553). -/
theorem psWrite_eq_stBytes (a : Nat) {bs : Bytes} (he : s.eccBad = []) (hb : bs ≠ []) :
    psWrite a bs s = stBytes a bs s := by
  have hs (x : Nat) : eccBadAt s x = false := by simp [eccBadAt, he]
  have hf : s.eccBad.filter (fun x => !(decide (a ≤ x) && decide (x + 8 ≤ a + bs.length))) = s.eccBad := by simp [he]
  rw [psWrite_of_sound s a bs (hs _) (hs _) hb, hf]
  rfl

/-! ### A packet that goes on with a frame (R88, R89) -/

/-- The packet carries the next row of frame `w`, which stream `n` is writing to a sound pixel store. -/
structure GoesOn (n : Nat) (w : Writing) (p : AvtpPkt) (s : State) : Prop where
  writing  : (streamSt s n).writing = some w
  good     : w.bad = false
  inner    : p.first = false
  inOrder  : p.seqNo = (w.seqNo + 1) % 256
  width    : p.widthCode = rd s (Reg.GTE_SCFG_FMT n)
  row      : p.row < streamH s n
  whole    : p.samples.length = streamW s n
  nonempty : 0 < streamW s n
  sound    : s.eccBad = []
  fresh    : w.rows.contains p.row = false

/-- The samples of a packet as the pixel store holds them. -/
def storedRow (fmt : Nat) (p : AvtpPkt) : Bytes := p.samples.flatMap (fun v => leBytes 2 (storedSample fmt v))

theorem storedRow_ne_nil (fmt : Nat) (h : 0 < p.samples.length) : storedRow fmt p ≠ [] := by
  obtain ⟨v, vs, hv⟩ := List.exists_cons_of_length_pos h
  simp [storedRow, hv, leBytes]

/-- The frame being written with the row of a packet. -/
def withRow (w : Writing) (p : AvtpPkt) : Writing := { w with seqNo := p.seqNo, rows := p.row :: w.rows }

/-- The row of a packet lies in the buffer of frame `w`, and the frame has the row. -/
def rowStored (n : Nat) (w : Writing) (p : AvtpPkt) (s : State) : State :=
  s |> setWriting n (some { w with seqNo := p.seqNo })
    |> stBytes (bufAddr n w.buf + p.row * 4096) (storedRow (rd s (Reg.GTE_SCFG_FMT n)) p)
    |> setWriting n (some (withRow w p))

theorem streamSt_rowStored (n : Nat) (w : Writing) (p : AvtpPkt) (s : State) :
    streamSt (rowStored n w p s) n = { streamSt s n with writing := some (withRow w p) } :=
  (streamSt_setWriting n _ _).trans
    (congrArg (fun q : StreamSt => { q with writing := some (withRow w p) }) (streamSt_setWriting n _ s))

theorem GoesOn.atTime (h : GoesOn n w p s) (tm : Nat) : GoesOn n w p (atTime tm s) :=
  ⟨h.writing, h.good, h.inner, h.inOrder, h.width, h.row, h.whole, h.nonempty, h.sound, h.fresh⟩

theorem GoesOn.storeRow (h : GoesOn n w p s) :
    storeRow n { w with seqNo := p.seqNo } p (setWriting n (some { w with seqNo := p.seqNo }) s) = rowStored n w p s := by
  have hne : storedRow (rd s (Reg.GTE_SCFG_FMT n)) p ≠ [] := storedRow_ne_nil _ (h.whole ▸ h.nonempty)
  have hps := psWrite_eq_stBytes (s := setWriting n (some { w with seqNo := p.seqNo }) s)
    (bufAddr n w.buf + p.row * 4096) h.sound hne
  have hnew : ¬ w.rows.contains p.row = true := by rw [h.fresh]; decide
  rw [Machine.storeRow, if_neg (by simp [h.good]), if_neg hnew]
  exact congrArg (setWriting n (some (withRow w p))) hps

/-- The row is stored, and the last packet of a frame with every row completes it. -/
theorem GoesOn.takePacket (h : GoesOn n w p s) : takePacket n p s =
    if p.last = true ∧ w.rows.length + 1 = streamH s n then completeFrame n (withRow w p) (rowStored n w p s)
    else rowStored n w p s := by
  have hw : ({ w with seqNo := p.seqNo, bad := w.bad || (!p.first && p.seqNo != (w.seqNo + 1) % 256) } : Writing) =
      { w with seqNo := p.seqNo } := by simp [← h.inOrder]
  have hfits : (p.widthCode != rd s (Reg.GTE_SCFG_FMT n) || decide (streamH s n ≤ p.row) ||
      p.samples.length != streamW s n) = false := by simp [h.width, h.row, h.whole]
  have hH : streamH (rowStored n w p s) n = streamH s n := rfl
  have hg : (streamSt (rowStored n w p s) n).writing = some (withRow w p) := by rw [streamSt_rowStored]
  simp only [Machine.takePacket, h.writing, Option.getD_some, hw, hfits, h.storeRow, hg, hH]
  simp [withRow, h.good]

/-- Completing a frame counts and hands the buffer over; the pixel store stays as it is. -/
theorem completeFrame_frame (n : Nat) (w : Writing) (s : State) : completeFrame n w s =
    { s with regs := (completeFrame n w s).regs, gte := (completeFrame n w s).gte } := by
  unfold completeFrame
  cases (streamSt s n).waiting <;> cases w.missed <;> rfl

theorem streamSt_completeFrame (n : Nat) (w : Writing) (s : State) :
    streamSt (completeFrame n w s) n = ⟨none, some ⟨w.buf, w.pt⟩⟩ :=
  streamSt_setStream _ _ _

/-- A packet that goes on with a frame changes the memory, the registers and the engines' state only. -/
theorem GoesOn.takePacket_frame (h : GoesOn n w p s) : Machine.takePacket n p s = { s with
    regs := (Machine.takePacket n p s).regs
    gte := (Machine.takePacket n p s).gte
    mem := Memory.put s.mem (bufAddr n w.buf + p.row * 4096) (storedRow (rd s (Reg.GTE_SCFG_FMT n)) p) } := by
  rw [h.takePacket]
  split
  · exact (completeFrame_frame n (withRow w p) (rowStored n w p s)).trans rfl
  · rfl

/-! ### Packets at a port (R272 to R274) -/

theorem avtpPacket_reaches (hp : portUp s port = true) (hm : macsecBars s port = false) (hb : p.badFormat = false)
    (hn : streamOf s p.sid = some n) (hf : p.first = false) :
    exec (.avtpPacket port tm p) s = .next (takePacket n p (atTime tm s)) := by
  have hp' : portUp (atTime tm s) port = true := hp
  have hm' : macsecBars (atTime tm s) port = false := hm
  have hn' : streamOf (atTime tm s) p.sid = some n := hn
  show Host.Outcome.next (doAvtpPacket port tm p s) = _
  simp [doAvtpPacket, hp', hm', hb, hn', hf, when]

theorem avtpPacket_badFormat (hp : portUp s port = true) (hm : macsecBars s port = false) (hb : p.badFormat = true) :
    exec (.avtpPacket port tm p) s = .next (satInc (Reg.ETH_P_RXDROP_FRAME port) 1 (atTime tm s)) := by
  have hp' : portUp (atTime tm s) port = true := hp
  have hm' : macsecBars (atTime tm s) port = false := hm
  show Host.Outcome.next (doAvtpPacket port tm p s) = _
  simp [doAvtpPacket, hp', hm', hb]

/-! ### The age of the base frame (R97) -/

/-- The message of a base frame that is stale, once an episode. -/
def staleMsg (limit : Nat) (s : State) : List FMsg :=
  if limit < baseAge s ∧ s.gte.staleUp = false then [⟨0x060, 0x0F, 0, none⟩] else []

/-- The message of a base frame that is lost, once an episode. -/
def lostMsg (limit : Nat) (s : State) : List FMsg :=
  if limit < baseAge s ∧ s.gte.lostUp = false then [⟨0x061, 0x10, 0, none⟩] else []

/-- The stale fault raised, and its episode marked. -/
def judgeStale (limit : Nat) (s : State) : State :=
  { s with gte := { s.gte with staleUp := s.gte.staleUp || decide (limit < baseAge s) }
           inbox := s.inbox ++ staleMsg limit s }

/-- The lost fault raised, and its episode marked. -/
def judgeLost (limit : Nat) (s : State) : State :=
  { s with gte := { s.gte with lostUp := s.gte.lostUp || decide (limit < baseAge s) }
           inbox := s.inbox ++ lostMsg limit s }

/-- Both judgements have one form: a fault whose limit is passed is raised where its mark `up` is clear, and `mark` sets it. -/
theorem raise_once_an_episode {source : Nat} {r : FaultRow} (hr : faultRow source = some r) (passed : Prop)
    [Decidable passed] (up : Bool) (mark : Bool → Gte) (hm : mark up = s.gte) :
    (if passed && !up then raise source 0 { s with gte := mark true } else s) =
      { s with gte := mark (up || decide passed)
               inbox := s.inbox ++ if passed ∧ up = false then [⟨source, r.kind, 0, none⟩] else [] } := by
  by_cases ho : passed <;> cases up <;> simp [ho, raise_known _ hr, hm]

theorem raise_stale_eq_judgeStale (limit : Nat) (s : State) :
    (if limit < baseAge s && !s.gte.staleUp then raise 0x060 0 { s with gte := { s.gte with staleUp := true } } else s) =
      judgeStale limit s :=
  raise_once_an_episode (r := ⟨0x060, 0x0F, 1, 0⟩) rfl _ _ (fun b => { s.gte with staleUp := b }) rfl

theorem raise_lost_eq_judgeLost (limit : Nat) (s : State) :
    (if limit < baseAge s && !s.gte.lostUp then raise 0x061 0 { s with gte := { s.gte with lostUp := true } } else s) =
      judgeLost limit s :=
  raise_once_an_episode (r := ⟨0x061, 0x10, 3, 1⟩) rfl _ _ (fun b => { s.gte with lostUp := b }) rfl

theorem baseStaleTimer_running (hr : rasterOn s = true) (hd : s.gte.source ≠ .direct) :
    exec (.baseStaleTimer tm) s =
      .next (atTime tm s |> setBaseAge |> judgeStale (clampN 10 2000 (rd s Reg.GTE_STALE_STALE_MS))
        |> judgeLost (max (clampN 10 2000 (rd s Reg.GTE_STALE_STALE_MS)) (rd s Reg.GTE_STALE_LOST_MS))) := by
  have hr' : rasterOn (atTime tm s) = true := hr
  have hd' : (atTime tm s).gte.source ≠ .direct := hd
  show Host.Outcome.next (doBaseStaleTimer tm s) = _
  simp only [doBaseStaleTimer, hr', hd', raise_stale_eq_judgeStale, raise_lost_eq_judgeLost]
  rfl

theorem rd_setBaseAge (s : State) : rd (setBaseAge s) Reg.GTE_BASE_AGE_AGE = min 65535 (baseAge s) := by
  rw [setBaseAge, rd_wr_same]
  exact Nat.mod_eq_of_lt (by show min 65535 (baseAge s) < 65536; omega)

end

/-- Settles O28: the row of a packet lies in the buffer, a bad format is only counted, and each limit that the age passes
raises its fault once. -/
theorem baseFramesArriveAndAge : Obligations.BaseFramesArriveAndAge := by
  intro s
  refine ⟨?stores, ?counts, ?ages⟩
  case stores =>
    intro port tm n p w hp hm hb hn hf hw hg hseq hwd hr hl hne he hc
    have h : GoesOn n w p (atTime tm s) := GoesOn.atTime ⟨hw, hg, hf, hseq, hwd, hr, hl, hne, he, hc⟩ tm
    have ht := h.takePacket_frame
    refine ⟨_, avtpPacket_reaches hp hm hb hn hf, fun i hi => ?_, fun x hx => ?_, (congrArg State.tx ht :),
      (congrArg State.dev ht :), (congrArg State.ras ht :), fun hlast hall => ?_, fun hlast => ?_⟩
    · rw [ht]
      exact (ldByte_stBytes_at (atTime tm s) _ _ hi).trans List.getD_eq_getElem?_getD
    · rw [ht]
      exact ldByte_stBytes_off (atTime tm s) _ _ hx
    · rw [h.takePacket, if_pos ⟨hlast, hall⟩]
      exact streamSt_completeFrame _ _ _
    · rw [h.takePacket, if_neg (by simp [hlast]), streamSt_rowStored]
      exact ⟨rfl, rfl⟩
  case counts =>
    intro port tm p hp hm hb
    exact ⟨_, avtpPacket_badFormat hp hm hb, counts_satInc_one _ _, (OnlyRegs.refl _ _).wr⟩
  case ages =>
    intro tm hr hd
    have hregs : RegsBut [Reg.GTE_BASE_AGE_AGE] s (setBaseAge (atTime tm s)) :=
      RegsBut.wr (t := atTime tm s) (RegsBut.refl s _) (by simp)
    exact ⟨_, baseStaleTimer_running hr hd, rd_setBaseAge (atTime tm s), rfl, hregs.congr rfl rfl, rfl, rfl⟩

end Sys2Proof.Machine
end

section
/-! PROOF. What a publish leaves alone -/

namespace Sys2Proof.Machine

/-- The registers that a publish is judged by: the set version, and the domain whose time extends TOBS. -/
def zoneFields : List Fld := [Reg.ZNE_SETVER_VER, Reg.NTM_CTRL_ACTIVE]

/-- What a publish and the completions of its set leave alone, with the part of ZNE that `look` picks out. -/
structure AroundZones {β : Type} (look : Zne → β) (s t : State) : Prop where
  dev : t.dev = s.dev
  tiles : t.tiles = s.tiles
  waits : t.waits = s.waits
  gathers : t.mbx.gathers = s.mbx.gathers
  zne : look t.zne = look s.zne
  net : netNow t = netNow s
  setver : rd t Reg.ZNE_SETVER_VER = rd s Reg.ZNE_SETVER_VER

theorem AroundZones.refl {β : Type} (look : Zne → β) (s : State) : AroundZones look s s :=
  ⟨rfl, rfl, rfl, rfl, rfl, rfl, rfl⟩

/-- A field of a block behind the network time is none of them. -/
theorem zoneFields_far {base stride n lo width reset : Nat} (h : 0x400E0000 ≤ base) :
    ∀ g ∈ zoneFields, g.key ≠ Fld.key ⟨base + stride * n, lo, width, reset⟩ := by
  have hw : ∀ g ∈ zoneFields, g.key < 0x400E0000 * 32 := by decide
  intro g hg
  have hlt := hw g hg
  simp only [Fld.key] at hlt ⊢
  omega

/-- The pending bits of the interrupts are none of them. -/
theorem zoneFields_pend {n : Nat} (h : n < 6) : ∀ g ∈ zoneFields, g.key ≠ (Reg.ITC_PEND_MAP n).key :=
  (by decide : ∀ n < 6, ∀ g ∈ zoneFields, g.key ≠ (Reg.ITC_PEND_MAP n).key) n h

section
variable {β : Type} {look : Zne → β} {s t u : State}

/-! ### The rules of the operations -/

theorem AroundZones.trans (h : AroundZones look s t) (k : AroundZones look t u) : AroundZones look s u :=
  ⟨k.dev.trans h.dev, k.tiles.trans h.tiles, k.waits.trans h.waits, k.gathers.trans h.gathers, k.zne.trans h.zne,
    k.net.trans h.net, k.setver.trans h.setver⟩

/-- Less of ZNE to look at. -/
theorem AroundZones.of_id (h : AroundZones id s t) (look : Zne → β) : AroundZones look s t :=
  { h with zne := congrArg look h.zne }

theorem AroundZones.forget (h : AroundZones look s t) : AroundZones (fun _ => ()) s t := { h with zne := rfl }

/-- A change of parts of the state that nothing here looks at. -/
theorem AroundZones.frame {part pending mem eccBad pilot pwc thm ras gte cor lanes tpr far swp sns links image inbox fender
    core0 core1 mrc evr cku0 cku1 dump sec ptn tx freeCnt} (h : AroundZones look s t) :
    AroundZones look s ⟨part, pending, t.now, t.ntcFrom, t.ntcOn, t.rawHeld, t.regs, mem, eccBad, t.dev, pilot, pwc, thm,
      ras, gte, t.zne, cor, lanes, tpr, t.tiles, far, swp, sns, links, t.ntm, t.mbx, image, t.waits, inbox, fender, core0,
      core1, mrc, evr, cku0, cku1, dump, sec, ptn, tx, freeCnt⟩ := { h with }

/-- A change of ZNE that keeps what `look` picks out. -/
theorem AroundZones.frameZne {z : Zne} (hz : look z = look t.zne) (h : AroundZones look s t) :
    AroundZones look s { t with zne := z } := { h with zne := hz.trans h.zne }

/-- A change of the mailboxes that keeps the sets gathered. -/
theorem AroundZones.frameMbx {m : Mbx} (hg : m.gathers = t.mbx.gathers) (h : AroundZones look s t) :
    AroundZones look s { t with mbx := m } := { h with gathers := hg.trans h.gathers }

/-- A state that occurs more than once. -/
theorem AroundZones.of (hf : AroundZones look s u → AroundZones look s t) (hu : AroundZones look s u) :
    AroundZones look s t := hf hu

theorem AroundZones.ite {c : Prop} [Decidable c] (ht : AroundZones look s t) (hu : AroundZones look s u) :
    AroundZones look s (if c then t else u) := by split <;> assumption

theorem AroundZones.when {c : Bool} {f : State → State} (h : AroundZones look s t)
    (hf : ∀ {u}, AroundZones look s u → AroundZones look s (f u)) : AroundZones look s (when c f t) := .ite (hf h) h

theorem AroundZones.forEach {α : Type} {l : List α} {f : α → State → State} (h : AroundZones look s t)
    (hf : ∀ {u} x, AroundZones look s u → AroundZones look s (f x u)) : AroundZones look s (forEach l f t) :=
  forEach_invariant t (AroundZones look s) l f (fun x _ => hf x) h

/-- Network time reads no register but the active domain. -/
theorem netNow_wr {f : Fld} (v : Nat) (hf : Reg.NTM_CTRL_ACTIVE.key ≠ f.key) (s : State) :
    netNow (wr f v s) = netNow s := by
  show timeNow s (rd (wr f v s) Reg.NTM_CTRL_ACTIVE) = _
  rw [rd_wr_ne s f _ v hf]
  rfl

theorem AroundZones.wr {f v} (h : AroundZones look s t) (hf : ∀ g ∈ zoneFields, g.key ≠ f.key := by decide) :
    AroundZones look s (wr f v t) :=
  { h with
    net := (netNow_wr v (hf _ (by simp [zoneFields])) t).trans h.net
    setver := (rd_wr_ne t f _ v (hf _ (by simp [zoneFields]))).trans h.setver }

theorem AroundZones.wri {f v} (h : AroundZones look s t) (hf : ∀ g ∈ zoneFields, g.key ≠ f.key := by decide) :
    AroundZones look s (wri f v t) := h.wr hf

theorem AroundZones.satInc {f n} (h : AroundZones look s t) (hf : ∀ g ∈ zoneFields, g.key ≠ f.key := by decide) :
    AroundZones look s (satInc f n t) := h.wr hf

/-- SETVER counts on both sides. -/
theorem AroundZones.countBoth (h : AroundZones look s t) :
    AroundZones look (wrapInc Reg.ZNE_SETVER_VER 1 s) (wrapInc Reg.ZNE_SETVER_VER 1 t) :=
  { h with
    net := ((netNow_wr _ (by decide) t).trans h.net).trans (netNow_wr _ (by decide) s).symm
    setver := by rw [wrapInc, wrapInc, rd_wr_same, rd_wr_same, h.setver] }

theorem AroundZones.raise {src d} (h : AroundZones look s t) : AroundZones look s (raise src d t) := by
  unfold Machine.raise raiseExt
  split
  · exact h.frame
  · exact h

theorem AroundZones.fire {n} (h : AroundZones look s t) : AroundZones look s (fire n t) := by
  unfold Machine.fire
  split
  · next hk => exact h.wr (zoneFields_pend (by simp only [irqKnown] at hk; grind))
  · exact h

theorem AroundZones.send {x} (h : AroundZones look s t) : AroundZones look s (send x t) := h.frame

theorem AroundZones.psWrite {a bs} (h : AroundZones look s t) : AroundZones look s (psWrite a bs t) :=
  .ite h (.when (.when (t := { t with mem := _, eccBad := _ }) h.frame (·.raise)) (·.raise))

/-! ### A completion (R308 to R310, R324) -/

theorem AroundZones.notifyPort {p} (h : AroundZones look s t) : AroundZones look s (notifyPort p t) :=
  .ite h h.frame.send

theorem AroundZones.notify (h : AroundZones look s t) : AroundZones look s (notify t) := h.notifyPort.notifyPort

theorem AroundZones.setIrqPin (h : AroundZones look s t) : AroundZones look s (setIrqPin t) := .ite h h.wr.send

theorem AroundZones.setPend {c} (h : AroundZones look s t) : AroundZones look s (setPend c t) :=
  .setIrqPin (.when (.when (.wr <| .frameMbx rfl h) (·.notify)) (·.fire))

theorem AroundZones.windowFire {c} (h : AroundZones look s t) : AroundZones look s (windowFire c t) :=
  .ite (.frameMbx rfl h) h.setPend

theorem AroundZones.windowCount {c n} (h : AroundZones look s t) : AroundZones look s (windowCount c n t) :=
  .ite (.windowFire <| .frameMbx rfl h) (.frameMbx rfl h)

theorem AroundZones.canResponse {opc tag status fresh} (h : AroundZones look s t) :
    AroundZones look s (canResponse opc tag status fresh t) := .ite h.send h

theorem AroundZones.afterRecord {q status} (h : AroundZones look s t) : AroundZones look s (afterRecord q status t) :=
  .of (fun hu => .ite h.wr (.ite hu.setPend (.ite hu.windowCount.wr hu.windowCount))) (.ite h.canResponse.wr h)

theorem AroundZones.complete {q status d0 d1} (h : AroundZones look s t) :
    AroundZones look s (complete q status d0 d1 t) :=
  .ite (h.psWrite.wr (zoneFields_far (by decide))).afterRecord h

/-! ### A publish (R129, R133, R152) -/

theorem AroundZones.setZoneMaps (h : AroundZones look s t) : AroundZones look s (setZoneMaps t) :=
  h.wr.wr.wr.wr.wr.wr.wr.wr

theorem AroundZones.setZview (h : AroundZones look s t) : AroundZones look s (setZview t) := by
  unfold Machine.setZview
  split
  · exact h.wri.wri.wri.wr
  · exact h.wr.wr.wr.wr

theorem AroundZones.mirrorZones (h : AroundZones look s t) : AroundZones look s (mirrorZones t) := h.psWrite

theorem AroundZones.setLat (h : AroundZones Zne.zones s t) : AroundZones Zne.zones s (setLat t) := by
  unfold Machine.setLat
  split
  · exact .wr <| .wr <| .frameZne rfl h
  · exact h

theorem AroundZones.setRate (h : AroundZones Zne.zones s t) : AroundZones Zne.zones s (setRate t) :=
  .of (fun hu => .ite (.raise <| .wr <| .satInc hu) hu) (.frameZne rfl h)

theorem AroundZones.fenderTap {zid tobs} (h : AroundZones look s t) : AroundZones look s (fenderTap zid tobs t) := h.frame

theorem AroundZones.acceptDesc {d} (h : AroundZones (fun _ => ()) s t) : AroundZones (fun _ => ()) s (acceptDesc d t) :=
  .of (fun hu => .ite h.satInc.raise (.ite (.frameZne rfl hu) (.frameZne rfl hu))) (h.when (·.fenderTap))

/-- Once the descriptors are accepted and SETVER has counted, the rest of a publish keeps the zones. -/
theorem publish_afterAccept (ds : List Bytes) (line : Nat) (s : State) :
    AroundZones Zne.zones (wrapInc Reg.ZNE_SETVER_VER 1 (Machine.forEach ds acceptDesc s)) (publish ds line s) :=
  .setRate <| .setLat <| .mirrorZones <| .setZview <| .setZoneMaps <| .countBoth <| .frameZne rfl (.refl _ _)

/-- A publish counts SETVER and leaves alone all but ZNE. -/
theorem publish_counts (ds : List Bytes) (line : Nat) (s : State) :
    AroundZones (fun _ => ()) (wrapInc Reg.ZNE_SETVER_VER 1 s) (publish ds line s) :=
  ((AroundZones.refl _ s).forEach (fun _ h => h.acceptDesc)).countBoth.trans (publish_afterAccept ds line s).forget

theorem publish_zones (ds : List Bytes) (line : Nat) (s : State) :
    (publish ds line s).zne.zones = (Machine.forEach ds acceptDesc s).zne.zones := (publish_afterAccept ds line s).zne

end

end Sys2Proof.Machine
end

section
/-! PROOF. What a publish does to the zones: a new zone stands, a CLEAR removes what is older (R130, R131) -/

namespace Sys2Proof.Machine

/-! ### Sparse tables whose keys rise -/

section
variable {α : Type} {m : SMap α}

/-- No two entries of a table share a key. -/
theorem SMap.eq_of_key_eq (hs : SMap.Sorted m) {x y : Nat × α} (hx : x ∈ m) (hy : y ∈ m) (hk : x.1 = y.1) : x = y := by
  have hn : (m.map Prod.fst).Nodup := (List.pairwise_map.2 hs).imp fun h => Nat.ne_of_lt h
  exact List.inj_on_of_nodup_map hn hx hy hk

theorem SMap.find_of_mem (hs : SMap.Sorted m) {z : Nat × α} (h : z ∈ m) : SMap.find m z.1 = some z.2 := by
  induction m with
  | nil => cases h
  | cons c m ih =>
    obtain ⟨hc, hm⟩ := List.pairwise_cons.mp hs
    rcases List.mem_cons.mp h with rfl | hz
    · simp [SMap.find]
    · simp [SMap.find, (hc z hz).ne, ih hm hz]

/-- The removal of a key is a filter. -/
theorem SMap.del_eq_filter (hs : SMap.Sorted m) (k : Nat) : SMap.del m k = m.filter (fun z => z.1 != k) := by
  induction m with
  | nil => rfl
  | cons c m ih =>
    obtain ⟨j, w⟩ := c
    obtain ⟨hj, hm⟩ := List.pairwise_cons.mp hs
    by_cases hk : j = k
    · have hall : ∀ z ∈ m, (z.1 != k) = true := fun z hz => by simpa using (hk ▸ hj z hz : k < z.1).ne'
      simp [SMap.del, hk, List.filter_eq_self.2 hall]
    · simp [SMap.del, hk, ih hm]

end

/-! ### A descriptor is accepted (R130, R131) -/

section
variable {s : State} {d : Bytes}

/-- A descriptor of a zone that is not held makes it stand as it says. -/
theorem acceptDesc_new (hn : SMap.find s.zne.zones (dZid d) = none) (hc : dClear d = false) :
    ∃ z, (acceptDesc d s).zne.zones = SMap.put s.zne.zones (dZid d) z ∧ z.desc = padTo 48 d ∧ z.prot = dProt d ∧
      z.tobs = dTobs d 4 (netNow s) := by
  have hz : (when (dProt d) (fenderTap (dZid d) (dTobs d 4 (netNow s))) s).zne = s.zne :=
    when_keeps s State.zne _ _ fun _ => rfl
  simp only [acceptDesc, hn, hc, Bool.or_false, Bool.false_eq_true, if_false, hz]
  exact ⟨_, rfl, rfl, rfl, rfl⟩

/-- A descriptor that is not newer changes no zone. -/
theorem acceptDesc_notNewer {w : Zone} (hf : SMap.find s.zne.zones (dZid d) = some w)
    (ht : dTobs d 4 (netNow s) ≤ w.tobs) : (acceptDesc d s).zne.zones = s.zne.zones := by
  simp [acceptDesc, hf, ht]

/-- A CLEAR of a zone that is older, or not held, removes it. -/
theorem acceptDesc_removes (hn : ∀ w, SMap.find s.zne.zones (dZid d) = some w → w.tobs < dTobs d 4 (netNow s))
    (hc : dClear d = true) : (acceptDesc d s).zne.zones = SMap.del s.zne.zones (dZid d) := by
  have hz (p : Bool) : (when p (fenderTap (dZid d) (dTobs d 4 (netNow s))) s).zne = s.zne :=
    when_keeps s State.zne _ _ fun _ => rfl
  cases hf : SMap.find s.zne.zones (dZid d) with
  | none => simp [acceptDesc, hf, hc, hz]
  | some w => simp [acceptDesc, hf, hc, hz, Nat.not_le.2 (hn w hf)]

/-- In a table whose keys rise, a CLEAR removes its zone where it is older and nothing else. -/
theorem acceptDesc_clear (hs : SMap.Sorted s.zne.zones) (hc : dClear d = true) :
    (acceptDesc d s).zne.zones =
      s.zne.zones.filter (fun z => z.1 != dZid d || decide (dTobs d 4 (netNow s) ≤ z.2.tobs)) := by
  by_cases hold : ∃ w, SMap.find s.zne.zones (dZid d) = some w ∧ dTobs d 4 (netNow s) ≤ w.tobs
  · obtain ⟨w, hf, ht⟩ := hold
    rw [acceptDesc_notNewer hf ht, eq_comm, List.filter_eq_self]
    intro z hz
    have hw : z.1 = dZid d → z.2 = w := fun hk => by simpa [hk, hf, eq_comm] using SMap.find_of_mem hs hz
    by_cases hk : z.1 = dZid d <;> simp [hk, hw, ht]
  · have hn : ∀ w, SMap.find s.zne.zones (dZid d) = some w → w.tobs < dTobs d 4 (netNow s) :=
      fun w hf => Nat.lt_of_not_le fun ht => hold ⟨w, hf, ht⟩
    rw [acceptDesc_removes hn hc, SMap.del_eq_filter hs]
    refine List.filter_congr fun z hz => ?_
    by_cases hk : z.1 = dZid d
    · simpa [hk] using hn z.2 (hk ▸ SMap.find_of_mem hs hz)
    · simp [hk]

/-- A run of CLEARs removes the zones that some of them names and is newer than. -/
theorem acceptDesc_clears (ds : List Bytes) (hs : SMap.Sorted s.zne.zones) (hc : ∀ d ∈ ds, dClear d = true) :
    (forEach ds acceptDesc s).zne.zones = s.zne.zones.filter (fun z =>
      ds.all (fun d => z.1 != dZid d || decide (dTobs d 4 (netNow s) ≤ z.2.tobs))) := by
  induction ds generalizing s with
  | nil => exact (List.filter_eq_self.2 (by simp)).symm
  | cons d ds ih =>
    have hz := acceptDesc_clear hs (hc d List.mem_cons_self)
    have hnet : netNow (acceptDesc d s) = netNow s := (AroundZones.refl _ s).acceptDesc.net
    have hs' : SMap.Sorted (acceptDesc d s).zne.zones := by rw [hz]; exact SMap.sorted_filter _ _ hs
    show (forEach ds acceptDesc (acceptDesc d s)).zne.zones = _
    rw [ih hs' (fun d hd => hc d (List.mem_cons_of_mem _ hd)), hz, hnet, List.filter_filter]
    refine List.filter_congr fun z _ => ?_
    rw [List.all_cons, Bool.and_comm]

end

end Sys2Proof.Machine
end

section
/-! PROOF. The zone commands (R349 to R351) -/

namespace Sys2Proof.Machine

/-! ### Fields of a descriptor that is cut or padded -/

section
variable {a b : Bytes}

/-- A field depends on its own bytes only. -/
theorem leAt_congr {i k n : Nat} (h : ∀ j < n, byteAt a (i + j) = byteAt b (k + j)) : leAt a i n = leAt b k n := by
  induction n generalizing i k with
  | zero => rfl
  | succ n ih =>
    have h0 : byteAt a i = byteAt b k := h 0 (Nat.succ_pos n)
    have hs : leAt a (i + 1) n = leAt b (k + 1) n := ih fun j hj => by
      simpa only [Nat.add_assoc, Nat.add_comm 1 j] using h (j + 1) (Nat.succ_lt_succ hj)
    simp only [leAt, h0, hs]

theorem byteAt_take_zeros (b : Bytes) (n m i : Nat) :
    byteAt (b.take n ++ zeroBytes m) i = if i < n then byteAt b i else 0 := by
  simp only [byteAt, zeroBytes, List.getElem?_append, List.getElem?_take, List.getElem?_replicate, List.length_take]
  grind

/-- A field inside the bytes that are kept. -/
theorem leAt_take_zeros (b : Bytes) {n i k : Nat} (m : Nat) (h : i + k ≤ n) :
    leAt (b.take n ++ zeroBytes m) i k = leAt b i k :=
  leAt_congr fun j hj => by rw [byteAt_take_zeros, if_pos (by omega)]

theorem leAt_take (b : Bytes) {n i k : Nat} (h : i + k ≤ n) : leAt (b.take n) i k = leAt b i k := by
  simpa [zeroBytes] using leAt_take_zeros b 0 h

theorem leAt_cons (x : Byte) (b : Bytes) (i k : Nat) : leAt (x :: b) (i + 1) k = leAt b i k :=
  leAt_congr fun j _ => by simp only [byteAt, Nat.add_right_comm i 1 j, List.getElem?_cons_succ]

theorem leAt_padTo (b : Bytes) {n i k : Nat} (h : i + k ≤ n) : leAt (padTo n b) i k = leAt b i k :=
  leAt_take_zeros b _ h

@[simp] theorem length_padTo (n : Nat) (b : Bytes) : (padTo n b).length = n := by
  simp only [padTo, zeroBytes, List.length_append, List.length_take, List.length_replicate]
  omega

theorem padTo_padTo (n : Nat) (b : Bytes) : padTo n (padTo n b) = padTo n b := by
  rw [padTo, length_padTo, Nat.sub_self, List.take_of_length_le (length_padTo n b).le]
  exact List.append_nil _

theorem dZid_padTo (b : Bytes) : dZid (padTo 48 b) = dZid b :=
  (byteAt_take_zeros b 48 _ 0).trans (if_pos (by decide))

theorem dFlags_padTo (b : Bytes) : dFlags (padTo 48 b) = dFlags b := leAt_padTo b (by decide)

theorem dTobs_padTo (b : Bytes) (near : Nat) : dTobs (padTo 48 b) 4 near = dTobs b 4 near := by
  rw [dTobs, dTobs, leAt_padTo b (by decide), leAt_padTo b (by decide)]

end

/-! ### The sets gathered (R349) -/

section
variable {s : State} {d : Desc} {e : Env} {q : Cpl} {ch : Nat}

theorem gathered_setGather {l : List (Cpl × Bytes)} (hl : l ≠ []) (s : State) : gathered (setGather ch l s) ch = l := by
  simp [gathered, setGather, hl]

@[simp] theorem taken_zne (opc : Nat) : (taken opc d e s).zne = s.zne :=
  (congrArg State.zne (taken_spec s d e opc).frame).trans rfl

@[simp] theorem taken_gathers (opc : Nat) : (taken opc d e s).mbx.gathers = s.mbx.gathers := by
  have hc : (countAuth d.ch (atTime e.t s)).mbx.gathers = s.mbx.gathers := by
    unfold countAuth
    dsimp only
    split <;> rfl
  unfold taken
  split
  · split
    · exact hc
    · rfl
  · rfl

theorem gathered_taken (opc : Nat) : gathered (taken opc d e s) ch = gathered s ch := by
  rw [gathered, taken_gathers]
  rfl

theorem pairOp_taken (opc : Nat) : pairOp (taken opc d e s) = pairOp s := by
  rw [pairOp, pairOp, rdb, rdb, taken_rd s d e opc (key_ne_authcnt d.ch (by decide))]

theorem setver_taken (opc : Nat) : rd (taken opc d e s) Reg.ZNE_SETVER_VER = rd s Reg.ZNE_SETVER_VER :=
  taken_rd s d e opc (key_ne_authcnt d.ch (by decide))

/-- A command that leaves the device and the commands that wait is followed by nothing. -/
theorem exec_still {opc : Nat} {c : Cmd} {r : CmdRow} {i : Instr} (hx : exec i s = .next (serveRow c d e s))
    (hc : cmdOf opc = some (c, r)) (h : Runs opc d e s) (hr : changesState r d (taken opc d e s) = false)
    (hd : (c.run (cplOf opc d false) d e (taken opc d e s)).dev = s.dev)
    (hw : (c.run (cplOf opc d false) d e (taken opc d e s)).waits = s.waits) :
    exec i s = .next (c.run (cplOf opc d false) d e (taken opc d e s)) := by
  rw [hx, serveRow_runs s d e hc h, hr]
  exact congrArg _ (settle_still (congrArg Dev.state hd) (fun hb => by simpa [scBusy, hw] using hb) (Or.inl rfl))

/-! ### ZONE_PUT (R349, R350) -/

/-- The entry of a ZONE_PUT in its set. -/
def putEntry (d : Desc) (s : State) : Bytes :=
  zpubEntry (expandZone d.params) d.atag (if d.ch = 1 then rd s (Reg.HIF_MB_AUTHCNT_COUNT 1) else 0) d.ch

theorem take_putEntry (d : Desc) (s : State) : (putEntry d s).take 48 = padTo 48 (expandZone d.params) := by
  simp only [putEntry, zpubEntry, List.append_assoc]
  exact List.take_left' (length_padTo 48 _)

/-- A ZONE_PUT with PUB publishes its set; without PUB the set stays gathered. -/
def closeSet (d : Desc) (l : List (Cpl × Bytes)) (s : State) : State :=
  if bit (p8 d 1) 7 then publishSet d.ch l s else setGather d.ch l s

theorem closeSet_empty (d : Desc) (s : State) : closeSet d [] s = setGather d.ch [] s := by
  unfold closeSet
  split <;> rfl

theorem zonePutRun_joins (hv : zonePutValid s d.ch (expandZone d.params) = true)
    (hl : (gathered s d.ch).length < 64) :
    zonePutRun q d s = closeSet d (gathered s d.ch ++ [(q, putEntry d s)]) s := by
  simp only [zonePutRun, hv, Nat.not_le.2 hl, Bool.not_true, Bool.false_eq_true, if_false]
  rfl

theorem zonePutRun_refuses (hv : zonePutValid s d.ch (expandZone d.params) = false) :
    zonePutRun q d s = closeSet d (gathered s d.ch) (complete q 3 0 0 s) := by
  simp only [zonePutRun, hv, Bool.not_false, if_true]
  rfl

/-- The state in which a set is published: nothing is gathered on its channel, and ZNE.LAT counts for CH1 only (R152). -/
def publishing (ch : Nat) (s : State) : State :=
  { setGather ch [] s with zne := { s.zne with arrival := if ch = 1 then s.zne.arrival else none } }

theorem publishing_around (ch : Nat) (s : State) : AroundZones Zne.zones (setGather ch [] s) (publishing ch s) :=
  .frameZne rfl (.refl _ _)

theorem publishing_eq (ch : Nat) (s : State) : publishing ch s =
    if ch = 1 then setGather ch [] s else { setGather ch [] s with zne := { s.zne with arrival := none } } := by
  unfold publishing
  split <;> rfl

theorem ownPublish_solo (hp : pairOp s = false) (ds es : List Bytes) : ownPublish ds es s = publish ds 0 s := by
  simp [ownPublish, hp]

/-- A set of one descriptor is published, and its command completes. -/
theorem publishSet_one (hp : pairOp s = false) (x : Bytes) : AroundZones Zne.zones
    (publish [x.take 48] 0 (publishing ch s)) (publishSet ch [(q, x)] s) := by
  rw [← ownPublish_solo (s := publishing ch s) hp _ [x], publishing_eq]
  exact (AroundZones.refl _ _).complete

theorem zonePut_gathers (h : Runs 0x0401 d e s)
    (hv : zonePutValid (taken 0x0401 d e s) d.ch (expandZone d.params) = true) (hl : (gathered s d.ch).length < 64)
    (hp : bit (p8 d 1) 7 = false) :
    ∃ t x, exec (.zonePut d e) s = .next t ∧ x.take 48 = padTo 48 (expandZone d.params) ∧
      gathered t d.ch = gathered s d.ch ++ [(cplOf 0x0401 d false, x)] ∧
      t = { taken 0x0401 d e s with mbx := t.mbx } ∧
      t.mbx = { (taken 0x0401 d e s).mbx with gathers := t.mbx.gathers } := by
  have hg : gathered (taken 0x0401 d e s) d.ch = gathered s d.ch := gathered_taken _
  have hrun : cmdZonePut.run (cplOf 0x0401 d false) d e (taken 0x0401 d e s) =
      setGather d.ch (gathered s d.ch ++ [(cplOf 0x0401 d false, putEntry d (taken 0x0401 d e s))])
        (taken 0x0401 d e s) := by
    refine (zonePutRun_joins hv (hg ▸ hl)).trans ?_
    rw [closeSet, hp, hg]
    rfl
  have hx := exec_still (i := .zonePut d e) rfl rfl h rfl (by rw [hrun]; exact taken_dev s d e _)
    (by rw [hrun]; exact taken_waits s d e _)
  rw [hrun] at hx
  exact ⟨_, _, hx, take_putEntry d _, gathered_setGather (by simp) _, rfl, rfl⟩

/-- The set of one new descriptor, once published: SETVER has counted, nothing is gathered on its channel, and the zone
stands as the descriptor says (R129, R131). -/
theorem publishSet_new {b x : Bytes} (hx : x.take 48 = padTo 48 b) (hp : pairOp s = false) (hc : dClear b = false)
    (hn : SMap.find s.zne.zones (dZid b) = none) :
    AroundZones (fun _ => ()) (wrapInc Reg.ZNE_SETVER_VER 1 (setGather ch [] s)) (publishSet ch [(q, x)] s) ∧
      ∃ z, (publishSet ch [(q, x)] s).zne.zones = SMap.put s.zne.zones (dZid b) z ∧ z.desc = padTo 48 b ∧
        z.prot = dProt b ∧ z.tobs = dTobs b 4 (netNow s) := by
  have hset := publishSet_one (ch := ch) (q := q) hp x
  rw [hx] at hset
  obtain ⟨z, hz, hdesc, hprot, htobs⟩ := acceptDesc_new (s := publishing ch s) (d := padTo 48 b)
    (by rw [dZid_padTo]; exact hn) (by rw [dClear, dFlags_padTo]; exact hc)
  refine ⟨(publishing_around ch s).forget.countBoth.trans ((publish_counts _ 0 _).trans hset.forget), z, ?_,
    hdesc.trans (padTo_padTo 48 b), ?_, htobs.trans (dTobs_padTo b _)⟩
  · rw [dZid_padTo] at hz
    exact hset.zne.trans ((publish_zones _ 0 _).trans hz)
  · rw [hprot, dProt, dFlags_padTo]
    rfl

theorem zonePut_publishes (h : Runs 0x0401 d e s)
    (hv : zonePutValid (taken 0x0401 d e s) d.ch (expandZone d.params) = true) (hg : gathered s d.ch = [])
    (hpub : bit (p8 d 1) 7 = true) (hp : pairOp s = false) (hc : dClear (expandZone d.params) = false)
    (hn : SMap.find s.zne.zones (dZid (expandZone d.params)) = none) :
    ∃ t, exec (.zonePut d e) s = .next t ∧
      rd t Reg.ZNE_SETVER_VER = (rd s Reg.ZNE_SETVER_VER + 1) % 2 ^ 32 ∧
      (∃ z, SMap.find t.zne.zones (dZid (expandZone d.params)) = some z ∧ z.desc = padTo 48 (expandZone d.params) ∧
        z.prot = dProt (expandZone d.params) ∧
        z.tobs = dTobs (expandZone d.params) 4 (netNow (taken 0x0401 d e s))) ∧
      (∀ k, k ≠ dZid (expandZone d.params) → SMap.find t.zne.zones k = SMap.find s.zne.zones k) ∧
      t.mbx.gathers = SMap.del s.mbx.gathers d.ch ∧ t.waits = s.waits ∧ t.dev = s.dev ∧ t.tiles = s.tiles := by
  have hgu : gathered (taken 0x0401 d e s) d.ch = [] := (gathered_taken _).trans hg
  have hrun : cmdZonePut.run (cplOf 0x0401 d false) d e (taken 0x0401 d e s) =
      publishSet d.ch [(cplOf 0x0401 d false, putEntry d (taken 0x0401 d e s))] (taken 0x0401 d e s) := by
    refine (zonePutRun_joins hv (by simp [hgu])).trans ?_
    rw [closeSet, hpub, hgu]
    rfl
  obtain ⟨hall, z, hzones, hz⟩ := publishSet_new (s := taken 0x0401 d e s) (ch := d.ch)
    (q := cplOf 0x0401 d false) (take_putEntry d _) ((pairOp_taken _).trans hp) hc (by rwa [taken_zne])
  rw [← hrun] at hall hzones
  rw [taken_zne] at hzones
  have hd := hall.dev.trans (taken_dev s d e _)
  have hw := hall.waits.trans (taken_waits s d e _)
  refine ⟨_, exec_still rfl rfl h rfl hd hw, hall.setver.trans ?_, ⟨z, ?_, hz⟩, fun k hk => ?_,
    hall.gathers.trans (congrArg (SMap.del · d.ch) (taken_gathers _)), hw, hd, hall.tiles.trans (taken_tiles s d e _)⟩
  · rw [wrapInc, rd_wr_same, ← setver_taken (s := s) (d := d) (e := e) 0x0401]
    rfl
  · rw [hzones, SMap.find_put_same]
  · rw [hzones, SMap.find_put, if_neg hk]

/-- A ZONE_PUT that is refused completes with BAD_PARAM, and its channel has gathered what it had. -/
theorem zonePut_refused (h : Runs 0x0401 d e s)
    (hv : zonePutValid (taken 0x0401 d e s) d.ch (expandZone d.params) = false)
    (ho : bit (p8 d 1) 7 = false ∨ gathered s d.ch = []) :
    exec (.zonePut d e) s =
      .next (setGather d.ch (gathered s d.ch) (complete (cplOf 0x0401 d false) 3 0 0 (taken 0x0401 d e s))) := by
  have hc (u : State) : closeSet d (gathered s d.ch) u = setGather d.ch (gathered s d.ch) u := by
    rcases ho with hp | hg
    · rw [closeSet, hp]
      rfl
    · rw [hg, closeSet_empty]
  have hrun : cmdZonePut.run (cplOf 0x0401 d false) d e (taken 0x0401 d e s) =
      setGather d.ch (gathered s d.ch) (complete (cplOf 0x0401 d false) 3 0 0 (taken 0x0401 d e s)) :=
    (zonePutRun_refuses hv).trans (by rw [gathered_taken, hc])
  have hk : AroundZones id _ (complete (cplOf 0x0401 d false) 3 0 0 (taken 0x0401 d e s)) := (AroundZones.refl _ _).complete
  rw [← hrun]
  exact exec_still rfl rfl h rfl (by rw [hrun]; exact hk.dev.trans (taken_dev s d e _))
    (by rw [hrun]; exact hk.waits.trans (taken_waits s d e _))

theorem okWith_around (q : Cpl) (d0 d1 : Nat) (s : State) : AroundZones id s (okWith q d0 d1 s) :=
  (AroundZones.refl _ _).complete

theorem complete_zne (q : Cpl) (status d0 d1 : Nat) (s : State) : (complete q status d0 d1 s).zne = s.zne :=
  ((AroundZones.refl id s).complete).zne

/-! ### ZONE_CLEAR_ALL (R351) -/

/-- The CLEAR of zone `k` that a ZONE_CLEAR_ALL publishes. -/
def clearDesc (d : Desc) (k : Nat) : Bytes :=
  leBytes 1 k ++ [0] ++ leBytes 2 8 ++ d.params.take 8 ++ zeroBytes 36

/-- The zones in the scope of a ZONE_CLEAR_ALL. -/
def clearIds (d : Desc) (zones : SMap Zone) : List Nat :=
  (zones.filter (fun z => p8 d 8 == 1 || !z.2.prot)).map Prod.fst

theorem clearDesc_cons (d : Desc) (k : Nat) :
    clearDesc d k = BitVec.ofNat 8 k :: 0 :: 8 :: 0 :: (d.params.take 8 ++ zeroBytes 36) := by
  simp [clearDesc, leBytes]

theorem dZid_clearDesc {k : Nat} (hk : k < 64) : dZid (clearDesc d k) = k := by
  simp only [dZid, clearDesc_cons, byteAt, List.getElem?_cons_zero, Option.getD_some, BitVec.toNat_ofNat]
  omega

theorem dFlags_clearDesc (k : Nat) : dFlags (clearDesc d k) = 8 := by simp [dFlags, clearDesc_cons, leAt, byteAt]

theorem dClear_clearDesc (k : Nat) : dClear (clearDesc d k) = true := by
  rw [dClear, dFlags_clearDesc]
  rfl

/-- The parameters follow the head of the CLEAR. -/
theorem leAt_clearDesc {i n : Nat} (k : Nat) (h : i + n ≤ 8) : leAt (clearDesc d k) (i + 4) n = leAt d.params i n := by
  rw [clearDesc_cons, leAt_cons, leAt_cons, leAt_cons, leAt_cons, leAt_take_zeros _ _ h]

theorem dTobs_clearDesc (k near : Nat) : dTobs (clearDesc d k) 4 near = extendTime (p32 d 0) (p32 d 4) near := by
  rw [dTobs, leAt_clearDesc (i := 0) k (by decide), leAt_clearDesc (i := 4) k (by decide)]
  rfl

theorem dValid_clearDesc {near : Nat} (hns : p32 d 4 < 1000000000)
    (ht : extendTime (p32 d 0) (p32 d 4) near ≤ near + 2000000) : dValid near (clearDesc d 0) = true := by
  have hres : byteAt (clearDesc d 0) 1 = 0 := by simp [clearDesc_cons, byteAt]
  have htail : leAt (clearDesc d 0) 0x2E 2 = 0 := by
    rw [clearDesc_cons, leAt_cons, leAt_cons, leAt_cons, leAt_cons]
    simp [leAt, byteAt_take_zeros]
  have hnsec : leAt (clearDesc d 0) 8 4 = p32 d 4 := leAt_clearDesc (i := 4) 0 (by decide)
  simp [dValid, dReservedOk, dShapeOk, hres, dFlags_clearDesc, htail, dClear_clearDesc, dZid_clearDesc, hnsec, hns,
    dTobs_clearDesc, ht]

/-- What the CLEARs of a scope keep: the zones outside it, and those that are not older. -/
theorem all_clearDesc {zones : SMap Zone} (hs : SMap.Sorted zones) (hk : ∀ z ∈ zones, z.1 < 64) (near : Nat)
    {z : Nat × Zone} (hz : z ∈ zones) :
    ((clearIds d zones).map (clearDesc d)).all (fun b => z.1 != dZid b || decide (dTobs b 4 near ≤ z.2.tobs)) =
      (z.2.prot && p8 d 8 != 1 || decide (extendTime (p32 d 0) (p32 d 4) near ≤ z.2.tobs)) := by
  by_cases ht : extendTime (p32 d 0) (p32 d 4) near ≤ z.2.tobs
  · simp [dTobs_clearDesc, ht]
  have hscope : z.1 ∈ clearIds d zones ↔ (p8 d 8 == 1 || !z.2.prot) = true := by
    constructor
    · intro h
      obtain ⟨y, hy, he⟩ := List.mem_map.1 h
      obtain ⟨hy, hp⟩ := List.mem_filter.1 hy
      rwa [← SMap.eq_of_key_eq hs hy hz he]
    · exact fun h => List.mem_map_of_mem (List.mem_filter.2 ⟨hz, h⟩)
  have hid : ∀ k ∈ clearIds d zones, dZid (clearDesc d k) = k := fun k h => by
    obtain ⟨y, hy, rfl⟩ := List.mem_map.1 h
    exact dZid_clearDesc (hk y (List.mem_filter.1 hy).1)
  have hall : (∀ k ∈ clearIds d zones, z.1 ≠ dZid (clearDesc d k)) ↔ z.1 ∉ clearIds d zones :=
    ⟨fun h hm => h _ hm (hid _ hm).symm, fun h k hm he => h (by rwa [he, hid k hm])⟩
  rw [Bool.eq_iff_iff, List.all_map, List.all_eq_true]
  simp only [Function.comp, dTobs_clearDesc, ht, decide_false, Bool.or_false, bne_iff_ne]
  rw [hall, hscope]
  cases z.2.prot <;> simp

/-- The CLEARs of a scope, where it holds any zone. -/
def clears (ds : List Bytes) (s : State) : State := if ds.isEmpty then s else publish ds 0 s

theorem clears_cons (b : Bytes) (ds : List Bytes) (s : State) : clears (b :: ds) s = publish (b :: ds) 0 s :=
  if_neg Bool.false_ne_true

theorem clears_zones (ds : List Bytes) (s : State) : (clears ds s).zne.zones = (forEach ds acceptDesc s).zne.zones := by
  cases ds with
  | nil => rfl
  | cons b ds => rw [clears_cons, publish_zones]

theorem clears_keeps (ds : List Bytes) (s : State) :
    (clears ds s).dev = s.dev ∧ (clears ds s).waits = s.waits ∧ (clears ds s).tiles = s.tiles := by
  cases ds with
  | nil => exact ⟨rfl, rfl, rfl⟩
  | cons b ds =>
    have h := publish_counts (b :: ds) 0 s
    rw [clears_cons]
    exact ⟨h.dev, h.waits, h.tiles⟩

/-- With nothing gathered, ZONE_CLEAR_ALL publishes its CLEARs, and completes with SETVER and the number of zones that
they removed. -/
theorem clearAllRun_clears (hg : gathered s d.ch = []) (hp : pairOp s = false)
    (hv : dValid (netNow s) (clearDesc d 0) = true) : clearAllRun q d s =
      let t := clears ((clearIds d s.zne.zones).map (clearDesc d)) (publishing d.ch s)
      okWith q (rd t Reg.ZNE_SETVER_VER) (s.zne.zones.length - t.zne.zones.length) t := by
  have hset : publishSet d.ch (gathered s d.ch) s = setGather d.ch [] s := by rw [hg]; rfl
  have hown (es : List Bytes) : (if (clearIds d s.zne.zones).isEmpty then publishing d.ch s
      else ownPublish ((clearIds d s.zne.zones).map (clearDesc d)) es (publishing d.ch s)) =
        clears ((clearIds d s.zne.zones).map (clearDesc d)) (publishing d.ch s) := by
    rw [ownPublish_solo (s := publishing d.ch s) hp, clears, List.isEmpty_map]
  unfold clearAllRun
  rw [hset]
  refine (if_neg ?_).trans (congrArg (fun t => okWith q (rd t Reg.ZNE_SETVER_VER)
    (s.zne.zones.length - t.zne.zones.length) t) (hown _))
  show ¬ (!dValid (netNow s) (clearDesc d 0)) = true
  rw [hv]
  decide

/-- The CLEARs of a scope remove its older zones, and no others. -/
theorem clears_scope (hs : SMap.Sorted s.zne.zones) (hk : ∀ z ∈ s.zne.zones, z.1 < 64) :
    (clears ((clearIds d s.zne.zones).map (clearDesc d)) (publishing d.ch s)).zne.zones =
      s.zne.zones.filter (fun z => z.2.prot && p8 d 8 != 1 ||
        decide (extendTime (p32 d 0) (p32 d 4) (netNow s) ≤ z.2.tobs)) := by
  have hc : ∀ b ∈ (clearIds d s.zne.zones).map (clearDesc d), dClear b = true := fun b hb => by
    obtain ⟨k, -, rfl⟩ := List.mem_map.1 hb
    exact dClear_clearDesc k
  rw [clears_zones, acceptDesc_clears (s := publishing d.ch s) _ hs hc]
  exact List.filter_congr fun z hz => all_clearDesc hs hk (netNow s) hz

theorem zoneClearAll_clears (h : Runs 0x0402 d e s) (hg : gathered s d.ch = []) (hp : pairOp s = false)
    (hns : p32 d 4 < 1000000000) (ht : extendTime (p32 d 0) (p32 d 4) (netNow (taken 0x0402 d e s)) ≤
      netNow (taken 0x0402 d e s) + 2000000)
    (hs : SMap.Sorted s.zne.zones) (hk : ∀ z ∈ s.zne.zones, z.1 < 64) :
    ∃ t, exec (.zoneClearAll d e) s = .next t ∧
      t.zne.zones = s.zne.zones.filter (fun z => z.2.prot && p8 d 8 != 1 ||
        decide (extendTime (p32 d 0) (p32 d 4) (netNow (taken 0x0402 d e s)) ≤ z.2.tobs)) ∧
      t.waits = s.waits ∧ t.dev = s.dev ∧ t.tiles = s.tiles := by
  have hrun : cmdZoneClearAll.run (cplOf 0x0402 d false) d e (taken 0x0402 d e s) = _ :=
    clearAllRun_clears ((gathered_taken _).trans hg) ((pairOp_taken _).trans hp) (dValid_clearDesc hns ht)
  have hzones := clears_scope (s := taken 0x0402 d e s) (d := d) (by rwa [taken_zne]) (by rwa [taken_zne])
  obtain ⟨hdev, hwaits, htiles⟩ := clears_keeps
    ((clearIds d (taken 0x0402 d e s).zne.zones).map (clearDesc d)) (publishing d.ch (taken 0x0402 d e s))
  generalize clears _ (publishing d.ch (taken 0x0402 d e s)) = w at hrun hzones hdev hwaits htiles
  have hend := okWith_around (cplOf 0x0402 d false) (rd w Reg.ZNE_SETVER_VER)
    ((taken 0x0402 d e s).zne.zones.length - w.zne.zones.length) w
  rw [← show _ = _ from hrun] at hend
  have hd := (hend.dev.trans hdev).trans (taken_dev s d e _)
  have hw := (hend.waits.trans hwaits).trans (taken_waits s d e _)
  refine ⟨_, exec_still rfl rfl h rfl hd hw, ?_, hw, hd, (hend.tiles.trans htiles).trans (taken_tiles s d e _)⟩
  rw [(hend.of_id Zne.zones).zne, hzones, taken_zne]

/-! ### A set that times out (R349) -/

theorem zoneGatherTimeout_one {x : Bytes} (hg : gathered s ch = [(q, x)]) : exec (.zoneGatherTimeout ch) s =
    .next (complete q 8 0 0 { s with mbx := { s.mbx with gathers := SMap.del s.mbx.gathers ch } }) := by
  show Host.Outcome.next (doZoneGatherTimeout ch s) = _
  rw [doZoneGatherTimeout, hg]
  rfl

end

/-- Settles O41: a set is published as the one publish of its descriptors, and the CLEARs of a scope are a filter of the
zones held. -/
theorem zonePutsGatherAndPublish : Obligations.ZonePutsGatherAndPublish := by
  intro s d e
  refine ⟨fun h => ⟨zonePut_gathers h, zonePut_publishes h, fun hv hp hg => ?_, fun hv hg => ?_⟩,
    fun ch q x => zoneGatherTimeout_one, zoneClearAll_clears⟩
  · exact ⟨_, zonePut_refused h hv (Or.inl hp), gathered_setGather hg _, rfl,
      (complete_zne _ _ _ _ _).trans (taken_zne _)⟩
  · exact ⟨_, zonePut_refused h hv (Or.inr hg), rfl, (complete_zne _ _ _ _ _).trans (taken_zne _)⟩

end Sys2Proof.Machine
end

section
/-! PROOF. The pitch and its stale timer (R149, R151, R353) -/

namespace Sys2Proof.Machine

section
variable {s : State} {d : Desc} {e : Env}

/-- A pitch descriptor comes into force and ends the stale episode (R149, R151). -/
def pitchInForce (p : Pitch) (s : State) : State :=
  { s with zne := { s.zne with pitch := some p, predOff := false, pitchAt := s.now, lvlUp := false } }
    |> wr Reg.ZNE_STATUS_LVL_STALE 0 |> wri Reg.ZNE_PITCH_ANGLE p.angle |> wri Reg.ZNE_PITCH_RATE p.rate

/-- The pitch that the parameters of a descriptor say, observed at `tobs`. -/
def pitchOf (d : Desc) (tobs : Nat) : Pitch := ⟨tobs, sx 16 (p16 d 8), sx 16 (p16 d 10)⟩

theorem dTobs_pitch (near : Nat) : dTobs (d.params.take 16) 0 near = extendTime (p32 d 0) (p32 d 4) near := by
  rw [dTobs, leAt_take _ (by decide), leAt_take _ (by decide)]
  rfl

theorem pitchAccept_newer
    (h : ∀ p, s.zne.pitch = some p → p.tobs < extendTime (p32 d 0) (p32 d 4) (netNow s)) :
    pitchAccept (d.params.take 16) s =
      pitchInForce (pitchOf d (extendTime (p32 d 0) (p32 d 4) (netNow s))) s := by
  have ha : s16At (d.params.take 16) 8 = sx 16 (p16 d 8) := by rw [s16At, leAt_take _ (by decide)]; rfl
  have hr : s16At (d.params.take 16) 10 = sx 16 (p16 d 10) := by rw [s16At, leAt_take _ (by decide)]; rfl
  unfold pitchAccept
  simp only [dTobs_pitch, ha, hr]
  cases hp : s.zne.pitch with
  | none => rfl
  | some p => exact if_neg (by simpa using h p hp)

theorem pitchAccept_notNewer {p : Pitch} (hp : s.zne.pitch = some p)
    (h : extendTime (p32 d 0) (p32 d 4) (netNow s) ≤ p.tobs) :
    pitchAccept (d.params.take 16) s = satInc Reg.ZNE_DROPCNT_LVLDROP 1 s := by
  unfold pitchAccept
  simp only [dTobs_pitch, hp]
  exact if_pos (by simpa using h)

/-- PITCH_UPDATE in solo operation: its DETAIL0 says that the pitch in force is the one before. -/
theorem pitchUpdate_solo (q : Cpl) (hp : pairOp s = false) (hr : role s ≠ 1) : cmdPitchUpdate.run q d e s =
    complete q 0 (b2n ((pitchAccept (d.params.take 16) s).zne.pitch == s.zne.pitch))
      (rd (pitchAccept (d.params.take 16) s) Reg.ZNE_SETVER_VER) (pitchAccept (d.params.take 16) s) := by
  have hsb : isStandby s = false := by simp [isStandby, hp]
  have hown : ownPitch (d.params.take 16) s = pitchAccept (d.params.take 16) s := by
    have hact : (role s == 1) = false := by simpa using hr
    simp only [ownPitch, hsb, hact, Bool.false_eq_true, if_false, when_false]
  simp only [cmdPitchUpdate, hown, hsb, okWith, Bool.not_false, Bool.true_and]

theorem role_taken (opc : Nat) : role (taken opc d e s) = role s :=
  taken_rd s d e opc (key_ne_authcnt d.ch (by decide))

theorem pitchUpdate_newer (h : Runs 0x0603 d e s) (hp : pairOp s = false) (hr : role s ≠ 1)
    (hn : ∀ p, s.zne.pitch = some p → p.tobs < extendTime (p32 d 0) (p32 d 4) (netNow (taken 0x0603 d e s))) :
    EndsAtOnce 0x0603 d e s (.pitchUpdate d e) 0 (fun _ => 0) (fun t => rd t Reg.ZNE_SETVER_VER)
      (pitchInForce (pitchOf d (extendTime (p32 d 0) (p32 d 4) (netNow (taken 0x0603 d e s))))) := by
  refine endsAtOnce_of_run rfl rfl h rfl (fun u hu => ?_) (congrArg Dev.state (taken_dev s d e _)) (taken_waits s d e _)
  have hz : u.zne = s.zne := by rw [hu, taken_zne]
  have hnew : ∀ p, u.zne.pitch = some p → p.tobs < extendTime (p32 d 0) (p32 d 4) (netNow u) := by rwa [hz, hu]
  have hmoved : ((pitchInForce (pitchOf d (extendTime (p32 d 0) (p32 d 4) (netNow u))) u).zne.pitch == u.zne.pitch) =
      false := beq_eq_false_iff_ne.2 fun he => (hnew _ he.symm).false
  rw [pitchUpdate_solo _ (by rw [hu, pairOp_taken, hp]) (by rwa [hu, role_taken]), pitchAccept_newer hnew, hmoved, hu]
  rfl

theorem pitchUpdate_notNewer (h : Runs 0x0603 d e s) (hp : pairOp s = false) (hr : role s ≠ 1) {p : Pitch}
    (hold : s.zne.pitch = some p) (ht : extendTime (p32 d 0) (p32 d 4) (netNow (taken 0x0603 d e s)) ≤ p.tobs) :
    EndsAtOnce 0x0603 d e s (.pitchUpdate d e) 0 (fun _ => 1) (fun t => rd t Reg.ZNE_SETVER_VER)
      (satInc Reg.ZNE_DROPCNT_LVLDROP 1) := by
  refine endsAtOnce_of_run rfl rfl h rfl (fun u hu => ?_) (congrArg Dev.state (taken_dev s d e _)) (taken_waits s d e _)
  have hu' : u.zne.pitch = some p := by rw [hu, taken_zne, hold]
  rw [pitchUpdate_solo _ (by rw [hu, pairOp_taken, hp]) (by rwa [hu, role_taken]),
    pitchAccept_notNewer hu' (by rwa [hu]), satInc_zne, beq_self_eq_true]
  rfl

/-! ### The stale timer (R151) -/

/-- STALE_MS, in the range that the timer takes it in. -/
def pitchLimit (s : State) : Nat := clampN 10 1000 (rd s Reg.ZNE_LVL_STALE_MS)

theorem levelStaleTimer_raises (hon : rasterOn s = true) (hu : s.zne.lvlUp = false)
    (ht : s.zne.pitchAt + msTicks (pitchLimit s) ≤ max s.now e.t) :
    ∃ t, exec (.levelStaleTimer e.t) s = .next t ∧ t.zne = { s.zne with predOff := true, lvlUp := true } ∧
      rd t Reg.ZNE_STATUS_LVL_STALE = 1 ∧ t.inbox = s.inbox ++ [⟨0x083, 0x18, 0, none⟩] ∧
      t = { atTime e.t s with zne := t.zne, regs := t.regs, inbox := t.inbox } ∧
      RegsBut [Reg.ZNE_STATUS_LVL_STALE] s t := by
  let u := wr Reg.ZNE_STATUS_LVL_STALE 1
    { atTime e.t s with zne := { s.zne with predOff := true, lvlUp := true } }
  have hc : (rasterOn (atTime e.t s) && !s.zne.lvlUp &&
      decide (s.zne.pitchAt + msTicks (pitchLimit (atTime e.t s)) ≤ (atTime e.t s).now)) = true := by
    have hr : rasterOn (atTime e.t s) = true := hon
    have hd : s.zne.pitchAt + msTicks (pitchLimit (atTime e.t s)) ≤ (atTime e.t s).now := ht
    simp [hr, hu, hd]
  have hx : exec (.levelStaleTimer e.t) s = .next (raise 0x083 0 u) := congrArg _ (if_pos hc)
  rw [raise_known (r := ⟨0x083, 0x18, 1, 1⟩) u rfl] at hx
  exact ⟨_, hx, rfl, rd_wr_same _ _ _, rfl, rfl, RegsBut.wr (fun _ _ => rfl) (by simp)⟩

theorem levelStaleTimer_waits (h : rasterOn s = false ∨ s.zne.lvlUp = true ∨
    max s.now e.t < s.zne.pitchAt + msTicks (pitchLimit s)) :
    exec (.levelStaleTimer e.t) s = .next (atTime e.t s) := by
  have hc : ¬ (rasterOn (atTime e.t s) && !s.zne.lvlUp &&
      decide (s.zne.pitchAt + msTicks (pitchLimit (atTime e.t s)) ≤ (atTime e.t s).now)) = true := by
    have hr : rasterOn (atTime e.t s) = rasterOn s := rfl
    rcases h with h | h | h
    · simp [hr, h]
    · simp [h]
    · have ht : ¬ s.zne.pitchAt + msTicks (pitchLimit (atTime e.t s)) ≤ (atTime e.t s).now := Nat.not_le.2 h
      simp [ht]
  exact congrArg _ (if_neg hc)

end

/-- Settles O43: a descriptor that is newer comes into force whole, and the timer fires once an episode. -/
theorem pitchAndItsStaleTimer : Obligations.PitchAndItsStaleTimer := fun _ _ _ =>
  ⟨fun h hp hr => ⟨pitchUpdate_newer h hp hr, fun _ => pitchUpdate_notNewer h hp hr⟩,
    levelStaleTimer_raises, levelStaleTimer_waits⟩

end Sys2Proof.Machine
end

section
/-! PROOF. What a lane of a wear pass leaves alone -/

namespace Sys2Proof.Machine

/-- The work on one lane of a wear pass, the entries that it queues included, leaves alone the device, the pilot, the tiles,
the instant, the commands that wait, MRC and the pass itself. -/
structure InPass (s t : State) : Prop where
  dev : t.dev = s.dev
  pilot : t.pilot = s.pilot
  tiles : t.tiles = s.tiles
  now : t.now = s.now
  waits : t.waits = s.waits
  mrc : t.mrc = s.mrc
  pass : t.cor.pass = s.cor.pass
  busy : rd t Reg.COR_STATUS_WEAR_BUSY = rd s Reg.COR_STATUS_WEAR_BUSY

theorem InPass.refl (s : State) : InPass s s := ⟨rfl, rfl, rfl, rfl, rfl, rfl, rfl, rfl⟩

section
variable {s t : State}

/-! ### The rules of the operations -/

/-- A change of parts of the state that nothing here looks at. -/
theorem InPass.frame {part pending ntcFrom ntcOn rawHeld mem eccBad pwc thm ras gte zne lanes tpr far swp sns links ntm mbx
    image inbox fender core0 core1 evr cku0 cku1 dump sec ptn tx freeCnt} (h : InPass s t) :
    InPass s ⟨part, pending, t.now, ntcFrom, ntcOn, rawHeld, t.regs, mem, eccBad, t.dev, t.pilot, pwc, thm, ras, gte, zne,
      t.cor, lanes, tpr, t.tiles, far, swp, sns, links, ntm, mbx, image, t.waits, inbox, fender, core0, core1, t.mrc, evr,
      cku0, cku1, dump, sec, ptn, tx, freeCnt⟩ := { h with }

/-- A change of the correction that keeps the pass. -/
theorem InPass.frameCor {c : Cor} (hc : c.pass = t.cor.pass) (h : InPass s t) : InPass s { t with cor := c } :=
  { h with pass := hc.trans h.pass }

theorem InPass.ite {c : Prop} [Decidable c] {u : State} (ht : InPass s t) (hu : InPass s u) :
    InPass s (if c then t else u) := by split <;> assumption

theorem InPass.iteSnd {α : Type} {c : Prop} [Decidable c] {p q : α × State} (hp : InPass s p.2) (hq : InPass s q.2) :
    InPass s (if c then p else q).2 := by split <;> assumption

theorem InPass.atSnd {α : Type} {a : α} (h : InPass s t) : InPass s (a, t).2 := h

theorem InPass.when {c : Bool} {f : State → State} (h : InPass s t) (hf : ∀ {u}, InPass s u → InPass s (f u)) :
    InPass s (when c f t) := .ite (hf h) h

/-- The state that a fold over pairs carries along. -/
theorem InPass.foldl {α β : Type} {f : β × State → α → β × State} {l : List α} {a : β × State} (h : InPass s a.2)
    (hf : ∀ {a} x, InPass s a.2 → InPass s (f a x).2) : InPass s (l.foldl f a).2 := by
  induction l generalizing a with
  | nil => exact h
  | cons x l ih => exact ih (hf x h)

theorem InPass.wr {f v} (h : InPass s t) (hf : Reg.COR_STATUS_WEAR_BUSY.key ≠ f.key := by decide) :
    InPass s (wr f v t) := { h with busy := (rd_wr_ne t f _ v hf).trans h.busy }

theorem InPass.wrapInc {f n} (h : InPass s t) (hf : Reg.COR_STATUS_WEAR_BUSY.key ≠ f.key := by decide) :
    InPass s (wrapInc f n t) := h.wr hf

theorem InPass.raise {src d} (h : InPass s t) : InPass s (raise src d t) := by
  unfold Machine.raise raiseExt
  split
  · exact h.frame
  · exact h

theorem InPass.psWrite {a bs} (h : InPass s t) : InPass s (psWrite a bs t) :=
  .ite h (.when (.when (t := { t with mem := _, eccBad := _ }) h.frame (·.raise)) (·.raise))

theorem InPass.sendPtn {type payload} (h : InPass s t) : InPass s (sendPtn type payload t) := .ite h.frame h

/-! ### The select of a pixel goes to its tile (R170, R224) -/

theorem InPass.enqueue {lanes opc payload} (h : InPass s t) : InPass s (enqueue lanes opc payload t) :=
  .ite (h.frame.wr (t := { t with tpr := _ })) h

theorem InPass.pushSet {lane opc payload} (h : InPass s t) : InPass s (pushSet lane opc payload t) :=
  .ite h (InPass.enqueue (.ite h.sendPtn h))

theorem InPass.pushSel {i sel} (h : InPass s t) : InPass s (pushSel i sel t) := .ite h.pushSet h

/-! ### The update queue (R179, R521) -/

theorem InPass.setUpdLevel (h : InPass s t) : InPass s (setUpdLevel t) := h.wr.wr

theorem InPass.applyUpd {u} (h : InPass s t) : InPass s (applyUpd u t) :=
  .when (.wrapInc (.ite h.psWrite h.psWrite)) (·.pushSel)

theorem InPass.pushUpd {u} (h : InPass s t) : InPass s (pushUpd u t) :=
  .ite h (.ite h.applyUpd.wr (.ite h.wr.raise (InPass.setUpdLevel (h.frameCor rfl))))

theorem InPass.pairUpd {u} (h : InPass s t) : InPass s (pairUpd u t) := .ite h (.sendPtn (.when h (·.wr.wr)))

theorem InPass.ownUpd {u} (h : InPass s t) : InPass s (ownUpd u t) := .ite h h.pairUpd.pushUpd

/-! ### The pass over a lane (R176, R177) -/

theorem InPass.setWearA {i v} (h : InPass s t) : InPass s (setWearA i v t) := h.frameCor rfl

theorem InPass.holdMeasure {e} (h : InPass s t) : InPass s (holdMeasure e t) := h.wr.wr

theorem InPass.wearPixel {i} (h : InPass s t) : InPass s (wearPixel i t).2 :=
  .iteSnd (.atSnd h.raise) (.atSnd (.when (.when h (·.setWearA)) (·.ownUpd)))

theorem InPass.wearRow {i n} (h : InPass s t) : InPass s (wearRow i n t).2 := by
  induction n generalizing i t with
  | zero => exact h
  | succ n ih => exact ih h.wearPixel

theorem InPass.wearLane {lane} (h : InPass s t) : InPass s (wearLane lane t).2 := by
  refine .foldl h fun l h => ?_
  simp only []
  exact h.wearRow

end

/-! ### The start of a pass (R176, R491) -/

section
variable {s : State} {e : Env}

/-- Lane 0 leads the lanes of every part. -/
theorem tileLanes_zero_first (s : State) : tileLanes s = 0 :: (tileLanes s).drop 1 := by
  unfold tileLanes laneCount tileCols tileRows
  cases s.part <;> rfl

/-- The burst of lane `n` of a pass that stands at `r` behind it, from the lines that its work in `p` has changed. -/
def laneBurst (n : Nat) (r : WearRun) (p : List (Nat × Bytes) × State) : State :=
  runBurst ⟨p.2.mrc.next, 0, p.1, 512, .wear n⟩
    { p.2 with cor := { p.2.cor with pass := some r }, mrc := { p.2.mrc with next := p.2.mrc.next + 1 } }

theorem wearGo_covered (n : Nat) (rest : List Nat) (deferred : Nat) (h : holdCovers s 512 = true) :
    wearGo (n :: rest) deferred s = laneBurst n ⟨rest, deferred⟩ (wearLane n s) := by
  unfold wearGo
  generalize wearLane n s = p
  obtain ⟨parts, u⟩ := p
  exact if_pos h

/-- While a burst runs no pass ends. -/
theorem wearEnd_running (h : s.mrc.run.isSome = true) : wearEnd s = s := by
  have hn : s.mrc.run.isNone = false := by simp [← Option.not_isSome, h]
  unfold wearEnd
  split
  · simp [hn]
  · rfl

/-- Where MRC is free the pass goes on with its next lane, if the hold-up covers it. -/
theorem wearNext_covered {n : Nat} {rest : List Nat} {deferred : Nat} (hp : s.cor.pass = some ⟨n :: rest, deferred⟩)
    (hr : s.mrc.run = none) (hc : holdCovers (holdMeasure e s) 512 = true) :
    wearNext e s = laneBurst n ⟨rest, deferred⟩ (wearLane n (holdMeasure e s)) := by
  have h : wearNext e s = wearEnd (wearGo (n :: rest) deferred (holdMeasure e s)) := by simp [wearNext, hp, hr]
  rw [h, wearGo_covered n rest deferred hc]
  exact wearEnd_running rfl

/-- A pass stands over every lane. -/
def passOpened (s : State) : State :=
  wr Reg.COR_STATUS_WEAR_BUSY 1 { s with cor := { s.cor with pass := some ⟨tileLanes s, 0⟩ } }

/-- A threshold table that decreases is reported as the pass starts (R177). -/
def tablesReported (s : State) : State := when (thrDecreases s) (raise 0x092 0) (passOpened s)

theorem wearStart_opens (he : rd s Reg.COR_CTRL_WEAR_EN = 1) (hp : s.cor.pass = none) :
    wearStart e s = wearNext e (tablesReported s) := by
  have hc : (s.cor.pass.isSome || !rdb s Reg.COR_CTRL_WEAR_EN) = false := by simp [rdb, he, hp]
  rw [wearStart, hc]
  rfl

theorem wearStart_idle (h : rd s Reg.COR_CTRL_WEAR_EN = 0 ∨ s.cor.pass ≠ none) : wearStart e s = s := by
  have hc : (s.cor.pass.isSome || !rdb s Reg.COR_CTRL_WEAR_EN) = true := by
    rcases h with h | h
    · simp [rdb, h]
    · simp [Option.isSome_iff_ne_none.mpr h]
  rw [wearStart, if_pos hc]

/-- A pass stands in `t` over every lane, with the first one's burst in progress. -/
structure PassBegun (s t : State) : Prop where
  pass : t.cor.pass = some ⟨(tileLanes s).drop 1, 0⟩
  burst : ∃ b, t.mrc.run = some b ∧ b.why = .wear 0 ∧ b.lines = 512
  busy : rd t Reg.COR_STATUS_WEAR_BUSY = 1
  bursts : rd t Reg.MRC_STATUS_BUSY = 1
  queue : t.mrc.wait = s.mrc.wait
  now : t.now = s.now
  dev : t.dev = s.dev
  pilot : t.pilot = s.pilot
  tiles : t.tiles = s.tiles
  waits : t.waits = s.waits

theorem passBegun_of_lane {p : List (Nat × Bytes) × State} (h : InPass (passOpened s) p.2) :
    PassBegun s (laneBurst 0 ⟨(tileLanes s).drop 1, 0⟩ p) where
  pass := rfl
  burst := ⟨_, rfl, rfl, rfl⟩
  busy := (rd_wr_ne _ _ _ _ (by decide)).trans (h.busy.trans (rd_wr_same _ _ _))
  bursts := rd_wr_same _ _ _
  queue := show p.2.mrc.wait = s.mrc.wait from congrArg Mrc.wait h.mrc
  now := h.now
  dev := h.dev
  pilot := h.pilot
  tiles := h.tiles
  waits := h.waits

theorem wearStart_begins (he : rd s Reg.COR_CTRL_WEAR_EN = 1) (hp : s.cor.pass = none) (hr : s.mrc.run = none)
    (hc : holdCovers (holdMeasure e s) 512 = true) : PassBegun s (wearStart e s) := by
  have hopen : InPass (passOpened s) (tablesReported s) := (InPass.refl _).when (·.raise)
  have hregs : (tablesReported s).regs = (passOpened s).regs := when_keeps _ State.regs _ _ fun _ => by simp
  have hpass : (tablesReported s).cor.pass = some ⟨0 :: (tileLanes s).drop 1, 0⟩ := by
    rw [hopen.pass, ← tileLanes_zero_first]
    rfl
  have hrun : (tablesReported s).mrc.run = none := by rw [hopen.mrc]; exact hr
  have hcover : holdCovers (holdMeasure e (tablesReported s)) 512 = true :=
    (holdCovers_congr e 512 ((rd_of_regs hregs _).trans (rd_wr_ne _ _ _ _ (by decide)))
      ((rd_of_regs hregs _).trans (rd_wr_ne _ _ _ _ (by decide)))).trans hc
  rw [wearStart_opens he hp, wearNext_covered hpass hrun hcover]
  exact passBegun_of_lane hopen.holdMeasure.wearLane

end

end Sys2Proof.Machine
end

section
/-! PROOF. The update queue and the timer of the wear passes -/

namespace Sys2Proof.Machine

section
variable {s : State} {data : Nat}

/-! ### UPD_DATA_WRITE (R179) -/

/-- The entry that a write of UPD_DATA makes of UPD_IDX. -/
def writtenUpd (data : Nat) (s : State) : Upd :=
  ⟨rdb s Reg.COR_UPD_IDX_REPAIR, rd s Reg.COR_UPD_IDX_IDX, data % 65536⟩

/-- Outside a pair an entry is pushed as it is written. -/
theorem updDataWrite_solo (hm : mainOn s.dev.state = true) (hp : pairOp s = false) :
    exec (.updDataWrite data) s = .next (pushUpd (writtenUpd data s) s) := by
  have hown (u : Upd) : ownUpd u s = pushUpd u s := by simp [ownUpd, isStandby, pairUpd, hp]
  exact congrArg Host.Outcome.next ((if_pos hm).trans (hown _))

theorem pushUpd_outside {u : Upd} (h : pixelCount s ≤ u.idx) : pushUpd u s = s := if_pos h

theorem pushUpd_running {u : Upd} (hi : u.idx < pixelCount s) (hr : rasterOn s = true) : pushUpd u s =
    if 256 ≤ s.cor.queue.length then raise 0x093 0 (wr Reg.COR_STATUS_UPD_OVF 1 s)
    else setUpdLevel { s with cor := { s.cor with queue := s.cor.queue ++ [u] } } := by
  simp [pushUpd, hr, Nat.not_le.mpr hi]

theorem pushUpd_stopped {u : Upd} (hi : u.idx < pixelCount s) (hr : rasterOn s = false) :
    pushUpd u s = setDead (applyUpd u s) := by
  simp [pushUpd, hr, Nat.not_le.mpr hi]

theorem updDataWrite_queues (hm : mainOn s.dev.state = true) (hp : pairOp s = false)
    (hi : rd s Reg.COR_UPD_IDX_IDX < pixelCount s) (hr : rasterOn s = true) (hl : s.cor.queue.length < 256) :
    ∃ t, exec (.updDataWrite data) s = .next t ∧
      t.cor = { s.cor with queue := s.cor.queue ++ [writtenUpd data s] } ∧
      rd t Reg.COR_UPDSTAT_LEVEL = s.cor.queue.length + 1 ∧ rd t Reg.COR_STATUS_UPD_PEND = 1 ∧
      t = { s with regs := t.regs, cor := t.cor } ∧
      RegsBut [Reg.COR_UPDSTAT_LEVEL, Reg.COR_STATUS_UPD_PEND] s t := by
  let q : State := { s with cor := { s.cor with queue := s.cor.queue ++ [writtenUpd data s] } }
  have hx : exec (.updDataWrite data) s = .next (setUpdLevel q) := by
    rw [updDataWrite_solo hm hp, pushUpd_running hi hr, if_neg (Nat.not_le.mpr hl)]
  have hlen : q.cor.queue.length = s.cor.queue.length + 1 := by simp [q]
  have hne : q.cor.queue.isEmpty = false := by simp [q]
  refine ⟨_, hx, rfl, ?_, ?_, rfl, ?_⟩
  · rw [setUpdLevel, rd_wr_ne _ _ _ _ (by decide), rd_wr_same, hlen]
    exact Nat.mod_eq_of_lt (show s.cor.queue.length + 1 < 512 by omega)
  · rw [setUpdLevel, rd_wr_same, hne]
    rfl
  · exact RegsBut.wr (RegsBut.wr (t := q) (fun _ _ => rfl) (by simp)) (by simp)

theorem updDataWrite_overflows (hm : mainOn s.dev.state = true) (hp : pairOp s = false)
    (hi : rd s Reg.COR_UPD_IDX_IDX < pixelCount s) (hr : rasterOn s = true) (hl : 256 ≤ s.cor.queue.length) :
    ∃ t, exec (.updDataWrite data) s = .next t ∧ rd t Reg.COR_STATUS_UPD_OVF = 1 ∧
      t = { s with regs := t.regs, inbox := s.inbox ++ [⟨0x093, 0x1D, 0, none⟩] } ∧
      RegsBut [Reg.COR_STATUS_UPD_OVF] s t := by
  have hx : exec (.updDataWrite data) s = .next (raise 0x093 0 (wr Reg.COR_STATUS_UPD_OVF 1 s)) := by
    rw [updDataWrite_solo hm hp, pushUpd_running hi hr, if_pos hl]
  rw [raise_known (r := ⟨0x093, 0x1D, 0, 0⟩) _ rfl] at hx
  exact ⟨_, hx, rd_wr_same _ _ _, rfl, RegsBut.wr (fun _ _ => rfl) (by simp)⟩

/-- A halfword stored reads back. -/
theorem ld16_stBytes_leBytes (a v : Nat) (s : State) : ld16 (stBytes a (leBytes 2 v) s) a = v % 65536 := by
  have h0 := ldByte_stBytes_at s a (leBytes 2 v) (i := 0) (by simp)
  have h1 := ldByte_stBytes_at s a (leBytes 2 v) (i := 1) (by simp)
  rw [ld16, h1]
  rw [Nat.add_zero] at h0
  rw [h0]
  simp only [leBytes, List.getD_cons_zero, List.getD_cons_succ, BitVec.toNat_ofNat]
  omega

/-- With every word sound an entry for a halfword is one store, after which a pixel out of service is told nothing
(R179, R224). -/
theorem applyUpd_stores {u : Upd} (hu : u.repair = false) (he : s.eccBad = []) (hs : inService s (u.idx / 16384) = false) :
    applyUpd u s = wrapInc Reg.COR_UPDSTAT_APPLIED 1 (stBytes (calAddr u.idx) (leBytes 2 u.data) s) := by
  let t := wrapInc Reg.COR_UPDSTAT_APPLIED 1 (stBytes (calAddr u.idx) (leBytes 2 u.data) s)
  have hsel (c : Bool) (k : Nat) : when c (pushSel u.idx k) t = t := by
    have ht : inService t (u.idx / 16384) = false := by
      rw [← hs, inService, inService, rdb, rdb]
      refine congrArg (· != 0) (rd_wr_ne _ _ _ _ ?_)
      simp only [Fld.key, Reg.TLK_LN_STATUS_INSERV, Reg.COR_UPDSTAT_APPLIED]
      omega
    cases c
    · rfl
    · simp [pushSel, ht]
  unfold applyUpd
  simp only [hu, Bool.false_eq_true, if_false, psWrite_eq_stBytes (bs := leBytes 2 u.data) _ he (by simp [leBytes])]
  exact hsel _ _

theorem updDataWrite_applies (hm : mainOn s.dev.state = true) (hp : pairOp s = false)
    (hi : rd s Reg.COR_UPD_IDX_IDX < pixelCount s) (hr : rasterOn s = false) (he : s.eccBad = [])
    (hs : inService s (rd s Reg.COR_UPD_IDX_IDX / 16384) = false) (hw : rd s Reg.COR_UPD_IDX_REPAIR = 0) :
    ∃ t, exec (.updDataWrite data) s = .next t ∧ ld16 t (calAddr (writtenUpd data s).idx) = data % 65536 ∧
      MemBut (calAddr (writtenUpd data s).idx) 2 s t ∧
      rd t Reg.COR_UPDSTAT_APPLIED = (rd s Reg.COR_UPDSTAT_APPLIED + 1) % 2 ^ 16 ∧
      t = { s with regs := t.regs, mem := t.mem } ∧
      RegsBut [Reg.COR_UPDSTAT_APPLIED, Reg.COR_FILLSTAT_DEAD] s t := by
  have hrep : (writtenUpd data s).repair = false := by simp [writtenUpd, rdb, hw]
  have hx : exec (.updDataWrite data) s = .next (setDead (wrapInc Reg.COR_UPDSTAT_APPLIED 1
      (stBytes (calAddr (writtenUpd data s).idx) (leBytes 2 (writtenUpd data s).data) s))) := by
    rw [updDataWrite_solo hm hp, pushUpd_stopped hi hr, applyUpd_stores hrep he hs]
  refine ⟨_, hx, ?_, fun x hx => ldByte_stBytes_off s _ _ (by simpa using hx), ?_, rfl, ?_⟩
  · exact (ld16_stBytes_leBytes _ _ s).trans (Nat.mod_mod _ _)
  · exact (rd_wr_ne _ _ _ _ (by decide)).trans (rd_wr_same _ _ _)
  · exact RegsBut.wr (RegsBut.wr (t := stBytes _ _ s) (fun _ _ => rfl) (by simp)) (by simp)

/-! ### AT_EN_WRITE (R180) -/

/-- The content that UPD_AT names has passed: it lies half the count or more ahead of the next one. -/
def updLate (s : State) : Bool :=
  decide (2 ^ 31 ≤ (rd s Reg.COR_UPD_AT_FCNT + 2 ^ 32 - (s.gte.seq + 1) % 2 ^ 32) % 2 ^ 32)

/-- The state in which AT_EN has taken its new value. -/
def atEnSet (on : Bool) (s : State) : State := wr Reg.COR_UPD_CTRL_AT_EN (b2n on) s

theorem doAtEnWrite_powered (on : Bool) (hm : mainOn s.dev.state = true) : doAtEnWrite on s =
    if on && rasterOn s && updLate s then
      wr Reg.COR_STATUS_UPD_MISS 1 { atEnSet on s with cor := { s.cor with missed := true } }
    else atEnSet on s := by
  have hr : rasterOn (atEnSet on s) = rasterOn s := congrArg (· != 0) (rd_wr_ne _ _ _ _ (by decide))
  have hl : updLate (atEnSet on s) = updLate s := by
    have hat : rd (atEnSet on s) Reg.COR_UPD_AT_FCNT = rd s Reg.COR_UPD_AT_FCNT := rd_wr_ne _ _ _ _ (by decide)
    have hg : (atEnSet on s).gte = s.gte := rfl
    simp only [updLate, hat, hg]
  rw [← hr, ← hl, doAtEnWrite, hm]
  rfl

theorem atEnWrite_misses (hm : mainOn s.dev.state = true) (hr : rasterOn s = true) (hl : updLate s = true) :
    ∃ t, exec (.atEnWrite true) s = .next t ∧ rd t Reg.COR_UPD_CTRL_AT_EN = 1 ∧ rd t Reg.COR_STATUS_UPD_MISS = 1 ∧
      t.cor = { s.cor with missed := true } ∧ t = { s with regs := t.regs, cor := t.cor } ∧
      RegsBut [Reg.COR_UPD_CTRL_AT_EN, Reg.COR_STATUS_UPD_MISS] s t := by
  have ht := (doAtEnWrite_powered true hm).trans (if_pos (by simp [hr, hl]))
  refine ⟨_, congrArg Host.Outcome.next ht, ?_, rd_wr_same _ _ _, rfl, rfl, ?_⟩
  · exact (rd_wr_ne _ _ _ _ (by decide)).trans (rd_wr_same _ _ _)
  · exact RegsBut.wr (t := { atEnSet true s with cor := _ }) (RegsBut.wr (RegsBut.refl s _) (by simp)) (by simp)

theorem atEnWrite_plain (on : Bool) (hm : mainOn s.dev.state = true)
    (h : on = false ∨ rasterOn s = false ∨ updLate s = false) :
    ∃ t, exec (.atEnWrite on) s = .next t ∧ rd t Reg.COR_UPD_CTRL_AT_EN = b2n on ∧
      OnlyRegs [Reg.COR_UPD_CTRL_AT_EN] s t := by
  have hc : (on && rasterOn s && updLate s) = false := by
    rcases h with h | h | h <;> simp [h]
  have ht : doAtEnWrite on s = atEnSet on s := by simp [doAtEnWrite_powered on hm, hc]
  refine ⟨_, congrArg Host.Outcome.next ht, (rd_wr_same _ _ _).trans ?_, (OnlyRegs.refl _ s).wr⟩
  cases on <;> rfl

/-! ### WEAR_PASS_TIMER (R176, R491) -/

section
variable {e : Env}

theorem wearPassTimer_powered (hm : mainOn s.dev.state = true) (hb : s.dev.state ≠ .boot) (hh : s.dev.state ≠ .halt) :
    exec (.wearPassTimer e) s = .next (wearStart e (atTime e.t s)) := by
  have hc : (mainOn s.dev.state && s.dev.state != .boot && s.dev.state != .halt) = true := by simp [hm, hb, hh]
  exact congrArg Host.Outcome.next (if_pos hc)

theorem wearPassTimer_starts (hm : mainOn s.dev.state = true) (hb : s.dev.state ≠ .boot) (hh : s.dev.state ≠ .halt)
    (he : rd s Reg.COR_CTRL_WEAR_EN = 1) (hp : s.cor.pass = none) (hr : s.mrc.run = none)
    (hc : holdCovers (holdMeasure e (atTime e.t s)) 512 = true) :
    ∃ t b, exec (.wearPassTimer e) s = .next t ∧ t.cor.pass = some ⟨(tileLanes s).drop 1, 0⟩ ∧ t.mrc.run = some b ∧
      b.why = .wear 0 ∧ b.lines = 512 ∧ rd t Reg.COR_STATUS_WEAR_BUSY = 1 ∧ rd t Reg.MRC_STATUS_BUSY = 1 ∧
      t.mrc.wait = s.mrc.wait ∧ t.now = max s.now e.t ∧ t.dev = s.dev ∧ t.pilot = s.pilot ∧ t.tiles = s.tiles := by
  have h := wearStart_begins (s := atTime e.t s) he hp hr hc
  obtain ⟨b, hrun, hwhy, hlines⟩ := h.burst
  exact ⟨_, b, wearPassTimer_powered hm hb hh, h.pass, hrun, hwhy, hlines, h.busy, h.bursts, h.queue, h.now, h.dev, h.pilot,
    h.tiles⟩

theorem wearPassTimer_idle (hm : mainOn s.dev.state = true) (hb : s.dev.state ≠ .boot) (hh : s.dev.state ≠ .halt)
    (h : rd s Reg.COR_CTRL_WEAR_EN = 0 ∨ s.cor.pass ≠ none) :
    exec (.wearPassTimer e) s = .next (atTime e.t s) :=
  (wearPassTimer_powered hm hb hh).trans (congrArg Host.Outcome.next (wearStart_idle h))

end

end

/-- Settles O54: an entry by the state of the raster and of the queue, AT_EN by the content it names, the timer by what
starts a pass. -/
theorem updatesAndWearPasses : Obligations.UpdatesAndWearPasses := fun _ =>
  ⟨fun _ hm hp hi => ⟨updDataWrite_queues hm hp hi, updDataWrite_overflows hm hp hi, updDataWrite_applies hm hp hi⟩,
    fun _ hm hp hi => (updDataWrite_solo hm hp).trans (congrArg Host.Outcome.next (pushUpd_outside hi)),
    fun hm => ⟨fun hr hl => atEnWrite_misses hm hr (decide_eq_true hl),
      fun h => atEnWrite_plain true hm (Or.inr (h.imp id decide_eq_false)), atEnWrite_plain false hm (Or.inl rfl)⟩,
    fun _ hm hb hh => ⟨wearPassTimer_starts hm hb hh, wearPassTimer_idle hm hb hh⟩⟩

end Sys2Proof.Machine
end

section
/-! PROOF. The commands of calibration, scans and time -/

namespace Sys2Proof.Machine

section
variable {s : State} {d : Desc} {e : Env} {opc : Nat}

/-! ### Parts of the state that the take of a descriptor leaves -/

@[simp] theorem taken_sns : (taken opc d e s).sns = s.sns := (congrArg State.sns (taken_spec s d e opc).frame).trans rfl

@[simp] theorem taken_cor : (taken opc d e s).cor = s.cor := (congrArg State.cor (taken_spec s d e opc).frame).trans rfl

@[simp] theorem taken_mrc : (taken opc d e s).mrc = s.mrc := (congrArg State.mrc (taken_spec s d e opc).frame).trans rfl

@[simp] theorem taken_cku0 : (taken opc d e s).cku0 = s.cku0 :=
  (congrArg State.cku0 (taken_spec s d e opc).frame).trans rfl

theorem tileLanes_taken : tileLanes (taken opc d e s) = tileLanes s := by
  have hp : (taken opc d e s).part = s.part := (congrArg State.part (taken_spec s d e opc).frame).trans rfl
  simp only [tileLanes, laneCount, tileCols, tileRows, hp]

/-- A run of bytes sees the memory only. -/
theorem ldBytes_taken (a n : Nat) : ldBytes (taken opc d e s) a n = ldBytes s a n := by rw [ldBytes, taken_mem]; rfl

/-- S0 serves descriptors only where the main domain is powered (R332, R453). -/
theorem Runs.powered (h : Runs opc d e s) : mainOn s.dev.state = true := by
  obtain ⟨c, r, -, hserve, -⟩ := h
  cases hs : s.dev.state with
  | off => simp [serves, hs] at hserve
  | pilot => simp [serves, hs] at hserve
  | _ => rfl

/-- A command that leaves the state of the device, changes no state and waits. -/
theorem exec_of_waiting_run {c : Cmd} {r : CmdRow} {i : Instr} {kind : WaitKind} {t : State}
    (hx : exec i s = .next (serveRow c d e s)) (hc : cmdOf opc = some (c, r)) (h : Runs opc d e s)
    (hr : changesState r d (taken opc d e s) = false) (hrun : c.run (cplOf opc d false) d e (taken opc d e s) = t)
    (hd : t.dev = s.dev) (hw : Waits opc d false kind s t) : exec i s = .next t := by
  subst hrun
  exact exec_of_waits hx hc h (Or.inl hr) (congrArg Dev.state hd) hw

/-- A command that waits for something in progress does nothing else. -/
theorem exec_of_joining_run {c : Cmd} {r : CmdRow} {i : Instr} {kind : WaitKind}
    (hx : exec i s = .next (serveRow c d e s)) (hc : cmdOf opc = some (c, r)) (h : Runs opc d e s)
    (hr : changesState r d (taken opc d e s) = false)
    (hrun : c.run (cplOf opc d false) d e (taken opc d e s) = waitFor (cplOf opc d false) false kind (taken opc d e s)) :
    ∃ t, exec i s = .next t ∧ Waits opc d false kind s t ∧ t = { taken opc d e s with waits := t.waits } := by
  have hw : Waits opc d false kind s (waitFor (cplOf opc d false) false kind (taken opc d e s)) := by simp [Waits, waitFor]
  exact ⟨_, exec_of_waiting_run hx hc h hr hrun (taken_dev s d e opc) hw, hw, rfl⟩

/-! ### CAL_ROUND (R356) -/

theorem calEn_taken : rdb (taken opc d e s) Reg.SNS_CTRL_CAL_EN = (rd s Reg.SNS_CTRL_CAL_EN != 0) :=
  congrArg (· != 0) (taken_rd s d e opc (key_ne_authcnt d.ch (by decide)))

theorem calRound_locked (h : Runs 0x0802 d e s) (hc : rd s Reg.SNS_CTRL_CAL_EN = 0) :
    EndsAtOnce 0x0802 d e s (.calRound d e) 10 (fun _ => 0) (fun _ => 0) id := by
  refine endsAtOnce_of_run rfl rfl h rfl (fun u hu => ?_) (by simp) (by simp)
  have hb : rdb u Reg.SNS_CTRL_CAL_EN = false := by simp [hu, calEn_taken, hc]
  simp only [cmdCalRound, plainCmd, hb, Bool.not_false, if_true, id]

/-- Where calibration is on, CAL_ROUND waits for the round, and starts one where none runs. -/
theorem calRound_run (q : Cpl) (hc : rd s Reg.SNS_CTRL_CAL_EN = 1) : cmdCalRound.run q d e (taken 0x0802 d e s) =
    if s.sns.round.isSome then waitFor q false .calRound (taken 0x0802 d e s)
    else calAt ⟨0, 0, false⟩ (waitFor q false .calRound (taken 0x0802 d e s)) := by
  have hb : rdb (taken 0x0802 d e s) Reg.SNS_CTRL_CAL_EN = true := by simp [calEn_taken, hc]
  have hw : rdb (waitFor q false .calRound (taken 0x0802 d e s)) Reg.SNS_CTRL_CAL_EN = true := hb
  have hs : (waitFor q false .calRound (taken 0x0802 d e s)).sns = s.sns := taken_sns
  simp only [cmdCalRound, plainCmd, hb, calStart, hw, hs, Bool.not_true, Bool.or_false, Bool.false_eq_true, if_false]

theorem calRound_starts (h : Runs 0x0802 d e s) (hc : rd s Reg.SNS_CTRL_CAL_EN = 1) (hn : s.sns.round = none) :
    ∃ t, exec (.calRound d e) s = .next t ∧ Waits 0x0802 d false .calRound s t ∧ t.sns.round = some ⟨0, 0, false⟩ ∧
      rd t Reg.SNS_STATUS_CALBUSY = 1 ∧ rd t Reg.SNS_STATUS_DUTY = 0 ∧ t.mem = s.mem ∧ t.dev = s.dev := by
  let t := calAt ⟨0, 0, false⟩ (waitFor (cplOf 0x0802 d false) false .calRound (taken 0x0802 d e s))
  have hrun : cmdCalRound.run (cplOf 0x0802 d false) d e (taken 0x0802 d e s) = t := by
    rw [calRound_run _ hc, hn]
    rfl
  have hd : t.dev = s.dev := by simp [t, calAt, waitFor]
  have hm : t.mem = s.mem := by simp [t, calAt, waitFor]
  have hw : Waits 0x0802 d false .calRound s t := by simp [Waits, t, calAt, waitFor]
  exact ⟨t, exec_of_waiting_run rfl rfl h rfl hrun hd hw, hw, rfl,
    (rd_wr_ne _ _ _ _ (by decide)).trans (rd_wr_same _ _ _), rd_wr_same _ _ _, hm, hd⟩

theorem calRound_joins {r : CalRound} (h : Runs 0x0802 d e s) (hc : rd s Reg.SNS_CTRL_CAL_EN = 1)
    (hs : s.sns.round = some r) :
    ∃ t, exec (.calRound d e) s = .next t ∧ Waits 0x0802 d false .calRound s t ∧
      t = { taken 0x0802 d e s with waits := t.waits } :=
  exec_of_joining_run rfl rfl h rfl (by rw [calRound_run _ hc, hs]; rfl)

/-! ### WEAR_PASS (R176, R356) -/

theorem wearEn_taken : rd (taken opc d e s) Reg.COR_CTRL_WEAR_EN = rd s Reg.COR_CTRL_WEAR_EN :=
  taken_rd s d e opc (key_ne_authcnt d.ch (by decide))

theorem wearPass_off (h : Runs 0x0804 d e s) (hw : rd s Reg.COR_CTRL_WEAR_EN = 0) (hp : s.cor.pass = none) :
    EndsAtOnce 0x0804 d e s (.wearPass d e) 0 (fun u => rd u Reg.COR_WEAR_LASTSEC) (fun _ => 0) id := by
  refine endsAtOnce_of_run rfl rfl h rfl (fun u hu => ?_) (by simp) (by simp)
  have hc : (u.cor.pass.isNone && !rdb u Reg.COR_CTRL_WEAR_EN) = true := by simp [hu, rdb, wearEn_taken, hw, hp]
  exact if_pos hc

theorem wearPass_run (q : Cpl) (h : rd s Reg.COR_CTRL_WEAR_EN = 1 ∨ s.cor.pass ≠ none) :
    cmdWearPass.run q d e (taken 0x0804 d e s) = wearStart e (waitFor q false .wearPass (taken 0x0804 d e s)) := by
  have hc : ((taken 0x0804 d e s).cor.pass.isNone && !rdb (taken 0x0804 d e s) Reg.COR_CTRL_WEAR_EN) = false := by
    rcases h with h | h
    · simp [rdb, wearEn_taken, h]
    · simp [h]
  simp only [cmdWearPass, plainCmd, hc, Bool.false_eq_true, if_false]

theorem wearPass_starts (h : Runs 0x0804 d e s) (hw : rd s Reg.COR_CTRL_WEAR_EN = 1) (hp : s.cor.pass = none)
    (hr : s.mrc.run = none) (hc : holdCovers (holdMeasure e (taken 0x0804 d e s)) 512 = true) :
    ∃ t b, exec (.wearPass d e) s = .next t ∧ Waits 0x0804 d false .wearPass s t ∧ t.mrc.run = some b ∧
      b.why = .wear 0 ∧ b.lines = 512 ∧ t.cor.pass = some ⟨(tileLanes s).drop 1, 0⟩ ∧
      rd t Reg.COR_STATUS_WEAR_BUSY = 1 ∧ t.dev = s.dev := by
  let u := waitFor (cplOf 0x0804 d false) false .wearPass (taken 0x0804 d e s)
  have hb : PassBegun u (wearStart e u) := wearStart_begins (wearEn_taken.trans hw)
    ((congrArg Cor.pass taken_cor).trans hp) ((congrArg Mrc.run taken_mrc).trans hr) hc
  have hd : (wearStart e u).dev = s.dev := hb.dev.trans (taken_dev s d e _)
  have hwait : Waits 0x0804 d false .wearPass s (wearStart e u) := hb.waits.trans (by simp [u, waitFor])
  obtain ⟨b, hrun, hwhy, hlines⟩ := hb.burst
  refine ⟨_, b, exec_of_waiting_run rfl rfl h rfl (wearPass_run _ (Or.inl hw)) hd hwait, hwait, hrun, hwhy, hlines, ?_,
    hb.busy, hd⟩
  rw [hb.pass, ← tileLanes_taken (s := s) (d := d) (e := e) (opc := 0x0804)]
  rfl

theorem wearPass_joins {r : WearRun} (h : Runs 0x0804 d e s) (hp : s.cor.pass = some r) :
    ∃ t, exec (.wearPass d e) s = .next t ∧ Waits 0x0804 d false .wearPass s t ∧
      t = { taken 0x0804 d e s with waits := t.waits } := by
  have hn : s.cor.pass ≠ none := by simp [hp]
  have hidle (q : Cpl) : wearStart e (waitFor q false .wearPass (taken 0x0804 d e s)) =
      waitFor q false .wearPass (taken 0x0804 d e s) :=
    wearStart_idle (Or.inr (by simp [waitFor, hp]))
  exact exec_of_joining_run rfl rfl h rfl ((wearPass_run _ (Or.inr hn)).trans (hidle _))

/-! ### CAL_RESET_LANE and DUMP_CLEAR (R357, R358, R505) -/

/-- The state in which a command waits for the burst `b` that has started for it. -/
def burstAwaited (q : Cpl) (d0 d1 : Nat) (b : Burst) (e : Env) (s : State) : State :=
  runBurst b (holdMeasure e (waitFor q false (.burst b.id d0 d1) (takeBurstId s)))

/-- With MRC free and the hold-up enough, a command's burst starts at once (R347). -/
theorem commandBurst_starts (q : Cpl) (why : BurstWhy) {ps : List (Nat × Bytes)} (d0 d1 : Nat) (hr : s.mrc.run = none)
    (hc : holdCovers (holdMeasure e s) (partLines ps) = true) : commandBurst q why ps d0 d1 e s =
      burstAwaited q d0 d1 ⟨s.mrc.next, 0, ps, partLines ps, why⟩ e s := by
  generalize hn : partLines ps = n at hc
  let u := waitFor q false (.burst s.mrc.next d0 d1) (takeBurstId s)
  have hu : holdCovers (holdMeasure e u) n = true := (holdCovers_congr (s := s) (t := u) e n rfl rfl).trans hc
  have hfree : u.mrc.run.isNone = true := Option.isNone_iff_eq_none.mpr hr
  simp only [commandBurst, hn]
  exact (if_pos hfree).trans (startBurst_covered (b := ⟨s.mrc.next, 0, ps, n, why⟩) hu)

theorem burstAwaited_leaves (q : Cpl) (d0 d1 : Nat) (b : Burst) : (burstAwaited q d0 d1 b e s).mem = s.mem ∧
    (burstAwaited q d0 d1 b e s).dev = s.dev ∧
    (burstAwaited q d0 d1 b e s).waits = s.waits ++ [⟨q, false, .burst b.id d0 d1⟩] := by
  simp [burstAwaited, runBurst, holdMeasure, waitFor, takeBurstId]

/-- A command whose work is a burst that the hold-up covers starts it and waits for its end (R347). -/
theorem exec_of_burst_run {c : Cmd} {r : CmdRow} {i : Instr} {why : BurstWhy} {ps : List (Nat × Bytes)} {d0 d1 : Nat}
    (hx : exec i s = .next (serveRow c d e s)) (hc : cmdOf opc = some (c, r)) (h : Runs opc d e s)
    (hr : changesState r d (taken opc d e s) = false)
    (hrun : c.run (cplOf opc d false) d e (taken opc d e s) =
      commandBurst (cplOf opc d false) why ps d0 d1 e (taken opc d e s))
    (hfree : s.mrc.run = none) (hcover : holdCovers (holdMeasure e (taken opc d e s)) (partLines ps) = true) :
    ∃ t, exec i s = .next t ∧ Waits opc d false (.burst s.mrc.next d0 d1) s t ∧
      t.mrc.run = some ⟨s.mrc.next, 0, ps, partLines ps, why⟩ ∧ rd t Reg.MRC_STATUS_BUSY = 1 ∧ t.mem = s.mem ∧
      t.dev = s.dev := by
  have hstart := hrun.trans
    (commandBurst_starts (s := taken opc d e s) (cplOf opc d false) why d0 d1 (by simp [hfree]) hcover)
  rw [taken_mrc] at hstart
  obtain ⟨hm, hd, hw⟩ := burstAwaited_leaves (s := taken opc d e s) (e := e) (cplOf opc d false) d0 d1
    ⟨s.mrc.next, 0, ps, partLines ps, why⟩
  rw [taken_mem] at hm
  rw [taken_dev] at hd
  rw [taken_waits] at hw
  exact ⟨_, exec_of_waiting_run hx hc h hr hstart hd hw, hw, rfl, rd_wr_same _ _ _, hm, hd⟩

/-- What CAL_RESET_LANE writes: the words with their device-maintained fields reset, and a wear map of zeros (R169, R357). -/
def resetParts (s : State) (n : Nat) : List (Nat × Bytes) :=
  [(0x400000 + 65536 * n, resetWords (laneImage s n)), (0x800000 + 32768 * n, zeroBytes 32768)]

theorem calResetLane_run (q : Cpl) : cmdCalResetLane.run q d e (taken 0x0803 d e s) =
    commandBurst q (.lane (p8 d 0)) (resetParts s (p8 d 0)) (partLines (resetParts s (p8 d 0))) 0 e
      (taken 0x0803 d e s) := by
  have hl : laneImage (taken 0x0803 d e s) (p8 d 0) = laneImage s (p8 d 0) := ldBytes_taken _ _
  simp only [cmdCalResetLane, resetParts, hl]

theorem calResetLane_starts (h : Runs 0x0803 d e s) (hr : s.mrc.run = none)
    (hc : holdCovers (holdMeasure e (taken 0x0803 d e s)) (partLines (resetParts s (p8 d 0))) = true) :
    ∃ t, exec (.calResetLane d e) s = .next t ∧
      Waits 0x0803 d false (.burst s.mrc.next (partLines (resetParts s (p8 d 0))) 0) s t ∧
      t.mrc.run = some ⟨s.mrc.next, 0, resetParts s (p8 d 0), partLines (resetParts s (p8 d 0)), .lane (p8 d 0)⟩ ∧
      rd t Reg.MRC_STATUS_BUSY = 1 ∧ t.mem = s.mem ∧ t.dev = s.dev :=
  exec_of_burst_run rfl rfl h rfl (calResetLane_run _) hr hc

theorem dumpHeld_taken : dumpHeld (taken opc d e s) = dumpHeld s := by rw [dumpHeld, dumpHeld, ldBytes_taken]

theorem dumpClear_none (h : Runs 0x0A03 d e s) (hn : dumpHeld s = none) :
    EndsAtOnce 0x0A03 d e s (.dumpClear d e) 0 (fun _ => 0) (fun _ => 0) id := by
  refine endsAtOnce_of_run rfl rfl h rfl (fun u hu => ?_) (by simp) (by simp)
  simp only [cmdDumpClear, plainCmd, hu, dumpHeld_taken, hn, okWith, id]

theorem dumpClear_clears {x : Bytes} (h : Runs 0x0A03 d e s) (hh : dumpHeld s = some x) (hr : s.mrc.run = none)
    (hc : holdCovers (holdMeasure e (taken 0x0A03 d e s)) (partLines [(0xB00000, clearedHeader x)]) = true) :
    ∃ t, exec (.dumpClear d e) s = .next t ∧ Waits 0x0A03 d false (.burst s.mrc.next 0 0) s t ∧
      t.mrc.run = some ⟨s.mrc.next, 0, [(0xB00000, clearedHeader x)], partLines [(0xB00000, clearedHeader x)], .cmd⟩ ∧
      t.mem = s.mem ∧ t.dev = s.dev := by
  have hrun (q : Cpl) : cmdDumpClear.run q d e (taken 0x0A03 d e s) =
      commandBurst q .cmd [(0xB00000, clearedHeader x)] 0 0 e (taken 0x0A03 d e s) := by
    simp only [cmdDumpClear, plainCmd, dumpHeld_taken, hh]
  obtain ⟨t, hx, hw, hb, -, hm, hd⟩ := exec_of_burst_run (i := .dumpClear d e) rfl rfl h rfl (hrun _) hr hc
  exact ⟨t, hx, hw, hb, hm, hd⟩

/-! ### CKU_SCAN (R219, R358, R507) -/

/-- The registers of CKU1 that CKU_SCAN sets up, before the running value is loaded. -/
def scanSetup (a len : Nat) (s : State) : State := s
  |> wr (Reg.CKU_WIDTH_WIDTH 1) 32 |> wr (Reg.CKU_POLY_LO_VALUE 1) 0x04C11DB7 |> wr (Reg.CKU_POLY_HI_VALUE 1) 0
  |> wr (Reg.CKU_INIT_LO_VALUE 1) 0xFFFFFFFF |> wr (Reg.CKU_INIT_HI_VALUE 1) 0
  |> wr (Reg.CKU_XOROUT_LO_VALUE 1) 0xFFFFFFFF |> wr (Reg.CKU_XOROUT_HI_VALUE 1) 0
  |> wr (Reg.CKU_CTRL_REFIN 1) 1 |> wr (Reg.CKU_CTRL_REFOUT 1) 1
  |> wr (Reg.CKU_ADDR_VALUE 1) a |> wr (Reg.CKU_LEN_VALUE 1) len

/-- The fields that it writes. -/
def scanFields : List Fld :=
  [Reg.CKU_WIDTH_WIDTH 1, Reg.CKU_POLY_LO_VALUE 1, Reg.CKU_POLY_HI_VALUE 1, Reg.CKU_INIT_LO_VALUE 1,
    Reg.CKU_INIT_HI_VALUE 1, Reg.CKU_XOROUT_LO_VALUE 1, Reg.CKU_XOROUT_HI_VALUE 1, Reg.CKU_CTRL_REFIN 1,
    Reg.CKU_CTRL_REFOUT 1, Reg.CKU_ADDR_VALUE 1, Reg.CKU_LEN_VALUE 1]

theorem scanSetup_frame (a len : Nat) (s : State) : OnlyRegs scanFields s (scanSetup a len s) := by
  unfold scanSetup
  repeat refine OnlyRegs.wr ?_ (by decide)
  exact OnlyRegs.refl _ s

theorem scanSetup_reads (a len : Nat) (s : State) : rd (scanSetup a len s) (Reg.CKU_WIDTH_WIDTH 1) = 32 ∧
    rd (scanSetup a len s) (Reg.CKU_POLY_LO_VALUE 1) = 0x04C11DB7 ∧
    rd (scanSetup a len s) (Reg.CKU_INIT_LO_VALUE 1) = 0xFFFFFFFF ∧ rd (scanSetup a len s) (Reg.CKU_INIT_HI_VALUE 1) = 0 ∧
    rd (scanSetup a len s) (Reg.CKU_ADDR_VALUE 1) = a % 2 ^ 32 ∧
    rd (scanSetup a len s) (Reg.CKU_LEN_VALUE 1) = len % 2 ^ 32 := by
  simp [scanSetup, rd_wr, Fld.key, Reg.CKU_WIDTH_WIDTH, Reg.CKU_POLY_LO_VALUE, Reg.CKU_POLY_HI_VALUE, Reg.CKU_INIT_LO_VALUE,
    Reg.CKU_INIT_HI_VALUE, Reg.CKU_XOROUT_LO_VALUE, Reg.CKU_XOROUT_HI_VALUE, Reg.CKU_CTRL_REFIN, Reg.CKU_CTRL_REFOUT,
    Reg.CKU_ADDR_VALUE, Reg.CKU_LEN_VALUE]

/-- A range that a scan may take lies below 2^32. -/
theorem scanRange_lt {a len : Nat} (h : scanRange a len = true) : a < 2 ^ 32 ∧ len < 2 ^ 32 := by
  simp only [scanRange, Bool.and_eq_true, Bool.or_eq_true, decide_eq_true_eq] at h
  omega

/-- CKU1 stands in `t` ready for a scan of a range with the CRC-32 of R219; nothing but it has changed. -/
structure ScanReady (a len : Nat) (s t : State) : Prop where
  run : t.cku1.run = 0xFFFFFFFF
  other : t.cku0 = s.cku0
  frame : t = { s with regs := t.regs, cku1 := t.cku1 }
  idle : rd t (Reg.CKU_STATUS_BUSY 1) = 0
  width : rd t (Reg.CKU_WIDTH_WIDTH 1) = 32
  poly : rd t (Reg.CKU_POLY_LO_VALUE 1) = 0x04C11DB7
  addr : rd t (Reg.CKU_ADDR_VALUE 1) = a
  len : rd t (Reg.CKU_LEN_VALUE 1) = len

/-- The running value loads once the registers are set up. -/
theorem scanSetup_ready {a len : Nat} (hm : mainOn s.dev.state = true) (hb : rd s (Reg.CKU_STATUS_BUSY 1) = 0)
    (hr : scanRange a len = true) : ScanReady a len s (doCkuInitWrite 1 (scanSetup a len s)) := by
  obtain ⟨hal, hll⟩ := scanRange_lt hr
  obtain ⟨hwidth, hpoly, hlo, hhi, haddr, hlen⟩ := scanSetup_reads a len s
  obtain ⟨hpf, hpr⟩ := scanSetup_frame a len s
  generalize scanSetup a len s = p at *
  have hpm : mainOn p.dev.state = true := by rw [hpf]; exact hm
  have hpb : rd p (Reg.CKU_STATUS_BUSY 1) = 0 := (hpr.rd_eq _).trans hb
  obtain ⟨i, hi, ⟨hrun, hother⟩, -, hif, hir⟩ := ckuInitWrite_sets (n := 1) (by decide) hpm hpb
  obtain rfl : doCkuInitWrite 1 p = i := Host.Outcome.next.inj hi
  generalize doCkuInitWrite 1 p = i at *
  have h0 : i.cku0 = s.cku0 := Eq.trans (b := p.cku0) hother (by rw [hpf])
  exact {
    run := (congrArg Cku.run hrun).trans (by simp only [hlo, hhi, hwidth]; rfl)
    other := h0
    frame := hif.trans (by rw [h0, hpf])
    idle := (hir.rd_eq _).trans hpb
    width := (hir.rd_eq _).trans hwidth
    poly := (hir.rd_eq _).trans hpoly
    addr := (hir.rd_eq _).trans (haddr.trans (Nat.mod_eq_of_lt hal))
    len := (hir.rd_eq _).trans (hlen.trans (Nat.mod_eq_of_lt hll)) }

/-- A scan starts on a unit that is ready. -/
theorem ScanReady.scans {a len : Nat} {i : State} (h : ScanReady a len s i) (hm : mainOn s.dev.state = true)
    (hr : scanRange a len = true) :
    (ckuStart .s0 1 i).cku1 = ⟨0xFFFFFFFF, some ⟨.s0, a, len⟩⟩ ∧ (ckuStart .s0 1 i).cku0 = s.cku0 ∧
      rd (ckuStart .s0 1 i) (Reg.CKU_STATUS_BUSY 1) = 1 ∧ rd (ckuStart .s0 1 i) (Reg.CKU_WIDTH_WIDTH 1) = 32 ∧
      rd (ckuStart .s0 1 i) (Reg.CKU_POLY_LO_VALUE 1) = 0x04C11DB7 ∧
      ckuStart .s0 1 i = { s with regs := (ckuStart .s0 1 i).regs, cku1 := (ckuStart .s0 1 i).cku1 } := by
  have him : mainOn i.dev.state = true := by rw [h.frame]; exact hm
  obtain ⟨g, hg, ⟨hscan, hother⟩, hgb, hgf, hgr⟩ := ckuGo_starts (n := 1) (by decide) him h.idle
    (by rw [h.addr, h.len]; exact hr)
  obtain rfl : ckuStart .s0 1 i = g :=
    (doCkuGo_s0 (n := 1) (by decide) him h.idle).symm.trans (Host.Outcome.next.inj hg)
  generalize ckuStart .s0 1 i = g at *
  have h1 : g.cku1 = ⟨0xFFFFFFFF, some ⟨.s0, a, len⟩⟩ := by
    rw [h.addr, h.len] at hscan
    exact Eq.trans hscan (congrArg (fun r => Cku.mk r (some (Scan.mk .s0 a len))) h.run)
  have h0 : g.cku0 = s.cku0 := Eq.trans (b := i.cku0) hother h.other
  exact ⟨h1, h0, hgb, (hgr.rd_eq _).trans h.width, (hgr.rd_eq _).trans h.poly, hgf.trans (by rw [h0, h.frame])⟩

theorem ckuScan_starts (h : Runs 0x0A04 d e s) (hb : rd s (Reg.CKU_STATUS_BUSY 1) = 0) :
    ∃ t, exec (.ckuScan d e) s = .next t ∧ Waits 0x0A04 d false .ckuScan s t ∧
      t.cku1 = ⟨0xFFFFFFFF, some ⟨.s0, p32 d 0, p32 d 4⟩⟩ ∧ rd t (Reg.CKU_STATUS_BUSY 1) = 1 ∧
      rd t (Reg.CKU_WIDTH_WIDTH 1) = 32 ∧ rd t (Reg.CKU_POLY_LO_VALUE 1) = 0x04C11DB7 ∧
      t = { taken 0x0A04 d e s with waits := t.waits, cku1 := t.cku1, regs := t.regs } ∧ t.cku0 = s.cku0 := by
  have hok : cmdCkuScan.ok (taken 0x0A04 d e s) d = true := h.params_ok s d e rfl
  simp only [cmdCkuScan, Bool.and_eq_true] at hok
  have hm : mainOn (taken 0x0A04 d e s).dev.state = true := by rw [taken_dev]; exact h.powered
  have hbu : rd (taken 0x0A04 d e s) (Reg.CKU_STATUS_BUSY 1) = 0 :=
    (taken_rd s d e _ (key_ne_authcnt d.ch (by decide))).trans hb
  have hrun (q : Cpl) : cmdCkuScan.run q d e (taken 0x0A04 d e s) =
      waitFor q false .ckuScan (ckuStart .s0 1 (doCkuInitWrite 1 (scanSetup (p32 d 0) (p32 d 4) (taken 0x0A04 d e s)))) :=
    if_neg (by simp [ckuBusy, rdb, hbu])
  obtain ⟨h1, h0, hbusy, hwidth, hpoly, hf⟩ := (scanSetup_ready hm hbu hok.1).scans hm hok.1
  generalize ckuStart .s0 1 (doCkuInitWrite 1 _) = g at *
  have hd : g.dev = s.dev := by rw [hf]; exact taken_dev s d e _
  have hw : g.waits = s.waits := by rw [hf]; exact taken_waits s d e _
  have hwait : Waits 0x0A04 d false .ckuScan s (waitFor (cplOf 0x0A04 d false) false .ckuScan g) := by
    simp [Waits, waitFor, hw]
  exact ⟨_, exec_of_waiting_run rfl rfl h rfl (hrun _) hd hwait, hwait, h1, hbusy, hwidth, hpoly,
    congrArg (fun u : State => { u with waits := g.waits ++ [Waiter.mk (cplOf 0x0A04 d false) false .ckuScan] }) hf,
    h0.trans taken_cku0⟩

theorem ckuScan_busy (h : Runs 0x0A04 d e s) (hb : rd s (Reg.CKU_STATUS_BUSY 1) ≠ 0) :
    EndsAtOnce 0x0A04 d e s (.ckuScan d e) 7 (fun _ => 0) (fun _ => 0) id := by
  refine endsAtOnce_of_run rfl rfl h rfl (fun u hu => ?_) (by simp) (by simp)
  have hc : ckuBusy u 1 = true := by
    simp [ckuBusy, rdb, hu, taken_rd s d e 0x0A04 (key_ne_authcnt d.ch (f := Reg.CKU_STATUS_BUSY 1) (by decide)), hb]
  exact if_pos hc

/-! ### DOMAIN_SELECT (R294, R359) -/

/-- A change of the active domain touches the raster and registers. -/
theorem setActive_frame (n : Nat) (s : State) :
    OnlyRaster [Reg.NTM_CTRL_ACTIVE, Reg.RAS_ERR_ERR, Reg.RAS_STATUS_LOCKST] s (setActive n s) :=
  (OnlyRaster.refl _ s).wr.shiftErr

theorem domainSelect_ends (h : Runs 0x0B02 d e s) :
    EndsAtOnce 0x0B02 d e s (.domainSelect d e) 0 (fun u => regRead u Reg.RAS_ERR_ERR.addr) (fun _ => 0)
      (setActive (p8 d 0)) := by
  have hf := (setActive_frame (p8 d 0) (taken 0x0B02 d e s)).1
  refine endsAtOnce_of_run rfl rfl h rfl (fun _ _ => rfl) ?_ ?_
  · rw [hf]
    exact congrArg Dev.state (taken_dev s d e _)
  · rw [hf]
    exact taken_waits s d e _

/-! ### TTO_ARM (R297, R359) -/

/-- A quantity that neither a register nor the state of an output shows in is kept by a write of TTOn_CTRL. -/
theorem ttoCtrl_keeps {β : Type} (P : State → β) (hw : ∀ f v u, P (wr f v u) = P u) (ho : ∀ n o u, P (setTto n o u) = P u)
    (n : Nat) (en : Bool) (pol dom : Nat) (s : State) : P (ttoCtrl n en pol dom s) = P s := by
  have harm (u : State) : P (ttoArmNow n u) = P u := by
    unfold ttoArmNow
    dsimp only
    rw [when_keeps _ P _ _ (ho n _), hw, hw]
  unfold ttoCtrl
  dsimp only
  split
  · rw [harm, hw, hw]
  · rw [hw, hw, hw]

/-- The output that the parameters name, as they set it. -/
def ttoSet (d : Desc) (s : State) : State :=
  let n := p8 d 0
  s |> wr (Reg.NTM_TTO_START_SH_SEC n) (p16 d 2) |> wr (Reg.NTM_TTO_START_SL_VALUE n) (p32 d 4)
    |> wr (Reg.NTM_TTO_START_NS_VALUE n) (p32 d 8) |> wr (Reg.NTM_TTO_PERIOD_VALUE n) (p32 d 12)
    |> wr (Reg.NTM_TTO_WIDTH_VALUE n) (p32 d 16)
    |> ttoCtrl n (bit (p8 d 1) 0) (p8 d 1 / 2 % 2) (p8 d 1 / 4 % 2)

theorem ttoSet_keeps {β : Type} (P : State → β) (hw : ∀ f v u, P (wr f v u) = P u)
    (ho : ∀ n o u, P (setTto n o u) = P u) (s : State) : P (ttoSet d s) = P s := by
  unfold ttoSet
  dsimp only
  rw [ttoCtrl_keeps P hw ho, hw, hw, hw, hw, hw]

/-- Why the arm was refused: 0 where it was not. -/
def ttoErr (d : Desc) (s : State) : Nat := rd (ttoSet d s) (Reg.NTM_TTO_CTRL_ERR (p8 d 0))

theorem ttoArm_run (q : Cpl) (u : State) : cmdTtoArm.run q d e u =
    if bit (p8 d 1) 0 && ttoErr d u != 0 then complete q 3 0 (ttoErr d u) (ttoSet d u)
    else complete q 0 0 0 (ttoSet d u) := by
  have hp : bits (p8 d 1) 1 1 = p8 d 1 / 2 % 2 := rfl
  have hd : bits (p8 d 1) 2 1 = p8 d 1 / 4 % 2 := rfl
  simp only [cmdTtoArm, hp, hd]
  rfl

theorem ttoArm_ends {status : Nat} {d1 : State → Nat} (h : Runs 0x0B03 d e s)
    (hrun : ∀ u, u = taken 0x0B03 d e s → cmdTtoArm.run (cplOf 0x0B03 d false) d e u =
      complete (cplOf 0x0B03 d false) status 0 (d1 (ttoSet d u)) (ttoSet d u)) :
    EndsAtOnce 0x0B03 d e s (.ttoArm d e) status (fun _ => 0) d1 (ttoSet d) := by
  have hd : (ttoSet d (taken 0x0B03 d e s)).dev = s.dev :=
    (ttoSet_keeps State.dev (fun _ _ _ => rfl) (fun _ _ _ => rfl) _).trans (taken_dev s d e _)
  have hw : (ttoSet d (taken 0x0B03 d e s)).waits = s.waits :=
    (ttoSet_keeps State.waits (fun _ _ _ => rfl) (fun _ _ _ => rfl) _).trans (taken_waits s d e _)
  exact endsAtOnce_of_run rfl rfl h rfl hrun (congrArg Dev.state hd) hw

theorem ttoArm_arms (h : Runs 0x0B03 d e s) (hok : bit (p8 d 1) 0 = false ∨ ttoErr d (taken 0x0B03 d e s) = 0) :
    EndsAtOnce 0x0B03 d e s (.ttoArm d e) 0 (fun _ => 0) (fun _ => 0) (ttoSet d) :=
  ttoArm_ends h fun u hu => by
    have hc : (bit (p8 d 1) 0 && ttoErr d u != 0) = false := by rcases hok with hok | hok <;> simp [hu, hok]
    rw [ttoArm_run, hc]
    rfl

theorem ttoArm_refused (h : Runs 0x0B03 d e s) (hen : bit (p8 d 1) 0 = true) (herr : ttoErr d (taken 0x0B03 d e s) ≠ 0) :
    EndsAtOnce 0x0B03 d e s (.ttoArm d e) 3 (fun _ => 0) (fun t => rd t (Reg.NTM_TTO_CTRL_ERR (p8 d 0))) (ttoSet d) :=
  ttoArm_ends h fun u hu => by
    have hc : (bit (p8 d 1) 0 && ttoErr d u != 0) = true := by simp [hu, hen, herr]
    rw [ttoArm_run, if_pos hc]
    rfl

end

/-- Settles O45: each command by what stands when it is taken, and by what its run leaves. -/
theorem diagnosisAndTimeCommands : Obligations.DiagnosisAndTimeCommands := fun _ _ _ =>
  ⟨fun h => ⟨calRound_locked h, calRound_starts h, fun _ => calRound_joins h⟩,
    fun h => ⟨wearPass_off h, wearPass_starts h, fun _ => wearPass_joins h⟩, calResetLane_starts,
    fun h => ⟨dumpClear_none h, fun _ => dumpClear_clears h⟩, fun h => ⟨ckuScan_starts h, ckuScan_busy h⟩,
    domainSelect_ends, fun h => ⟨ttoArm_arms h, ttoArm_refused h⟩⟩

end Sys2Proof.Machine
end

section
/-! PROOF. The registers of a lane: which fields lie apart, and the two maps that follow a lane -/

namespace Sys2Proof.Machine

/-! ### The keys of the fields (chapter 6, TLK.LNn) -/

/-- The key of a field of lane `n` by its place `c` in the lane's block: 32 for each byte, and its lowest bit. -/
def laneKey (n c : Nat) : Nat := 1024 * n + (0x400A0100 * 32 + c)

/-- The register blocks of the lanes lie 0x20 bytes apart. -/
theorem key_ofLane {a c lo w r : Nat} (n : Nat) (h : a * 32 + lo = 0x400A0100 * 32 + c := by rfl) :
    Fld.key ⟨a + 0x20 * n, lo, w, r⟩ = laneKey n c := by
  simp only [Fld.key, laneKey]
  omega

@[simp] theorem laneKey_inj {m n c e : Nat} (hc : c < 1024) (he : e < 1024) :
    laneKey m c = laneKey n e ↔ m = n ∧ c = e := by
  simp only [laneKey]
  omega

/-- The fields of TLK before the lanes, and those of lower blocks, lie apart from them. -/
@[simp] theorem laneKey_ne_low {n c k : Nat} (h : k < 0x400A0100 * 32) : laneKey n c ≠ k := by
  simp only [laneKey]
  omega

@[simp] theorem low_ne_laneKey {n c k : Nat} (h : k < 0x400A0100 * 32) : k ≠ laneKey n c := (laneKey_ne_low h).symm

@[simp] theorem key_lanePrbs (n : Nat) : (Reg.TLK_LN_CTRL_PRBS n).key = laneKey n (0x00 * 32 + 10) := key_ofLane n
@[simp] theorem key_laneLb (n : Nat) : (Reg.TLK_LN_CTRL_LB n).key = laneKey n (0x00 * 32 + 8) := key_ofLane n
@[simp] theorem key_laneAutoalign (n : Nat) : (Reg.TLK_LN_CTRL_AUTOALIGN n).key = laneKey n (0x00 * 32 + 2) := key_ofLane n
@[simp] theorem key_laneRxOn (n : Nat) : (Reg.TLK_LN_CTRL_RX_ON n).key = laneKey n (0x00 * 32 + 1) := key_ofLane n
@[simp] theorem key_laneTxOn (n : Nat) : (Reg.TLK_LN_CTRL_TX_ON n).key = laneKey n (0x00 * 32 + 0) := key_ofLane n
@[simp] theorem key_laneInserv (n : Nat) : (Reg.TLK_LN_STATUS_INSERV n).key = laneKey n (0x0C * 32 + 8) := key_ofLane n
@[simp] theorem key_laneSigdet (n : Nat) : (Reg.TLK_LN_STATUS_SIGDET n).key = laneKey n (0x0C * 32 + 7) := key_ofLane n
@[simp] theorem key_laneLink (n : Nat) : (Reg.TLK_LN_STATUS_LINK n).key = laneKey n (0x0C * 32 + 5) := key_ofLane n
@[simp] theorem key_laneRxst (n : Nat) : (Reg.TLK_LN_STATUS_RXST n).key = laneKey n (0x0C * 32 + 3) := key_ofLane n
@[simp] theorem key_laneTxst (n : Nat) : (Reg.TLK_LN_STATUS_TXST n).key = laneKey n (0x0C * 32 + 1) := key_ofLane n
@[simp] theorem key_laneFelb (n : Nat) : (Reg.TLK_LN_STATUS_FELB n).key = laneKey n (0x0C * 32 + 0) := key_ofLane n
@[simp] theorem key_laneDisp (n : Nat) : (Reg.TLK_LN_ERR_DISP n).key = laneKey n (0x10 * 32 + 16) := key_ofLane n
@[simp] theorem key_laneCv (n : Nat) : (Reg.TLK_LN_ERR_CV n).key = laneKey n (0x10 * 32 + 0) := key_ofLane n
@[simp] theorem key_laneTrains (n : Nat) : (Reg.TLK_LN_LOSS_TRAINS n).key = laneKey n (0x14 * 32 + 16) := key_ofLane n
@[simp] theorem key_laneSyncloss (n : Nat) : (Reg.TLK_LN_LOSS_SYNCLOSS n).key = laneKey n (0x14 * 32 + 0) := key_ofLane n
@[simp] theorem key_laneErrbits (n : Nat) : (Reg.TLK_LN_PRBS_ERRBITS n).key = laneKey n (0x18 * 32 + 0) := key_ofLane n
@[simp] theorem key_laneIdRev (n : Nat) : (Reg.TLK_LN_ID_REV n).key = laneKey n (0x1C * 32 + 24) := key_ofLane n
@[simp] theorem key_laneIdLane (n : Nat) : (Reg.TLK_LN_ID_LANE n).key = laneKey n (0x1C * 32 + 16) := key_ofLane n
@[simp] theorem key_laneIdType (n : Nat) : (Reg.TLK_LN_ID_TYPE n).key = laneKey n (0x1C * 32 + 0) := key_ofLane n
@[simp] theorem key_upmapLo : Reg.TLK_UPMAP_LO_MAP.key = 0x400A0010 * 32 := rfl
@[simp] theorem key_upmapHi : Reg.TLK_UPMAP_HI_MAP.key = 0x400A0014 * 32 := rfl
@[simp] theorem key_syncmapLo : Reg.TLK_SYNCMAP_LO_MAP.key = 0x400A0018 * 32 := rfl
@[simp] theorem key_syncmapHi : Reg.TLK_SYNCMAP_HI_MAP.key = 0x400A001C * 32 := rfl
@[simp] theorem key_errlim : Reg.TLK_ERRLIM_LIMIT.key = 0x400A000C * 32 := rfl
@[simp] theorem key_pend1 : (Reg.ITC_PEND_MAP 1).key = 0x40020204 * 32 := rfl

/-! ### Their widths -/

@[simp] theorem width_lanePrbs (n : Nat) : (Reg.TLK_LN_CTRL_PRBS n).width = 2 := rfl
@[simp] theorem width_laneLb (n : Nat) : (Reg.TLK_LN_CTRL_LB n).width = 2 := rfl
@[simp] theorem width_laneRxOn (n : Nat) : (Reg.TLK_LN_CTRL_RX_ON n).width = 1 := rfl
@[simp] theorem width_laneTxOn (n : Nat) : (Reg.TLK_LN_CTRL_TX_ON n).width = 1 := rfl
@[simp] theorem width_laneSigdet (n : Nat) : (Reg.TLK_LN_STATUS_SIGDET n).width = 1 := rfl
@[simp] theorem width_laneLink (n : Nat) : (Reg.TLK_LN_STATUS_LINK n).width = 2 := rfl
@[simp] theorem width_laneRxst (n : Nat) : (Reg.TLK_LN_STATUS_RXST n).width = 2 := rfl
@[simp] theorem width_laneTxst (n : Nat) : (Reg.TLK_LN_STATUS_TXST n).width = 2 := rfl
@[simp] theorem width_laneFelb (n : Nat) : (Reg.TLK_LN_STATUS_FELB n).width = 1 := rfl
@[simp] theorem width_laneDisp (n : Nat) : (Reg.TLK_LN_ERR_DISP n).width = 16 := rfl
@[simp] theorem width_laneCv (n : Nat) : (Reg.TLK_LN_ERR_CV n).width = 16 := rfl
@[simp] theorem width_laneTrains (n : Nat) : (Reg.TLK_LN_LOSS_TRAINS n).width = 16 := rfl
@[simp] theorem width_laneSyncloss (n : Nat) : (Reg.TLK_LN_LOSS_SYNCLOSS n).width = 16 := rfl
@[simp] theorem width_laneErrbits (n : Nat) : (Reg.TLK_LN_PRBS_ERRBITS n).width = 32 := rfl
@[simp] theorem width_laneIdRev (n : Nat) : (Reg.TLK_LN_ID_REV n).width = 8 := rfl
@[simp] theorem width_laneIdLane (n : Nat) : (Reg.TLK_LN_ID_LANE n).width = 8 := rfl
@[simp] theorem width_laneIdType (n : Nat) : (Reg.TLK_LN_ID_TYPE n).width = 16 := rfl

/-! ### A pair of 32-bit maps -/

section
variable {lo hi : Fld} {k : Nat} {b : Bool} {s t : State} {fs : List Fld}

theorem bit_putBit (v i : Nat) (b : Bool) : bit (putBit v i b) i = b := by
  cases b with
  | true => exact bit_setBit v i
  | false =>
    change bit (clearBit v i) i = false
    unfold bit clearBit
    split
    · next h =>
      obtain ⟨x, rfl⟩ := Nat.exists_eq_add_of_le (Nat.ge_two_pow_of_testBit h)
      rw [Nat.testBit_two_pow_add_eq] at h
      simpa using h
    · next h => simpa using h

theorem rd_setMapBit_ne {g : Fld} (hl : g.key ≠ lo.key) (hh : g.key ≠ hi.key) :
    rd (setMapBit lo hi k b s) g = rd s g := by
  unfold setMapBit
  split
  · exact rd_wr_ne s lo g _ hl
  · split
    · exact rd_wr_ne s hi g _ hh
    · rfl

/-- The bit of lane `k` reads as it was set. -/
theorem mapBit_setMapBit (hk : k < 64) (hl : lo.width = 32) (hh : hi.width = 32) :
    mapBit (setMapBit lo hi k b s) lo hi k = b := by
  have hbit (v i : Nat) (hi : i < 32) : bit (putBit v i b % 2 ^ 32) i = b := by
    rw [bit, Nat.testBit_mod_two_pow, decide_eq_true hi, Bool.true_and]
    exact bit_putBit v i b
  unfold mapBit setMapBit
  split
  · next h => rw [rd_wr_same, hl, hbit _ _ h]
  · rw [rd_wr_same, hh, hbit _ _ (by omega)]

theorem setMapBit_eq : setMapBit lo hi k b s = { s with regs := (setMapBit lo hi k b s).regs } := by
  unfold setMapBit
  split
  · rfl
  · split <;> rfl

theorem RegsBut.setMapBit (h : RegsBut fs s t) (hl : lo ∈ fs) (hh : hi ∈ fs) :
    RegsBut fs s (Machine.setMapBit lo hi k b t) :=
  fun g hg => (rd_setMapBit_ne (hg lo hl) (hg hi hh)).trans (h g hg)

end

end Sys2Proof.Machine
end

section
/-! PROOF. The operations on lanes: what each leaves alone and what it shows -/

namespace Sys2Proof.Machine

/-- LINK of a lane and the map that follows it. -/
@[simp] def linkFields (n : Nat) : List Fld := [Reg.TLK_LN_STATUS_LINK n, Reg.TLK_UPMAP_LO_MAP, Reg.TLK_UPMAP_HI_MAP]

/-- RXST of a lane and the map that follows it. -/
@[simp] def rxstFields (n : Nat) : List Fld := [Reg.TLK_LN_STATUS_RXST n, Reg.TLK_SYNCMAP_LO_MAP, Reg.TLK_SYNCMAP_HI_MAP]

/-- Only register fields of `fs`, the lanes, the wires and the messages on their way differ. -/
structure OnLanes (fs : List Fld) (s t : State) : Prop where
  eq : t = { s with regs := t.regs, lanes := t.lanes, tx := t.tx, inbox := t.inbox }
  regs : RegsBut fs s t

section
variable {fs : List Fld} {s t : State} {n v : Nat}

theorem OnLanes.refl (fs : List Fld) (s : State) : OnLanes fs s s := ⟨rfl, RegsBut.refl s fs⟩

theorem OnLanes.wr {f : Fld} {v : Nat} (h : OnLanes fs s t) (hf : f ∈ fs := by simp) : OnLanes fs s (wr f v t) :=
  ⟨congrArg (fun u : State => { u with regs := (Machine.wr f v t).regs }) h.eq, h.regs.wr hf⟩

theorem OnLanes.satInc {f : Fld} {k : Nat} (h : OnLanes fs s t) (hf : f ∈ fs := by simp) :
    OnLanes fs s (satInc f k t) := h.wr hf

theorem OnLanes.wrapInc {f : Fld} {k : Nat} (h : OnLanes fs s t) (hf : f ∈ fs := by simp) :
    OnLanes fs s (wrapInc f k t) := h.wr hf

theorem OnLanes.ite {c : Prop} [Decidable c] {u : State} (ht : OnLanes fs s t) (hu : OnLanes fs s u) :
    OnLanes fs s (if c then t else u) := by split <;> assumption

theorem OnLanes.when {c : Bool} {f : State → State} (h : OnLanes fs s t) (hf : ∀ {u}, OnLanes fs s u → OnLanes fs s (f u)) :
    OnLanes fs s (when c f t) := .ite (hf h) h

theorem OnLanes.setMapBit {lo hi : Fld} {k : Nat} {b : Bool} (h : OnLanes fs s t) (hl : lo ∈ fs) (hh : hi ∈ fs) :
    OnLanes fs s (setMapBit lo hi k b t) := .ite (h.wr hl) (.ite (h.wr hh) h)

theorem OnLanes.fire {k : Nat} (h : OnLanes fs s t) (hf : Reg.ITC_PEND_MAP (k / 32) ∈ fs := by simp) :
    OnLanes fs s (fire k t) := .ite (h.wr hf) h

theorem OnLanes.modLane {f : Lane → Lane} (h : OnLanes fs s t) : OnLanes fs s (modLane n f t) :=
  ⟨congrArg (fun u : State => { u with lanes := (Machine.modLane n f t).lanes }) h.eq, h.regs⟩

theorem OnLanes.send {x : Tx} (h : OnLanes fs s t) : OnLanes fs s (send x t) :=
  ⟨congrArg (fun u : State => { u with tx := (Machine.send x t).tx }) h.eq, h.regs⟩

theorem OnLanes.withInbox (h : OnLanes fs s t) (l : List FMsg) : OnLanes fs s { t with inbox := l } :=
  ⟨congrArg (fun u : State => { u with inbox := l }) h.eq, h.regs⟩

theorem OnLanes.raise {k d : Nat} (h : OnLanes fs s t) : OnLanes fs s (raise k d t) := by
  unfold Machine.raise Machine.raiseExt
  split
  · exact h.withInbox _
  · exact h

theorem OnLanes.setLink (h : OnLanes fs s t) (hf : ∀ f ∈ linkFields n, f ∈ fs := by simp) :
    OnLanes fs s (setLink n v t) :=
  .setMapBit (h.wr (hf _ (by simp))) (hf _ (by simp)) (hf _ (by simp))

theorem OnLanes.setRxst (h : OnLanes fs s t) (hf : ∀ f ∈ rxstFields n, f ∈ fs := by simp) :
    OnLanes fs s (setRxst n v t) :=
  .setMapBit (h.wr (hf _ (by simp))) (hf _ (by simp)) (hf _ (by simp))

theorem OnLanes.setTxst (h : OnLanes fs s t) (hf : Reg.TLK_LN_STATUS_TXST n ∈ fs := by simp) :
    OnLanes fs s (setTxst n v t) := h.wr hf

theorem OnLanes.endTraining (h : OnLanes fs s t) (hf : ∀ f ∈ linkFields n, f ∈ fs := by simp) :
    OnLanes fs s (endTraining n v t) := h.modLane.setLink hf

theorem OnLanes.sendTsa {r b : Bool} (h : OnLanes fs s t) : OnLanes fs s (sendTsa n r b t) := h.send

/-- With the lanes, the wires and the messages as they were, only registers differ. -/
theorem OnLanes.onlyRegs (h : OnLanes fs s t) (hl : t.lanes = s.lanes) (ht : t.tx = s.tx) (hi : t.inbox = s.inbox) :
    OnlyRegs fs s t := ⟨h.eq.trans (by rw [hl, ht, hi]), h.regs⟩

end

/-! ### What each operation shows -/

section
variable {n v : Nat} {s : State} {g : Fld}

theorem rd_when (c : Bool) (f : State → State) : rd (when c f s) g = if c then rd (f s) g else rd s g := by cases c <;> rfl
@[simp] theorem when_lanes (c : Bool) (f : State → State) : (when c f s).lanes = if c then (f s).lanes else s.lanes := by
  cases c <;> rfl
@[simp] theorem when_tx (c : Bool) (f : State → State) : (when c f s).tx = if c then (f s).tx else s.tx := by
  cases c <;> rfl
@[simp] theorem when_inbox (c : Bool) (f : State → State) : (when c f s).inbox = if c then (f s).inbox else s.inbox := by
  cases c <;> rfl

theorem rd_setTxst : rd (setTxst n v s) g = if g.key = (Reg.TLK_LN_STATUS_TXST n).key then v % 4 else rd s g :=
  rd_wr s _ g v

theorem rd_setLink : rd (setLink n v s) g =
    if g.key = Reg.TLK_UPMAP_LO_MAP.key ∨ g.key = Reg.TLK_UPMAP_HI_MAP.key then
      rd (setMapBit Reg.TLK_UPMAP_LO_MAP Reg.TLK_UPMAP_HI_MAP n (v == 2) (wr (Reg.TLK_LN_STATUS_LINK n) v s)) g
    else if g.key = (Reg.TLK_LN_STATUS_LINK n).key then v % 4 else rd s g := by
  split
  · rfl
  · next h => exact (rd_setMapBit_ne (fun e => h (Or.inl e)) (fun e => h (Or.inr e))).trans (rd_wr s _ g v)

theorem rd_setRxst : rd (setRxst n v s) g =
    if g.key = Reg.TLK_SYNCMAP_LO_MAP.key ∨ g.key = Reg.TLK_SYNCMAP_HI_MAP.key then
      rd (setMapBit Reg.TLK_SYNCMAP_LO_MAP Reg.TLK_SYNCMAP_HI_MAP n (v == 2) (wr (Reg.TLK_LN_STATUS_RXST n) v s)) g
    else if g.key = (Reg.TLK_LN_STATUS_RXST n).key then v % 4 else rd s g := by
  split
  · rfl
  · next h => exact (rd_setMapBit_ne (fun e => h (Or.inl e)) (fun e => h (Or.inr e))).trans (rd_wr s _ g v)

@[simp] theorem rd_modLane (f : Lane → Lane) : rd (modLane n f s) g = rd s g := rfl

@[simp] theorem rd_sendTsa (r b : Bool) : rd (sendTsa n r b s) g = rd s g := rfl

theorem laneOf_modLane (f : Lane → Lane) (m : Nat) :
    laneOf (modLane n f s) m = if m = n then f (laneOf s n) else laneOf s m := SMap.getD_put ..

/-- The state of the lanes beside the registers. -/
theorem laneOf_congr {t : State} (h : t.lanes = s.lanes) (m : Nat) : laneOf t m = laneOf s m := by rw [laneOf, h]; rfl

@[simp] theorem setLink_lanes : (setLink n v s).lanes = s.lanes := by simp [setLink]
@[simp] theorem setLink_tx : (setLink n v s).tx = s.tx := by simp [setLink]
@[simp] theorem setLink_inbox : (setLink n v s).inbox = s.inbox := by simp [setLink]
@[simp] theorem setRxst_lanes : (setRxst n v s).lanes = s.lanes := by simp [setRxst]
@[simp] theorem setRxst_tx : (setRxst n v s).tx = s.tx := by simp [setRxst]
@[simp] theorem setRxst_inbox : (setRxst n v s).inbox = s.inbox := by simp [setRxst]
@[simp] theorem setTxst_lanes : (setTxst n v s).lanes = s.lanes := rfl
@[simp] theorem setTxst_tx : (setTxst n v s).tx = s.tx := rfl
@[simp] theorem setTxst_inbox : (setTxst n v s).inbox = s.inbox := rfl
@[simp] theorem modLane_tx (f : Lane → Lane) : (modLane n f s).tx = s.tx := rfl
@[simp] theorem modLane_inbox (f : Lane → Lane) : (modLane n f s).inbox = s.inbox := rfl
@[simp] theorem sendTsa_lanes (r b : Bool) : (sendTsa n r b s).lanes = s.lanes := rfl
@[simp] theorem sendTsa_inbox (r b : Bool) : (sendTsa n r b s).inbox = s.inbox := rfl

@[simp] theorem laneOf_when (c : Bool) (f : State → State) (m : Nat) :
    laneOf (when c f s) m = if c then laneOf (f s) m else laneOf s m := by cases c <;> rfl
@[simp] theorem laneOf_wr (f : Fld) (m : Nat) : laneOf (wr f v s) m = laneOf s m := rfl
@[simp] theorem laneOf_setTxst (m : Nat) : laneOf (setTxst n v s) m = laneOf s m := rfl
@[simp] theorem laneOf_setRxst (m : Nat) : laneOf (setRxst n v s) m = laneOf s m := laneOf_congr setRxst_lanes m
@[simp] theorem laneOf_setLink (m : Nat) : laneOf (setLink n v s) m = laneOf s m := laneOf_congr setLink_lanes m
@[simp] theorem laneOf_sendTsa (r b : Bool) (m : Nat) : laneOf (sendTsa n r b s) m = laneOf s m := rfl
theorem laneOf_endTraining (m : Nat) : laneOf (endTraining n v s) m =
    if m = n then { laneOf s n with training := none } else laneOf s m :=
  (laneOf_setLink m).trans (laneOf_modLane _ m)

@[simp] theorem endTraining_tx : (endTraining n v s).tx = s.tx := by simp [endTraining]
@[simp] theorem endTraining_inbox : (endTraining n v s).inbox = s.inbox := by simp [endTraining]

/-- A pair of maps reads as its two registers do. -/
theorem mapBit_congr {t : State} {lo hi : Fld} {k : Nat} (hl : rd t lo = rd s lo) (hh : rd t hi = rd s hi) :
    mapBit t lo hi k = mapBit s lo hi k := by rw [mapBit, mapBit, hl, hh]

/-- UPMAP shows the lanes that are up. -/
theorem mapBit_setLink (hn : n < 64) :
    mapBit (setLink n v s) Reg.TLK_UPMAP_LO_MAP Reg.TLK_UPMAP_HI_MAP n = (v == 2) := mapBit_setMapBit hn rfl rfl

/-- SYNCMAP shows the lanes in sync. -/
theorem mapBit_setRxst (hn : n < 64) :
    mapBit (setRxst n v s) Reg.TLK_SYNCMAP_LO_MAP Reg.TLK_SYNCMAP_HI_MAP n = (v == 2) := mapBit_setMapBit hn rfl rfl

/-- A message whose detail is a lane. -/
theorem raise_lane {source kind : Nat} (hn : n < 66) (h : (faultRow source).map FaultRow.kind = some kind) :
    raise source n s = { s with inbox := s.inbox ++ [⟨source, kind, n, none⟩] } := by
  obtain ⟨r, hr, rfl⟩ := Option.map_eq_some_iff.1 h
  rw [raise_known s hr, Nat.mod_eq_of_lt (by omega)]

/-- LANE_CFG (R201, R209). -/
theorem laneCfg_eq (hn : n < 66) : laneCfg n s = { s with inbox := s.inbox ++ [⟨0x0B5, 0x2A, n, none⟩] } :=
  raise_lane hn (by decide)

end

/-! ### Both directions settle (R207, R210) -/

section
variable {n : Nat} {s t : State} {fs : List Fld}

/-- Both directions take a state of their own: TEST where a loopback or a pattern is selected. -/
theorem settleDirs_eq (n : Nat) (s : State) : ∃ tx rx, settleDirs n s = setRxst n rx (setTxst n tx s) ∧
    (laneTesting s n = true → tx = 3 ∧ rx = 3) := by
  unfold settleDirs
  split
  · exact ⟨3, 3, rfl, fun _ => ⟨rfl, rfl⟩⟩
  · next h => exact ⟨_, _, rfl, fun ht => absurd ht h⟩

/-- The fields that settling the directions may write. -/
@[simp] def dirFields (n : Nat) : List Fld := Reg.TLK_LN_STATUS_TXST n :: rxstFields n

theorem OnLanes.settleDirs (h : OnLanes fs s t) (hf : ∀ f ∈ dirFields n, f ∈ fs := by simp) :
    OnLanes fs s (settleDirs n t) := by
  obtain ⟨tx, rx, he, -⟩ := settleDirs_eq n t
  rw [he]
  exact (h.setTxst (hf _ (by simp))).setRxst (fun f hm => hf f (List.mem_cons_of_mem _ hm))

theorem rd_settleDirs_ne {g : Fld} (hf : ∀ f ∈ dirFields n, g.key ≠ f.key) : rd (settleDirs n s) g = rd s g :=
  (OnLanes.settleDirs (OnLanes.refl (dirFields n) s)).regs g hf

@[simp] theorem settleDirs_lanes : (settleDirs n s).lanes = s.lanes := by
  obtain ⟨tx, rx, he, -⟩ := settleDirs_eq n s
  simp [he]

@[simp] theorem settleDirs_tx : (settleDirs n s).tx = s.tx := by
  obtain ⟨tx, rx, he, -⟩ := settleDirs_eq n s
  simp [he]

@[simp] theorem settleDirs_inbox : (settleDirs n s).inbox = s.inbox := by
  obtain ⟨tx, rx, he, -⟩ := settleDirs_eq n s
  simp [he]

@[simp] theorem laneOf_settleDirs (m : Nat) : laneOf (settleDirs n s) m = laneOf s m := laneOf_congr settleDirs_lanes m

/-- A lane with a loopback or a pattern selected is in TEST both ways. -/
theorem settleDirs_testing (h : laneTesting s n = true) : rd (settleDirs n s) (Reg.TLK_LN_STATUS_TXST n) = 3 ∧
    rd (settleDirs n s) (Reg.TLK_LN_STATUS_RXST n) = 3 := by
  obtain ⟨tx, rx, he, ht⟩ := settleDirs_eq n s
  obtain ⟨rfl, rfl⟩ := ht h
  simp [he, rd_setRxst, rd_setTxst]

end

end Sys2Proof.Machine
end

section
/-! PROOF. Training sets (R198) -/

namespace Sys2Proof.Machine

/-- What a training set carries: CHK over its first 6 bytes is one byte. -/
theorem trainChk_lt (b : Bytes) : trainChk b < 256 := by
  have h : ∀ (l : Bytes) a, a < 2 ^ 8 → l.foldl (fun a x => a ^^^ x.toNat) a < 2 ^ 8 := by
    intro l
    induction l with
    | nil => intro a ha; exact ha
    | cons x l ih => intro a ha; exact ih _ (Nat.xor_lt_two_pow ha x.isLt)
  exact h _ 0 (by decide)

/-- Six bytes and their CHK make a good set. -/
theorem trainSetOk_chk {d : Nat} {b : Bytes} (hl : b.length = 6) (hd : byteAt b 0 = d) :
    trainSetOk d (b ++ leBytes 1 (trainChk b)) false = true := by
  have h0 : byteAt (b ++ leBytes 1 (trainChk b)) 0 = d := by
    rw [← hd]
    simp [byteAt, hl]
  have h6 : byteAt (b ++ leBytes 1 (trainChk b)) 6 = trainChk b := by
    simp [byteAt, hl, leBytes, Nat.mod_eq_of_lt (trainChk_lt b)]
  have hc : trainChk (b ++ leBytes 1 (trainChk b)) = trainChk b := by
    rw [trainChk, trainChk, List.take_append_of_le_length (by omega)]
  simp [trainSetOk, h0, h6, hc, hl]

theorem byteAt_append_left (b c : Bytes) {i : Nat} (h : i < b.length) : byteAt (b ++ c) i = byteAt b i := by
  simp [byteAt, List.getElem?_append_left h]

/-- TSA is a good set that names its lane and carries READY and FELB (R198, R199). -/
theorem sendTsa_sends {n : Nat} (r f : Bool) (s : State) (hn : n < 66) :
    ∃ b, sendTsa n r f s = { s with tx := s.tx ++ [.train n 0x4A b] } ∧ trainSetOk 0x4A b false = true ∧
      byteAt b 1 = n ∧ bits (byteAt b 2) 1 2 = b2n r + 2 * b2n f := by
  have hp : tsaPort s n < 2 := by
    unfold tsaPort b2n
    split <;> decide
  refine ⟨_, rfl, trainSetOk_chk rfl rfl, ?_, ?_⟩
  · rw [byteAt_append_left _ _ (by simp)]
    simp only [byteAt, List.getElem?_cons_succ, List.getElem?_cons_zero, Option.getD_some, BitVec.toNat_ofNat]
    omega
  · rw [byteAt_append_left _ _ (by simp)]
    simp only [byteAt, List.getElem?_cons_succ, List.getElem?_cons_zero, Option.getD_some, BitVec.toNat_ofNat, bits]
    have hb (b : Bool) : b2n b < 2 := by cases b <;> decide
    have h1 := hb r
    have h2 := hb f
    have h3 := hb (decide (64 ≤ n))
    omega

end Sys2Proof.Machine
end

section
/-! PROOF. Sync, sleep and test modes of a lane -/

namespace Sys2Proof.Machine

/-- The maps of the lanes in sync and of the lanes up. -/
@[simp] def laneMaps : List Fld :=
  [Reg.TLK_SYNCMAP_LO_MAP, Reg.TLK_SYNCMAP_HI_MAP, Reg.TLK_UPMAP_LO_MAP, Reg.TLK_UPMAP_HI_MAP]

/-! ### A loopback takes a value (R210, R211) -/

section
variable {s t : State} {n lb : Nat} {fs : List Fld}

/-- Far-end loopback ends with electrical idle: the lane is down and nothing is asked of the far end. -/
def farEndLeft (n : Nat) (s : State) : State :=
  s |> modLane n (fun l => { l with felbReq := false }) |> wr (Reg.TLK_LN_STATUS_FELB n) 0 |> setLink n 0

/-- Far-end loopback is asked for with TSA. -/
def farEndAsked (n : Nat) (s : State) : State :=
  s |> modLane n (fun l => { l with felbReq := true }) |> sendTsa n false true

theorem setLoopback_eq (n lb : Nat) (s : State) : setLoopback n lb s =
    when (lb == 3 && rd s (Reg.TLK_LN_CTRL_LB n) != 3 && linkOf s n == 2) (farEndAsked n)
      (settleDirs n (when (rd s (Reg.TLK_LN_CTRL_LB n) == 3 && lb != 3) (farEndLeft n)
        (wr (Reg.TLK_LN_CTRL_LB n) lb s))) := rfl

/-- The fields that a loopback may write. -/
@[simp] def loopbackFields (n : Nat) : List Fld :=
  [Reg.TLK_LN_CTRL_LB n, Reg.TLK_LN_STATUS_TXST n, Reg.TLK_LN_STATUS_RXST n, Reg.TLK_LN_STATUS_FELB n,
    Reg.TLK_LN_STATUS_LINK n] ++ laneMaps

theorem OnLanes.farEndLeft (h : OnLanes (loopbackFields n) s t) : OnLanes (loopbackFields n) s (farEndLeft n t) :=
  h.modLane.wr.setLink

theorem setLoopback_frame (n lb : Nat) (s : State) : OnLanes (loopbackFields n) s (setLoopback n lb s) := by
  rw [setLoopback_eq]
  exact ((OnLanes.refl _ s).wr.when (·.farEndLeft)).settleDirs.when (·.modLane.sendTsa)

theorem setLoopback_inbox : (setLoopback n lb s).inbox = s.inbox := by
  simp [setLoopback_eq, farEndAsked, farEndLeft]

theorem setLoopback_otherLane {m : Nat} (h : m ≠ n) : laneOf (setLoopback n lb s) m = laneOf s m := by
  simp [setLoopback_eq, farEndAsked, farEndLeft, laneOf_modLane, h]

/-- Asking the far end touches no register. -/
theorem rd_askWhen (c : Bool) (g : Fld) : rd (when c (farEndAsked n) s) g = rd s g := by cases c <;> rfl

/-- LB takes the value written: neither the far end's side nor the settling of the directions writes it. -/
theorem rd_setLoopback_lb (h : lb < 4) : rd (setLoopback n lb s) (Reg.TLK_LN_CTRL_LB n) = lb := by
  rw [setLoopback_eq, rd_askWhen, rd_settleDirs_ne (by simp), rd_when]
  simp [farEndLeft, rd_setLink, rd_wr, Nat.mod_eq_of_lt h]

/-- A lane in loopback is in TEST both ways. -/
theorem setLoopback_testing (h : lb < 4) (h0 : lb ≠ 0) :
    rd (setLoopback n lb s) (Reg.TLK_LN_STATUS_TXST n) = 3 ∧ rd (setLoopback n lb s) (Reg.TLK_LN_STATUS_RXST n) = 3 := by
  rw [setLoopback_eq, rd_askWhen, rd_askWhen]
  refine settleDirs_testing ?_
  have hl : rd (when (rd s (Reg.TLK_LN_CTRL_LB n) == 3 && lb != 3) (farEndLeft n) (wr (Reg.TLK_LN_CTRL_LB n) lb s))
      (Reg.TLK_LN_CTRL_LB n) = lb := by
    simp [rd_when, farEndLeft, rd_setLink, rd_wr, Nat.mod_eq_of_lt h]
  simp [laneTesting, rdb, hl, h0]

theorem setLoopback_leaves (ho : rd s (Reg.TLK_LN_CTRL_LB n) = 3) (hl : lb ≠ 3) :
    linkOf (setLoopback n lb s) n = 0 ∧ rd (setLoopback n lb s) (Reg.TLK_LN_STATUS_FELB n) = 0 ∧
      (setLoopback n lb s).tx = s.tx := by
  have hb : (lb == 3) = false := by simpa using hl
  have he : setLoopback n lb s = settleDirs n (farEndLeft n (wr (Reg.TLK_LN_CTRL_LB n) lb s)) := by
    simp [setLoopback_eq, bne, ho, hb]
  rw [he, linkOf, rd_settleDirs_ne (by simp), rd_settleDirs_ne (by simp)]
  simp [farEndLeft, rd_setLink]

theorem setLoopback_asks (ho : rd s (Reg.TLK_LN_CTRL_LB n) ≠ 3) (hu : linkOf s n = 2) (hn : n < 66) :
    (laneOf (setLoopback n 3 s) n).felbReq = true ∧
      ∃ b, (setLoopback n 3 s).tx = s.tx ++ [.train n 0x4A b] ∧ trainSetOk 0x4A b false = true ∧
        bits (byteAt b 2) 1 2 = 2 := by
  have hb : (rd s (Reg.TLK_LN_CTRL_LB n) == 3) = false := by simpa using ho
  have he : setLoopback n 3 s = farEndAsked n (settleDirs n (wr (Reg.TLK_LN_CTRL_LB n) 3 s)) := by
    simp [setLoopback_eq, bne, hb, hu]
  obtain ⟨b, hs, hok, -, hb⟩ := sendTsa_sends false true
    (modLane n (fun l => { l with felbReq := true }) (settleDirs n (wr (Reg.TLK_LN_CTRL_LB n) 3 s))) hn
  refine ⟨by simp [he, farEndAsked, laneOf_modLane], b, ?_, hok, hb⟩
  rw [he, farEndAsked, hs]
  simp

/-- A loopback that is neither far-end loopback nor follows it touches the lane's own directions only. -/
theorem setLoopback_near (ho : rd s (Reg.TLK_LN_CTRL_LB n) ≠ 3) (hl : lb ≠ 3) :
    setLoopback n lb s = settleDirs n (wr (Reg.TLK_LN_CTRL_LB n) lb s) := by
  have hb : (lb == 3) = false := by simpa using hl
  have hc : (rd s (Reg.TLK_LN_CTRL_LB n) == 3) = false := by simpa using ho
  simp [setLoopback_eq, hb, hc]

end

section
variable {s : State} {n : Nat} (hm : mainOn s.dev.state = true) (he : laneExists s n = true)
include hm he

/-! ### Sync and its loss (R194, R196, R213) -/

theorem rxSyncAcquire_syncs (hr : rd s (Reg.TLK_LN_STATUS_RXST n) = 1) (ha : rd s (Reg.TLK_LN_CTRL_AUTOALIGN n) = 1) :
    ∃ t, exec (.rxSyncAcquire n) s = .next t ∧ rd t (Reg.TLK_LN_STATUS_RXST n) = 2 ∧
      rd t (Reg.TLK_LN_STATUS_SIGDET n) = 1 ∧
      (n < 64 → mapBit t Reg.TLK_SYNCMAP_LO_MAP Reg.TLK_SYNCMAP_HI_MAP n = true) ∧
      OnlyRegs ([Reg.TLK_LN_STATUS_RXST n, Reg.TLK_LN_STATUS_SIGDET n] ++ laneMaps) s t := by
  have hx : doRxSyncAcquire n s = wr (Reg.TLK_LN_STATUS_SIGDET n) 1 (setRxst n 2 s) := by
    simp [doRxSyncAcquire, hm, he, hr, ha, rdb]
  refine ⟨_, congrArg Host.Outcome.next hx, by simp [rd_wr, rd_setRxst], by simp, fun hn => ?_, ?_⟩
  · exact (mapBit_congr (s := setRxst n 2 s) (by simp [rd_wr]) (by simp [rd_wr])).trans (mapBit_setRxst hn)
  · exact (OnLanes.refl _ s).setRxst.wr.onlyRegs (by simp) (by simp) (by simp)

theorem laneRxLoss_inService (hr : rd s (Reg.TLK_LN_STATUS_RXST n) = 2) (hn : n < 64) (hi : inService s n = true) :
    ∃ t, exec (.laneRxLoss n) s = .next t ∧ rd t (Reg.TLK_LN_STATUS_RXST n) = 1 ∧
      Counts (Reg.TLK_LN_LOSS_SYNCLOSS n) s t ∧
      t = { s with regs := t.regs, inbox := s.inbox ++ [⟨0x0B1, 0x26, n, none⟩] } ∧
      RegsBut ([Reg.TLK_LN_STATUS_RXST n, Reg.TLK_LN_LOSS_SYNCLOSS n] ++ laneMaps) s t := by
  have h64 : (n == 64) = false := by simp; omega
  have h65 : (n == 65) = false := by simp; omega
  have hx : doLaneRxLoss n s = raise 0x0B1 n (satInc (Reg.TLK_LN_LOSS_SYNCLOSS n) 1 (setRxst n 1 s)) := by
    simp [doLaneRxLoss, laneBusy, hm, he, hr, hn, hi, h64, h65]
  have ho : OnLanes ([Reg.TLK_LN_STATUS_RXST n, Reg.TLK_LN_LOSS_SYNCLOSS n] ++ laneMaps) s
    (raise 0x0B1 n (satInc (Reg.TLK_LN_LOSS_SYNCLOSS n) 1 (setRxst n 1 s))) := (OnLanes.refl _ s).setRxst.satInc.raise
  have hinbox : (raise 0x0B1 n (satInc (Reg.TLK_LN_LOSS_SYNCLOSS n) 1 (setRxst n 1 s))).inbox =
      s.inbox ++ [⟨0x0B1, 0x26, n, none⟩] := by
    rw [raise_lane (kind := 0x26) (by omega) (by decide)]
    simp
  refine ⟨_, congrArg Host.Outcome.next hx, by simp [satInc, rd_wr, rd_setRxst], ?_, ?_, ho.regs⟩
  · exact (counts_satInc_one _ (setRxst n 1 s)).congr (by simp [rd_setRxst]) (by simp)
  · exact ho.eq.trans (by rw [hinbox]; simp)

theorem laneRxLoss_outOfService (hr : rd s (Reg.TLK_LN_STATUS_RXST n) = 2) (hn : n < 64) (hi : inService s n = false) :
    ∃ t, exec (.laneRxLoss n) s = .next t ∧ rd t (Reg.TLK_LN_STATUS_RXST n) = 1 ∧
      OnlyRegs ([Reg.TLK_LN_STATUS_RXST n] ++ laneMaps) s t := by
  have h64 : (n == 64) = false := by simp; omega
  have h65 : (n == 65) = false := by simp; omega
  have hx : doLaneRxLoss n s = setRxst n 1 s := by
    simp [doLaneRxLoss, laneBusy, hm, he, hr, hn, hi, h64, h65]
  exact ⟨_, congrArg Host.Outcome.next hx, by simp [rd_setRxst],
    (OnLanes.refl _ s).setRxst.onlyRegs (by simp) (by simp) (by simp)⟩

theorem slipWrite_moves (ha : rd s (Reg.TLK_LN_CTRL_AUTOALIGN n) = 0) : ∃ t, exec (.slipWrite n) s = .next t ∧
    (∀ m, laneOf t m = if m = n then { laneOf s n with slip := ((laneOf s n).slip + 1) % 10 } else laneOf s m) ∧
    t = { s with lanes := t.lanes } := by
  have hx : doSlipWrite n s = modLane n (fun l => { l with slip := (l.slip + 1) % 10 }) s := by
    simp [doSlipWrite, hm, he, ha, rdb]
  exact ⟨_, congrArg Host.Outcome.next hx, laneOf_modLane _, rfl⟩

omit hm he in
theorem slipWrite_ignored (ha : rd s (Reg.TLK_LN_CTRL_AUTOALIGN n) = 1) : exec (.slipWrite n) s = .next s :=
  congrArg Host.Outcome.next (by simp [doSlipWrite, ha, rdb])

/-! ### A lane in service keeps its settings (R201, R209, R211, R212) -/

theorem inService_keeps_settings (hn : n < 66) (hi : inService s n = true) :
    let turned := { s with inbox := s.inbox ++ [⟨0x0B5, 0x2A, n, none⟩] }
    exec (.txOnWrite n false) s = .next turned ∧ exec (.rxOnWrite n false) s = .next turned ∧
      exec (.txOnWrite n true) s = .next s ∧ exec (.rxOnWrite n true) s = .next s ∧
      (∀ lb, exec (.loopbackWrite n lb) s = .next turned) ∧ (∀ p, exec (.prbsWrite n p) s = .next turned) := by
  rw [← laneCfg_eq hn]
  exact ⟨congrArg Host.Outcome.next (by simp [doTxOnWrite, hm, he, hi]),
    congrArg Host.Outcome.next (by simp [doRxOnWrite, hm, he, hi]),
    congrArg Host.Outcome.next (by simp [doTxOnWrite, hm, he, hi]),
    congrArg Host.Outcome.next (by simp [doRxOnWrite, hm, he, hi]),
    fun lb => congrArg Host.Outcome.next (by simp [doLoopbackWrite, hm, he, hi]),
    fun p => congrArg Host.Outcome.next (by simp [doPrbsWrite, hm, he, hi])⟩

/-- A partner lane has no far-end loopback. -/
theorem loopbackWrite_partner (hn : n < 66) (hp : 64 ≤ n) :
    exec (.loopbackWrite n 3) s = .next { s with inbox := s.inbox ++ [⟨0x0B5, 0x2A, n, none⟩] } := by
  rw [← laneCfg_eq hn]
  exact congrArg Host.Outcome.next (by simp [doLoopbackWrite, hm, he, hp])

/-! ### Sleep and waking (R207, R208) -/

section
variable (hi : inService s n = false)
include hi

theorem txOnWrite_wakes : ∃ t, exec (.txOnWrite n true) s = .next t ∧ rd t (Reg.TLK_LN_CTRL_TX_ON n) = 1 ∧
    rd t (Reg.TLK_LN_STATUS_TXST n) =
      (if rd s (Reg.TLK_LN_STATUS_TXST n) = 0 then 2 else rd s (Reg.TLK_LN_STATUS_TXST n)) ∧
    OnlyRegs [Reg.TLK_LN_CTRL_TX_ON n, Reg.TLK_LN_STATUS_TXST n] s t := by
  have hx : doTxOnWrite n true s = when (rd s (Reg.TLK_LN_STATUS_TXST n) == 0) (setTxst n 2)
      (wr (Reg.TLK_LN_CTRL_TX_ON n) 1 s) := by
    simp [doTxOnWrite, hm, he, hi]
  refine ⟨_, congrArg Host.Outcome.next hx, by simp [rd_when, rd_setTxst], by simp [rd_when, rd_setTxst, rd_wr], ?_⟩
  exact ((OnLanes.refl _ s).wr.when (·.setTxst)).onlyRegs (by simp) (by simp) (by simp)

theorem txOnWrite_sleeps : ∃ t, exec (.txOnWrite n false) s = .next t ∧ rd t (Reg.TLK_LN_CTRL_TX_ON n) = 0 ∧
    rd t (Reg.TLK_LN_STATUS_TXST n) = 0 ∧ linkOf t n = 0 ∧
    (∀ m, laneOf t m = if m = n then { laneOf s n with training := none } else laneOf s m) ∧
    t = { s with regs := t.regs, lanes := t.lanes } ∧
    RegsBut ([Reg.TLK_LN_CTRL_TX_ON n, Reg.TLK_LN_STATUS_TXST n, Reg.TLK_LN_STATUS_LINK n] ++ laneMaps) s t := by
  have hx : doTxOnWrite n false s = setTxst n 0 (endTraining n 0 (wr (Reg.TLK_LN_CTRL_TX_ON n) 0 s)) := by
    simp [doTxOnWrite, hm, he, hi]
  have ho : OnLanes ([Reg.TLK_LN_CTRL_TX_ON n, Reg.TLK_LN_STATUS_TXST n, Reg.TLK_LN_STATUS_LINK n] ++ laneMaps) s
      (setTxst n 0 (endTraining n 0 (wr (Reg.TLK_LN_CTRL_TX_ON n) 0 s))) := (OnLanes.refl _ s).wr.endTraining.setTxst
  refine ⟨_, congrArg Host.Outcome.next hx, by simp [rd_setTxst, endTraining, rd_setLink], by simp [rd_setTxst],
    by simp [linkOf, rd_setTxst, endTraining, rd_setLink], fun m => ?_, ?_, ho.regs⟩
  · simp [laneOf_endTraining]
  · exact ho.eq.trans (by simp)

theorem rxOnWrite_wakes : ∃ t, exec (.rxOnWrite n true) s = .next t ∧ rd t (Reg.TLK_LN_CTRL_RX_ON n) = 1 ∧
    rd t (Reg.TLK_LN_STATUS_RXST n) =
      (if rd s (Reg.TLK_LN_STATUS_RXST n) = 0 then 1 else rd s (Reg.TLK_LN_STATUS_RXST n)) ∧
    OnlyRegs ([Reg.TLK_LN_CTRL_RX_ON n, Reg.TLK_LN_STATUS_RXST n] ++ laneMaps) s t := by
  have hx : doRxOnWrite n true s = when (rd s (Reg.TLK_LN_STATUS_RXST n) == 0) (setRxst n 1)
      (wr (Reg.TLK_LN_CTRL_RX_ON n) 1 s) := by
    simp [doRxOnWrite, hm, he, hi]
  refine ⟨_, congrArg Host.Outcome.next hx, by simp [rd_when, rd_setRxst], by simp [rd_when, rd_setRxst, rd_wr], ?_⟩
  exact ((OnLanes.refl _ s).wr.when (·.setRxst)).onlyRegs (by simp) (by simp) (by simp)

theorem rxOnWrite_sleeps : ∃ t, exec (.rxOnWrite n false) s = .next t ∧ rd t (Reg.TLK_LN_CTRL_RX_ON n) = 0 ∧
    rd t (Reg.TLK_LN_STATUS_RXST n) = 0 ∧ rd t (Reg.TLK_LN_STATUS_SIGDET n) = 0 ∧
    OnlyRegs ([Reg.TLK_LN_CTRL_RX_ON n, Reg.TLK_LN_STATUS_RXST n, Reg.TLK_LN_STATUS_SIGDET n] ++ laneMaps) s t := by
  have hx : doRxOnWrite n false s =
      wr (Reg.TLK_LN_STATUS_SIGDET n) 0 (setRxst n 0 (wr (Reg.TLK_LN_CTRL_RX_ON n) 0 s)) := by
    simp [doRxOnWrite, hm, he, hi]
  exact ⟨_, congrArg Host.Outcome.next hx, by simp [rd_wr, rd_setRxst], by simp [rd_wr, rd_setRxst], by simp,
    (OnLanes.refl _ s).wr.setRxst.wr.onlyRegs (by simp) (by simp) (by simp)⟩

/-! ### Loopbacks and patterns (R210 to R212) -/

theorem doPrbsWrite_eq {p : Nat} (hp : p < 3) :
    doPrbsWrite n p s = settleDirs n (wr (Reg.TLK_LN_CTRL_PRBS n) p s) := by
  simp [doPrbsWrite, hm, he, hi, show p ≠ 3 by omega]

theorem doLoopbackWrite_eq {lb : Nat} (hl : lb < 4) (hp : n < 64 ∨ lb ≠ 3) :
    doLoopbackWrite n lb s = setLoopback n lb s := by
  have hb : (decide (64 ≤ n) && lb == 3) = false := by
    rcases hp with hp | hp
    · simp; omega
    · simp [hp]
  simp [doLoopbackWrite, hm, he, hi, hb, Nat.mod_eq_of_lt hl]

theorem prbsWrite_selects {p : Nat} (hp : p < 3) : ∃ t, exec (.prbsWrite n p) s = .next t ∧
    rd t (Reg.TLK_LN_CTRL_PRBS n) = p ∧
    (p ≠ 0 → rd t (Reg.TLK_LN_STATUS_TXST n) = 3 ∧ rd t (Reg.TLK_LN_STATUS_RXST n) = 3) ∧
    OnlyRegs ([Reg.TLK_LN_CTRL_PRBS n, Reg.TLK_LN_STATUS_TXST n, Reg.TLK_LN_STATUS_RXST n] ++ laneMaps) s t := by
  refine ⟨_, congrArg Host.Outcome.next (doPrbsWrite_eq hm he hi hp), ?_, fun h0 => settleDirs_testing ?_, ?_⟩
  · rw [rd_settleDirs_ne (by simp), rd_wr_same]
    exact Nat.mod_eq_of_lt (by simp; omega)
  · simp [laneTesting, rdb, show p % 4 ≠ 0 by omega]
  · exact (OnLanes.refl _ s).wr.settleDirs.onlyRegs (by simp) (by simp) (by simp)

theorem loopbackWrite_selects (hn : n < 66) {lb : Nat} (hl : lb < 4) (hp : n < 64 ∨ lb ≠ 3) :
    ∃ t, exec (.loopbackWrite n lb) s = .next t ∧ rd t (Reg.TLK_LN_CTRL_LB n) = lb ∧
      (lb ≠ 0 → rd t (Reg.TLK_LN_STATUS_TXST n) = 3 ∧ rd t (Reg.TLK_LN_STATUS_RXST n) = 3) ∧
      (rd s (Reg.TLK_LN_CTRL_LB n) = 3 → lb ≠ 3 →
        linkOf t n = 0 ∧ rd t (Reg.TLK_LN_STATUS_FELB n) = 0 ∧ t.tx = s.tx) ∧
      (rd s (Reg.TLK_LN_CTRL_LB n) ≠ 3 → lb = 3 → linkOf s n = 2 → (laneOf t n).felbReq = true ∧
        ∃ b, t.tx = s.tx ++ [.train n 0x4A b] ∧ trainSetOk 0x4A b false = true ∧ bits (byteAt b 2) 1 2 = 2) ∧
      (∀ m, m ≠ n → laneOf t m = laneOf s m) ∧ t = { s with regs := t.regs, lanes := t.lanes, tx := t.tx } ∧
      RegsBut (loopbackFields n) s t := by
  have hf := setLoopback_frame n lb s
  refine ⟨_, congrArg Host.Outcome.next (doLoopbackWrite_eq hm he hi hl hp), rd_setLoopback_lb hl, setLoopback_testing hl,
    setLoopback_leaves, ?_, fun _ => setLoopback_otherLane, hf.eq.trans (by rw [setLoopback_inbox]), hf.regs⟩
  rintro ho rfl hu
  exact setLoopback_asks ho hu hn

omit he in
theorem prbsWrite_reserved : exec (.prbsWrite n 3) s = .next s :=
  congrArg Host.Outcome.next (by simp [doPrbsWrite, hm, hi])

end
end

end Sys2Proof.Machine
end

section
/-! PROOF. The errors of a second (R193) and the far end's answers (R199, R211) -/

namespace Sys2Proof.Machine

section
variable {s : State} {c : List Nat}

/-- The events of lane `k` in the counts of a second: CV, then DISP. -/
def cvOf (c : List Nat) (k : Nat) : Nat := c.getD (2 * k) 0

/-- The DISP events of lane `k`. -/
def dispOf (c : List Nat) (k : Nat) : Nat := c.getD (2 * k + 1) 0

/-- The errors of lane `k` exceed the limit. -/
def errsExceed (s : State) (c : List Nat) (k : Nat) : Bool :=
  laneBusy s k && rd s Reg.TLK_ERRLIM_LIMIT != 0 && decide (rd s Reg.TLK_ERRLIM_LIMIT < cvOf c k + dispOf c k)

/-- LANE_ERR of lane `k`. -/
def laneErrMsg (k : Nat) : FMsg := ⟨0x0B4, 0x29, k, none⟩

/-- The second of lane `k`. -/
def errStep (c : List Nat) (k : Nat) (s : State) : State := laneErrs k (cvOf c k) (dispOf c k) s

/-- The counters of a lane, before its message. -/
def errCount (c : List Nat) (k : Nat) (s : State) : State :=
  satInc (Reg.TLK_LN_ERR_DISP k) (dispOf c k) (satInc (Reg.TLK_LN_ERR_CV k) (cvOf c k) s)

/-- A lane counts its events and raises its message where they exceed the limit. -/
theorem errStep_eq {k : Nat} (hk : k < 66) : errStep c k s =
    { errCount c k s with inbox := s.inbox ++ if errsExceed s c k then [laneErrMsg k] else [] } := by
  have hr := raise_lane (s := errCount c k s) (source := 0x0B4) (kind := 0x29) hk (by decide)
  have he : errStep c k s = when (errsExceed s c k) (raise 0x0B4 k) (errCount c k s) := rfl
  rw [he]
  cases errsExceed s c k with
  | true => exact hr
  | false =>
    rw [if_neg (by simp), List.append_nil]
    rfl

theorem errStep_keeps (k : Nat) {g : Fld} (hc : g.key ≠ (Reg.TLK_LN_ERR_CV k).key) (hd : g.key ≠ (Reg.TLK_LN_ERR_DISP k).key) :
    rd (errStep c k s) g = rd s g :=
  (rd_when _ _).trans (by rw [rd_raise, ite_self]; exact (rd_wr_ne _ _ _ _ hd).trans (rd_wr_ne _ _ _ _ hc))

/-- The limit and the lanes that are busy do not move in a second. -/
theorem errsExceed_errStep (k : Nat) : errsExceed (errStep c k s) c = errsExceed s c := by
  funext j
  have h (g : Fld) (hc : g.key ≠ (Reg.TLK_LN_ERR_CV k).key) (hd : g.key ≠ (Reg.TLK_LN_ERR_DISP k).key) :=
    errStep_keeps (c := c) (s := s) k hc hd
  have hl := h Reg.TLK_ERRLIM_LIMIT (by simp) (by simp)
  simp [errsExceed, laneBusy, inService, rdb, linkOf, h, hl]

/-- Fields that no lane of the list counts in keep their value. -/
theorem forEach_errStep_keeps (l : List Nat) {g : Fld}
    (h : ∀ k ∈ l, g.key ≠ (Reg.TLK_LN_ERR_CV k).key ∧ g.key ≠ (Reg.TLK_LN_ERR_DISP k).key) :
    rd (forEach l (errStep c) s) g = rd s g := by
  induction l generalizing s with
  | nil => rfl
  | cons x l ih =>
    obtain ⟨hc, hd⟩ := h x (by simp)
    exact (ih (s := errStep c x s) fun k hk => h k (by simp [hk])).trans (errStep_keeps x hc hd)

/-- Each lane of the list counts its own events. -/
theorem forEach_errStep_counts {l : List Nat} {n : Nat} (hl : l.Nodup) (hn : n ∈ l) :
    rd (forEach l (errStep c) s) (Reg.TLK_LN_ERR_CV n) = min 0xFFFF (rd s (Reg.TLK_LN_ERR_CV n) + cvOf c n) ∧
      rd (forEach l (errStep c) s) (Reg.TLK_LN_ERR_DISP n) = min 0xFFFF (rd s (Reg.TLK_LN_ERR_DISP n) + dispOf c n) := by
  induction l generalizing s with
  | nil => simp at hn
  | cons x l ih =>
    obtain ⟨hx, hl⟩ := List.nodup_cons.1 hl
    change rd (forEach l (errStep c) (errStep c x s)) _ = _ ∧ rd (forEach l (errStep c) (errStep c x s)) _ = _
    rcases List.mem_cons.1 hn with rfl | hn
    · have hne : ∀ k ∈ l, n ≠ k := fun k hk e => hx (e ▸ hk)
      rw [forEach_errStep_keeps l fun k hk => by simp [hne k hk], forEach_errStep_keeps l fun k hk => by simp [hne k hk]]
      simp only [errStep, laneErrs, rd_when, rd_raise, ite_self, satInc, satAdd, rd_wr]
      simp
    · have hne : n ≠ x := fun e => hx (e ▸ hn)
      rw [(ih hl hn).1, (ih hl hn).2, errStep_keeps x (by simp [hne]) (by simp [hne]),
        errStep_keeps x (by simp [hne]) (by simp [hne])]
      exact ⟨rfl, rfl⟩

/-- Registers and messages are all that a second changes, and the messages name the lanes that exceed the limit, in order. -/
theorem forEach_errStep_frame {l : List Nat} (hl : ∀ k ∈ l, k < 66) : forEach l (errStep c) s =
    { s with regs := (forEach l (errStep c) s).regs
             inbox := s.inbox ++ (l.filter (errsExceed s c)).map laneErrMsg } := by
  induction l generalizing s with
  | nil => simp [forEach]
  | cons x l ih =>
    have hs := errStep_eq (c := c) (s := s) (hl x (by simp))
    have h := ih (s := errStep c x s) fun k hk => hl k (by simp [hk])
    have hf : forEach (x :: l) (errStep c) s = forEach l (errStep c) (errStep c x s) := rfl
    rw [hf, h, errsExceed_errStep, hs]
    cases hx : errsExceed s c x <;> simp [hx, errCount]

theorem laneErrSecond_counts {n : Nat} (hn : n < 66) (hm : mainOn s.dev.state = true) (he : laneExists s n = true) :
    ∃ t, exec (.laneErrSecond c) s = .next t ∧
      rd t (Reg.TLK_LN_ERR_CV n) = min 0xFFFF (rd s (Reg.TLK_LN_ERR_CV n) + c.getD (2 * n) 0) ∧
      rd t (Reg.TLK_LN_ERR_DISP n) = min 0xFFFF (rd s (Reg.TLK_LN_ERR_DISP n) + c.getD (2 * n + 1) 0) ∧
      t = { s with regs := t.regs, inbox := s.inbox ++ (errLanes s c).map (fun k => ⟨0x0B4, 0x29, k, none⟩) } ∧
      (∀ f : Fld, (∀ k, k < 66 → f.key ≠ (Reg.TLK_LN_ERR_CV k).key ∧ f.key ≠ (Reg.TLK_LN_ERR_DISP k).key) →
        rd t f = rd s f) := by
  let l := (List.range 66).filter (laneExists s)
  have hx : doLaneErrSecond c s = forEach l (errStep c) s := by
    rw [doLaneErrSecond, if_pos hm]
    rfl
  have hl : ∀ k ∈ l, k < 66 := fun k hk => List.mem_range.1 (List.mem_filter.1 hk).1
  obtain ⟨hcv, hdisp⟩ := forEach_errStep_counts (c := c) (s := s) (l := l) (n := n)
    (List.nodup_range.filter _) (List.mem_filter.2 ⟨List.mem_range.2 hn, he⟩)
  have herr : l.filter (errsExceed s c) = errLanes s c := by
    rw [List.filter_filter]
    refine List.filter_congr fun k _ => ?_
    rw [errsExceed, Bool.and_comm]
    simp only [Bool.and_assoc]
    rfl
  have hf := forEach_errStep_frame (c := c) (s := s) hl
  rw [herr] at hf
  exact ⟨_, congrArg Host.Outcome.next hx, hcv, hdisp, hf, fun f h => forEach_errStep_keeps l fun k hk => h k (hl k hk)⟩

end

/-! ### TSA and TSB (R198, R199, R211) -/

section
variable {s : State} {n : Nat}

/-- TSB is a good set that echoes LANE and carries READY and FELB. -/
theorem sendTsb_sends {lane port : Nat} (r f : Bool) (n : Nat) (s : State) (hl : lane < 256) (hp : port < 2) :
    ∃ b, sendTsb n lane port r f s = { s with tx := s.tx ++ [.train n 0xB5 b] } ∧ trainSetOk 0xB5 b false = true ∧
      bits (byteAt b 2) 1 7 = b2n r + 2 * b2n f ∧ byteAt b 1 = lane := by
  refine ⟨_, rfl, trainSetOk_chk (by simp) rfl, ?_, ?_⟩
  · rw [byteAt_append_left _ _ (by simp)]
    simp only [byteAt, List.cons_append, List.getElem?_cons_succ, List.getElem?_cons_zero, Option.getD_some,
      BitVec.toNat_ofNat, bits]
    have hb (b : Bool) : b2n b < 2 := by cases b <;> decide
    have h1 := hb r
    have h2 := hb f
    omega
  · rw [byteAt_append_left _ _ (by simp)]
    simp only [byteAt, List.cons_append, List.getElem?_cons_succ, List.getElem?_cons_zero, Option.getD_some,
      BitVec.toNat_ofNat]
    omega

/-- The tile of lane `n` hears a good set. -/
def heard (n : Nat) (s : State) : State := setTile n { tileOf s n with sync := true } s

/-- It does, and its responder goes on to `f`. -/
def answering (n : Nat) (f : FarEnd) (s : State) : State := setTile n { tileOf (heard n s) n with far := f } (heard n s)

theorem tileOf_answering (f : FarEnd) : tileOf (answering n f s) n = { tileOf s n with sync := true, far := f } := by
  simp [answering, heard]

theorem byteAt_lt (b : Bytes) (i : Nat) : byteAt b i < 256 := ((b[i]?).getD 0).isLt

/-- A tile that a set has reached is in sync, and only tiles and wires have changed. -/
def TileHeard (n : Nat) (s t : State) : Prop :=
  t = { s with tiles := t.tiles, tx := t.tx } ∧ (tileOf t n).sync = true ∧ ∀ m, m ≠ n → tileOf t m = tileOf s m

theorem heard_tileHeard : TileHeard n s (heard n s) := ⟨rfl, by simp [heard], fun _ h => by simp [heard, h]⟩

/-- The tile hears TSA and answers with TSB. -/
theorem sendTsb_tileHeard (lane port : Nat) (r b : Bool) (f : FarEnd) :
    TileHeard n s (sendTsb n lane port r b (answering n f s)) :=
  ⟨rfl, congrArg Tile.sync (tileOf_answering f),
    fun _ h => (tileOf_setTile_ne _ _ _ _ h).trans (tileOf_setTile_ne _ _ _ _ h)⟩

/-- What a good TSA does to the tile of a lane that has power: FELB asks for loopback, READY is answered once, and without
either the tile answers from the start. -/
theorem doTsaReceive_good {set : Bytes} (hn : n < 64) (hl : n < laneCount s) (hp : (tileOf s n).powered = true)
    (hok : trainSetOk 0x4A set false = true) (hr : bits (byteAt set 2) 4 4 = 0) : doTsaReceive n set false s =
      if bit (byteAt set 2) 2 then sendTsb n (byteAt set 1) (bits (byteAt set 2) 0 1) false true
        (answering n { (tileOf s n).far with loopback := true } s)
      else if bit (byteAt set 2) 1 then
        if (tileOf s n).far.answering && !(tileOf s n).far.ready then
          sendTsb n (byteAt set 1) (bits (byteAt set 2) 0 1) true false
            (answering n { (tileOf s n).far with ready := true } s)
        else heard n s
      else sendTsb n (byteAt set 1) (bits (byteAt set 2) 0 1) false false (answering n ⟨true, false, false⟩ s) := by
  have hnot : ¬ 64 ≤ n := by omega
  simp [doTsaReceive, laneExists, tileOn, farOf, setFar, farUp, answering, heard, hn, hl, hp, hok, hr, hnot]

/-- READY and FELB together, and each by itself. -/
theorem flags_of_bits {v : Nat} {r : Bool} (h : bits v 1 2 = b2n r) : bit v 1 = r ∧ bit v 2 = false := by
  simp only [bits] at h
  simp only [bit, Nat.testBit_eq_decide_div_mod_eq]
  cases r <;> simp only [b2n, Bool.false_eq_true, if_true, if_false] at h <;> simp <;> omega

theorem tsaReceive_answers {set : Bytes} (hl : n < laneCount s) (hn : n < 64) (hp : (tileOf s n).powered = true)
    (hok : trainSetOk 0x4A set false = true) (hr : bits (byteAt set 2) 4 4 = 0) :
    ∃ t, exec (.tsaReceive n set false) s = .next t ∧ t = { s with tiles := t.tiles, tx := t.tx } ∧
      (tileOf t n).sync = true ∧ (∀ m, m ≠ n → tileOf t m = tileOf s m) ∧
      (let sent := fun (fl : Nat) => ∃ b, t.tx = s.tx ++ [.train n 0xB5 b] ∧ trainSetOk 0xB5 b false = true ∧
         bits (byteAt b 2) 1 7 = fl ∧ byteAt b 1 = byteAt set 1
       (bit (byteAt set 2) 2 = true → (tileOf t n).far = { (tileOf s n).far with loopback := true } ∧ sent 2) ∧
       (bits (byteAt set 2) 1 2 = 1 → (tileOf s n).far = ⟨true, false, false⟩ →
         (tileOf t n).far = ⟨true, true, false⟩ ∧ sent 1) ∧
       (bits (byteAt set 2) 1 2 = 0 → (tileOf t n).far = ⟨true, false, false⟩ ∧ sent 0)) := by
  have hx := doTsaReceive_good hn hl hp hok hr
  have hport : bits (byteAt set 2) 0 1 < 2 := Nat.mod_lt _ (by decide)
  have hsent (r b : Bool) (f : FarEnd) : ∃ x,
      (sendTsb n (byteAt set 1) (bits (byteAt set 2) 0 1) r b (answering n f s)).tx = s.tx ++ [.train n 0xB5 x] ∧
        trainSetOk 0xB5 x false = true ∧ bits (byteAt x 2) 1 7 = b2n r + 2 * b2n b ∧ byteAt x 1 = byteAt set 1 := by
    obtain ⟨x, hs, hg⟩ := sendTsb_sends r b n (answering n f s) (byteAt_lt set 1) hport
    exact ⟨x, by rw [hs]; rfl, hg⟩
  have hfar (r b : Bool) (f : FarEnd) :
      (tileOf (sendTsb n (byteAt set 1) (bits (byteAt set 2) 0 1) r b (answering n f s)) n).far = f :=
    congrArg Tile.far (tileOf_answering f)
  have hheard : TileHeard n s (doTsaReceive n set false s) := by
    rw [hx]
    split
    · exact sendTsb_tileHeard ..
    · split
      · split
        · exact sendTsb_tileHeard ..
        · exact heard_tileHeard
      · exact sendTsb_tileHeard ..
  obtain ⟨hframe, hsync, hother⟩ := hheard
  refine ⟨_, rfl, hframe, hsync, hother, fun h => ?_, fun h hf => ?_, fun h => ?_⟩
  · rw [hx, if_pos h]
    exact ⟨hfar .., hsent ..⟩
  · obtain ⟨h1, h2⟩ : bit (byteAt set 2) 1 = true ∧ bit (byteAt set 2) 2 = false := flags_of_bits h
    rw [hx, h2, h1, hf]
    exact ⟨hfar .., hsent ..⟩
  · obtain ⟨h1, h2⟩ : bit (byteAt set 2) 1 = false ∧ bit (byteAt set 2) 2 = false := flags_of_bits h
    rw [hx, h2, h1]
    exact ⟨hfar .., hsent ..⟩

theorem tileLoopbackExit_trains (ho : tileOn s n = true) (hn : n < 64) (hl : (tileOf s n).far.loopback = true) :
    exec (.tileLoopbackExit n) s = .next (setTile n { tileOf s n with sync := false, far := farInit } s) :=
  congrArg Host.Outcome.next (by simp [doTileLoopbackExit, farOf, ho, hn, hl])

end

end Sys2Proof.Machine
end

section
/-! PROOF. Lanes sync, sleep and test -/

namespace Sys2Proof.Machine

/-- Settles O51: each event of a lane by its own lemma. -/
theorem lanesSyncSleepAndTest : Obligations.LanesSyncSleepAndTest := by
  intro s n hn
  refine ⟨fun hm he => ⟨fun hr ha => rxSyncAcquire_syncs hm he hr ha,
      fun hr h64 => ⟨laneRxLoss_inService hm he hr h64, laneRxLoss_outOfService hm he hr h64⟩,
      fun ha => slipWrite_moves hm he ha, fun ha => slipWrite_ignored ha,
      fun hi => inService_keeps_settings hm he hn hi, fun hp => loopbackWrite_partner hm he hn hp,
      fun hi => ⟨txOnWrite_wakes hm he hi, txOnWrite_sleeps hm he hi, rxOnWrite_wakes hm he hi, rxOnWrite_sleeps hm he hi,
        fun lb hl hp => loopbackWrite_selects hm he hi hn hl hp, fun p hp => prbsWrite_selects hm he hi hp,
        prbsWrite_reserved hm hi⟩,
      fun c => laneErrSecond_counts hn hm he⟩,
    fun set hl h64 hp hok hr => tsaReceive_answers hl h64 hp hok hr,
    fun ho h64 hl => tileLoopbackExit_trains ho h64 hl⟩

end Sys2Proof.Machine
end

section
/-! PROOF. Training of a lane (R199 to R201) -/

namespace Sys2Proof.Machine

/-- No field of a lane is the reset bit of a channel. -/
@[simp] theorem reset_ne_laneKey {n c k : Nat} (hn : n < 66) (hc : c < 1024) :
    (Reg.HIF_MB_CTRL_RESET k).key ≠ laneKey n c := by
  simp only [Fld.key, Reg.HIF_MB_CTRL_RESET, laneKey]
  omega

/-- Nor is a field below the lanes' block. -/
@[simp] theorem reset_ne_low {j k : Nat} (h : j < 0x400E0218 * 32) : (Reg.HIF_MB_CTRL_RESET k).key ≠ j := by
  simp only [Fld.key, Reg.HIF_MB_CTRL_RESET]
  omega

/-- A step of lanes that touches no channel's reset bit leaves no command running. -/
theorem OnLanes.noneRuns {fs : List Fld} {s t : State} (ho : OnLanes fs s t) (h : NoneRuns s)
    (hf : ∀ f ∈ fs, ∀ k, (Reg.HIF_MB_CTRL_RESET k).key ≠ f.key) : NoneRuns t :=
  h.frame ((congrArg State.waits ho.eq).trans rfl) ho.regs fun k _ f hm => hf f hm k

/-! ### An attempt starts -/

/-- The fields that an attempt writes. -/
@[simp] def attemptFields (n : Nat) : List Fld :=
  [Reg.TLK_LN_STATUS_LINK n, Reg.TLK_LN_CTRL_TX_ON n, Reg.TLK_LN_CTRL_RX_ON n, Reg.TLK_LN_STATUS_TXST n,
    Reg.TLK_LN_STATUS_RXST n, Reg.TLK_LN_LOSS_TRAINS n, Reg.TLK_UPMAP_LO_MAP, Reg.TLK_UPMAP_HI_MAP,
    Reg.TLK_SYNCMAP_LO_MAP, Reg.TLK_SYNCMAP_HI_MAP]

/-- Attempt `k` has begun on lane `n`. -/
def AttemptBegun (n k : Nat) (s t : State) : Prop :=
  t = { s with regs := t.regs, lanes := t.lanes, tx := t.tx } ∧
    (∀ m, laneOf t m = if m = n then { laneOf s n with training := some ⟨k, 0, false, false⟩ } else laneOf s m) ∧
    linkOf t n = 1 ∧ rd t (Reg.TLK_LN_CTRL_TX_ON n) = 1 ∧ rd t (Reg.TLK_LN_CTRL_RX_ON n) = 1 ∧
    rd t (Reg.TLK_LN_STATUS_TXST n) = 1 ∧
    rd t (Reg.TLK_LN_STATUS_RXST n) = (if rd s (Reg.TLK_LN_STATUS_RXST n) = 2 then 2 else 1) ∧
    rd t (Reg.TLK_LN_LOSS_TRAINS n) = (rd s (Reg.TLK_LN_LOSS_TRAINS n) + 1) % 2 ^ 16 ∧
    RegsBut (attemptFields n) s t ∧
    ∃ b, t.tx = s.tx ++ [.train n 0x4A b] ∧ trainSetOk 0x4A b false = true ∧ byteAt b 1 = n ∧ bits (byteAt b 2) 1 2 = 0

section
variable {s t : State} {n k : Nat} {tr : Training}

theorem startAttempt_frame (n k : Nat) (s : State) : OnLanes (attemptFields n) s (startAttempt n k s) :=
  ((OnLanes.refl _ s).modLane.wr.wr.setTxst.when (·.setRxst)).wrapInc.setLink.sendTsa

/-- Attempt `k` on lane `n`, before its TSA. -/
def attempting (n k : Nat) (s : State) : State :=
  s |> modLane n (fun l => { l with training := some ⟨k, 0, false, false⟩ })
    |> wr (Reg.TLK_LN_CTRL_TX_ON n) 1 |> wr (Reg.TLK_LN_CTRL_RX_ON n) 1
    |> setTxst n 1 |> when (rd s (Reg.TLK_LN_STATUS_RXST n) != 2) (setRxst n 1)
    |> wrapInc (Reg.TLK_LN_LOSS_TRAINS n) 1 |> setLink n 1

theorem startAttempt_eq (n k : Nat) (s : State) : startAttempt n k s = sendTsa n false false (attempting n k s) := rfl

/-- TX and RX on, searching unless in sync, and TSA with READY = 0. -/
theorem startAttempt_begins (hn : n < 66) : AttemptBegun n k s (startAttempt n k s) := by
  have hf := startAttempt_frame n k s
  obtain ⟨b, hs, hok, hl, hb⟩ := sendTsa_sends false false (attempting n k s) hn
  have hread (g : Fld) : rd (startAttempt n k s) g = rd (attempting n k s) g := rfl
  refine ⟨hf.eq.trans ?_, fun m => ?_, ?_, ?_, ?_, ?_, ?_, ?_, hf.regs, b, ?_, hok, hl, hb⟩
  · simp [startAttempt, wrapInc]
  · simp [startAttempt, wrapInc, laneOf_modLane]
  · simp [linkOf, hread, attempting, rd_setLink]
  · simp [hread, attempting, wrapInc, rd_setLink, rd_wr, rd_when, rd_setRxst, rd_setTxst]
  · simp [hread, attempting, wrapInc, rd_setLink, rd_wr, rd_when, rd_setRxst, rd_setTxst]
  · simp [hread, attempting, wrapInc, rd_setLink, rd_wr, rd_when, rd_setRxst, rd_setTxst]
  · have hx : rd (attempting n k s) (Reg.TLK_LN_STATUS_RXST n) =
        if rd s (Reg.TLK_LN_STATUS_RXST n) = 2 then rd s (Reg.TLK_LN_STATUS_RXST n) else 1 := by
      simp [attempting, wrapInc, rd_setLink, rd_wr, rd_when, rd_setRxst, rd_setTxst]
    rw [hread, hx]
    split
    · assumption
    · rfl
  · simp [hread, attempting, wrapInc, rd_setLink, rd_wr, rd_when, rd_setRxst, rd_setTxst]
  · rw [startAttempt_eq, hs]
    simp [attempting, wrapInc]

theorem doTlkTrainWrite_starts (hm : mainOn s.dev.state = true) (he : laneExists s n = true) (hi : inService s n = false)
    (hl : linkOf s n ≠ 1) : doTlkTrainWrite n s = startAttempt n 1 s := by
  simp [doTlkTrainWrite, hm, he, hi, hl]

theorem doTlkTrainWrite_busy (hm : mainOn s.dev.state = true) (he : laneExists s n = true)
    (hb : inService s n = true ∨ linkOf s n = 1) : doTlkTrainWrite n s = laneCfg n s := by
  simp [doTlkTrainWrite, hm, he, hb]

theorem doTrainIdleEnd_retries (ht : (laneOf s n).training = some tr) (hi : tr.idle = true) :
    doTrainIdleEnd n s = startAttempt n (tr.attempt + 1) s := by
  simp [doTrainIdleEnd, ht, hi]

/-! ### Training ends -/

/-- Lane `n` is not in training any more, or in the training `o`; the other lanes are as they were. -/
def TrainingIs (n : Nat) (o : Option Training) (s t : State) : Prop :=
  ∀ m, laneOf t m = if m = n then { laneOf s n with training := o } else laneOf s m

/-- With no command waiting, only the lane ends its training. -/
theorem trainDone_none {status : Nat} (h : NoneRuns s) : trainDone n status s = s := by
  unfold trainDone
  exact finishKind_none _ _ _ _ _ h

/-- The fields of a lane that a set names. -/
@[simp] def idFields (n : Nat) : List Fld := [Reg.TLK_LN_ID_LANE n, Reg.TLK_LN_ID_TYPE n, Reg.TLK_LN_ID_REV n]

/-- The tile's name of itself in a set (R198). -/
def withId (n : Nat) (b : Bytes) (s : State) : State :=
  s |> wr (Reg.TLK_LN_ID_LANE n) (byteAt b 1) |> wr (Reg.TLK_LN_ID_TYPE n) (leAt b 3 2)
    |> wr (Reg.TLK_LN_ID_REV n) (byteAt b 5)

theorem withId_frame (n : Nat) (b : Bytes) (s : State) : OnLanes (idFields n ++ linkFields n) s (withId n b s) :=
  (OnLanes.refl _ s).wr.wr.wr

/-- Training fails: LINK is FAILED and the message names the lane. -/
theorem failed_shows {u : State} {source kind : Nat} (hn : n < 66) (h : (faultRow source).map FaultRow.kind = some kind)
    (ho : OnLanes (idFields n ++ linkFields n) s u) (hl : u.lanes = s.lanes) (hx : u.tx = s.tx) (hi : u.inbox = s.inbox)
    (hr : NoneRuns s) : ∃ t, trainDone n 11 (raise source n (endTraining n 3 u)) = t ∧
      t = { s with regs := t.regs, lanes := t.lanes, inbox := s.inbox ++ [⟨source, kind, n, none⟩] } ∧
      TrainingIs n none s t ∧ linkOf t n = 3 := by
  have hf : OnLanes (idFields n ++ linkFields n) s (raise source n (endTraining n 3 u)) := ho.endTraining.raise
  have hd : trainDone n 11 (raise source n (endTraining n 3 u)) = raise source n (endTraining n 3 u) :=
    trainDone_none (hf.noneRuns hr (by simp [hn]))
  refine ⟨_, rfl, ?_, ?_, ?_⟩
  · rw [hd]
    refine hf.eq.trans ?_
    rw [raise_lane hn h]
    simp [hx, hi]
  · intro m
    rw [hd, raise_lane hn h]
    exact (laneOf_endTraining m).trans (by rw [laneOf_congr hl, laneOf_congr hl])
  · rw [hd, linkOf, rd_raise]
    simp [endTraining, rd_setLink]

end

end Sys2Proof.Machine
end

section
/-! PROOF. What a TSB does to a lane in training (R199, R200) -/

namespace Sys2Proof.Machine

section
variable {s : State} {n : Nat} {tr : Training} {set : Bytes}

/-- The lane takes up the training `o` after a TSB. -/
def withTraining (n : Nat) (o : Training) (s : State) : State := modLane n (fun l => { l with training := some o }) s

theorem withTraining_is (o : Training) : TrainingIs n (some o) s (withTraining n o s) := laneOf_modLane _

/-- The port that TSA carries follows ITC.STATUS.PAIR and the device's place. -/
theorem tsaPort_withId : tsaPort (withId n set s) n = tsaPort s n := by
  have hp : pairOp (withId n set s) = pairOp s := by
    have hr : rd (withId n set s) Reg.ITC_STATUS_PAIR = rd s Reg.ITC_STATUS_PAIR :=
      (withId_frame n set s).regs _ (by simp [show Reg.ITC_STATUS_PAIR.key = 0x40020004 * 32 from rfl])
    rw [pairOp, rdb, hr]
    rfl
  rw [tsaPort, hp]
  rfl

/-- A good set of the lane and the port, before the tile answers with READY. -/
theorem tsbTraining_counts (hb : byteAt set 1 = n) (hready : tr.ready = false)
    (hport : bits (byteAt set 2) 0 1 = tsaPort s n) : tsbTraining n set tr s =
      if 15 ≤ tr.run then
        sendTsa n true false (withTraining n { tr with run := tr.run + 1, ready := true } (withId n set s))
      else withTraining n { tr with run := tr.run + 1 } (withId n set s) := by
  subst hb
  have hp := tsaPort_withId (s := s) (n := byteAt set 1) (set := set)
  rw [withId, ← hport] at hp
  simp [tsbTraining, hready, hp, withId, withTraining]

/-- A tile's lane comes up without the work of a partner lane (R513). -/
theorem trained_tile (hn : n < 64) : trained n s = trainDone n 0 (fire 0x20 (setTxst n 2 (endTraining n 2 s))) := by
  simp [trained, Nat.not_le.2 hn]

/-- A TSB with READY ends training: LINK is UP, TXST is RUN and the source fires. -/
theorem trained_shows {u : State} (hn : n < 64) (ho : OnLanes (idFields n ++ linkFields n) s u) (hl : u.lanes = s.lanes)
    (hx : u.tx = s.tx) (hi : u.inbox = s.inbox) (hr : NoneRuns s) :
    TrainingIs n none s (trained n u) ∧ linkOf (trained n u) n = 2 ∧ rd (trained n u) (Reg.TLK_LN_STATUS_TXST n) = 2 ∧
      (∀ f ∈ idFields n, rd (trained n u) f = rd u f) ∧ bit (rd (trained n u) (Reg.ITC_PEND_MAP 1)) 0 = true ∧
      mapBit (trained n u) Reg.TLK_UPMAP_LO_MAP Reg.TLK_UPMAP_HI_MAP n = true ∧
      trained n u = { s with regs := (trained n u).regs, lanes := (trained n u).lanes } := by
  let fs := idFields n ++ linkFields n
  have hn66 : n < 66 := by omega
  have hf : OnLanes (fs ++ [Reg.TLK_LN_STATUS_TXST n, Reg.ITC_PEND_MAP 1]) s
      (fire 0x20 (setTxst n 2 (endTraining n 2 u))) :=
    .fire (.setTxst (.endTraining ⟨ho.eq, ho.regs.mono fun f hm => List.mem_append_left _ hm⟩ (by simp [fs]))) (by simp)
  have ht : trained n u = fire 0x20 (setTxst n 2 (endTraining n 2 u)) :=
    (trained_tile hn).trans (trainDone_none (hf.noneRuns hr (by simp [fs, hn66])))
  have hread (g : Fld) (hg : g.key ≠ (Reg.ITC_PEND_MAP 1).key) : rd (trained n u) g = rd (setTxst n 2 (endTraining n 2 u)) g :=
    (congrArg (rd · g) ht).trans (rd_fire_ne 0x20 _ hg)
  refine ⟨fun m => ?_, ?_, ?_, ?_, ?_, ?_, ?_⟩
  · rw [ht]
    rw [laneOf_congr (fire_lanes _ _), laneOf_setTxst, laneOf_endTraining, laneOf_congr hl, laneOf_congr hl]
  · rw [linkOf, hread _ (by simp)]
    simp [rd_setTxst, endTraining, rd_setLink]
  · rw [hread _ (by simp)]
    simp [rd_setTxst]
  · intro f hm
    have hkeys : f.key ≠ (Reg.ITC_PEND_MAP 1).key ∧ f.key ≠ (Reg.TLK_LN_STATUS_TXST n).key ∧
        ∀ g ∈ linkFields n, f.key ≠ g.key := by
      simp only [idFields, List.mem_cons, List.not_mem_nil, or_false] at hm
      rcases hm with rfl | rfl | rfl <;> simp
    obtain ⟨hp, htx, hlink⟩ := hkeys
    rw [hread _ hp, rd_setTxst, if_neg htx]
    exact ((OnLanes.refl _ u).endTraining (n := n) (v := 2) (fs := linkFields n) (fun _ h => h)).regs f hlink
  · rw [ht]
    exact bit_fire (n := 0x20) rfl _
  · refine (mapBit_congr (s := setLink n 2 (modLane n (fun l => { l with training := none }) u)) ?_ ?_).trans
      (mapBit_setLink hn)
    · rw [hread _ (by decide), rd_setTxst, if_neg (by simp)]
      rfl
    · rw [hread _ (by decide), rd_setTxst, if_neg (by simp)]
      rfl
  · rw [ht]
    refine hf.eq.trans ?_
    simp [endTraining, hx, hi]

section
variable (hm : mainOn s.dev.state = true) (he : laneExists s n = true) (ht : (laneOf s n).training = some tr)
  (hi : tr.idle = false)
include hm he ht hi

/-- A good TSB with its reserved bits at 0 reaches the training. -/
theorem doTsbReceive_good (hok : trainSetOk 0xB5 set false = true) (hz : bits (byteAt set 2) 3 5 = 0) :
    doTsbReceive n set false s = tsbTraining n set tr s := by
  simp [doTsbReceive, hm, he, ht, hi, hok, hz]

theorem tsbReceive_invalid : ∃ t, exec (.tsbReceive n set true) s = .next t ∧ TrainingIs n (some { tr with run := 0 }) s t ∧
    t = { s with lanes := t.lanes } := by
  have hx : doTsbReceive n set true s = withTraining n { tr with run := 0 } s := by
    simp [doTsbReceive, hm, he, ht, hi, trainSetOk, withTraining]
  exact ⟨_, congrArg Host.Outcome.next hx, withTraining_is _, rfl⟩

section
variable (hok : trainSetOk 0xB5 set false = true) (hz : bits (byteAt set 2) 3 5 = 0)
include hok hz

theorem tsbReceive_otherLane (hn : n < 66) (hb : byteAt set 1 ≠ n) (hr : NoneRuns s) :
    ∃ t, exec (.tsbReceive n set false) s = .next t ∧
      t = { s with regs := t.regs, lanes := t.lanes, inbox := s.inbox ++ [⟨0x0B3, 0x28, n, none⟩] } ∧
      TrainingIs n none s t ∧ linkOf t n = 3 := by
  obtain ⟨t, hx, hshow⟩ := failed_shows (u := withId n set s) (source := 0x0B3) (kind := 0x28) hn (by decide)
    (withId_frame n set s) rfl rfl rfl hr
  refine ⟨t, congrArg Host.Outcome.next ?_, hshow⟩
  rw [doTsbReceive_good hm he ht hi hok hz, ← hx]
  simp [tsbTraining, hb, withId]

theorem tsbReceive_ready (hb : byteAt set 1 = n) (hready : tr.ready = true) (hbit : bit (byteAt set 2) 1 = true)
    (hn : n < 64) (hr : NoneRuns s) :
    ∃ t, exec (.tsbReceive n set false) s = .next t ∧ TrainingIs n none s t ∧ linkOf t n = 2 ∧
      rd t (Reg.TLK_LN_STATUS_TXST n) = 2 ∧ rd t (Reg.TLK_LN_ID_LANE n) = n ∧
      rd t (Reg.TLK_LN_ID_TYPE n) = leAt set 3 2 ∧ rd t (Reg.TLK_LN_ID_REV n) = byteAt set 5 ∧
      bit (rd t (Reg.ITC_PEND_MAP 1)) 0 = true ∧ mapBit t Reg.TLK_UPMAP_LO_MAP Reg.TLK_UPMAP_HI_MAP n = true ∧
      t = { s with regs := t.regs, lanes := t.lanes } := by
  have hx : doTsbReceive n set false s = trained n (withId n set s) := by
    rw [doTsbReceive_good hm he ht hi hok hz]
    simp [tsbTraining, hb, hready, hbit, withId]
  obtain ⟨htr, hlink, htx, hid, hpend, hup, hframe⟩ := trained_shows hn (withId_frame n set s) rfl rfl rfl hr
  have htype : leAt set 3 2 < 2 ^ 16 := by
    have h3 := byteAt_lt set 3
    have h4 := byteAt_lt set 4
    change byteAt set 3 + 256 * (byteAt set 4 + 256 * 0) < 2 ^ 16
    omega
  refine ⟨_, congrArg Host.Outcome.next hx, htr, hlink, htx, ?_, ?_, ?_, hpend, hup, hframe⟩
  · rw [hid _ (by simp)]
    simp [withId, rd_wr, hb]
    omega
  · rw [hid _ (by simp)]
    simpa [withId, rd_wr] using htype
  · rw [hid _ (by simp)]
    simpa [withId, rd_wr] using byteAt_lt set 5

section
variable (hb : byteAt set 1 = n) (hready : tr.ready = false) (hport : bits (byteAt set 2) 0 1 = tsaPort s n)
include hb hready hport

theorem tsbReceive_counts (hrun : tr.run < 15) : ∃ t, exec (.tsbReceive n set false) s = .next t ∧
    TrainingIs n (some { tr with run := tr.run + 1 }) s t ∧ t = { s with regs := t.regs, lanes := t.lanes } := by
  have hx : doTsbReceive n set false s = withTraining n { tr with run := tr.run + 1 } (withId n set s) := by
    rw [doTsbReceive_good hm he ht hi hok hz, tsbTraining_counts hb hready hport, if_neg (by omega)]
  exact ⟨_, congrArg Host.Outcome.next hx, withTraining_is (s := withId n set s) _, (withId_frame n set s).modLane.eq⟩

theorem tsbReceive_sixteenth (hn : n < 66) (hrun : 15 ≤ tr.run) : ∃ t b, exec (.tsbReceive n set false) s = .next t ∧
    TrainingIs n (some { tr with run := tr.run + 1, ready := true }) s t ∧
    t = { s with regs := t.regs, lanes := t.lanes, tx := s.tx ++ [.train n 0x4A b] } ∧
    trainSetOk 0x4A b false = true ∧ bits (byteAt b 2) 1 2 = 1 := by
  have hx : doTsbReceive n set false s =
      sendTsa n true false (withTraining n { tr with run := tr.run + 1, ready := true } (withId n set s)) := by
    rw [doTsbReceive_good hm he ht hi hok hz, tsbTraining_counts hb hready hport, if_pos hrun]
  obtain ⟨b, hs, hgood, -, hbits⟩ := sendTsa_sends true false
    (withTraining n { tr with run := tr.run + 1, ready := true } (withId n set s)) hn
  exact ⟨_, b, congrArg Host.Outcome.next (hx.trans hs), withTraining_is (s := withId n set s) _,
    congrArg (fun u : State => { u with tx := s.tx ++ [Tx.train n 0x4A b] }) (withId_frame n set s).modLane.eq, hgood, hbits⟩

end
end
end

/-! ### An attempt without success (R200) -/

theorem trainAttemptTimeout_idles (ht : (laneOf s n).training = some tr) (hi : tr.idle = false) (ha : tr.attempt < 3) :
    ∃ t, exec (.trainAttemptTimeout n) s = .next t ∧ TrainingIs n (some { tr with idle := true }) s t ∧
      t = { s with lanes := t.lanes } := by
  have hx : doTrainAttemptTimeout n s = withTraining n { tr with idle := true } s := by
    simp [doTrainAttemptTimeout, ht, hi, ha, withTraining]
  exact ⟨_, congrArg Host.Outcome.next hx, withTraining_is _, rfl⟩

theorem trainAttemptTimeout_fails (hn : n < 66) (ht : (laneOf s n).training = some tr) (hi : tr.idle = false)
    (ha : 3 ≤ tr.attempt) (hr : NoneRuns s) : ∃ t, exec (.trainAttemptTimeout n) s = .next t ∧
      t = { s with regs := t.regs, lanes := t.lanes, inbox := s.inbox ++ [⟨0x0B2, 0x27, n, none⟩] } ∧
      TrainingIs n none s t ∧ linkOf t n = 3 := by
  obtain ⟨t, hx, hshow⟩ := failed_shows (source := 0x0B2) (kind := 0x27) hn (by decide) (OnLanes.refl _ s) rfl rfl rfl hr
  refine ⟨t, congrArg Host.Outcome.next ?_, hshow⟩
  rw [← hx]
  simp [doTrainAttemptTimeout, ht, hi, Nat.not_lt.2 ha]

theorem lanePllLock_locks (hm : mainOn s.dev.state = true) (hp : rd s Reg.TLK_CTRL_PLL_EN = 1) (hr : s.pilot.refOk = true) :
    ∃ t, exec .lanePllLock s = .next t ∧ rd t Reg.TLK_STATUS_PLL_LOCK = 1 ∧ OnlyRegs [Reg.TLK_STATUS_PLL_LOCK] s t := by
  have hx : doLanePllLock s = wr Reg.TLK_STATUS_PLL_LOCK 1 s := by simp [doLanePllLock, hm, hr, hp, rdb]
  exact ⟨_, congrArg Host.Outcome.next hx, rd_wr_same _ _ _, (OnlyRegs.refl _ s).wr⟩

end

end Sys2Proof.Machine
end

section
/-! PROOF. What a reaction to a fault leaves of the lanes -/

namespace Sys2Proof.Machine

/-- The registers that show the loss of the lane PLL: its two bits, its severity, the last message and LINK of each lane. -/
def showsLoss (k : Nat) : Bool :=
  [Reg.TLK_STATUS_PLL_LOCK.key, Reg.TLK_STATUS_PLL_LOST.key, (Reg.FCL_SEV 0x0B0).key, Reg.FCL_LAST_VALUE.key].contains k ||
    (Nat.ble (0x400A0100 * 32) k && Nat.ble k (0x400B0000 * 32) && k % 1024 == 389)

/-- A field that does not show it. -/
def elsewhere (f : Fld) : Bool := !showsLoss f.key

/-- The registers that show the loss of the lane PLL read as before. -/
def LossShown (s t : State) : Prop := ∀ g : Fld, showsLoss g.key = true → rd t g = rd s g

theorem showsLoss_link (n : Nat) (hn : n < 66) : showsLoss (Reg.TLK_LN_STATUS_LINK n).key = true := by
  have h1 : Nat.ble (0x400A0100 * 32) (laneKey n 389) = true := Nat.ble_eq_true_of_le (by simp only [laneKey]; omega)
  have h2 : Nat.ble (laneKey n 389) (0x400B0000 * 32) = true := Nat.ble_eq_true_of_le (by simp only [laneKey]; omega)
  have h3 : laneKey n 389 % 1024 = 389 := by simp only [laneKey]; omega
  simp [showsLoss, h1, h2, h3]

/-- The other fields of a lane do not show it. -/
theorem elsewhere_lane {n c : Nat} {f : Fld} (hf : f.key = laneKey n c) (hc : c < 1024) (h : c ≠ 389) : elsewhere f = true := by
  have hm : laneKey n c % 1024 ≠ 389 := by simp only [laneKey]; omega
  have hk : laneKey n c ∉ [Reg.TLK_STATUS_PLL_LOCK.key, Reg.TLK_STATUS_PLL_LOST.key, (Reg.FCL_SEV 0x0B0).key,
      Reg.FCL_LAST_VALUE.key] := by
    have hlow : ∀ k ∈ [Reg.TLK_STATUS_PLL_LOCK.key, Reg.TLK_STATUS_PLL_LOST.key, (Reg.FCL_SEV 0x0B0).key,
        Reg.FCL_LAST_VALUE.key], k < 0x400A0100 * 32 := by decide
    exact fun hmem => laneKey_ne_low (hlow _ hmem) rfl
  simp [elsewhere, showsLoss, hf, hm, hk]

/-- A field with an index, of a block behind the lanes'. -/
theorem elsewhere_far {base stride n lo width reset : Nat} (h : 0x400B0000 < base) :
    elsewhere ⟨base + stride * n, lo, width, reset⟩ = true := by
  have hle : 0x400B0000 * 32 < (base + stride * n) * 32 + lo := by
    have := Nat.le_add_right base (stride * n)
    omega
  have hb : Nat.ble ((base + stride * n) * 32 + lo) (0x400B0000 * 32) = false := by
    rw [Bool.eq_false_iff, ne_eq, Nat.ble_eq]
    omega
  have hk : ((base + stride * n) * 32 + lo) ∉ [Reg.TLK_STATUS_PLL_LOCK.key, Reg.TLK_STATUS_PLL_LOST.key,
      (Reg.FCL_SEV 0x0B0).key, Reg.FCL_LAST_VALUE.key] := by
    have hlow : ∀ k ∈ [Reg.TLK_STATUS_PLL_LOCK.key, Reg.TLK_STATUS_PLL_LOST.key, (Reg.FCL_SEV 0x0B0).key,
        Reg.FCL_LAST_VALUE.key], k < 0x400B0000 * 32 := by decide
    exact fun hmem => absurd (hlow _ hmem) (by omega)
  simp only [elsewhere, showsLoss, Fld.key] at hk ⊢
  simp [hb, hk]

/-- The pending bits of the interrupts. -/
theorem elsewhere_pend {n : Nat} (h : n < 6) : elsewhere (Reg.ITC_PEND_MAP n) = true := by
  have hw : ∀ n < 6, elsewhere (Reg.ITC_PEND_MAP n) = true := by decide
  exact hw n h

namespace LossShown

theorem refl (s : State) : LossShown s s := fun _ _ => rfl

section
variable {s t : State}

theorem of {u : State} (hf : LossShown s u → LossShown s t) (hu : LossShown s u) : LossShown s t := hf hu

/-- Only the registers count. -/
theorem frame {part pending now ntcFrom ntcOn rawHeld mem eccBad dev pilot pwc thm ras gte zne cor lanes tpr tiles far swp
    sns links ntm mbx image waits inbox fender core0 core1 mrc evr cku0 cku1 dump sec ptn tx freeCnt}
    (h : LossShown s t) : LossShown s ⟨part, pending, now, ntcFrom, ntcOn, rawHeld, t.regs, mem, eccBad, dev, pilot, pwc,
      thm, ras, gte, zne, cor, lanes, tpr, tiles, far, swp, sns, links, ntm, mbx, image, waits, inbox, fender, core0, core1,
      mrc, evr, cku0, cku1, dump, sec, ptn, tx, freeCnt⟩ := h

theorem ite {c : Prop} [Decidable c] {u : State} (ht : LossShown s t) (hu : LossShown s u) :
    LossShown s (if c then t else u) := by split <;> assumption

theorem iteFst {α : Type} {c : Prop} [Decidable c] {p q : State × α} (hp : LossShown s p.1) (hq : LossShown s q.1) :
    LossShown s (if c then p else q).1 := by split <;> assumption

theorem when {c : Bool} {f : State → State} (h : LossShown s t) (hf : ∀ {u}, LossShown s u → LossShown s (f u)) :
    LossShown s (when c f t) := .ite (hf h) h

theorem forEach {α : Type} {l : List α} {f : α → State → State} (h : LossShown s t)
    (hf : ∀ {u} x, LossShown s u → LossShown s (f x u)) : LossShown s (forEach l f t) :=
  forEach_invariant t (LossShown s) l f (fun x _ => hf x) h

theorem wr {f v} (hf : elsewhere f = true) (h : LossShown s t) : LossShown s (wr f v t) := fun g hg =>
  (rd_wr_ne t f g v fun e => by rw [elsewhere, ← e, hg] at hf; exact Bool.noConfusion hf).trans (h g hg)

/-- The same write on both sides. -/
theorem wrBoth {f v} (h : LossShown s t) : LossShown (Machine.wr f v s) (Machine.wr f v t) :=
  fun g hg => by rw [rd_wr, rd_wr, h g hg]

theorem satInc {f n} (hf : elsewhere f = true) (h : LossShown s t) : LossShown s (satInc f n t) := h.wr hf

theorem raise {src d} (h : LossShown s t) : LossShown s (raise src d t) := fun g hg => (rd_raise t src d g).trans (h g hg)

theorem send {x} (h : LossShown s t) : LossShown s (send x t) := h.frame

theorem fire {n} (h : LossShown s t) : LossShown s (fire n t) := by
  unfold Machine.fire
  split
  · next hk => exact .wr (elsewhere_pend (by simp only [irqKnown] at hk; grind)) h
  · exact h

theorem setMapBit {lo hi k v} (hl : elsewhere lo = true) (hh : elsewhere hi = true) (h : LossShown s t) :
    LossShown s (setMapBit lo hi k v t) := .ite (.wr hl h) (.ite (.wr hh h) h)

theorem psWrite {a bs} (h : LossShown s t) : LossShown s (psWrite a bs t) :=
  .ite h (.when (.when (t := { t with mem := _, eccBad := _ }) h.frame (·.raise)) (·.raise))

theorem setFaultN (h : LossShown s t) : LossShown s (setFaultN t) := .ite (.wr rfl h.frame) h.frame

theorem setEmber (h : LossShown s t) : LossShown s (setEmber t) := .wr rfl <| .wr rfl h

/-! ### Completions -/

theorem setDefq (h : LossShown s t) : LossShown s (setDefq t) :=
  .forEach h (fun _ h => .wr (elsewhere_far (by decide)) h)

theorem notifyPort {p} (h : LossShown s t) : LossShown s (notifyPort p t) := .ite h h.frame.send

theorem notify (h : LossShown s t) : LossShown s (notify t) := h.notifyPort.notifyPort

theorem setIrqPin (h : LossShown s t) : LossShown s (setIrqPin t) := .ite h (.send <| .wr rfl h)

theorem setPend {c} (h : LossShown s t) : LossShown s (setPend c t) :=
  .setIrqPin (.when (.when (.wr rfl h.frame) (·.notify)) (·.fire))

theorem windowFire {c} (h : LossShown s t) : LossShown s (windowFire c t) := .ite h.frame h.setPend

theorem windowCount {c n} (h : LossShown s t) : LossShown s (windowCount c n t) := .ite (.windowFire h.frame) h.frame

theorem canResponse {opc tag status fresh} (h : LossShown s t) : LossShown s (canResponse opc tag status fresh t) :=
  .ite h.send h

theorem afterRecord {q status} (h : LossShown s t) : LossShown s (afterRecord q status t) :=
  .of (fun hu => .ite (.wr rfl h) (.ite (.setPend hu) (.ite (.wr rfl (.windowCount hu)) (.windowCount hu))))
    (.ite (.wr rfl <| .canResponse h) h)

theorem complete {q status d0 d1} (h : LossShown s t) : LossShown s (complete q status d0 d1 t) :=
  .ite (.afterRecord <| .wr (elsewhere_far (by decide)) <| .psWrite h) h

theorem channelDrop {c} (h : LossShown s t) : LossShown s (channelDrop c t) :=
  .wr (elsewhere_far (by decide)) (.forEach (.setDefq <| .wr (elsewhere_far (by decide)) h.frame) (fun _ h => h.complete))

theorem channelSettle (h : LossShown s t) : LossShown s (channelSettle t) := .forEach h (fun _ h => .ite h.channelDrop h)

theorem finish {p status det} (h : LossShown s t) : LossShown s (finish p status det t) :=
  .channelSettle (.forEach h.frame (fun _ h => h.complete))

theorem finishKind {p status d0 d1} (h : LossShown s t) : LossShown s (finishKind p status d0 d1 t) := h.finish

/-! ### Demands of tiles -/

theorem sendBcast {kind args lanes} (h : LossShown s t) : LossShown s (sendBcast kind args lanes t) :=
  .when h (fun h => .forEach h (fun _ h => h.send))

theorem sendThrice {kind args lanes} (h : LossShown s t) : LossShown s (sendThrice kind args lanes t) :=
  h.sendBcast.sendBcast.sendBcast

theorem modTpr {n f} (h : LossShown s t) : LossShown s (modTpr n f t) := h.frame

theorem enqueue {lanes opc payload} (h : LossShown s t) : LossShown s (enqueue lanes opc payload t) :=
  .ite (.wr rfl h.frame) h

theorem sendPtn {type payload} (h : LossShown s t) : LossShown s (sendPtn type payload t) := .ite h.frame.send h

theorem sendBarrier {kind op lane cause} (h : LossShown s t) : LossShown s (sendBarrier kind op lane cause t) := h.sendPtn

theorem demandSets {op cause lanes} (h : LossShown s t) : LossShown s (demandSets op cause lanes t) :=
  .of (fun hu => .ite h (.ite (.sendThrice hu) (.ite (.sendThrice hu) (.ite (.enqueue hu) hu))))
    (.forEach h (fun _ h => h.modTpr))

theorem demand {op cause lane} (h : LossShown s t) : LossShown s (demand op cause lane t) :=
  .when h.demandSets (·.sendBarrier)

theorem setFdark {n b} (h : LossShown s t) : LossShown s (setFdark n b t) := .setMapBit rfl rfl h

theorem setDeg {n b} (h : LossShown s t) : LossShown s (setDeg n b t) := .setMapBit rfl rfl h

theorem setTileState {n v} (h : LossShown s t) : LossShown s (setTileState n v t) :=
  .setFdark <| .wr (elsewhere_far (by decide)) <| .wr (elsewhere_far (by decide)) h

theorem leaveService {n} (h : LossShown s t) : LossShown s (leaveService n t) :=
  .modTpr <| .setTileState <| .setDeg <| .wr (elsewhere_far (by decide)) <|
    .wr (elsewhere_lane (key_laneInserv n) (by decide) (by decide)) h

theorem leaveAll (h : LossShown s t) : LossShown s (leaveAll t) := .forEach h (fun _ h => h.leaveService)

/-! ### The latch -/

theorem evLose (h : LossShown s t) : LossShown s (evLose t) := .wr rfl <| .satInc rfl h.frame

theorem setQlevel (h : LossShown s t) : LossShown s (setQlevel t) := .wr rfl h

theorem evPush {m sev} (h : LossShown s t) : LossShown s (evPush m sev t) :=
  .ite h.evLose (.ite h.frame.setQlevel (.setQlevel (.when h.frame (·.evLose))))

theorem fenderVerdictSeen {m sev} (h : LossShown s t) : LossShown s (fenderVerdictSeen m sev t) :=
  .ite (.wr rfl <| .satInc rfl h.frame) h

theorem latchWarn {m sev} (h : LossShown s t) : LossShown s (latchWarn m sev t) :=
  .fire <| .of (.wr rfl) <| .ite (.satInc rfl <| .wr rfl h)
    (.wr rfl <| .wr rfl <| .wr rfl <| .wr rfl <| .wr rfl h)

/-- The latch changes the last message alone. -/
theorem latch {m : FMsg} (h : LossShown s t) : LossShown (Machine.wr Reg.FCL_LAST_VALUE (msgWord m) s) (latch m t) := by
  have hl : LossShown (Machine.wr Reg.FCL_LAST_VALUE (msgWord m) s) (Machine.wr Reg.FCL_LAST_VALUE (msgWord m)
      { t with links := { t.links with canHigh := max t.links.canHigh (severity t m.source) } }) := h.frame.wrBoth
  refine .setEmber (.setFaultN (.evPush (.fenderVerdictSeen ?_)))
  split
  · exact hl.satInc rfl
  · exact hl.latchWarn

theorem degradeAct {m} (h : LossShown s t) : LossShown s (degradeAct m t) :=
  .ite (.forEach h (fun _ h => h.demand.setDeg)) h

theorem sendHandover {reason} (h : LossShown s t) : LossShown s (sendHandover reason t) := h.frame.sendPtn

theorem withdraw (h : LossShown s t) : LossShown s (withdraw t) :=
  .ite h (.ite (.sendHandover <| .wr rfl h) (.ite (.wr rfl <| .wr rfl h.frame) h))

/-! ### FALLBACK -/

theorem refuse {cause} (h : LossShown s t) : LossShown s (refuse cause t) := .fire <| .wr rfl <| .wr rfl h

theorem applySet {m fcnt} (h : LossShown s t) : LossShown s (applySet m fcnt t) :=
  .fire (.when (.wr rfl h.frame) (.wr rfl ·))

theorem setPending (h : LossShown s t) : LossShown s (setPending t) := .wr rfl h

theorem commitStopped (h : LossShown s t) : LossShown s (commitStopped t).1 := by
  unfold Machine.commitStopped
  dsimp only
  split
  · exact h.frame.applySet
  · exact h.refuse

theorem stopWaiters {fault} (h : LossShown s t) : LossShown s (stopWaiters fault t) := by
  have hg : LossShown s (Machine.wr Reg.RAS_COMMIT_GO 0 (Machine.forEach (t.mbx.gathers.flatMap Prod.snd)
      (fun q => Machine.complete q.1 5 0 6) { t with mbx := { t.mbx with gathers := [] } })) :=
    .wr rfl (.forEach h.frame (fun _ h => h.complete))
  unfold Machine.stopWaiters
  dsimp only
  generalize Machine.wr Reg.RAS_COMMIT_GO 0 _ = u at hg ⊢
  refine .setPending (.finish (.finish ?_))
  split
  · exact .ite (.iteFst hg.commitStopped hg) (.applySet (.frame (.iteFst hg.commitStopped hg)))
  · exact .iteFst hg.commitStopped hg

theorem zneStop (h : LossShown s t) : LossShown s (zneStop t) :=
  .wr rfl <| .wr rfl <| .wr rfl <| .wr rfl <| .wr rfl <| .wr rfl <| .wr rfl <| .wr rfl <| .wr rfl <| .wr rfl <| .wr rfl <|
    .wr rfl <| .wr rfl <| .wr rfl <| .wr rfl <| .psWrite h.frame

theorem stopRaster {fault} (h : LossShown s t) : LossShown s (stopRaster fault t) :=
  .ite h <| .wr rfl <| .wr rfl <| .wr rfl <| .wr rfl <| .wr rfl <| .wr rfl <| .wr rfl <| .zneStop <| .stopWaiters <|
    .frame <| .wr rfl h

theorem setDev {d} (h : LossShown s t) : LossShown s (setDev d t) :=
  .setIrqPin (.setEmber (.setFaultN (.wr rfl h.frame)))

theorem writeVset {mv} (h : LossShown s t) : LossShown s (writeVset mv t) := .send <| .wr rfl h

theorem relevel (h : LossShown s t) : LossShown s (relevel t) :=
  .ite (.finishKind <| .frame <| .wr rfl h)
    (.ite h (.when (.wr rfl h.frame) (·.writeVset)))

theorem startRecovery (h : LossShown s t) : LossShown s (startRecovery t) := h.frame

theorem abortTransitions (h : LossShown s t) : LossShown s (abortTransitions t) := h.frame.finishKind

theorem enterFallbackState (h : LossShown s t) : LossShown s (enterFallbackState t) := by
  have hd : LossShown s (Machine.setDev .fallback
      (Machine.wr Reg.FCL_SAFEKIND_VALUE 0 { t with dev := { t.dev with sPlate := false } })) := (h.frame.wr rfl).setDev
  exact hd.startRecovery.stopRaster.leaveAll.abortTransitions.finishKind.finishKind.relevel

theorem fbLight {m} (h : LossShown s t) : LossShown s (fbLight m t) := .ite h.frame (.wr rfl h.frame)

theorem fallbackOutputs (h : LossShown s t) : LossShown s (fallbackOutputs t) := by
  have hd : LossShown s { t with pilot := { t.pilot with sFallback := true } } := h.frame
  have hl (m : Nat) := ((hd.wr (f := Reg.COR_GATE_FDARK_LO_MAP) (v := 0xFFFFFFFF) rfl).wr
    (f := Reg.COR_GATE_FDARK_HI_MAP) (v := 0xFFFFFFFF) rfl).fbLight (m := m)
  exact .wr rfl (hl _).frame

theorem enterSFallback (h : LossShown s t) : LossShown s (enterSFallback t) := h.fallbackOutputs.enterFallbackState

end

end LossShown

end Sys2Proof.Machine
end

section
/-! PROOF. The lane PLL loses lock (R214) -/

namespace Sys2Proof.Machine

section
variable {s t : State} {n k : Nat}

/-! ### Every lane is down -/

/-- Lane `k` goes down: its training is over and it searches where it was in sync. -/
def laneDown (k : Nat) (s : State) : State :=
  s |> endTraining k 0 |> when (rd s (Reg.TLK_LN_STATUS_RXST k) == 2) (setRxst k 1)

/-- Lane `k` goes down and LANE_TRAIN on it ends. -/
def downStep (k : Nat) (s : State) : State := trainDone k 11 (laneDown k s)

/-- PLL_LOCK and PLL_LOST after the loss. -/
def pllLost (s : State) : State := s |> wr Reg.TLK_STATUS_PLL_LOCK 0 |> wr Reg.TLK_STATUS_PLL_LOST 1

/-- The lanes that are not down yet. -/
def lanesAwake (s : State) : List Nat :=
  (List.range 66).filter (fun n => linkOf s n != 0 || rd s (Reg.TLK_LN_STATUS_RXST n) != 0)

theorem pllDown_eq (s : State) : pllDown s = forEach (lanesAwake (pllLost s)) downStep (pllLost s) := rfl

theorem laneDown_frame (k : Nat) (s : State) : OnLanes (linkFields k ++ rxstFields k) s (laneDown k s) :=
  ((OnLanes.refl _ s).endTraining).when (·.setRxst)

theorem downStep_none (hk : k < 66) (h : NoneRuns s) : downStep k s = laneDown k s :=
  trainDone_none ((laneDown_frame k s).noneRuns h (by simp [hk]))

/-- A lane that goes down leaves the others' LINK alone. -/
theorem linkOf_laneDown (m : Nat) : linkOf (laneDown k s) m = if m = k then 0 else linkOf s m := by
  simp [linkOf, laneDown, rd_when, rd_setRxst, endTraining, rd_setLink]

theorem forEach_cons {α : Type} (x : α) (l : List α) (f : α → State → State) :
    forEach (x :: l) f s = forEach l f (f x s) := rfl

/-- The lanes of the list are down, the others as they were, and nothing runs. -/
theorem forEach_downStep {l : List Nat} (hl : ∀ k ∈ l, k < 66) (h : NoneRuns s) :
    NoneRuns (forEach l downStep s) ∧ (∀ m, linkOf (forEach l downStep s) m = if m ∈ l then 0 else linkOf s m) ∧
      ∀ g : Fld, g.key < 0x400A0010 * 32 → rd (forEach l downStep s) g = rd s g := by
  induction l generalizing s with
  | nil => exact ⟨h, fun m => by simp [forEach], fun _ _ => rfl⟩
  | cons x l ih =>
    have hx := hl x (by simp)
    have hf := laneDown_frame x s
    have hs : forEach (x :: l) downStep s = forEach l downStep (laneDown x s) := by
      rw [forEach_cons, downStep_none hx h]
    obtain ⟨hn, hlink, hlow⟩ := ih (s := laneDown x s) (fun k hk => hl k (by simp [hk])) (hf.noneRuns h (by simp [hx]))
    rw [hs]
    refine ⟨hn, fun m => ?_, fun g hg => (hlow g hg).trans (hf.regs g ?_)⟩
    · rw [hlink, linkOf_laneDown]
      by_cases hm : m = x <;> by_cases hml : m ∈ l <;> simp [hm, hml]
    · have h1 : g.key ≠ Reg.TLK_UPMAP_LO_MAP.key ∧ g.key ≠ Reg.TLK_UPMAP_HI_MAP.key ∧
          g.key ≠ Reg.TLK_SYNCMAP_LO_MAP.key ∧ g.key ≠ Reg.TLK_SYNCMAP_HI_MAP.key := by
        simp only [key_upmapLo, key_upmapHi, key_syncmapLo, key_syncmapHi]
        omega
      have h2 (c : Nat) : g.key ≠ laneKey x c := low_ne_laneKey (by omega)
      simpa [h2] using h1

theorem Stays.downStep {en : Bool} (h : Stays en s t) : Stays en s (downStep k t) := by
  have hlane (c w r : Nat) : unwatched ⟨0x400A010C + 0x20 * k, c, w, r⟩ = true := unwatched_far (by decide)
  have hl : Stays en s (endTraining k 0 t) := .setMapBit rfl rfl <| .wr (hlane ..) h.frame
  have hd : Stays en s (laneDown k t) := hl.when fun hv => .setMapBit rfl rfl <| .wr (hlane ..) hv
  unfold Machine.downStep trainDone
  exact hd.finishKind (fun _ => ⟨rfl, rfl⟩)

theorem Stays.pllDown {en : Bool} (h : Stays en s t) : Stays en s (pllDown t) := by
  rw [pllDown_eq]
  exact .forEach (.wr rfl <| .wr rfl h) (fun _ hu => hu.downStep)

/-- The PLL's bits show the loss and every lane is down. -/
theorem pllDown_shows (hn : n < 66) (h : NoneRuns s) : rd (pllDown s) Reg.TLK_STATUS_PLL_LOCK = 0 ∧
    rd (pllDown s) Reg.TLK_STATUS_PLL_LOST = 1 ∧ severity (pllDown s) 0x0B0 = severity s 0x0B0 ∧ linkOf (pllDown s) n = 0 := by
  have hl : NoneRuns (pllLost s) := h.frame (fs := [Reg.TLK_STATUS_PLL_LOCK, Reg.TLK_STATUS_PLL_LOST]) rfl
    ((RegsBut.refl s _).wr (by simp) |>.wr (by simp))
  obtain ⟨-, hlink, hlow⟩ := forEach_downStep (l := lanesAwake (pllLost s))
    (fun k hk => List.mem_range.1 (List.mem_filter.1 hk).1) hl
  rw [pllDown_eq]
  refine ⟨?_, ?_, ?_, ?_⟩
  · rw [hlow _ (by decide), pllLost, rd_wr_ne _ _ _ _ (by decide), rd_wr_same]
    rfl
  · rw [hlow _ (by decide), pllLost, rd_wr_same]
    rfl
  · rw [severity, hlow _ (by decide), pllLost, rd_wr_ne _ _ _ _ (by decide), rd_wr_ne _ _ _ _ (by decide)]
    rfl
  · rw [hlink]
    split
    · rfl
    · next hm =>
      by_contra h0
      exact hm (List.mem_filter.2 ⟨List.mem_range.2 hn, by simp [h0]⟩)

/-! ### The reaction -/

/-- What stays after a latch that may hold a first message already. -/
def Latched (s u : State) : Prop := u.dev = s.dev ∧ u.tiles = s.tiles ∧ u.mbx = s.mbx

theorem Stays.latch {en : Bool} {m : FMsg} (h : Stays en s t) : ∃ u, Stays en u (latch m t) ∧ Latched s u := by
  have hl : Stays en s { t with links := { t.links with canHigh := max t.links.canHigh (severity t m.source) } } := h.frame
  have hrest {u v : State} (hv : Stays en u v) :
      Stays en u (Machine.setEmber (Machine.setFaultN (Machine.evPush m (severity t m.source)
        (Machine.fenderVerdictSeen m (severity t m.source) v)))) :=
    .setEmber (.setFaultN (.evPush (.fenderVerdictSeen hv)))
  unfold Machine.latch
  dsimp only
  split
  · exact ⟨s, hrest (.satInc rfl (hl.wr rfl)), rfl, rfl, rfl⟩
  · have hw : ∃ u, Stays en u (Machine.latchWarn m (severity t m.source) (Machine.wr Reg.FCL_LAST_VALUE (msgWord m)
        { t with links := { t.links with canHigh := max t.links.canHigh (severity t m.source) } })) ∧ Latched s u := by
      unfold Machine.latchWarn
      dsimp only
      split
      · exact ⟨s, .fire (.wr rfl (.satInc rfl (.wr rfl (hl.wr rfl)))), rfl, rfl, rfl⟩
      · exact ⟨firstLatched (msgWord m) s, .fire (.wr rfl (.wrBoth (.wr rfl (.wr rfl (.wr rfl (.wrBoth (hl.wr rfl))))))),
          rfl, rfl, rfl⟩
    obtain ⟨u, hu, hlu⟩ := hw
    exact ⟨u, hrest hu, hlu⟩

/-- LANE_PLL. -/
def pllMsg : FMsg := ⟨0x0B0, 0x25, 0, none⟩

theorem pllMsg_word : msgWord pllMsg = 0x58250000 := by decide

/-- One message is taken alone. -/
theorem faultReact_pll (hm : mainOn s.dev.state = true) : faultReact [pllMsg] s =
    setEmber (setFaultN (reactFatal [pllMsg] (reactSafe [pllMsg] (degradeAct pllMsg (latch pllMsg s))))) := by
  have hk : ([pllMsg].filter msgKnown).mergeSort (msgBefore s) = [pllMsg] := by
    have h : msgKnown pllMsg = true := by decide
    simp [h]
  have h1 (u : State) : reactS1 pllMsg u = u := by simp [reactS1, pllMsg]
  have h2 (u : State) : reactPair pllMsg u = u := by simp [reactPair, pllMsg]
  unfold faultReact
  rw [hm, hk]
  simp [forEach_one, h1, h2]

/-- What shows the loss of the PLL keeps doing so where only the last message changes. -/
theorem severity_lossShown {w : Nat} (h : LossShown (wr Reg.FCL_LAST_VALUE w s) t) : severity t 0x0B0 = severity s 0x0B0 :=
  (h _ (by decide)).trans (rd_wr_ne _ _ _ _ (by decide))

theorem fallbackOutputs_sFallback (s : State) : (fallbackOutputs s).pilot.sFallback = true := by
  unfold fallbackOutputs fbLight
  dsimp only
  split <;> rfl

theorem enterSFallback_sFallback (s : State) : (enterSFallback s).pilot.sFallback = true := by
  have h := fallbackOutputs_sFallback s
  rw [enterSFallback]
  generalize fallbackOutputs s = u at h ⊢
  exact (Stays.refl false u).enterFallbackState.sFallback.trans h

/-- Where tiles are lit, LANE_PLL leads to S-FALLBACK. -/
theorem faultReact_pll_lit (hs : severity s 0x0B0 = 3) (hr : rasterState s.dev.state = true) (hn : NothingWaits s) :
    (faultReact [pllMsg] s).dev.state = .fallback ∧ (faultReact [pllMsg] s).pilot.sFallback = true ∧
      NothingWaits (faultReact [pllMsg] s) ∧ LossShown (wr Reg.FCL_LAST_VALUE (msgWord pllMsg) s) (faultReact [pllMsg] s) := by
  have hm : mainOn s.dev.state = true := by
    revert hr
    cases s.dev.state <;> simp [rasterState, mainOn]
  obtain ⟨u, hu, hdev, -, hmbx⟩ := (Stays.refl false s).latch (m := pllMsg)
  have hd := hu.degradeAct (m := pllMsg)
  have hshow : LossShown (wr Reg.FCL_LAST_VALUE (msgWord pllMsg) s) (degradeAct pllMsg (latch pllMsg s)) :=
    (LossShown.refl s).latch.degradeAct
  have hfall : LossShown (wr Reg.FCL_LAST_VALUE (msgWord pllMsg) s)
      (enterSFallback (withdraw (degradeAct pllMsg (latch pllMsg s)))) := hshow.withdraw.enterSFallback
  have hsafe := hd.withdraw.enterSFallback
  have hc : choosesFallback (degradeAct pllMsg (latch pllMsg s)) pllMsg = true := by simp [choosesFallback, pllMsg]
  have hsev : severity (degradeAct pllMsg (latch pllMsg s)) pllMsg.source = 3 := (severity_lossShown hshow).trans hs
  have hsev' : severity (enterSFallback (withdraw (degradeAct pllMsg (latch pllMsg s)))) pllMsg.source = 3 :=
    (severity_lossShown hfall).trans hs
  have hrest : faultReact [pllMsg] s =
      setEmber (setFaultN (enterSFallback (withdraw (degradeAct pllMsg (latch pllMsg s))))) := by
    rw [faultReact_pll hm, reactSafe_fallback hsev (by rw [hd.dev, hdev]; exact hr) hc, reactFatal_below hsev']
  rw [hrest]
  have hlight := enterSFallback_sFallback (withdraw (degradeAct pllMsg (latch pllMsg s)))
  generalize enterSFallback (withdraw (degradeAct pllMsg (latch pllMsg s))) = v at hsafe hfall hlight ⊢
  have hlast : Stays false v (setEmber (setFaultN v)) := (Stays.refl false v).setFaultN.setEmber
  have hin := hsafe.stays hlast
  refine ⟨hin.dev, hlast.sFallback.trans hlight, hin.waits ?_, hfall.setFaultN.setEmber⟩
  exact ⟨(congrArg Mbx.deferred hmbx).trans hn.1, (congrArg Mbx.withdraw hmbx).trans hn.2⟩

/-- In STANDBY, LANE_PLL is latched. -/
theorem faultReact_pll_standby (hs : severity s 0x0B0 = 3) (hd : s.dev.state = .standby) (hn : NothingWaits s) :
    (faultReact [pllMsg] s).dev.state = .standby ∧ (faultReact [pllMsg] s).tiles = s.tiles ∧
      NothingWaits (faultReact [pllMsg] s) ∧ LossShown (wr Reg.FCL_LAST_VALUE (msgWord pllMsg) s) (faultReact [pllMsg] s) := by
  obtain ⟨u, hu, hdev, htiles, hmbx⟩ := (Stays.refl false s).latch (m := pllMsg)
  have hshow : LossShown (wr Reg.FCL_LAST_VALUE (msgWord pllMsg) s) (latch pllMsg s) := (LossShown.refl s).latch
  have hr : rasterState (latch pllMsg s).dev.state = false := by rw [hu.dev, hdev, hd]; rfl
  have hsev : severity (latch pllMsg s) pllMsg.source = 3 := (severity_lossShown hshow).trans hs
  have hrest : faultReact [pllMsg] s = setEmber (setFaultN (latch pllMsg s)) := by
    have hdeg : degradeAct pllMsg (latch pllMsg s) = latch pllMsg s := by simp [degradeAct, hr]
    have hsafe : reactSafe [pllMsg] (latch pllMsg s) = latch pllMsg s := by simp [reactSafe, hsev, hr]
    rw [faultReact_pll (by rw [hd]; rfl), hdeg, hsafe, reactFatal_below hsev]
  rw [hrest]
  have hlast := hu.setFaultN.setEmber
  refine ⟨?_, hlast.tiles.trans htiles, hlast.nothingWaits ?_, hshow.setFaultN.setEmber⟩
  · rw [hlast.dev, hdev, hd]
  · exact ⟨(congrArg Mbx.deferred hmbx).trans hn.1, (congrArg Mbx.withdraw hmbx).trans hn.2⟩

end

end Sys2Proof.Machine
end

section
/-! PROOF. Lanes train and fail -/

namespace Sys2Proof.Machine

section
variable {s : State} {e : Env}

/-- The reaction that follows the loss shows the lanes down and the PLL lost, and ends as it is where nothing waits. -/
theorem lanePllLoss_next (hm : mainOn s.dev.state = true) (hl : rd s Reg.TLK_STATUS_PLL_LOCK = 1)
    (hn : NothingWaits (faultReact [pllMsg] (pllDown (atTime e.t s)))) :
    exec (.lanePllLoss e) s = .next (faultReact [pllMsg] (pllDown (atTime e.t s))) := by
  have hx : doLanePllLoss e s = faultReact [pllMsg] (pllDown (atTime e.t s)) := by
    simp [doLanePllLoss, hm, hl, rdb, pllMsg]
  rw [← hx] at hn ⊢
  exact congrArg Host.Outcome.next (settled_none s e (doLanePllLoss e) hn)

/-- What the registers show after the reaction. -/
theorem lossShown_reads {n : Nat} {v : State} (hn : n < 66) (hr : NoneRuns s)
    (h : LossShown (wr Reg.FCL_LAST_VALUE (msgWord pllMsg) (pllDown (atTime e.t s))) v) :
    rd v Reg.FCL_LAST_VALUE = 0x58250000 ∧ rd v Reg.TLK_STATUS_PLL_LOCK = 0 ∧ rd v Reg.TLK_STATUS_PLL_LOST = 1 ∧
      linkOf v n = 0 := by
  obtain ⟨hlock, hlost, -, hlink⟩ := pllDown_shows (s := atTime e.t s) hn hr
  refine ⟨?_, ?_, ?_, ?_⟩
  · rw [h _ (by decide), rd_wr_same, pllMsg_word]
    rfl
  · rw [h _ (by decide), rd_wr_ne _ _ _ _ (by decide), hlock]
  · rw [h _ (by decide), rd_wr_ne _ _ _ _ (by decide), hlost]
  · rw [linkOf, h _ (showsLoss_link n hn), rd_wr_ne _ _ _ _ (by simp [show Reg.FCL_LAST_VALUE.key = 0x40030018 * 32 from rfl])]
    exact hlink

theorem lanePllLoss_falls {n : Nat} (hn : n < 66) (hl : rd s Reg.TLK_STATUS_PLL_LOCK = 1) (hs : severity s 0x0B0 = 3)
    (hw : NothingWaits s) (hr : NoneRuns s) (hd : rasterState s.dev.state = true) :
    ∃ t, exec (.lanePllLoss e) s = .next t ∧ t.dev.state = .fallback ∧ t.pilot.sFallback = true ∧
      rd t Reg.TLK_STATUS_PLL_LOCK = 0 ∧ rd t Reg.TLK_STATUS_PLL_LOST = 1 ∧ linkOf t n = 0 := by
  have hm : mainOn s.dev.state = true := by
    revert hd
    cases s.dev.state <;> simp [rasterState, mainOn]
  have hp : Stays false s (pllDown (atTime e.t s)) := (Stays.refl false s).atTime.pllDown
  obtain ⟨-, -, hsev, -⟩ := pllDown_shows (s := atTime e.t s) hn hr
  obtain ⟨hdev, hfall, hnone, hshow⟩ := faultReact_pll_lit (hsev.trans hs) (by rw [hp.dev]; exact hd) (hp.nothingWaits hw)
  obtain ⟨-, hlock, hlost, hlink⟩ := lossShown_reads hn hr hshow
  exact ⟨_, lanePllLoss_next hm hl hnone, hdev, hfall, hlock, hlost, hlink⟩

theorem lanePllLoss_standby {n : Nat} (hn : n < 66) (hl : rd s Reg.TLK_STATUS_PLL_LOCK = 1) (hs : severity s 0x0B0 = 3)
    (hw : NothingWaits s) (hr : NoneRuns s) (hd : s.dev.state = .standby) :
    ∃ t, exec (.lanePllLoss e) s = .next t ∧ t.dev.state = .standby ∧ rd t Reg.FCL_LAST_VALUE = 0x58250000 ∧
      rd t Reg.TLK_STATUS_PLL_LOCK = 0 ∧ rd t Reg.TLK_STATUS_PLL_LOST = 1 ∧ linkOf t n = 0 ∧ t.tiles = s.tiles := by
  have hp : Stays false s (pllDown (atTime e.t s)) := (Stays.refl false s).atTime.pllDown
  obtain ⟨-, -, hsev, -⟩ := pllDown_shows (s := atTime e.t s) hn hr
  obtain ⟨hdev, htiles, hnone, hshow⟩ :=
    faultReact_pll_standby (hsev.trans hs) (by rw [hp.dev]; exact hd) (hp.nothingWaits hw)
  obtain ⟨hlast, hlock, hlost, hlink⟩ := lossShown_reads hn hr hshow
  exact ⟨_, lanePllLoss_next (by rw [hd]; rfl) hl hnone, hdev, hlast, hlock, hlost, hlink, htiles.trans hp.tiles⟩

end

/-- Settles O50, from what each event does to a lane in training and from the reaction to the loss of the lane PLL. -/
theorem lanesTrainAndFail : Obligations.LanesTrainAndFail := by
  intro s n hn
  refine ⟨⟨fun hm he => ⟨fun hi hl => ⟨_, congrArg Host.Outcome.next (doTlkTrainWrite_starts hm he hi hl),
        startAttempt_begins hn⟩,
      fun hb => congrArg Host.Outcome.next ((doTlkTrainWrite_busy hm he hb).trans (laneCfg_eq hn))⟩,
      fun tr ht hi => ⟨_, congrArg Host.Outcome.next (doTrainIdleEnd_retries ht hi), startAttempt_begins hn⟩⟩,
    ⟨fun tr set hm he ht hi => ⟨fun hok hz => ⟨fun hb hr => tsbReceive_otherLane hm he ht hi hok hz hn hb hr,
        fun hb hready hbit h64 hr => tsbReceive_ready hm he ht hi hok hz hb hready hbit h64 hr,
        fun hb hready hport => ⟨fun hrun => tsbReceive_counts hm he ht hi hok hz hb hready hport hrun,
          fun hrun => tsbReceive_sixteenth hm he ht hi hok hz hb hready hport hn hrun⟩⟩,
        tsbReceive_invalid hm he ht hi⟩,
      fun tr ht hi => ⟨fun ha => trainAttemptTimeout_idles ht hi ha,
        fun ha hr => trainAttemptTimeout_fails hn ht hi ha hr⟩⟩,
    fun hm hp hr => lanePllLock_locks hm hp hr,
    fun e hl hs hw hr => ⟨fun hd _ => lanePllLoss_falls hn hl hs hw hr hd, fun hd => lanePllLoss_standby hn hl hs hw hr hd⟩⟩

end Sys2Proof.Machine
end

section
/-! PROOF. What a completion leaves, and the one command that waits -/

namespace Sys2Proof.Machine

/-- Nothing but a record of a completion came: TPR is as it was, and so are the reset bits of the channels. -/
structure Recording (s t : State) : Prop where
  tpr : t.tpr = s.tpr
  reset : ∀ c, rd t (Reg.HIF_MB_CTRL_RESET c) = rd s (Reg.HIF_MB_CTRL_RESET c)

namespace Recording

theorem refl (s : State) : Recording s s := ⟨rfl, fun _ => rfl⟩

section
variable {s t : State}

/-- Only the registers and TPR count. -/
theorem frame {part pending now ntcFrom ntcOn rawHeld mem eccBad dev pilot pwc thm ras gte zne cor lanes tiles far swp
    sns links ntm mbx image waits inbox fender core0 core1 mrc evr cku0 cku1 dump sec ptn tx freeCnt}
    (h : Recording s t) : Recording s ⟨part, pending, now, ntcFrom, ntcOn, rawHeld, t.regs, mem, eccBad, dev, pilot, pwc,
      thm, ras, gte, zne, cor, lanes, t.tpr, tiles, far, swp, sns, links, ntm, mbx, image, waits, inbox, fender, core0,
      core1, mrc, evr, cku0, cku1, dump, sec, ptn, tx, freeCnt⟩ := { h with }

theorem of {u : State} (hf : Recording s u → Recording s t) (hu : Recording s u) : Recording s t := hf hu

theorem ite {c : Prop} [Decidable c] {u : State} (ht : Recording s t) (hu : Recording s u) :
    Recording s (if c then t else u) := by split <;> assumption

theorem when {c : Bool} {f : State → State} (h : Recording s t) (hf : ∀ {u}, Recording s u → Recording s (f u)) :
    Recording s (when c f t) := .ite (hf h) h

/-- The reset bits stand at one place of their channels' blocks. -/
theorem wr {f v} (hf : f.key % 2048 ≠ 768) (h : Recording s t) : Recording s (wr f v t) :=
  { h with
    reset := fun c => (rd_wr_ne t f _ v fun e => by
      rw [← e] at hf
      simp only [Fld.key, Reg.HIF_MB_CTRL_RESET] at hf
      omega).trans (h.reset c) }

theorem raise {src d} (h : Recording s t) : Recording s (raise src d t) := by
  unfold Machine.raise Machine.raiseExt
  split
  exacts [h.frame, h]

theorem fire {n} (h : Recording s t) : Recording s (fire n t) := by
  unfold Machine.fire
  split
  · next hk =>
    have hn : n / 32 < 6 := by simp only [irqKnown] at hk; grind
    exact .wr (by simp only [Fld.key, Reg.ITC_PEND_MAP]; omega) h
  · exact h

theorem psWrite {a bs} (h : Recording s t) : Recording s (psWrite a bs t) :=
  .ite h (.when (.when (t := { t with mem := _, eccBad := _ }) h.frame (·.raise)) (·.raise))

theorem notifyPort {p} (h : Recording s t) : Recording s (notifyPort p t) := .ite h h.frame

theorem setIrqPin (h : Recording s t) : Recording s (setIrqPin t) :=
  .ite h (.frame (.wr (f := Reg.HIF_MB_HOST_IRQ) (by decide) h))

theorem setPend {c} (h : Recording s t) : Recording s (setPend c t) :=
  .setIrqPin (.when (.when (.wr (by decide) h.frame) (·.notifyPort.notifyPort)) (·.fire))

theorem windowFire {c} (h : Recording s t) : Recording s (windowFire c t) := .ite h.frame h.setPend

theorem windowCount {c n} (h : Recording s t) : Recording s (windowCount c n t) := .ite (.windowFire h.frame) h.frame

theorem canResponse {opc tag status fresh} (h : Recording s t) : Recording s (canResponse opc tag status fresh t) :=
  .ite h.frame h

theorem afterRecord {q status} (h : Recording s t) : Recording s (afterRecord q status t) :=
  .of (fun hu => .ite (.wr (by decide) h) (.ite (.setPend hu) (.ite (.wr (by decide) (.windowCount hu)) (.windowCount hu))))
    (.ite (.wr (by decide) <| .canResponse h) h)

/-- A completion writes its record. -/
theorem complete (q : Cpl) (status d0 d1 : Nat) (h : Recording s t) : Recording s (complete q status d0 d1 t) :=
  .ite (.afterRecord <| .wr (by simp only [Fld.key, Reg.HIF_MB_CPLWP_COUNT]; omega) <| .psWrite h) h

end

end Recording

/-- The one command that waits completes, and no other state changes. -/
theorem finishKind_one {s : State} {w : Waiter} {p : WaitKind → Bool} {status d0 d1 : Nat} (hw : s.waits = [w])
    (hp : p w.kind = true) (hn : NoneRuns { s with waits := [] }) :
    finishKind p status d0 d1 s = complete w.cpl status d0 d1 { s with waits := [] } := by
  have hc := (Recording.refl { s with waits := [] }).complete w.cpl status d0 d1
  have hs := channelSettle_idle (complete w.cpl status d0 d1 { s with waits := [] })
    fun c h => (hc.reset c).trans (hn.2 c h)
  simp [finishKind, finish, hw, hp, forEach, hs]

end Sys2Proof.Machine
end

section
/-! PROOF. The commands on lanes (R362) -/

namespace Sys2Proof.Machine

section
variable {s : State} {d : Desc} {e : Env} {opc n : Nat}

theorem laneCount_le (s : State) : laneCount s ≤ 64 := by
  unfold laneCount tileCols tileRows
  cases s.part <;> decide

/-- Lanes are those of the part and the two partner lanes. -/
theorem lt_of_laneExists (h : laneExists s n = true) : n < 66 := by
  have hl := laneCount_le s
  simp only [laneExists, Bool.or_eq_true, decide_eq_true_eq, beq_iff_eq] at h
  omega

/-! ### The lanes where the descriptor is taken -/

/-- A field of a lane reads as before the take. -/
theorem taken_lane {f : Fld} {c : Nat} (hf : f.key = laneKey n c) (hc : c < 1024) (hn : n < 66) :
    rd (taken opc d e s) f = rd s f := by
  refine taken_rd s d e opc ?_
  rw [hf]
  simp only [Fld.key, Reg.HIF_MB_AUTHCNT_COUNT, laneKey]
  omega

theorem inService_taken (hn : n < 66) : inService (taken opc d e s) n = inService s n :=
  congrArg (· != 0) (taken_lane (key_laneInserv n) (by decide) hn)

theorem linkOf_taken (hn : n < 66) : linkOf (taken opc d e s) n = linkOf s n :=
  taken_lane (key_laneLink n) (by decide) hn

@[simp] theorem taken_lanes : (taken opc d e s).lanes = s.lanes :=
  (congrArg State.lanes (taken_spec s d e opc).frame).trans rfl

@[simp] theorem taken_inbox : (taken opc d e s).inbox = s.inbox :=
  (congrArg State.inbox (taken_spec s d e opc).frame).trans rfl

@[simp] theorem taken_tpr : (taken opc d e s).tpr = s.tpr :=
  (congrArg State.tpr (taken_spec s d e opc).frame).trans rfl

/-! ### LANE_TRAIN -/

theorem laneTrain_starts (h : Runs 0x0D02 d e s) (hi : inService s (p8 d 0) = false) (hl : linkOf s (p8 d 0) ≠ 1) :
    ∃ t, exec (.laneTrain d e) s = .next t ∧ Waits 0x0D02 d false (.laneTrain (p8 d 0)) s t ∧ linkOf t (p8 d 0) = 1 ∧
      (laneOf t (p8 d 0)).training = some ⟨1, 0, false, false⟩ ∧ rd t (Reg.TLK_LN_CTRL_TX_ON (p8 d 0)) = 1 ∧
      rd t (Reg.TLK_LN_CTRL_RX_ON (p8 d 0)) = 1 ∧ rd t (Reg.TLK_LN_STATUS_TXST (p8 d 0)) = 1 ∧ t.inbox = s.inbox ∧
      t.mem = s.mem ∧ t.dev = s.dev ∧ t.tiles = s.tiles ∧ (∀ m, m ≠ p8 d 0 → laneOf t m = laneOf s m) := by
  have he : laneExists (taken 0x0D02 d e s) (p8 d 0) = true := h.params_ok s d e (c := cmdLaneTrain) rfl
  have hcmd : cmdLaneTrain.run (cplOf 0x0D02 d false) d e (taken 0x0D02 d e s) =
      doTlkTrainWrite (p8 d 0) (waitFor (cplOf 0x0D02 d false) false (.laneTrain (p8 d 0)) (taken 0x0D02 d e s)) := rfl
  generalize p8 d 0 = n at *
  have hn := lt_of_laneExists he
  let u := waitFor (cplOf 0x0D02 d false) false (.laneTrain n) (taken 0x0D02 d e s)
  have hud : u.dev = s.dev := taken_dev s d e _
  have hm : mainOn u.dev.state = true := by rw [hud]; exact h.powered
  have hrun : doTlkTrainWrite n u = startAttempt n 1 u :=
    doTlkTrainWrite_starts hm he ((inService_taken hn).trans hi) (fun h1 => hl ((linkOf_taken hn).symm.trans h1))
  obtain ⟨hf, hlane, hlink, htx, hrx, htxst, -⟩ : AttemptBegun n 1 u (startAttempt n 1 u) := startAttempt_begins hn
  have hlanes (m : Nat) : laneOf u m = laneOf s m := laneOf_congr taken_lanes m
  have hd : (startAttempt n 1 u).dev = s.dev := by rw [hf]; exact hud
  have hwait : Waits 0x0D02 d false (.laneTrain n) s (startAttempt n 1 u) := by
    rw [Waits, hf]
    exact congrArg (· ++ _) (taken_waits s d e _)
  refine ⟨_, exec_of_waiting_run rfl rfl h rfl (hcmd.trans hrun) hd hwait, hwait, hlink, ?_, htx, hrx, htxst, ?_, ?_, hd, ?_,
    fun m hne => ?_⟩
  · rw [hlane, if_pos rfl]
  · rw [hf]; exact taken_inbox
  · rw [hf]; exact taken_mem s d e _
  · rw [hf]; exact taken_tiles s d e _
  · rw [hlane, if_neg hne, hlanes]

/-! ### LANE_TEST -/

/-- The lane of a test, with its counters cleared. -/
def laneTested (n lb p : Nat) (s : State) : State :=
  settleDirs n (wr (Reg.TLK_LN_CTRL_PRBS n) p (setLoopback n lb s))
    |> wr (Reg.TLK_LN_ERR_CV n) 0 |> wr (Reg.TLK_LN_ERR_DISP n) 0 |> wr (Reg.TLK_LN_PRBS_ERRBITS n) 0

/-- The fields that a test may write. -/
@[simp] def testFields (n : Nat) : List Fld :=
  loopbackFields n ++ [Reg.TLK_LN_CTRL_PRBS n, Reg.TLK_LN_ERR_CV n, Reg.TLK_LN_ERR_DISP n, Reg.TLK_LN_PRBS_ERRBITS n]

theorem laneTested_frame (n lb p : Nat) (s : State) : OnLanes (testFields n) s (laneTested n lb p s) := by
  have hf := setLoopback_frame n lb s
  have hl : OnLanes (testFields n) s (setLoopback n lb s) :=
    ⟨hf.eq, hf.regs.mono fun f h => List.mem_append_left _ h⟩
  exact hl.wr.settleDirs.wr.wr.wr

theorem laneTested_inbox (n lb p : Nat) (s : State) : (laneTested n lb p s).inbox = s.inbox := by
  simp [laneTested, setLoopback_inbox]

theorem laneTested_shows {lb p : Nat} (hl : lb < 4) (hp : p < 4) :
    rd (laneTested n lb p s) (Reg.TLK_LN_CTRL_LB n) = lb ∧ rd (laneTested n lb p s) (Reg.TLK_LN_CTRL_PRBS n) = p ∧
      rd (laneTested n lb p s) (Reg.TLK_LN_ERR_CV n) = 0 ∧ rd (laneTested n lb p s) (Reg.TLK_LN_ERR_DISP n) = 0 ∧
      rd (laneTested n lb p s) (Reg.TLK_LN_PRBS_ERRBITS n) = 0 ∧
      (lb ≠ 0 ∨ p ≠ 0 → rd (laneTested n lb p s) (Reg.TLK_LN_STATUS_TXST n) = 3 ∧
        rd (laneTested n lb p s) (Reg.TLK_LN_STATUS_RXST n) = 3) := by
  let u := wr (Reg.TLK_LN_CTRL_PRBS n) p (setLoopback n lb s)
  have hlb : rd u (Reg.TLK_LN_CTRL_LB n) = lb := (rd_wr_ne _ _ _ _ (by simp)).trans (rd_setLoopback_lb hl)
  have hprbs : rd u (Reg.TLK_LN_CTRL_PRBS n) = p := (rd_wr_same _ _ _).trans (Nat.mod_eq_of_lt hp)
  have hread (g : Fld) (h : ∀ f ∈ [Reg.TLK_LN_ERR_CV n, Reg.TLK_LN_ERR_DISP n, Reg.TLK_LN_PRBS_ERRBITS n], g.key ≠ f.key) :
      rd (laneTested n lb p s) g = rd (settleDirs n u) g := by
    simp only [List.mem_cons, List.not_mem_nil, or_false, forall_eq_or_imp, forall_eq] at h
    obtain ⟨h1, h2, h3⟩ := h
    exact (rd_wr_ne _ _ _ _ h3).trans ((rd_wr_ne _ _ _ _ h2).trans (rd_wr_ne _ _ _ _ h1))
  refine ⟨?_, ?_, ?_, ?_, ?_, fun h => ?_⟩
  · rw [hread _ (by simp), rd_settleDirs_ne (by simp), hlb]
  · rw [hread _ (by simp), rd_settleDirs_ne (by simp), hprbs]
  · simp [laneTested, rd_wr]
  · simp [laneTested, rd_wr]
  · simp [laneTested]
  · rw [hread _ (by simp), hread _ (by simp)]
    refine settleDirs_testing ?_
    rcases h with h | h <;> simp [laneTesting, rdb, hlb, hprbs, h]

theorem laneTest_run {u : State} (q : Cpl) (hm : mainOn u.dev.state = true) (he : laneExists u (p8 d 0) = true)
    (hi : inService u (p8 d 0) = false) (hl : p8 d 1 < 4) (hp : p8 d 2 < 3) (h : p8 d 0 < 64 ∨ p8 d 1 ≠ 3) :
    cmdLaneTest.run q d e u = waitFor q false (.laneTest (p8 d 0)) (laneTested (p8 d 0) (p8 d 1) (p8 d 2) u) := by
  have hf := setLoopback_frame (p8 d 0) (p8 d 1) u
  have hiv : inService (setLoopback (p8 d 0) (p8 d 1) u) (p8 d 0) = false :=
    (congrArg (· != 0) (hf.regs (Reg.TLK_LN_STATUS_INSERV (p8 d 0)) (by simp))).trans hi
  have hev : laneExists (setLoopback (p8 d 0) (p8 d 1) u) (p8 d 0) = true := by rw [hf.eq]; exact he
  have hmv : mainOn (setLoopback (p8 d 0) (p8 d 1) u).dev.state = true := by rw [hf.eq]; exact hm
  simp only [cmdLaneTest, laneTested]
  rw [doLoopbackWrite_eq hm he hi hl h, doPrbsWrite_eq hmv hev hiv hp]

theorem laneTest_starts (h : Runs 0x0D03 d e s) (hi : inService s (p8 d 0) = false) (hp : p8 d 0 < 64 ∨ p8 d 1 ≠ 3) :
    ∃ t, exec (.laneTest d e) s = .next t ∧ Waits 0x0D03 d false (.laneTest (p8 d 0)) s t ∧
      rd t (Reg.TLK_LN_CTRL_LB (p8 d 0)) = p8 d 1 ∧ rd t (Reg.TLK_LN_CTRL_PRBS (p8 d 0)) = p8 d 2 ∧
      rd t (Reg.TLK_LN_ERR_CV (p8 d 0)) = 0 ∧ rd t (Reg.TLK_LN_ERR_DISP (p8 d 0)) = 0 ∧
      rd t (Reg.TLK_LN_PRBS_ERRBITS (p8 d 0)) = 0 ∧
      (p8 d 1 ≠ 0 ∨ p8 d 2 ≠ 0 →
        rd t (Reg.TLK_LN_STATUS_TXST (p8 d 0)) = 3 ∧ rd t (Reg.TLK_LN_STATUS_RXST (p8 d 0)) = 3) ∧
      t.inbox = s.inbox ∧ t.mem = s.mem ∧ t.dev = s.dev ∧ t.tiles = s.tiles := by
  have hok : cmdLaneTest.ok (taken 0x0D03 d e s) d = true := h.params_ok s d e rfl
  simp only [cmdLaneTest, Bool.and_eq_true, decide_eq_true_eq] at hok
  obtain ⟨⟨⟨he, hlb⟩, hprbs⟩, -⟩ := hok
  have hrun (q : Cpl) := laneTest_run (e := e) q (by rw [taken_dev]; exact h.powered) he
    ((inService_taken (lt_of_laneExists he)).trans hi) (Nat.lt_succ_of_le hlb) (Nat.lt_succ_of_le hprbs) hp
  have ht := laneTested_frame (p8 d 0) (p8 d 1) (p8 d 2) (taken 0x0D03 d e s)
  have hinbox := laneTested_inbox (p8 d 0) (p8 d 1) (p8 d 2) (taken 0x0D03 d e s)
  obtain ⟨h1, h2, h3, h4, h5, h6⟩ := laneTested_shows (n := p8 d 0) (s := taken 0x0D03 d e s) (lb := p8 d 1) (p := p8 d 2)
    (by omega) (by omega)
  generalize laneTested (p8 d 0) (p8 d 1) (p8 d 2) (taken 0x0D03 d e s) = v at *
  have hd : v.dev = s.dev := by rw [ht.eq]; exact taken_dev s d e _
  have hwait : Waits 0x0D03 d false (.laneTest (p8 d 0)) s (waitFor (cplOf 0x0D03 d false) false (.laneTest (p8 d 0)) v) := by
    rw [Waits, waitFor, ht.eq]
    exact congrArg (· ++ _) (taken_waits s d e _)
  refine ⟨_, exec_of_waiting_run rfl rfl h rfl (hrun _) hd hwait, hwait, h1, h2, h3, h4, h5, h6, hinbox.trans taken_inbox,
    ?_, hd, ?_⟩
  · exact (congrArg State.mem ht.eq).trans (taken_mem s d e _)
  · exact (congrArg State.tiles ht.eq).trans (taken_tiles s d e _)

/-! ### LANE_TEST_END -/

theorem laneTestEnd_none (h : s.waits = []) : exec (.laneTestEnd n) s = .next s :=
  congrArg Host.Outcome.next (by simp [doLaneTestEnd, h])

/-- Loopback and pattern back at 0. -/
def laneTestOver (n : Nat) (s : State) : State :=
  settleDirs n (wr (Reg.TLK_LN_CTRL_PRBS n) 0 (settleDirs n (wr (Reg.TLK_LN_CTRL_LB n) 0 s)))

theorem laneTestOver_eq (h : rd s (Reg.TLK_LN_CTRL_LB n) ≠ 3) :
    laneTestOver n s = settleDirs n (wr (Reg.TLK_LN_CTRL_PRBS n) 0 (setLoopback n 0 s)) := by
  rw [laneTestOver, setLoopback_near h (by decide)]

/-- The fields that the end of a test may write. -/
@[simp] def testOverFields (n : Nat) : List Fld :=
  [Reg.TLK_LN_CTRL_LB n, Reg.TLK_LN_CTRL_PRBS n, Reg.TLK_LN_STATUS_TXST n, Reg.TLK_LN_STATUS_RXST n,
    Reg.TLK_SYNCMAP_LO_MAP, Reg.TLK_SYNCMAP_HI_MAP]

theorem laneTestOver_frame (n : Nat) (s : State) : OnLanes (testOverFields n) s (laneTestOver n s) :=
  (OnLanes.refl _ s).wr.settleDirs.wr.settleDirs

theorem laneTestOver_clears : rd (laneTestOver n s) (Reg.TLK_LN_CTRL_LB n) = 0 ∧
    rd (laneTestOver n s) (Reg.TLK_LN_CTRL_PRBS n) = 0 := by
  refine ⟨?_, ?_⟩
  · rw [laneTestOver, rd_settleDirs_ne (by simp), rd_wr_ne _ _ _ _ (by simp), rd_settleDirs_ne (by simp), rd_wr_same]
    rfl
  · rw [laneTestOver, rd_settleDirs_ne (by simp), rd_wr_same]
    rfl

theorem doLaneTestEnd_eq {w : Waiter} (hw : s.waits = [w]) (hk : w.kind = .laneTest n)
    (h : rd s (Reg.TLK_LN_CTRL_LB n) ≠ 3) : doLaneTestEnd n s = finishKind (fun k => k == .laneTest n) 0
      (rd s (Reg.TLK_LN_PRBS_ERRBITS n)) (rd s (Reg.TLK_LN_ERR_CV n) + rd s (Reg.TLK_LN_ERR_DISP n)) (laneTestOver n s) := by
  rw [doLaneTestEnd, if_pos (by simp [hw, hk]), laneTestOver_eq h]

theorem laneTestEnd_completes {w : Waiter} (hn : n < 66) (hr : NoneRuns { s with waits := [] }) (hw : s.waits = [w])
    (hk : w.kind = .laneTest n) (hl : rd s (Reg.TLK_LN_CTRL_LB n) ≠ 3) :
    ∃ u, exec (.laneTestEnd n) s = .next (complete w.cpl 0 (rd s (Reg.TLK_LN_PRBS_ERRBITS n))
        (rd s (Reg.TLK_LN_ERR_CV n) + rd s (Reg.TLK_LN_ERR_DISP n)) u) ∧
      rd u (Reg.TLK_LN_CTRL_LB n) = 0 ∧ rd u (Reg.TLK_LN_CTRL_PRBS n) = 0 ∧
      u = { s with waits := [], regs := u.regs } ∧ RegsBut (testOverFields n) s u := by
  have hf := laneTestOver_frame n s
  obtain ⟨hlb, hprbs⟩ := laneTestOver_clears (n := n) (s := s)
  have hframe : laneTestOver n s = { s with regs := (laneTestOver n s).regs } := hf.eq.trans (by simp [laneTestOver])
  have hx := doLaneTestEnd_eq hw hk hl
  generalize laneTestOver n s = v at hf hlb hprbs hframe hx
  have hnone : NoneRuns { v with waits := [] } := hr.frame (fs := testOverFields n) rfl hf.regs fun c _ f hm => by
    simp only [testOverFields, List.mem_cons, List.not_mem_nil, or_false] at hm
    rcases hm with rfl | rfl | rfl | rfl | rfl | rfl <;> simp [hn]
  have hwaits : v.waits = [w] := (congrArg State.waits hf.eq).trans hw
  exact ⟨{ v with waits := [] }, congrArg Host.Outcome.next (hx.trans (finishKind_one hwaits (by simp [hk]) hnone)), hlb,
    hprbs, congrArg (fun u : State => { u with waits := [] }) hframe, hf.regs⟩

end

end Sys2Proof.Machine
end

section
/-! PROOF. The commands on tiles (R363, R364) -/

namespace Sys2Proof.Machine

/-! ### What TPR does with a set -/

/-- Only TPR, the level of its queue and the wires differ. -/
def OnTpr (s t : State) : Prop :=
  t = { s with regs := t.regs, tpr := t.tpr, tx := t.tx } ∧ RegsBut [Reg.TPR_CMDQSTAT_LEVEL] s t

section
variable {s : State} {n : Nat}

theorem sendBcast_one (kind : Nat) (args : Bytes) (s : State) : sendBcast kind args [n] s =
    { s with tx := s.tx ++ if rdb s Reg.TPR_CTRL_EN then [.bcast n kind args] else [] } := by
  unfold sendBcast
  cases rdb s Reg.TPR_CTRL_EN with
  | true => rfl
  | false =>
    rw [if_neg (by simp), List.append_nil]
    rfl

/-- Three copies of a set leave on the lane, or none (R222, R242). -/
theorem sendThrice_one (kind : Nat) (args : Bytes) (s : State) : sendThrice kind args [n] s =
    { s with tx := s.tx ++ if rdb s Reg.TPR_CTRL_EN then List.replicate 3 (.bcast n kind args) else [] } := by
  simp only [sendThrice, sendBcast_one]
  have hb (l : List Tx) : rdb { s with tx := l } Reg.TPR_CTRL_EN = rdb s Reg.TPR_CTRL_EN := rfl
  simp only [hb]
  cases rdb s Reg.TPR_CTRL_EN <;> simp [List.replicate]

/-- A set joins a queue that has room. -/
theorem enqueue_room {lanes : List Nat} {opc : Nat} {payload : Bytes} (hl : lanes ≠ []) (h : s.tpr.queue.length < 32) :
    enqueue lanes opc payload s = setCmdqLevel { s with
      tpr := { s.tpr with
        queue := s.tpr.queue ++ [⟨lanes, ⟨opc, s.tpr.nextTag, payload⟩⟩], nextTag := (s.tpr.nextTag + 1) % 256 } } :=
  if_pos (by simp [h, hl])

theorem enqueue_onTpr (lanes : List Nat) (opc : Nat) (payload : Bytes) (s : State) :
    OnTpr s (enqueue lanes opc payload s) := by
  unfold enqueue
  split
  · exact ⟨rfl, RegsBut.wr (fun _ _ => rfl) (by simp)⟩
  · exact ⟨rfl, RegsBut.refl s _⟩

theorem OnTpr.modTpr {t : State} {f : TprLane → TprLane} (h : OnTpr s t) : OnTpr s (modTpr n f t) :=
  ⟨congrArg (fun u : State => { u with tpr := (Machine.modTpr n f t).tpr }) h.1, h.2⟩

/-- What a demand of one tile sends, outside pair operation (R223). -/
def demandOne (op n : Nat) (s : State) : State :=
  let u := modTpr n (fun l => { l with cmd := op }) s
  if op = 1 then sendThrice 5 (oneArg 0) [n] u
  else if op = 2 then sendThrice 6 (oneArg 0) [n] u
  else if op = 3 then enqueue [n] 0x02 [] u
  else u

theorem demand_solo {op : Nat} (h : pairOp s = false) : demand op 0 (some n) s = demandOne op n s := by
  have hs : demandSets op 0 [n] s = demandOne op n s := by
    simp only [demandSets, h, Bool.false_and, Bool.false_eq_true, if_false, forEach_one, demandOne]
  simp [demand, hs, h]

theorem demandOne_onTpr (op n : Nat) (s : State) : OnTpr s (demandOne op n s) := by
  unfold demandOne
  dsimp only
  split
  · rw [sendThrice_one]; exact ⟨rfl, RegsBut.refl s _⟩
  · split
    · rw [sendThrice_one]; exact ⟨rfl, RegsBut.refl s _⟩
    · split
      · exact enqueue_onTpr [n] 0x02 [] (modTpr n (fun l => { l with cmd := op }) s)
      · exact ⟨rfl, RegsBut.refl s _⟩

theorem tprLane_modTpr (f : TprLane → TprLane) : tprLane (modTpr n f s) n = f (tprLane s n) := by
  simp [tprLane, modTpr]

theorem tprLane_congr {t : State} (h : t.tpr.lanes = s.tpr.lanes) (m : Nat) : tprLane t m = tprLane s m := by
  rw [tprLane, h]
  rfl

/-- TPR's record of the lane shows the command. -/
theorem demandOne_cmd (op n : Nat) (s : State) : (tprLane (demandOne op n s) n).cmd = op := by
  have hm : (tprLane (modTpr n (fun l => { l with cmd := op }) s) n).cmd = op := by rw [tprLane_modTpr]
  unfold demandOne
  dsimp only
  split
  · rw [sendThrice_one]; exact hm
  · split
    · rw [sendThrice_one]; exact hm
    · split
      · rw [tprLane_congr (s := modTpr n (fun l => { l with cmd := op }) s)]
        · exact hm
        · unfold enqueue
          split <;> rfl
      · exact hm

/-- PLATE and COAST leave as three copies, and WIPE joins the queue. -/
theorem demandOne_sends (op n : Nat) (s : State) :
    (op = 1 → rd s Reg.TPR_CTRL_EN = 1 →
      (demandOne op n s).tx = s.tx ++ List.replicate 3 (.bcast n 5 (zeroBytes 6))) ∧
    (op = 2 → rd s Reg.TPR_CTRL_EN = 1 →
      (demandOne op n s).tx = s.tx ++ List.replicate 3 (.bcast n 6 (zeroBytes 6))) ∧
    (op = 3 → s.tpr.queue.length < 32 →
      (demandOne op n s).tpr.queue = s.tpr.queue ++ [⟨[n], ⟨2, s.tpr.nextTag, []⟩⟩] ∧ (demandOne op n s).tx = s.tx) := by
  have hthrice (kind : Nat) (f : TprLane → TprLane) (h : rd s Reg.TPR_CTRL_EN = 1) :
      (sendThrice kind (oneArg 0) [n] (modTpr n f s)).tx = s.tx ++ List.replicate 3 (.bcast n kind (zeroBytes 6)) := by
    have hb : rdb (modTpr n f s) Reg.TPR_CTRL_EN = true := by
      change (rd s Reg.TPR_CTRL_EN != 0) = true
      rw [h]
      rfl
    rw [sendThrice_one, hb]
    rfl
  refine ⟨?_, ?_, ?_⟩
  · rintro rfl h
    exact hthrice 5 _ h
  · rintro rfl h
    exact hthrice 6 _ h
  · rintro rfl h
    have he := enqueue_room (s := modTpr n (fun l => { l with cmd := 3 }) s) (lanes := [n]) (opc := 0x02) (payload := [])
      (by simp) h
    have hd : demandOne 3 n s = enqueue [n] 0x02 [] (modTpr n (fun l => { l with cmd := 3 }) s) := rfl
    rw [hd, he]
    exact ⟨rfl, rfl⟩

/-! ### The status word of a tile -/

theorem regRead_congr {t : State} {a : Nat} {fs : List (Fld × FTy)} (ha : fieldsAt a = some fs)
    (h : ∀ f ∈ fs, rd t f.1 = rd s f.1) (hr : t.ras = s.ras) (hv : rd t Reg.RAS_CTRL_VIEW = rd s Reg.RAS_CTRL_VIEW) :
    regRead t a = regRead s a := by
  have hvb : rdb t Reg.RAS_CTRL_VIEW = rdb s Reg.RAS_CTRL_VIEW := congrArg (· != 0) hv
  have ha' (f : Fld) : act t f = act s f := by rw [act, act, hr]
  simp only [regRead, ha, hvb, ha']
  exact List.foldl_ext _ _ _ fun v f hf => by rw [h f hf]

/-- The level of the queue is no part of a tile's status. -/
theorem tlStatus_fields : ∀ n < 64, ∃ fs, fieldsAt (Reg.TPR_TL_STATUS_INSERV n).addr = some fs ∧
    ∀ f ∈ fs, f.1.key ≠ Reg.TPR_CMDQSTAT_LEVEL.key := by
  have h : ∀ n < 64, ((fieldsAt (Reg.TPR_TL_STATUS_INSERV n).addr).elim false
      (·.all fun f => f.1.key != Reg.TPR_CMDQSTAT_LEVEL.key)) = true := by decide +kernel
  intro n hn
  have hx := h n hn
  cases hf : fieldsAt (Reg.TPR_TL_STATUS_INSERV n).addr with
  | none => simp [hf] at hx
  | some fs => exact ⟨fs, rfl, by simpa [hf] using hx⟩

theorem OnTpr.tlStatus {t : State} (h : OnTpr s t) (hn : n < 64) : tlStatus t n = tlStatus s n := by
  obtain ⟨fs, hf, hk⟩ := tlStatus_fields n hn
  exact regRead_congr hf (fun f hm => h.2 f.1 (by simpa using hk f hm)) ((congrArg State.ras h.1).trans rfl) (h.2.rd_eq _)

end

end Sys2Proof.Machine
end

section
/-! PROOF. Commands on lanes and tiles -/

namespace Sys2Proof.Machine

section
variable {s : State} {d : Desc} {e : Env} {opc n op : Nat}

/-! ### The tile where the descriptor is taken -/

/-- A field of TPR's word of a tile. -/
theorem taken_tile {lo w r : Nat} (h : lo < 512) :
    rd (taken opc d e s) ⟨0x400B0100 + 0x20 * n, lo, w, r⟩ = rd s ⟨0x400B0100 + 0x20 * n, lo, w, r⟩ :=
  taken_rd s d e opc (key_ne_authcnt d.ch (by simp only [Fld.key]; omega))

theorem tileStays_taken : tileStays (taken opc d e s) n op = tileStays s n op := by
  have hstate : tileState (taken opc d e s) n = tileState s n := taken_tile (by decide)
  have hplate : rdb (taken opc d e s) (Reg.TPR_TL_STATUS_PLATEV n) = rdb s (Reg.TPR_TL_STATUS_PLATEV n) :=
    congrArg (· != 0) (taken_tile (by decide))
  have htgen : rd (taken opc d e s) Reg.PWC_TGEN_EN = rd s Reg.PWC_TGEN_EN :=
    taken_rd s d e opc (key_ne_authcnt d.ch (by decide))
  have hpwc : (taken opc d e s).pwc = s.pwc := (congrArg State.pwc (taken_spec s d e opc).frame).trans rfl
  have hfender : (taken opc d e s).fender = s.fender := (congrArg State.fender (taken_spec s d e opc).frame).trans rfl
  simp only [tileStays, hstate, hplate, tgenHigh, htgen, hpwc, hfender]

/-! ### TILE_SET -/

theorem tileSet_params (h : Runs 0x0D04 d e s) : p8 d 0 < 64 ∧ 1 ≤ p8 d 1 ∧ p8 d 1 ≤ 3 := by
  have hok : cmdTileSet.ok (taken 0x0D04 d e s) d = true := h.params_ok s d e rfl
  simp only [cmdTileSet, Bool.and_eq_true, decide_eq_true_eq] at hok
  omega

theorem tileSet_run (q : Cpl) (hp : pairOp s = false) : cmdTileSet.run q d e (taken 0x0D04 d e s) =
    if tileStays s (p8 d 0) (p8 d 1) then
      complete q 0 (tlStatus (taken 0x0D04 d e s) (p8 d 0)) 0 (demand (p8 d 1) 0 (some (p8 d 0)) (taken 0x0D04 d e s))
    else waitFor q false (.tileSet (p8 d 0) (p8 d 1) 3) (demandOne (p8 d 1) (p8 d 0) (taken 0x0D04 d e s)) := by
  rw [← demand_solo ((pairOp_taken _).trans hp), ← tileStays_taken (opc := 0x0D04) (d := d) (e := e)]
  unfold cmdTileSet
  dsimp only
  split <;> rfl

/-- The state of the device and the commands that wait stay where TPR sends a set. -/
theorem OnTpr.leaves {t : State} (h : OnTpr (taken opc d e s) t) : t.dev = s.dev ∧ t.waits = s.waits ∧ t.mem = s.mem ∧
    t.tiles = s.tiles :=
  ⟨(congrArg State.dev h.1).trans (taken_dev s d e opc), (congrArg State.waits h.1).trans (taken_waits s d e opc),
    (congrArg State.mem h.1).trans (taken_mem s d e opc), (congrArg State.tiles h.1).trans (taken_tiles s d e opc)⟩

theorem tileSet_ends (hp : pairOp s = false) (h : Runs 0x0D04 d e s) (hs : tileStays s (p8 d 0) (p8 d 1) = true) :
    EndsAtOnce 0x0D04 d e s (.tileSet d e) 0 (fun u => tlStatus u (p8 d 0)) (fun _ => 0)
      (demand (p8 d 1) 0 (some (p8 d 0))) := by
  have hf := demandOne_onTpr (p8 d 1) (p8 d 0) (taken 0x0D04 d e s)
  rw [← demand_solo ((pairOp_taken _).trans hp)] at hf
  obtain ⟨hd, hw, -⟩ := hf.leaves
  refine endsAtOnce_of_run rfl rfl h rfl (fun u hu => ?_) (congrArg Dev.state hd) hw
  rw [hu, tileSet_run _ hp, if_pos hs, hf.tlStatus (tileSet_params h).1]

theorem tileSet_waits (hp : pairOp s = false) (h : Runs 0x0D04 d e s) (hs : tileStays s (p8 d 0) (p8 d 1) = false) :
    ∃ t, exec (.tileSet d e) s = .next t ∧ Waits 0x0D04 d false (.tileSet (p8 d 0) (p8 d 1) 3) s t ∧
      (p8 d 1 = 1 → rd s Reg.TPR_CTRL_EN = 1 → t.tx = s.tx ++ List.replicate 3 (.bcast (p8 d 0) 5 (zeroBytes 6))) ∧
      (p8 d 1 = 2 → rd s Reg.TPR_CTRL_EN = 1 → t.tx = s.tx ++ List.replicate 3 (.bcast (p8 d 0) 6 (zeroBytes 6))) ∧
      (p8 d 1 = 3 → s.tpr.queue.length < 32 →
        t.tpr.queue = s.tpr.queue ++ [⟨[p8 d 0], ⟨2, s.tpr.nextTag, []⟩⟩] ∧ t.tx = s.tx) ∧
      (tprLane t (p8 d 0)).cmd = p8 d 1 ∧ t.mem = s.mem ∧ t.dev = s.dev ∧ t.tiles = s.tiles := by
  have hrun (q : Cpl) := (tileSet_run (d := d) (e := e) q hp).trans (if_neg (by simp [hs]))
  have hf := demandOne_onTpr (p8 d 1) (p8 d 0) (taken 0x0D04 d e s)
  have hcmd := demandOne_cmd (p8 d 1) (p8 d 0) (taken 0x0D04 d e s)
  have hsends := demandOne_sends (p8 d 1) (p8 d 0) (taken 0x0D04 d e s)
  rw [taken_tx, taken_tpr, taken_rd s d e 0x0D04 (key_ne_authcnt d.ch (f := Reg.TPR_CTRL_EN) (by decide))] at hsends
  generalize demandOne (p8 d 1) (p8 d 0) (taken 0x0D04 d e s) = v at hrun hf hcmd hsends
  obtain ⟨hd, hw, hm, ht⟩ := hf.leaves
  obtain ⟨hplate, hcoast, hwipe⟩ := hsends
  have hwait : Waits 0x0D04 d false (.tileSet (p8 d 0) (p8 d 1) 3) s
      (waitFor (cplOf 0x0D04 d false) false (.tileSet (p8 d 0) (p8 d 1) 3) v) := congrArg (· ++ _) hw
  exact ⟨_, exec_of_waiting_run rfl rfl h rfl (hrun _) hd hwait, hwait, hplate, hcoast, hwipe, hcmd, hm, hd, ht⟩

/-! ### TILE_RESUME and TILE_REFSEL -/

/-- Outside pair operation a set joins the queue and nothing is sent. -/
theorem pushSet_solo {payload : Bytes} (hp : pairOp s = false) (hr : role s = 0) :
    pushSet n opc payload s = enqueue [n] opc payload s := by
  simp [pushSet, pushLanes, isStandby, sendTcmd, hp, hr]

/-- A set that joins the queue with room stands at its end. -/
theorem enqueue_shows {payload : Bytes} (h : s.tpr.queue.length < 32) :
    (enqueue [n] opc payload s).tpr = { s.tpr with
      queue := s.tpr.queue ++ [⟨[n], ⟨opc, s.tpr.nextTag, payload⟩⟩], nextTag := (s.tpr.nextTag + 1) % 256 } ∧
      (enqueue [n] opc payload s).tx = s.tx := by
  rw [enqueue_room (by simp) h]
  exact ⟨rfl, rfl⟩

/-- A lane's DEGMAP bit is cleared. -/
def undegraded (n : Nat) (s : State) : State := setMapBit Reg.FCL_DEGMAP_LO_MAP Reg.FCL_DEGMAP_HI_MAP n false s

theorem undegraded_frame (n : Nat) (s : State) :
    OnlyRegs [Reg.FCL_DEGMAP_LO_MAP, Reg.FCL_DEGMAP_HI_MAP] s (undegraded n s) :=
  ⟨setMapBit_eq, (RegsBut.refl s _).setMapBit (by simp) (by simp)⟩

theorem tileResume_params (h : Runs 0x0D05 d e s) : p8 d 0 < 64 := by
  have hok : cmdTileResume.ok (taken 0x0D05 d e s) d = true := h.params_ok s d e rfl
  simp only [cmdTileResume, decide_eq_true_eq] at hok
  exact Nat.lt_of_lt_of_le hok (laneCount_le _)

theorem tileResume_run (q : Cpl) (hp : pairOp s = false) (hr : role s = 0) :
    cmdTileResume.run q d e (taken 0x0D05 d e s) =
      waitFor q false (.tileResume (p8 d 0) ((rd s Reg.RAS_FCNT_FCNT + 1) % 2 ^ 32))
        (enqueue [p8 d 0] 3 (leBytes 4 ((rd s Reg.RAS_FCNT_FCNT + 1) % 2 ^ 32))
          (undegraded (p8 d 0) (taken 0x0D05 d e s))) := by
  have hf := (undegraded_frame (p8 d 0) (taken 0x0D05 d e s)).2
  have hpu : pairOp (undegraded (p8 d 0) (taken 0x0D05 d e s)) = false :=
    (congrArg (· != 0) (hf.rd_eq Reg.ITC_STATUS_PAIR)).trans ((pairOp_taken _).trans hp)
  have hru : role (undegraded (p8 d 0) (taken 0x0D05 d e s)) = 0 := (hf.rd_eq Reg.PTN_STATUS_ROLE).trans ((role_taken _).trans hr)
  have hsq : nextSeq (taken 0x0D05 d e s) = (rd s Reg.RAS_FCNT_FCNT + 1) % 2 ^ 32 := by
    rw [nextSeq, taken_rd s d e 0x0D05 (key_ne_authcnt d.ch (by decide))]
  simp only [cmdTileResume, hsq, pushResume]
  rw [← undegraded, pushSet_solo hpu hru]

theorem tileResume_waits (hp : pairOp s = false) (hr : role s = 0) (h : Runs 0x0D05 d e s) (hl : s.tpr.queue.length < 32) :
    ∃ t, exec (.tileResume d e) s = .next t ∧
      Waits 0x0D05 d false (.tileResume (p8 d 0) ((rd s Reg.RAS_FCNT_FCNT + 1) % 2 ^ 32)) s t ∧
      t.tpr.queue = s.tpr.queue ++
        [⟨[p8 d 0], ⟨3, s.tpr.nextTag, leBytes 4 ((rd s Reg.RAS_FCNT_FCNT + 1) % 2 ^ 32)⟩⟩] ∧
      mapBit t Reg.FCL_DEGMAP_LO_MAP Reg.FCL_DEGMAP_HI_MAP (p8 d 0) = false ∧ t.tx = s.tx ∧ t.mem = s.mem ∧
      t.dev = s.dev ∧ t.tiles = s.tiles := by
  have hrun (q : Cpl) := tileResume_run (d := d) (e := e) q hp hr
  generalize (rd s Reg.RAS_FCNT_FCNT + 1) % 2 ^ 32 = sq at hrun ⊢
  obtain ⟨huf, -⟩ := undegraded_frame (p8 d 0) (taken 0x0D05 d e s)
  have hbit : mapBit (undegraded (p8 d 0) (taken 0x0D05 d e s)) Reg.FCL_DEGMAP_LO_MAP Reg.FCL_DEGMAP_HI_MAP (p8 d 0) = false :=
    mapBit_setMapBit (tileResume_params h) rfl rfl
  have hleaves : (undegraded (p8 d 0) (taken 0x0D05 d e s)).dev = s.dev ∧
      (undegraded (p8 d 0) (taken 0x0D05 d e s)).waits = s.waits ∧
      (undegraded (p8 d 0) (taken 0x0D05 d e s)).mem = s.mem ∧ (undegraded (p8 d 0) (taken 0x0D05 d e s)).tiles = s.tiles ∧
      (undegraded (p8 d 0) (taken 0x0D05 d e s)).tpr = s.tpr ∧ (undegraded (p8 d 0) (taken 0x0D05 d e s)).tx = s.tx := by
    rw [huf]
    exact ⟨taken_dev s d e _, taken_waits s d e _, taken_mem s d e _, taken_tiles s d e _, taken_tpr, taken_tx s d e _⟩
  generalize undegraded (p8 d 0) (taken 0x0D05 d e s) = u at hrun hbit hleaves
  obtain ⟨hdev, hwaits, hmem, htiles, htpr, htx⟩ := hleaves
  obtain ⟨hvf, hvr⟩ := enqueue_onTpr [p8 d 0] 3 (leBytes 4 sq) u
  obtain ⟨hq, hvtx⟩ := enqueue_shows (n := p8 d 0) (opc := 3) (payload := leBytes 4 sq) (s := u) (by rw [htpr]; exact hl)
  generalize enqueue [p8 d 0] 3 (leBytes 4 sq) u = v at hrun hvf hvr hq hvtx
  have hd : v.dev = s.dev := (congrArg State.dev hvf).trans hdev
  have hwait : Waits 0x0D05 d false (.tileResume (p8 d 0) sq) s
      (waitFor (cplOf 0x0D05 d false) false (.tileResume (p8 d 0) sq) v) :=
    congrArg (· ++ _) ((congrArg State.waits hvf).trans hwaits)
  refine ⟨_, exec_of_waiting_run rfl rfl h rfl (hrun _) hd hwait, hwait, ?_, ?_, hvtx.trans htx,
    (congrArg State.mem hvf).trans hmem, hd, (congrArg State.tiles hvf).trans htiles⟩
  · exact (congrArg Tpr.queue hq).trans (by rw [htpr])
  · exact (mapBit_congr (hvr.rd_eq _) (hvr.rd_eq _)).trans hbit

/-- REFSEL joins the queue, and the selection is held where HOLD says so. -/
def refselQueued (d : Desc) (s : State) : State :=
  when (p8 d 2 == 1) (modTpr (p8 d 0) (fun l => { l with refHold := true })) (enqueue [p8 d 0] 7 (leBytes 4 (p8 d 1)) s)

theorem tileRefsel_run (q : Cpl) (hp : pairOp s = false) (hr : role s = 0) :
    cmdTileRefsel.run q d e (taken 0x0D06 d e s) =
      complete q 0 (tlStatus (refselQueued d (taken 0x0D06 d e s)) (p8 d 0)) 0 (refselQueued d (taken 0x0D06 d e s)) := by
  simp only [cmdTileRefsel, refselQueued, okWith]
  rw [pushSet_solo ((pairOp_taken _).trans hp) ((role_taken _).trans hr)]

theorem refselQueued_shows (h : s.tpr.queue.length < 32) :
    (refselQueued d s).tpr.queue = s.tpr.queue ++ [⟨[p8 d 0], ⟨7, s.tpr.nextTag, leBytes 4 (p8 d 1)⟩⟩] ∧
      (p8 d 2 = 1 → (tprLane (refselQueued d s) (p8 d 0)).refHold = true) ∧
      (p8 d 2 = 0 → (refselQueued d s).tpr.lanes = s.tpr.lanes) := by
  obtain ⟨hq, -⟩ := enqueue_shows (n := p8 d 0) (opc := 7) (payload := leBytes 4 (p8 d 1)) h
  unfold refselQueued
  generalize enqueue [p8 d 0] 7 (leBytes 4 (p8 d 1)) s = v at hq ⊢
  refine ⟨?_, fun h1 => ?_, fun h0 => ?_⟩
  · unfold when
    split <;> exact congrArg Tpr.queue hq
  · simp [when, h1, tprLane_modTpr]
  · simp [when, h0, hq]

theorem refselQueued_onTpr : OnTpr s (refselQueued d s) := by
  have hf := enqueue_onTpr [p8 d 0] 7 (leBytes 4 (p8 d 1)) s
  unfold refselQueued when
  split
  · exact hf.modTpr
  · exact hf

theorem tileRefsel_ends (hp : pairOp s = false) (hr : role s = 0) (h : Runs 0x0D06 d e s)
    (hl : s.tpr.queue.length < 32) : ∃ t, exec (.tileRefsel d e) s = .next t ∧
      t.tpr.queue = s.tpr.queue ++ [⟨[p8 d 0], ⟨7, s.tpr.nextTag, leBytes 4 (p8 d 1)⟩⟩] ∧
      (p8 d 2 = 1 → (tprLane t (p8 d 0)).refHold = true) ∧ (p8 d 2 = 0 → t.tpr.lanes = s.tpr.lanes) ∧
      t.waits = s.waits ∧ t.dev = s.dev ∧ t.tiles = s.tiles := by
  have hrun := tileRefsel_run (d := d) (e := e) (cplOf 0x0D06 d false) hp hr
  have hshow := refselQueued_shows (d := d) (s := taken 0x0D06 d e s) (by rw [taken_tpr]; exact hl)
  rw [taken_tpr] at hshow
  have hf : OnTpr (taken 0x0D06 d e s) (refselQueued d (taken 0x0D06 d e s)) := refselQueued_onTpr
  generalize refselQueued d (taken 0x0D06 d e s) = u at hrun hshow hf
  obtain ⟨hq, hhold, hkeep⟩ := hshow
  obtain ⟨hd, hw, -, ht⟩ := hf.leaves
  have hx : exec (.tileRefsel d e) s = .next (complete (cplOf 0x0D06 d false) 0 (tlStatus u (p8 d 0)) 0 u) :=
    congrArg Host.Outcome.next (serveRow_ends rfl h rfl hrun (congrArg Dev.state hd) hw)
  have htpr := ((Recording.refl u).complete (cplOf 0x0D06 d false) 0 (tlStatus u (p8 d 0)) 0).tpr
  have hstays := (Stays.refl false u).complete (q := cplOf 0x0D06 d false) (status := 0) (d0 := tlStatus u (p8 d 0)) (d1 := 0)
  have hwaits := complete_waits u (cplOf 0x0D06 d false) 0 (tlStatus u (p8 d 0)) 0
  generalize complete (cplOf 0x0D06 d false) 0 (tlStatus u (p8 d 0)) 0 u = t at hx htpr hstays hwaits
  refine ⟨t, hx, (congrArg Tpr.queue htpr).trans hq, fun h1 => ?_, fun h0 => (congrArg Tpr.lanes htpr).trans (hkeep h0),
    hwaits.trans hw, hstays.dev.trans hd, hstays.tiles.trans ht⟩
  rw [tprLane_congr (congrArg Tpr.lanes htpr)]
  exact hhold h1

end

/-- Settles O47, each command by what its run leaves, and LANE_TEST_END by the one command that waits. -/
theorem laneAndTileCommands : Obligations.LaneAndTileCommands :=
  ⟨fun _ _ _ => ⟨laneTrain_starts, laneTest_starts, fun _ _ hn hr hw hk hl => laneTestEnd_completes hn hr hw hk hl,
      fun _ hw => laneTestEnd_none hw⟩,
    fun _ _ _ hp hr => ⟨fun h => ⟨tileSet_ends hp h, tileSet_waits hp h⟩, tileResume_waits hp hr, tileRefsel_ends hp hr⟩⟩

end Sys2Proof.Machine
end
